-- ==== Sys2Proof/Word.lean ====
section
/-! DEFINITION. The word types of the Gulric's registers and memories (00_scope R8: registers are 32 bits). -/

namespace Sys2Proof

/-- A register or parameter word. -/
abbrev Word := BitVec 32

/-- A byte of DRAM. -/
abbrev Byte := BitVec 8

end Sys2Proof
end

