-- ==== Sys2Proof/Syntax.lean ====
section
/-! DEFINITION. The commands of the block: one constructor of `Instr` for each row of spec/opcode_table.json, with
the operands that the sender supplies. Data that the spec has the device fetch from a host address, from DRAM or
from an image (an A parameter of 13 R410, a descriptor of 10 R299, a Coachbuilder image of 10 R291) is an operand:
it is the sender's memory (log 2). Outcomes of cryptographic checks are operands too (log 9). -/

namespace Sys2Proof.Machine

/-! Parts of a carriage's state that a carriage image carries (10 R312), as State holds them. -/

/-- The state of an averaging section (05 R150 to R153): the inputs of its window with their quality bytes, newest first (a moving
average's also stand in DRAM), integrators and comb delays modulo 2^64, inputs since the last output or, for a moving average, since the
start and up to its length; its running sum, and the place of its next input in the delay line. -/
structure FAvg where
  hist  : List (Int × Nat)
  ints  : List Nat
  combs : List (List Nat)
  count : Nat
  sum   : Int
  pos   : Nat
deriving DecidableEq, Repr

/-- The filter state of a channel (05): the next leg to process, the resampler's inputs, the pre-decimator and the quality
bytes of its inputs, time-grid values and tracked samples (all newest first, a missing one being a zero that carries INVALID),
the envelope, the detector flags, the averaging section, the instant of the last tracked sample (TickCode of t_n and mu'), and the
latest outputs of the RMS detector (leg, value, quality). -/
structure FChan where
  next  : Option Nat
  raw   : List (Int × Nat)
  ints  : List Nat
  combs : List (List Nat)
  qin   : List Nat
  grid  : List (Int × Nat)
  trk   : List (Int × Nat)
  env   : Int
  flags : Nat
  avg   : FAvg
  tstar : Nat × Nat
  rms   : List (Nat × Nat × Nat)
deriving DecidableEq, Repr

/-- A tracking group (05 R154 to R158): last leg stepped, accumulator Q1.32, emitted legs with mu', reference samples of
the cycle (A, B, C and quality), last angle in 2^-31 cycle, consecutive jumps and settled cycles, and the leg HOLD began at with
whether its event was raised. -/
structure FGrp where
  leg    : Nat
  theta  : Nat
  emits  : List (Nat × Nat)
  ref    : List (List Int × Nat)
  psi    : Option Nat
  jumps  : Nat
  settle : Nat
  hold   : Option (Nat × Bool)
  ends   : List (Nat × Nat)
deriving DecidableEq, Repr

/-- The state of a kernel instance (06 R181): ring of float32 samples with quality bytes, newest first; counters with OP
states; the curve timer's accumulator; kept frequencies; consecutive counts; the instant of the newest sample; the leg of the
last run; and consecutive STALE legs. -/
structure KInst where
  ring  : List (Nat × Nat)
  cnts  : List (Nat × Bool)
  acc   : Nat
  freqs : List Nat
  runs  : List Nat
  tstar : Nat × Nat
  last  : Option Nat
  stale : Nat
deriving DecidableEq, Repr

/-- A timer: elapsed ticks, Q, previous input, absolute leg of its last execution (07 R229, R230). -/
structure HTim where
  et   : Nat
  q    : Bool
  p    : Bool
  last : Option Nat
deriving DecidableEq, Repr

/-- A counter: value and the previous inputs of its CTU and CTD (07 R231). -/
structure HCnt where
  cv : Int
  pu : Bool
  pd : Bool
deriving DecidableEq, Repr

/-- A program as loaded: header words, instruction words, INIT pairs (07 R239). -/
structure HProg where
  hdr  : List Nat
  code : List Nat
  init : List (Nat × Nat)
deriving DecidableEq, Repr

/-- What a carriage image holds (10 R312): the Harness's words, timers, counters, programs and last leg; element instances and
channels by their place in the carriage's grants; tracking groups with FCH_T_FREQ and, times 2^32, FCH_T_STATUS; publication
entries as place, stNum, sqNum and ticks to the next frame; queue contexts as queue and words 0 to 7; retention words. -/
structure CarBody where
  wr    : List (Nat × Nat)
  tims  : List (Nat × HTim)
  cnts  : List (Nat × HCnt)
  prog  : Option HProg
  next  : Option HProg
  last  : Option Nat
  kern  : List (Nat × KInst)
  chans : List (Nat × FChan)
  grps  : List (Nat × FGrp × Nat)
  pubs  : List (Nat × Nat × Nat × Nat)
  queues : List (Nat × List Nat)
  ret   : List (Nat × Nat)
deriving DecidableEq, Repr

end Sys2Proof.Machine

namespace Sys2Proof

open Machine (CarBody)

/-- The world of an access (17 R517). -/
inductive World where
  | livery
  | hypervisor
  | carriage (c : Nat)
  | none
deriving DecidableEq, Repr

/-- The master of an access: its ID 0 to 9 and its world (17 R517). -/
structure Who where
  master : Nat
  world  : World
deriving DecidableEq, Repr

/-- A reference input of 02 R35. -/
inductive RefClk where
  | refclk | eth | pcie
deriving DecidableEq, Repr

/-- A redundancy trailer or tag of IEC 62439-3: HSR tag or PRP trailer, LAN (true for A), sequence number (03 R71). -/
structure RedTag where
  hsr  : Bool
  lanA : Bool
  seq  : Nat
deriving DecidableEq, Repr

/-- The MACsec tag of a received frame: association, packet number, whether its tag verifies, and whether
the Strongbox finds the slot's own tag failing at this use (03 R77, 17 R509). -/
structure SecTag where
  an : Nat
  pn : Nat
  ok : Bool
  slotBad : Bool
deriving DecidableEq, Repr

/-- A frame at a port (03 R70 to R80). `off` is the RCLK cycle within the present tick at which its last bit
arrives; `bytes` are its first octets from the destination address (the sample of R93, the match of R96), and `smpFull` says
whether the Livery's sample queue is full then (R93). -/
structure Frame where
  da        : Nat
  sa        : Nat
  ethertype : Nat
  vlan      : Option (Nat × Nat)
  len       : Nat
  fcsOk     : Bool
  red       : Option RedTag
  sec       : Option SecTag
  off       : Nat
  smpFull   : Bool
  bytes     : List Nat
deriving DecidableEq, Repr

/-- Authentication of an SV or GOOSE frame: absent, or present with the algorithm code of R107, its verdict, and
whether the slot's own tag fails at this use (17 R509). -/
structure Auth where
  alg : Nat
  ok  : Bool
  slotBad : Bool
deriving DecidableEq, Repr

/-- One ASDU of an SV frame (04 R102, R105, R127). -/
structure Asdu where
  smpCnt   : Nat
  smpSynch : Nat
  smpRate  : Option Nat
  vals     : List Int
  quals    : List Nat
deriving DecidableEq, Repr

/-- An SV frame reaching alignment (04 R130); `off` as in `Frame`. -/
structure SvFrame where
  da      : Nat
  appid   : Nat
  svid    : List Nat
  confRev : Nat
  sim     : Bool
  auth    : Option Auth
  asdus   : List Asdu
  off     : Nat
deriving DecidableEq, Repr

/-- A leaf of a GOOSE dataset (07 R217). Floats carry their bit pattern. -/
inductive Leaf where
  | bool  (b : Bool)
  | bits  (bs : List Bool)
  | int   (i : Int)
  | uint  (n : Nat)
  | f32   (w : Nat)
  | f64   (w : Nat)
  | other
deriving DecidableEq, Repr

/-- A GOOSE frame reaching the subscription table (07 R215 to R223). `tal` is timeAllowedToLive in ms; `off` and `bytes` as in `Frame`,
for the copies that go to queues (R220). -/
structure GooseFrame where
  da      : Nat
  appid   : Nat
  gocbRef : List Nat
  stNum   : Nat
  sqNum   : Nat
  tal     : Nat
  confRev : Nat
  ndsCom  : Bool
  test    : Bool
  sim     : Bool
  auth    : Option Auth
  leaves  : List Leaf
  len     : Nat
  off     : Nat
  bytes   : List Nat
deriving DecidableEq, Repr

/-- A PTP message as the time unit takes it (02 R47 to R60). `kind`: 0 Sync, 1 Pdelay_Req, 2 Pdelay_Resp, 3 Announce,
4 other. Whether it is of the domain that Phiash configured; whether it came protected, through the controlled MACsec port; whether
it is two-step; whether it is a Sync of the port that Phiash chose; whether the frequency term has settled; the RCLK cycle of the
present tick at which its timestamp point passed; its originTimestamp in 2^-48 ns of TAI; its correctionField in 2^-16 ns; the port
state of IEEE 1588; the UTC offset of an Announce; its length. -/
structure PtpMsg where
  kind     : Nat
  domain   : Bool
  prot     : Bool
  twoStep  : Bool
  chosen   : Bool
  settled  : Bool
  off      : Nat
  origin   : Nat
  corr     : Int
  pstate   : Nat
  utc      : Option Int
  len      : Nat
deriving DecidableEq, Repr

/-- The header of a Brace message (11 R322, R326, R328). -/
structure BrcHdr where
  link   : Nat
  seq    : Nat
  crcOk  : Bool
  unit   : Nat
  term   : Nat
  role   : Nat
  serial : Nat
deriving DecidableEq, Repr

/-- A partner's status message beyond its header (11 R330, R334, R340; 01 R19): route count, epoch, holdback, whether its Lantern
toggles, mode with BASE, whether one of its P0 carriages is shed, FCH_COEF_CRC, EEN_KCAT_VER, HLE_ISA_VER, and the generation of
each carriage that is not FREE. -/
structure PeerStat where
  route    : Nat
  epoch    : Nat
  holdback : Nat
  lantern  : Bool
  maint    : Bool
  p0Shed   : Bool
  coefCrc  : Nat
  kcat     : Nat
  isa      : Nat
  gens     : List (Nat × Nat)
deriving DecidableEq, Repr

/-- A mirrored cell (11 R330, 04 R126): store row, absolute leg, the eight values and quality bytes, lead, residual and smpCnt. -/
structure MirrorCell where
  row   : Nat
  leg   : Nat
  vals  : List Int
  quals : List Nat
  lead  : Nat
  resid : Int
  cnt   : Nat
  slip  : Bool
deriving DecidableEq, Repr

/-- A stream's timing model in a declaration record (11 R330): entry, n_A, A and L in 2^-8 ns, D in 2^-40, kind. -/
structure ModelRec where
  entry : Nat
  nA    : Int
  a     : Int
  d     : Int
  l     : Int
  kind  : Nat
deriving DecidableEq, Repr

/-- One entry of the publication mirror (11 R330, 09 R280): entry, stNum, sqNum, ticks to the next frame. -/
structure PubMirror where
  entry : Nat
  stNum : Nat
  sqNum : Nat
  next  : Nat
deriving DecidableEq, Repr

/-- A Waybill (12 R358, R360). `dev` is its arrival relative to the expected time, in ns, less OFFSET. -/
structure Waybill where
  short       : Bool
  version     : Nat
  node        : Nat
  seat        : Nat
  leg         : Nat
  route       : Nat
  term        : Nat
  active      : Bool
  rank        : Nat
  locked      : Bool
  handover    : Bool
  pendTable   : Bool
  nextMaster  : Nat
  nextVersion : Nat
  switchRoute : Option Nat
  backup      : List Nat
  entries     : List Word
  tableEpoch  : Nat
  activeEpoch : Nat
  offset      : Nat
  dev         : Int
  crcOk       : Bool
deriving DecidableEq, Repr

/-- A data-seat frame (12 R355, R358); `payload` lists its octets. -/
structure SeatFrame where
  version : Nat
  node    : Nat
  seat    : Nat
  leg     : Nat
  route   : Nat
  prio    : Nat
  term    : Nat
  active  : Bool
  payload : List Nat
  crcOk   : Bool
deriving DecidableEq, Repr

/-- A status frame (12 R359). `arrival` is the ARRIVAL octet, signed, in ns; `acks` are the seats acknowledged. -/
structure StatusFrame where
  node     : Nat
  state    : Nat
  loopOk   : Bool
  role     : Nat
  masterReq : Bool
  vmax     : Nat
  claimOp  : Nat
  claimIdx : Nat
  arrival  : Int
  acks     : List Nat
  term     : Nat
  crcOk    : Bool
deriving DecidableEq, Repr

/-- What a Guard sees on one of its ports (12 R373, R378, R379): a Waybill, a data frame, a status frame, or non-idle blocks outside
every window. -/
inductive GuardPart where
  | waybill (w : Waybill)
  | data    (f : SeatFrame)
  | status  (f : StatusFrame)
  | babble
deriving DecidableEq, Repr

/-- A command entry of a session (13 R392, R393) as Phiash takes it: session, the master whose doorbell
posted it (an on-chip session's; the others' follow from the transport), header fields, parameter words, and whether data that the
command reads at its addresses comes poisoned (18 R546). -/
structure Cmd where
  session  : Nat
  who      : Who
  version  : Nat
  flags    : Nat
  tag      : Nat
  carriage : Nat
  resv     : Nat
  p        : List Word
  poison   : Bool
deriving DecidableEq, Repr

/-- What Phiash finds in a Coachbuilder image (10 R291): the grants it asks for. The spec does not give the
image's layout (log 2). -/
structure CoachImage where
  digest    : Nat
  queues    : Nat
  sv        : List Nat
  chans     : List Nat
  kernels   : List Nat
  gsub      : List Nat
  gmapWords : Nat
  gpub      : List Nat
  progWords : Nat
  retWords  : Nat
  slots     : List Nat
  ports     : Nat
  chanDesc  : List (List Word)
  kernDesc  : List (List Word)
  program   : List Word
  measOfs   : Nat
  eimgOfs   : Nat
  estateOfs : Nat
  seats     : List Nat
deriving DecidableEq, Repr

/-- A carriage in a configuration image: number, class, level, region in 2 MiB units, Coachbuilder image, subscription entries, admission
sequence number (08 R253). -/
structure ConfCar where
  car   : Nat
  cls   : Nat
  level : Nat
  base  : Nat
  size  : Nat
  img   : CoachImage
  sv    : List Nat
  seq   : Nat
deriving DecidableEq, Repr

/-- The configuration image of a state transfer (11 R338): epoch, next admission sequence number (08 R253), registers of tables and banks,
table entries, map words, coefficients, carriages, and the reservations of the plan (kind, column, tick, first cycle, length,
carriage). -/
structure ConfImage where
  epoch : Nat
  seqNext : Nat
  regs  : List (Nat × Word)
  sau   : List (Nat × List Nat)
  fch   : List (Nat × List Nat)
  een   : List (Nat × List Nat)
  gsub  : List (Nat × List Nat)
  ge    : List (Nat × List Nat)
  sv    : List (Nat × List Nat)
  pmu   : List (Nat × List Nat)
  gmap  : List (Nat × Nat)
  pmap  : List (Nat × Nat)
  coef  : List (Nat × Nat)
  cars  : List ConfCar
  plan  : List (List Nat)
deriving DecidableEq, Repr

/-- An entry of the configuration journal (11 R334): a command with the words and image it named, or a commit through registers
(kind 0 subscription entry, 1 filter descriptor by table times 32,768 plus index, 2 element descriptor, 3 GOOSE subscription,
4 GOOSE publication, 5 SV publication, 6 synchrophasor, 7 GOOSE map word, 8 publication map word). -/
inductive JEntry where
  | cmd   (op : Nat) (h : Cmd) (data map : List Word) (img : Option CoachImage)
  | words (kind index : Nat) (w : List Nat)
deriving DecidableEq, Repr

/-- A request forwarded by the partner (11 R338, R346, R347; 13 R419): a switch-over agreed on (leg B and cause; for a proof exchange
its route count, length and RETURN too), the switch-over command, the request for a state transfer, a Stageline command on a port
of the Guard this module hosts, or the result of a proof exchange as BRC_PROOF_STATUS shows it. -/
inductive FwdReq where
  | agree    (leg cause : Nat)
  | proof    (start len : Nat) (ret : Bool)
  | switchCmd
  | transfer
  | readmit  (port : Nat)
  | nodeReset (port : Nat)
  | proofResult (w : Nat)
deriving DecidableEq, Repr

/-- The header of a carriage image (10 R314), what checking it found (MAGIC and FORMAT; the GCM tag; whether the slot's own tag
fails), whether its source is the Brace partner, and the decrypted body. -/
structure CarImage where
  magicOk : Bool
  tagOk   : Bool
  slotBad : Bool
  level   : Nat
  cls     : Nat
  stop    : Bool
  source  : Nat
  gen     : Nat
  seq     : Nat
  absLeg  : Nat
  digest  : Nat
  slot    : Nat
  partner : Bool
  body    : CarBody
deriving DecidableEq, Repr

/-- A queue descriptor of 10 R299 as fetched. -/
structure QDesc where
  addr : Nat
  len  : Nat
  gen  : Nat
  eop  : Bool
  irq  : Bool
  tag  : Nat
deriving DecidableEq, Repr

/-- What a release of a power-on or system reset finds (16 R470, R471; 17 R507, R523; 18 R542, R548): the G5MODE strap; ETH_REFCLK and
PCIE_REFCLK in range; the real-time counter's seconds where the handshake gives them; whether the backup cell has kept the battery-backed
domain; slots whose seal fails; whether every populated channel trains; MEM_C_CFG of the four channels; the repair resources left, by
channel times 32 plus bank group index; the security versions of copies A and B where their key and signature verify; and the fields
of SBX_BOOT_STATUS above bit 1. -/
structure Release where
  g5      : Bool
  ethOk   : Bool
  pcieOk  : Bool
  rtc     : Option Nat
  cellOk  : Bool
  sealBad : List Nat
  trained : Bool
  memCfg  : List Nat
  ppr     : List Nat
  imgA    : Option Nat
  imgB    : Option Nat
  bootWord : Nat
deriving DecidableEq, Repr

/-- What a debug halt or resume names (17 R529): a management pair, a carriage's contexts, or any other context of application
cluster master 2 to 7. -/
inductive HaltTarget where
  | mgmt
  | carriage (c : Nat)
  | other (master : Nat)
deriving DecidableEq, Repr

/-- What a patrol scrub step finds (18 R543, R544). -/
inductive ScrubRes where
  | clean
  | corrected
  | bad
  | retryFail
deriving DecidableEq, Repr

/-- The reader of an uncorrectable word (18 R546). -/
inductive UeReader where
  | lane (ch : Nat)
  | kernel (i : Nat)
  | queue (c q : Nat)
  | core (k : Nat)
  | bridge
  | livery
deriving DecidableEq, Repr

/-- An outbound read: the key of its initiator, and how many of the initiator's earlier writes it covers (18 R537, R541). -/
structure OutRead where
  key : Nat
  n   : Nat
deriving DecidableEq, Repr

/-- Where a management-port datagram comes from and goes to: the source address and the session (13 R400). -/
structure MgmtHead where
  src : Nat
  ses : Nat
deriving DecidableEq, Repr

/-- The commands: the rows of spec/opcode_table.json, in its order. Docstrings name the row, its rule and its summary. -/
inductive Instr where
  /-- TICK (R42). A tick edge falls every 40,000 RCLK cycles, aligned to local time, and every tick-scheduled stage point of the leg is started from it. -/
  | tick
  /-- LEG_BOUNDARY (R43). At the start of each leg, leg-boundary effects such as EN changes, Harness mode changes, enables and retentive write-through are applied. -/
  | legBoundary (bad : List Nat)
  /-- ROUTE_BOUNDARY (R12). At each 50 ms route boundary, pending banks, commits, swaps, fits, epochs and mode changes take effect. -/
  | routeBoundary (slots bad : List Nat)
  /-- RESERVED_ACCESS (R7). An access to a reserved offset, or of a wrong width or alignment, reads 0, writes nothing and raises an Info event through source 48. -/
  | reservedAccess (off bytes : Nat) (write : Bool)
  /-- REGISTER_WRITE (R585). A write to a register with no row of its own applies its access code, ignores out-of-range fields and is checked by the Tollgate. -/
  | registerWrite (who : Who) (off : Nat) (v : Word)
  /-- RC_READ (R11). A read of an RC register returns the value and clears it, except through the debug port. -/
  | rcRead (who : Who) (off : Nat)
  /-- READ_LOW_WORD (R9). A read of the low word of a 64-bit pair latches the high word until that word is read. -/
  | readLowWord (off : Nat)
  /-- TIME_SNAPSHOT (R44). A read of TIM_SEC_LO snapshots TIM_SEC_HI, TIM_NS, TIM_FRAC and TIM_TICKCODE until TIM_FRAC is read. -/
  | timeSnapshot
  /-- REFERENCE_LOST (R37). The clock monitor declares REFCLK, ETH_REFCLK or PCIE_REFCLK lost, and the class of that loss follows. -/
  | referenceLost (clk : RefClk)
  /-- PTP_MESSAGE_RX (R54). A received PTP message feeds peer delay and the servo; two-step messages are counted and ignored. -/
  | ptpMessageRx (port : Nat) (m : PtpMsg)
  /-- HOLDOVER_ENTRY (R53). When the source has been silent for 3 Sync intervals, the clock enters HOLDOVER and keeps its frequency term. -/
  | holdoverEntry
  /-- HOLD_LIMIT (R53). After TIM_HOLD_LIMIT routes in HOLDOVER, a Degraded event is raised. -/
  | holdLimit
  /-- PTP_ROLE_WRITE (R55). A write to TIM_P_CFG that would make conflicting port roles is refused with an Info event. -/
  | ptpRoleWrite (port : Nat) (v : Word)
  /-- FRAME_RX (R70). A frame received at a port is checked, stamped, handled for redundancy and MACsec, then classified and delivered. -/
  | frameRx (port : Nat) (f : Frame)
  /-- RED_ENTRY_FORGET (R73). A PRP or HSR source entry idle for SWC_RED_FORGET ms is forgotten, and its waiting frames count as unique. -/
  | redEntryForget (pair sa : Nat)
  /-- PFC_PAUSE_RX (R87). A received pause frame pauses an enabled priority 0 to 5, or is counted as ignored. -/
  | pfcPauseRx (port prio : Nat) (on : Bool)
  /-- PFC_EN_WRITE (R88). A write to ETH_PFC_EN or SWC_GCL_SCHED that would enable pause on a scheduled priority leaves that bit 0 and raises an Info event. -/
  | pfcEnWrite (port : Nat) (sched : Bool) (v : Word)
  /-- FRAME_TX (R86). A queued frame starts on the line when its gate is open and it fits, or is dropped at the head when the port is not ready. -/
  | frameTx (port off : Nat)
  /-- GATE_ENTRY_START (R83). A gate list entry's start point is reached and its gate mask takes effect. -/
  | gateEntryStart (port entry : Nat)
  /-- TRIP_WINDOW (R85). The trip window opens GUARD cycles before the egress tick, with only class 7 open until the tick ends. -/
  | tripWindow (port : Nat) (opens : Bool)
  /-- GCL_SWAP_REQUEST (R84). A write of SWC_GCL_CTRL.SWAP requests a gate-list bank exchange at the next route boundary. -/
  | gclSwapRequest (port : Nat)
  /-- LINK_DOWN (R89). A port's link goes down: new frames are refused, queues are flushed, and a Degraded event is raised. -/
  | linkDown (port : Nat)
  /-- QUEUE_FLUSH_DONE (R89). The flush of a downed port's egress queues completes within 2 µs and its cells return to the pool. -/
  | queueFlushDone (port : Nat)
  /-- LINK_UP (R89). A port's link returns, with empty queues, and an Info event is raised. -/
  | linkUp (port : Nat)
  /-- SYNTH_UNLOCK (R90). The SerDes synthesiser unlocks, TX_NOT_READY is set, and a frame on the line is cut short. -/
  | synthUnlock (port : Nat)
  /-- SYNTH_LOCK (R90). The SerDes synthesiser locks and TX_NOT_READY clears. -/
  | synthLock (port : Nat)
  /-- MACSEC_CTRL_WRITE (R77). A write to ETH_SEC_CTRL changes TX_AN from the next frame, and changes EN or CONF only in Maintenance. -/
  | macsecCtrlWrite (port : Nat) (v : Word)
  /-- FDB_READ (R94). SWC_FDB_CMD OP 1 reads an address-table entry into the data registers. -/
  | fdbRead (index : Nat)
  /-- FDB_WRITE_STATIC (R94). SWC_FDB_CMD OP 2 writes a static address-table entry. -/
  | fdbWriteStatic (index : Nat)
  /-- FDB_DELETE (R94). SWC_FDB_CMD OP 3 deletes an address-table entry. -/
  | fdbDelete (index : Nat)
  /-- FDB_AGE_OUT (R95). A learned entry with no hit for SWC_AGE_ROUTES routes ages out. -/
  | fdbAgeOut (index : Nat)
  /-- WAKE_FRAME (R96). In Parked, a good frame that matches a wake pattern or the magic packet raises the wake event. -/
  | wakeFrame (port : Nat) (f : Frame)
  /-- SV_FRAME (R130). An SV frame reaching alignment is looked up, checked, unwrapped, placed and written, or learned or dropped. -/
  | svFrame (port : Nat) (f : SvFrame)
  /-- LEG_DECLARE (R129). At the filter tick, the leg is declared, empty slots are filled, and the slots are fixed. -/
  | legDeclare
  /-- SV_ENTRY_AGE_OUT (R112). A LEARNED entry whose count of route boundaries reaches SAU_AGE_ROUTES returns to FREE. -/
  | svEntryAgeOut (entry : Nat)
  /-- SAU_ENTRY_READ (R108). SAU_ENT_CMD OP 1 reads a subscription entry into staging. -/
  | sauEntryRead (entry : Nat)
  /-- SAU_ENTRY_COMMIT (R108). SAU_ENT_CMD OP 2 commits the staged entry in one cycle, or refuses it. -/
  | sauEntryCommit (entry : Nat)
  /-- SAU_INVALIDATE (R111). A write of SAU_INVAL removes one entry, or all, from every port-group cache. -/
  | sauInvalidate (entry : Nat) (all : Bool)
  /-- SAU_INVAL_DONE (R111). The cache removal completes and SAU_INVAL_STATUS.BUSY clears. -/
  | sauInvalDone
  /-- GATHER (R132). SAU_GATHER_CMD with GO reads 1 to 16 sample-store elements, faulting those that break the rules. -/
  | gather (count : Nat) (corr ecc : List Nat)
  /-- GATHER_DONE (R133). A gather completes all its elements and reports FAULT_CNT and FIRST_FAULT. -/
  | gatherDone
  /-- FILTER_STAGE_RUN (R137). A lane runs one channel's filter stages for one leg: resampling, tracking, averages and detectors. -/
  | filterStageRun (lane ch : Nat)
  /-- TRACK_HOLD_TIMEOUT (R158). After HOLD_ROUTES routes in HOLD, the group sets f_est to F_NOM. -/
  | trackHoldTimeout (g : Nat)
  /-- FCH_DESC_READ (R165). FCH_DESC_CMD OP 1 reads a filter descriptor into staging. -/
  | fchDescRead (table index : Nat)
  /-- FCH_DESC_COMMIT (R165). FCH_DESC_CMD OP 2 commits a filter descriptor for the next route boundary, or refuses it. -/
  | fchDescCommit (table index : Nat)
  /-- COEF_SWAP_REQUEST (R149). A write of FCH_COEF_CTRL.SWAP requests the exchange of bank 4 copies at the next route boundary. -/
  | coefSwapRequest
  /-- PHASOR_DFT (R184). The DFT phasor kernel computes the fundamental and selected harmonics from the tracked ring. -/
  | kPhasorDft (e k : Nat)
  /-- PHASOR_COS (R184). The cosine-filter phasor kernel computes the fundamental, rejecting decaying DC. -/
  | kPhasorCos (e k : Nat)
  /-- SEQ (R186). The kernel forms the sequence components and their threshold flags. -/
  | kSeq (e k : Nat)
  /-- IMPED (R187). The kernel forms the impedance of the six loops. -/
  | kImped (e k : Nat)
  /-- MHO (R188). The kernel tests the valid loops against a mho circle. -/
  | kMho (e k : Nat)
  /-- QUAD (R188). The kernel tests the valid loops against a quadrilateral. -/
  | kQuad (e k : Nat)
  /-- DIFF (R189). The kernel computes the biased differential with harmonic blocking. -/
  | kDiff (e k : Nat)
  /-- FAST_OC (R190). The kernel compares raw slots against THR with an N_CONF count per channel. -/
  | kFastOc (e k : Nat)
  /-- FAST_DIFF (R191). The kernel forms an exact integer differential per slot position and counts it towards OP. -/
  | kFastDiff (e k : Nat)
  /-- IDMT (R192). The curve timer advances or resets its accumulator and sets START and OP. -/
  | kIdmt (e k : Nat)
  /-- FREQ (R193). The kernel forms frequency and df/dt flags at cycle ends. -/
  | kFreq (e k : Nat)
  /-- POWER (R194). The kernel forms P, Q, S and PF, with the REVERSE flag. -/
  | kPower (e k : Nat)
  /-- SYNC (R195). The synchro-check kernel compares two voltages across tracking groups. -/
  | kSync (e k : Nat)
  /-- SEAT_OVERRUN (R169). A seat ends with its kernel unfinished; the kernel stops and the engine is faulted. -/
  | seatOverrun (e : Nat)
  /-- ENGINE_FAULT (R200). An engine reporting an internal fault is retired at once, and the inspection engine takes its seats. -/
  | engineFault (harness : Bool) (e : Nat)
  /-- EEN_DESC_READ (R179). EEN_DESC_CMD OP 1 reads a kernel descriptor into staging. -/
  | eenDescRead (index : Nat)
  /-- EEN_DESC_COMMIT (R179). EEN_DESC_CMD OP 2 commits a kernel descriptor for the next route boundary, or refuses it. -/
  | eenDescCommit (index : Nat)
  /-- INSPECTION_RESULT (R262). In leg 239, the inspection unit's signature is compared, and a mismatch retires it at the route boundary. -/
  | inspectionResult (kind : Nat) (pass : Bool)
  /-- HARNESS_SCAN (R208). A Harness engine runs one carriage's scan on a copy of its state in its seat. -/
  | harnessScan (e c steps : Nat)
  /-- NOP (R225). The instruction does nothing. -/
  | hNop (e : Nat)
  /-- LD (R225). ACC is loaded with a bit, inverted when NEG is set. -/
  | hLd (e b : Nat) (neg : Bool)
  /-- AND (R225). ACC is ANDed with a bit. -/
  | hAnd (e b : Nat) (neg : Bool)
  /-- OR (R225). ACC is ORed with a bit. -/
  | hOr (e b : Nat) (neg : Bool)
  /-- XOR (R225). ACC is XORed with a bit. -/
  | hXor (e b : Nat) (neg : Bool)
  /-- APUSH (R225). ACC is pushed with a pending AND. -/
  | hApush (e : Nat)
  /-- OPUSH (R225). ACC is pushed with a pending OR. -/
  | hOpush (e : Nat)
  /-- XPUSH (R225). ACC is pushed with a pending XOR. -/
  | hXpush (e : Nat)
  /-- POP (R225). The stack is popped and its pending operation is applied to ACC. -/
  | hPop (e : Nat) (neg : Bool)
  /-- NOT (R225). ACC is inverted. -/
  | hNot (e : Nat)
  /-- SETA (R225). ACC is set to ARG bit 0. -/
  | hSeta (e : Nat) (v : Bool)
  /-- ST (R225). ACC, or its inverse, is stored to a writable bit. -/
  | hSt (e b : Nat) (neg : Bool)
  /-- SET (R225). A writable bit is set when ACC is 1. -/
  | hSet (e b : Nat)
  /-- RST (R225). A writable bit is cleared when ACC is 1. -/
  | hRst (e b : Nat)
  /-- RISE (R232). A rising edge of ACC is detected against an edge memory. -/
  | hRise (e b : Nat)
  /-- FALL (R232). A falling edge of ACC is detected against an edge memory. -/
  | hFall (e b : Nat)
  /-- TMR (R230). A TON, TOF or TP timer executes with Δ_t and sets ACC to Q. -/
  | hTmr (e n kind : Nat)
  /-- CTU (R231). A counter counts up on a rising edge of ACC. -/
  | hCtu (e n : Nat)
  /-- CTD (R231). A counter counts down on a rising edge of ACC. -/
  | hCtd (e n : Nat)
  /-- CRST (R225). The counter's CV is cleared when ACC is 1. -/
  | hCrst (e n : Nat)
  /-- CLD (R225). The counter's CV is loaded with PV when ACC is 1. -/
  | hCld (e n : Nat)
  /-- LDW (R225). W is loaded from a word. -/
  | hLdw (e a : Nat)
  /-- LDI (R225). W is loaded with a sign-extended immediate. -/
  | hLdi (e : Nat) (imm : Int)
  /-- LDHI (R225). W[31:20] is loaded from the immediate. -/
  | hLdhi (e v : Nat)
  /-- STW (R225). W is stored to a writable word, conditionally on ACC when COND is set. -/
  | hStw (e a : Nat) (cond : Bool)
  /-- ADD (R226). A word is added to W, saturating or wrapping. -/
  | hAdd (e a : Nat) (wrap : Bool)
  /-- SUB (R226). A word is subtracted from W, saturating or wrapping. -/
  | hSub (e a : Nat) (wrap : Bool)
  /-- ADDI (R226). An immediate is added to W. -/
  | hAddi (e : Nat) (imm : Int) (wrap : Bool)
  /-- CMP (R226). W is compared with a word, as integer or float32, into ACC. -/
  | hCmp (e a rel : Nat) (float neg : Bool)
  /-- CMPI (R226). W is compared with an immediate into ACC. -/
  | hCmpi (e : Nat) (imm : Int) (rel : Nat) (neg : Bool)
  /-- INC (R225). A writable word is incremented, saturating, when ACC is 1. -/
  | hInc (e a : Nat)
  /-- DEC (R225). A writable word is decremented, saturating, when ACC is 1. -/
  | hDec (e a : Nat)
  /-- ANDW (R225). W is bitwise ANDed with a word. -/
  | hAndw (e a : Nat)
  /-- ORW (R225). W is bitwise ORed with a word. -/
  | hOrw (e a : Nat)
  /-- XORW (R225). W is bitwise XORed with a word. -/
  | hXorw (e a : Nat)
  /-- SHF (R225). W is shifted left logically or right arithmetically. -/
  | hShf (e n : Nat) (right : Bool)
  /-- TSTB (R225). ACC is loaded with the named bit of W. -/
  | hTstb (e bit : Nat) (neg : Bool)
  /-- JMP (R225). Execution jumps forward, always or on ACC. -/
  | hJmp (e k cond : Nat)
  /-- END (R208). The scan ends and commits its whole copy of the writable state. -/
  | hEnd (e : Nat)
  /-- GOOSE_FRAME_RX (R219). A GOOSE frame is matched, checked in order, and decoded into carriage GOOSE areas and queues. -/
  | gooseFrameRx (port cls : Nat) (full : Bool) (f : GooseFrame)
  /-- GOOSE_ALIVE_EXPIRY (R222). ALIVE clears when TAL runs out after the last accepted frame, zeroing values when LOSS_ACT is 1. -/
  | gooseAliveExpiry (entry : Nat)
  /-- GSUB_ENTRY_READ (R218). HLE_GS_CMD OP 1 reads a GOOSE subscription entry into staging. -/
  | gsubEntryRead (entry : Nat)
  /-- GSUB_ENTRY_COMMIT (R218). HLE_GS_CMD OP 2 commits a GOOSE subscription entry, or refuses it. -/
  | gsubEntryCommit (entry : Nat)
  /-- GMAP_WRITE (R218). A write of HLE_GMAP_DATA sets a map word, or is ignored with an Info event inside a LIVE entry's map. -/
  | gmapWrite (v : Word)
  /-- HLE_LOAD (R240). HLE_LOAD_CMD with GO loads and checks a program image for a carriage, or refuses it. -/
  | hleLoad (c : Nat) (swap : Bool)
  /-- HOLD_STEP (R238). A write of HLE_C_STEP runs one Hold scan with HOLD_STEP set, whose outputs are not published. -/
  | holdStep (c : Nat)
  /-- SEAT_ENTRY_WRITE (R247). A write to a Timetable seat entry fills the inactive bank, or has no effect on the active bank and raises an Info event. -/
  | seatEntryWrite (bank index word : Nat) (v : Word)
  /-- SEAT_BANK_SWAP_REQUEST (R247). A write of TTB_BANK_CTRL.SWAP requests the exchange of seat banks at the next route boundary. -/
  | seatBankSwapRequest
  /-- ARB_SEAT_START (R251). An arbitrating seat begins and the arbiter starts ready items oldest-leg first. -/
  | arbSeatStart (index : Nat)
  /-- READMISSION (R257). The Livery recomputes the plan with one column fewer and marks carriages ADMITTED or DEGRADED. -/
  | readmission
  /-- HAND_OFF (R265). In the last 200 cycles of the Harness tick, publication takes the newly committed output images and encodes entries. -/
  | handOff
  /-- GOOSE_REPETITION (R271). A scheduled repetition falls due and its frame is enqueued in class 6. -/
  | gooseRepetition (entry : Nat)
  /-- TRIP_FRAME_LATE (R273). A class 7 frame not started by the end of its egress tick is discarded and counted. -/
  | tripFrameLate (port : Nat)
  /-- GPUB_ENTRY_READ (R268). PUB_GE_CMD OP 1 reads a GOOSE publication entry into staging. -/
  | gpubEntryRead (entry : Nat)
  /-- GPUB_ENTRY_COMMIT (R268). PUB_GE_CMD OP 2 commits a GOOSE publication entry, or refuses it. -/
  | gpubEntryCommit (entry : Nat)
  /-- PUB_MAP_WRITE (R290). A write of PUB_MAP_DATA sets a map word, or is ignored with an Info event inside a LIVE entry's map. -/
  | pubMapWrite (v : Word)
  /-- SVPUB_ENTRY_READ (R285). PUB_SV_CMD OP 1 reads an SV republication entry into staging. -/
  | svpubEntryRead (entry : Nat)
  /-- SVPUB_ENTRY_COMMIT (R285). PUB_SV_CMD OP 2 commits an SV republication entry, or refuses it. -/
  | svpubEntryCommit (entry : Nat)
  /-- PMU_ENTRY_READ (R288). PUB_PMU_CMD OP 1 reads a PMU stream entry into staging. -/
  | pmuEntryRead (entry : Nat)
  /-- PMU_ENTRY_COMMIT (R288). PUB_PMU_CMD OP 2 commits a PMU stream entry, or refuses it. -/
  | pmuEntryCommit (entry : Nat)
  /-- TSMAP_ENTRY_WRITE (R284). A write to the trip-seat map fills the inactive bank, or has no effect on the active bank and raises an Info event. -/
  | tsmapEntryWrite (bank index word : Nat) (v : Word)
  /-- TSMAP_SWAP_REQUEST (R284). A write of PUB_TSMAP_CTRL.SWAP requests the exchange of trip-seat map banks, which is checked at the route boundary. -/
  | tsmapSwapRequest
  /-- QUEUE_CONTEXT_READ (R298). CAR_QC_CMD OP 1 reads queue context words 0 to 7 into CAR_QC_READ. -/
  | queueContextRead (c q : Nat)
  /-- QUEUE_CONTEXT_COMMIT (R298). CAR_QC_CMD OP 2 commits queue context words 0 to 3 at once, or refuses them. -/
  | queueContextCommit (c q : Nat)
  /-- QUEUE_RESET (R298). CAR_QC_CMD OP 3 resets a queue's enable, indices and phase. -/
  | queueReset (c q : Nat)
  /-- QUEUE_DOORBELL (R319). A write of CAR_Q_DB sets the queue's PROD, or is ignored and counted. -/
  | queueDoorbell (c q prod : Nat)
  /-- DESCRIPTOR_FETCH (R305). The device fetches a posted descriptor, consumes a stale one with STATUS 2, or starts its transfer; `n` descriptors in one go (R319). -/
  | descriptorFetch (c q n : Nat)
  /-- VEC_CTRL_WRITE (R319). Clearing MASK of a vector with PENDING set sends one message write. -/
  | vecCtrlWrite (c v : Nat) (val : Word)
  /-- DRAIN_END (R308). DRAINING ends at the first leg boundary with nothing in flight; queues are reset and the carriage becomes DISABLED or ENABLED. -/
  | drainEnd (c : Nat) (retBad : Bool)
  /-- BRACE_LINK_TRAINING (R321). A Brace link trains and the ends exchange BRC_VERSION; a differing major version is not paired. -/
  | braceLinkTraining (link version : Nat)
  /-- BRACE_LANE_RETIRE (R323). A lane losing block lock or exceeding its error limit is retired, and the spare is brought in. -/
  | braceLaneRetire (link lane errs : Nat) (lost : Bool)
  /-- BRACE_RETRAIN_DONE (R323). Retraining with the spare lane completes and the link returns. -/
  | braceRetrainDone (link : Nat)
  /-- BRACE_LINK_DOWN (R324). Loss of one Brace link raises a Degraded event. -/
  | braceLinkDown (link : Nat)
  /-- PARTNER_LOST (R324). No intact message for 2 legs loses the partner; a standby sets ORPHAN. -/
  | partnerLost
  /-- ORPHAN_TIMEOUT (R324). ORPHAN ends after BRC_LTN_TIMEOUT plus 2 legs without a Lantern timeout, and the standby enters RESYNC. -/
  | orphanTimeout
  /-- MIRROR_CELLS (R331). The active's accepted cells arrive and are written into the standby's sample store. -/
  | mirrorCells (h : BrcHdr) (cells : List MirrorCell)
  /-- DECLARATION_RECORD (R331). The declaration record arrives, and the standby declares the leg with the active's models once all counted cells are present. -/
  | declarationRecord (h : BrcHdr) (leg cells : Nat) (models : List ModelRec)
  /-- UNMIRRORED_LEG (R332). A leg not mirrored 3 µs into the filter tick is declared from the standby's own frames, and the standby enters RESYNC. -/
  | unmirroredLeg
  /-- P2_COMPLETION_LIST (R333). The active's P2 completion list arrives and fixes which P2 items the standby runs. -/
  | p2CompletionList (h : BrcHdr) (items : List (Nat × Nat × Nat))
  /-- PUBLICATION_MIRROR (R280). The active's stNum, sqNum and schedules arrive and the standby adopts them after its own hand-off. -/
  | publicationMirror (h : BrcHdr) (leg : Nat) (entries : List PubMirror)
  /-- TRIP_SEAT_IMAGES (R330). The active's trip-seat images arrive and are held as the state last sent to the trip cards. -/
  | tripSeatImages (h : BrcHdr) (seats : List (Nat × List Nat))
  /-- DIGEST_TABLE (R336). The active's digest table arrives and is compared; a mismatch sends the standby to RESYNC. -/
  | digestTable (h : BrcHdr) (leg : Nat) (digests : List Nat)
  /-- CONFIG_JOURNAL (R334). A forwarded configuration commit arrives and is applied at the same route boundary as on the active. -/
  | configJournal (h : BrcHdr) (e : JEntry)
  /-- BRACE_TIME (R47). The active's time arrives each leg and disciplines the standby's RCLK. -/
  | braceTime (offset : Int) (settled : Bool) (sec ns : Nat)
  /-- BRACE_STATUS (R326). The partner's status message is taken, and its term, role and UNIT are compared. -/
  | braceStatus (h : BrcHdr) (st : PeerStat)
  /-- FAIL_MESSAGE (R342). A FAIL message from the active arrives and triggers a switch-over. -/
  | failMessage (h : BrcHdr)
  /-- PARTNER_LANTERN_EDGE (R343). An edge on PARTNER_LANTERN restarts the Lantern timeout count. -/
  | partnerLanternEdge
  /-- LANTERN_TIMEOUT (R342). No PARTNER_LANTERN edge for BRC_LTN_TIMEOUT ticks triggers a switch-over. -/
  | lanternTimeout
  /-- PAIR_WAIT_EXPIRY (R327). After BRC_PAIR_WAIT routes in Standby, the module decides its Brace role. -/
  | pairWaitExpiry
  /-- FENCE (R344). The module fences from the tick after its cause: publication and seats stop and BRACE_ROLE goes inactive. -/
  | fence
  /-- TAKEOVER (R345). A STANDBY module becomes ACTIVE at T + 1, switches its time source, and starts publication and seats. -/
  | takeover
  /-- PLANNED_SWITCH (R346). At agreed leg B, the active hands off leg B − 1, fences after its egress tick and becomes STANDBY. -/
  | plannedSwitch
  /-- RESYNC_COMPLETE (R340). A standby meeting every condition of R340 enters STANDBY and raises an Info event. -/
  | resyncComplete (wbEqual : Bool)
  /-- PROOF_EXCHANGE_END (R349). A proof exchange ends on a failed check or after P routes, records its result, and returns the role when asked; `seen` are
  failed checks, as CAUSE numbers them, that only time finer than the rows shows (log 38). -/
  | proofExchangeEnd (seen : Nat)
  /-- WAYBILL_RX (R367). A node takes a Waybill in seat 0 and integrates, synchronises or hands over its timing. -/
  | waybillRx (ch : Nat) (w : Waybill)
  /-- WAYBILL_TX (R361). The master sends the Waybill of the leg, carrying the table in force or the pending table. -/
  | waybillTx (ch : Nat)
  /-- WAYBILL_LOSS (R367). After 8 legs without a valid Waybill, a node returns to LISTEN. -/
  | waybillLoss (ch : Nat)
  /-- COLD_START_TIMEOUT (R368). A cold-start node in LISTEN that receives no Waybill sends its first Waybill at its cold-start time. -/
  | coldStartTimeout (ch : Nat)
  /-- BACKUP_WAYBILL (R371). A backup node sends a short Waybill at its offset after a leg with no Waybill, and becomes master. -/
  | backupWaybill (ch : Nat) (heard : Bool)
  /-- SEAT_TX (R366). A node sends its frame at the start of an owned data, trip or jump seat. -/
  | seatTx (ch seat prio : Nat) (payload : List Nat)
  /-- SEAT_FRAME_RX (R352). A node takes the first valid copy of a seat frame, stamped at the end of its CRC. -/
  | seatFrameRx (ch : Nat) (f : SeatFrame)
  /-- STATUS_FRAME_TX (R366). A node sends its status frame in its status slot. -/
  | statusFrameTx (ch : Nat)
  /-- STATUS_FRAME_RX (R366). A status frame echo is taken, updating loop and LOOP_OK, ACKs and claims. -/
  | statusFrameRx (ch : Nat) (f : StatusFrame)
  /-- CLAIM_PROCESS (R375). After the status interval, the master takes releases and then claims for jump seats. -/
  | claimProcess
  /-- GUARD_FRAME (R378). A Guard admits and forwards a frame through an open window, or ends it as a violation. -/
  | guardFrame (port slot : Nat) (off : Int) (inTime : Bool) (part : GuardPart) (rivals : List (Nat × GuardPart))
  /-- GUARD_COLD_ENTRY (R369). A Guard that forwards no Waybill for 8 legs enters COLD. -/
  | guardColdEntry
  /-- GUARD_PORT_UP (R581). A Guard port is UP after its receiver holds block lock for 8 legs. -/
  | guardPortUp (port : Nat)
  /-- GUARD_PORT_DOWN (R581). A Guard port goes DOWN when block lock is lost for 64 blocks. -/
  | guardPortDown (port : Nat)
  /-- GUARD_READMIT (R380). A write of STL_G_PCMD.READMIT clears a port's isolation and count from the next leg. -/
  | guardReadmit (port : Nat)
  /-- GUARD_NODE_RESET (R381). A write of STL_G_PCMD.NODE_RESET sends a node-reset order on the port, unless the port is an active Gulric. -/
  | guardNodeReset (port : Nat)
  /-- NODE_RESET_ORDER_RX (R381). A Gulric that receives all 16 reset blocks on its node lane takes a Guard node reset. -/
  | nodeResetOrderRx
  /-- STL_TABLE_ENTRY_WRITE (R387). A write to STL_TBL_ENTRY fills the inactive bank, or has no effect on the active bank and raises an Info event. -/
  | stlTableEntryWrite (bank index : Nat) (v : Word)
  /-- STL_TABLE_SWAP_REQUEST (R363). A write of STL_TBL_CTRL with SWAP checks the table and announces it for SWITCH_ROUTE. -/
  | stlTableSwapRequest (route : Nat)
  /-- IMAP_SWAP_REQUEST (R383). A write of STL_IMAP_CTRL.SWAP requests the exchange of input-map banks, which is checked at the route boundary. -/
  | imapSwapRequest
  /-- SYNC_EVENT (R386). A sync-event comparator reaches OFFSET after the anchor and raises the Stageline sync interrupt. -/
  | syncEvent (k : Nat)
  /-- CMD_DOORBELL (R390). A write of CMD_S_DB sets a session's producer index, or is ignored when it overfills the ring. -/
  | cmdDoorbell (ses prod : Nat)
  /-- MGMT_DATAGRAM (R400). A management-port command datagram is authenticated, staged and appended as a doorbell, or dropped. -/
  | mgmtDatagram (g : MgmtHead) (count seq ofs : Nat) (seg : List Nat) (tagOk zeroTag slotBad : Bool)
  /-- SESSION_RING_CFG_WRITE (R391). A write to a session's ring configuration applies only while the session is idle. -/
  | sessionRingCfgWrite (ses reg : Nat) (v : Word)
  /-- SESSION_RESET (R391). CMD_S_RING_CFG.RESET returns every index of the session to 0 and the session to protocol 1. -/
  | sessionReset (ses : Nat) (v : Word)
  /-- REPLY_CONSUMER_WRITE (R396). A write of CMD_S_RCONS frees reply entries and resumes a stalled session. -/
  | replyConsumerWrite (ses : Nat) (v : Word)
  /-- HELLO (R397). The command negotiates the session protocol. -/
  | cmdHello (h : Cmd)
  /-- BYE (R411). The command closes the session back to protocol 1. -/
  | cmdBye (h : Cmd)
  /-- ECHO (R411). The command returns its four parameter words. -/
  | cmdEcho (h : Cmd)
  /-- MODULE_STATUS (R411). The command returns the mode, Brace, Timetable and time status. -/
  | cmdModuleStatus (h : Cmd)
  /-- CREATE (R291). The command creates a carriage with its grants and runs its admission. -/
  | cmdCreate (h : Cmd) (img : CoachImage)
  /-- DESTROY (R311). The command destroys a DISABLED or FROZEN carriage. -/
  | cmdDestroy (h : Cmd)
  /-- ENABLE (R310). The command enables a carriage at the next leg boundary, or leaves it pending. -/
  | cmdEnable (h : Cmd)
  /-- DISABLE (R307). The command disables a carriage in tick D, increments its generation and starts the drain. -/
  | cmdDisable (h : Cmd)
  /-- RESET (R310). The command resets a carriage as a disable followed by an enable. -/
  | cmdReset (h : Cmd)
  /-- HARNESS_MODE (R237). The command sets a carriage's Harness to Stop, Run or Hold at the next leg boundary. -/
  | cmdHarnessMode (h : Cmd)
  /-- PROGRAM_LOAD (R240). The command loads a Harness program image, online or offline. -/
  | cmdProgramLoad (h : Cmd) (data : List Word)
  /-- SAVE (R312). The command saves a carriage image at the next route boundary. -/
  | cmdSave (h : Cmd)
  /-- RESTORE (R315). The command restores an image into a DISABLED carriage. -/
  | cmdRestore (h : Cmd) (img : CarImage)
  /-- CARRIAGE_QUERY (R412). The command returns a carriage's state, generation and admission. -/
  | cmdCarriageQuery (h : Cmd)
  /-- PARAM_UPDATE (R180). The command changes words 3 to 14 of a kernel descriptor. -/
  | cmdParamUpdate (h : Cmd) (data : List Word)
  /-- STREAM_LIVE (R103). The command makes a subscription entry LIVE at the next route boundary. -/
  | cmdStreamLive (h : Cmd) (data : List Word)
  /-- STREAM_SUSPEND (R100). The command suspends a LIVE stream at the next route boundary. -/
  | cmdStreamSuspend (h : Cmd)
  /-- STREAM_RESUME (R100). The command resumes a SUSPENDED stream at the next route boundary. -/
  | cmdStreamResume (h : Cmd)
  /-- STREAM_RETIRE (R104). The command retires a stream, freeing it at the route boundary after the retire is applied. -/
  | cmdStreamRetire (h : Cmd)
  /-- STREAM_GRANT (R413). The command grants a subscription entry to a carriage. -/
  | cmdStreamGrant (h : Cmd)
  /-- STREAM_REVOKE (R413). The command revokes a subscription grant. -/
  | cmdStreamRevoke (h : Cmd)
  /-- LEARN_LIST (R413). The command lists the next four LEARNED entries. -/
  | cmdLearnList (h : Cmd)
  /-- GSUB_COMMIT (R218). The command commits a GOOSE subscription entry and its map words. -/
  | cmdGsubCommit (h : Cmd) (ent map : List Word)
  /-- GPUB_COMMIT (R268). The command commits a GOOSE publication entry and its map words. -/
  | cmdGpubCommit (h : Cmd) (ent map : List Word)
  /-- GPUB_STATE (R414). The command sets a GOOSE publication entry FREE, LIVE or SUSPENDED. -/
  | cmdGpubState (h : Cmd)
  /-- SVPUB_COMMIT (R285). The command commits an SV republication entry. -/
  | cmdSvpubCommit (h : Cmd) (ent : List Word)
  /-- PMU_COMMIT (R288). The command commits a synchrophasor stream entry. -/
  | cmdPmuCommit (h : Cmd) (ent : List Word)
  /-- PMU_CTRL (R414). The command sets PMU_EN and CFG_CHANGE. -/
  | cmdPmuCtrl (h : Cmd)
  /-- TRIPMAP (R284). The command writes the trip-seat map and requests its swap. -/
  | cmdTripmap (h : Cmd) (data : List Word)
  /-- TIME_SOURCE (R46). The command selects the time source and servo enable. -/
  | cmdTimeSource (h : Cmd)
  /-- FREE_RUN_ACCEPT (R49). The command spends the one step on the current local time. -/
  | cmdFreeRunAccept (h : Cmd)
  /-- TIME_STEP (R51). The command steps local time in Maintenance with no carriage enabled. -/
  | cmdTimeStep (h : Cmd)
  /-- TIME_LIMITS (R415). The command sets the slew, offset-warning and holdover limits. -/
  | cmdTimeLimits (h : Cmd)
  /-- PORT_PTP (R55). The command sets a port's PTP role and latency corrections. -/
  | cmdPortPtp (h : Cmd)
  /-- HOLDBACK (R18). The command changes the holdback at the next route boundary if admission accepts it. -/
  | cmdHoldback (h : Cmd)
  /-- REC_ARM (R435). The command loads a recorder descriptor and arms the recorder. -/
  | cmdRecArm (h : Cmd) (data : List Word)
  /-- REC_DISARM (R433). The command disarms a recorder, truncating an open record. -/
  | cmdRecDisarm (h : Cmd)
  /-- REC_FORCE (R430). The command forces a trigger at the next leg the recorder takes. -/
  | cmdRecForce (h : Cmd)
  /-- REC_RENDER (R440). The command has Phiash render a record as COMTRADE. -/
  | cmdRecRender (h : Cmd)
  /-- EVR_RESTART (R460). The command empties the event recorder from the next tick. -/
  | cmdEvrRestart (h : Cmd)
  /-- KEY_GENERATE (R506). The command fills a slot from the TRNG. -/
  | cmdKeyGenerate (h : Cmd)
  /-- KEY_UNWRAP (R506). The command installs a key from an AES-GCM wrapped blob. -/
  | cmdKeyUnwrap (h : Cmd) (tagOk slotBad : Bool) (key : Nat)
  /-- KEY_DERIVE (R515). The command derives a key with the SP 800-108 KDF. -/
  | cmdKeyDerive (h : Cmd) (ctx : List Nat) (slotBad : Bool)
  /-- KEY_DESTROY (R506). The command makes a slot EMPTY. -/
  | cmdKeyDestroy (h : Cmd)
  /-- KEY_INFO (R504). The command returns a slot's attributes and state. -/
  | cmdKeyInfo (h : Cmd)
  /-- LIFECYCLE (R498). The command moves the life-cycle state along a permitted transition. -/
  | cmdLifecycle (h : Cmd)
  /-- BRACE_PAIR (R418). The command sets PAIR_EN and AUTO_RESYNC. -/
  | cmdBracePair (h : Cmd)
  /-- BRACE_RESYNC (R338). The command starts a state transfer from the active. -/
  | cmdBraceResync (h : Cmd)
  /-- BRACE_SWITCH (R346). The command requests a planned switch-over at leg B. -/
  | cmdBraceSwitch (h : Cmd)
  /-- BRACE_PROOF (R349). The command starts a proof exchange at route B for P routes. -/
  | cmdBraceProof (h : Cmd)
  /-- STL_TABLE (R363). The command writes and announces a Stageline assignment table. -/
  | cmdStlTable (h : Cmd) (data : List Word)
  /-- STL_IMAP (R383). The command writes the Stageline input map and requests its swap. -/
  | cmdStlImap (h : Cmd) (data : List Word)
  /-- STL_BACKUP_SET (R371). The command sets the backup positions. -/
  | cmdStlBackupSet (h : Cmd)
  /-- STL_READMIT (R380). The command re-admits an isolated Guard port. -/
  | cmdStlReadmit (h : Cmd)
  /-- STL_NODE_RESET (R381). The command sends a node-reset order on a Guard port. -/
  | cmdStlNodeReset (h : Cmd)
  /-- MODE_SET (R483). The command enters or leaves Maintenance, or enters Parked, at the next route boundary. -/
  | cmdModeSet (h : Cmd)
  /-- RETIRE_UNIT (R420). The command retires a lane, engine, core or Brace lane in Maintenance. -/
  | cmdRetireUnit (h : Cmd)
  /-- REPAIR_STATUS (R560). The command returns the active, spare and retired counts of a kind. -/
  | cmdRepairStatus (h : Cmd)
  /-- DRAM_PPR (R548). The command starts a hard post-package repair of a DRAM row. -/
  | cmdDramPpr (h : Cmd)
  /-- MODULE_RESET (R420). The command takes a core or system reset after its reply. -/
  | cmdModuleReset (h : Cmd)
  /-- RECOVERY_WRITE (R409). The command writes the flash recovery staging area. -/
  | cmdRecoveryWrite (h : Cmd) (fits : Bool) (data : List Nat)
  /-- RECOVERY_COMMIT (R481). The command verifies and installs the staged image and then resets. -/
  | cmdRecoveryCommit (h : Cmd) (img : Option Nat)
  /-- DIAG_READ (R421). The command reads up to four registers without side effects. -/
  | cmdDiagRead (h : Cmd)
  /-- DIAG_WRITE (R421). The command writes a register in Maintenance. -/
  | cmdDiagWrite (h : Cmd)
  /-- DIAG_LOOPBACK (R421). The command sets PCS loopback on a port in Maintenance. -/
  | cmdDiagLoopback (h : Cmd)
  /-- DIAG_SAMPLE (R93). The command sets a port's frame sampling interval. -/
  | cmdDiagSample (h : Cmd)
  /-- DIAG_INSPECT (R263). The command enables or disables a kind's inspection. -/
  | cmdDiagInspect (h : Cmd)
  /-- RECORDER_LEG_TAKE (R426). A recorder takes a leg after its hand-off, writes reductions, and takes trigger reports. -/
  | recorderLegTake (r : Nat) (short : Bool)
  /-- TRIG_IN_EDGE (R428). A filtered TRIG_IN level change is timed by the TDC and feeds recorders and interval timers. -/
  | trigInEdge (b : Nat) (level : Bool) (tap : Int)
  /-- IT_ARM (R438). DRC_IT_CMD.ARM arms an interval timer. -/
  | itArm (k : Nat)
  /-- IT_CANCEL (R439). DRC_IT_CMD.CANCEL returns an interval timer to IDLE. -/
  | itCancel (k : Nat)
  /-- IT_TIMEOUT (R439). No second edge within TIMEOUT legs ends the timer with TIMEOUT set. -/
  | itTimeout (k : Nat)
  /-- RECORD_SLOT_FREE (R437). A write of DRC_R_FREE frees a record slot from the next leg boundary. -/
  | recordSlotFree (r : Nat) (v : Word)
  /-- CARRIAGE_FATAL_DISABLE (R449). In the tick after a Carriage-fatal stamp, the named carriage is disabled. -/
  | carriageFatalDisable
  /-- SOURCE_CLEAR (R452). A write of 1 to LATCHED or to the event bit clears the source's latch, or is refused with PERSIST. -/
  | sourceClear (n : Nat)
  /-- UNIT_CLEAR (R453). A write of SUP_U_CLR empties the unit's first-fault latch or history when nothing is latched. -/
  | unitClear (u : Nat)
  /-- POWER_ON_RESET (R574). A core rail below its power-good threshold asserts power-on reset. -/
  | powerOnReset
  /-- RESET_IN (R469). RESET_IN_N held low for 1 µs takes a system reset. -/
  | resetIn (ns : Nat)
  /-- SYSTEM_RESET (R464). A system reset acts, fencing an active module first, and clears every block outside the battery domain. -/
  | systemReset
  /-- CORE_RESET (R473). A core reset restarts the cores while the protection path continues. -/
  | coreReset
  /-- RESET_RELEASE (R471). A power-on or system reset releases the blocks in order and enters Boot or Recovery. -/
  | resetRelease (r : Release)
  /-- LIVERY_UP (R473). Phiash resumes after a core reset, LIVERY_UP sets, and deferred Livery work resumes. -/
  | liveryUp
  /-- WATCHDOG_KICK (R477). A write of RST_WDT_KICK restarts the watchdog count. -/
  | watchdogKick (v : Word)
  /-- WATCHDOG_WARN (R477). The watchdog reaches half its timeout and raises WDT_WARN. -/
  | watchdogWarn
  /-- WATCHDOG_EXPIRY (R477). The watchdog expires and takes a core reset. -/
  | watchdogExpiry
  /-- START_TIMEOUT (R478). The start timer reaches 30 s before Commission and takes a system reset. -/
  | startTimeout
  /-- RST_CMD_CORE (R495). A write of RST_CMD.CORE by Phiash takes a core reset. -/
  | rstCmdCore
  /-- RST_CMD_SYSTEM (R495). A write of RST_CMD.SYSTEM by Phiash takes a system reset. -/
  | rstCmdSystem
  /-- RST_CMD_PARK (R489). A write of RST_CMD.PARK by Phiash takes the held system reset of Parked. -/
  | rstCmdPark
  /-- POWER_FAIL (R482). PFAIL_N asserts, the module fences, and retention writes are sealed. -/
  | powerFail
  /-- PFAIL_ACK (R482). Once the retention writes are sealed, PFAIL_ACK is driven active. -/
  | pfailAck
  /-- MODE_REQUEST (R487). A write of GLB_MODE_REQ requests Standby from Commission, or is refused. -/
  | modeRequest (v : Word)
  /-- CDRV_SEL_WRITE (R496). A write of GLB_CDRV_SEL naming a FREE or P2 carriage is refused with an Info event. -/
  | cdrvSelWrite (b : Nat) (v : Word)
  /-- DEBUG_RESET_REQUEST (R528). A debug reset request acts at level 2 in permitted modes, or is refused. -/
  | debugResetRequest (sys : Bool)
  /-- TAMPER_ALARM (R512). A tamper alarm on main power zeroes the root and slots, logs, and takes a system reset. -/
  | tamperAlarm (sensor sec frac : Nat)
  /-- TAMPER_ALARM_BACKUP (R513). A tamper alarm on backup power zeroes the root and logs an entry. -/
  | tamperAlarmBackup (sensor sec frac : Nat)
  /-- UNLOCK_WRITE (R525). A write of SBX_UNLOCK arms the locked sequence for one target. -/
  | unlockWrite (who : Who) (v : Word)
  /-- UNLOCK_EXPIRY (R525). The locked sequence disarms after 256 FCLK cycles. -/
  | unlockExpiry
  /-- SLOT_ZERO (R525). An armed write of SBX_ZERO empties every slot. -/
  | slotZero (who : Who) (v : Word)
  /-- TAMPER_LOG_CLEAR (R525). An armed write of SBX_TLOG_CLR clears the tamper log. -/
  | tamperLogClear (who : Who) (v : Word)
  /-- TRNG_READY (R516). The TRNG start-up tests pass and it releases output. -/
  | trngReady
  /-- TRNG_STARTUP_TIMEOUT (R516). A start-up not finished in 200 ms latches source 72 and restarts. -/
  | trngStartupTimeout
  /-- TRNG_TEST_FAIL (R516). A continuous-test failure withholds output and restarts start-up. -/
  | trngTestFail
  /-- DEBUG_AUTH (R526). A signed response to the debug challenge grants a debug level, or fails. -/
  | debugAuth (level : Nat) (sigOk : Bool)
  /-- DEBUG_READ (R527). A debug read returns the value without any read side effect. -/
  | debugRead (addr : Nat)
  /-- DEBUG_HALT (R529). A halt of management or carriage cores is applied or refused. -/
  | debugHalt (t : HaltTarget)
  /-- DEBUG_RESUME (R529). Halted harts are released, leaving the Harness in Hold. -/
  | debugResume (t : HaltTarget)
  /-- DEBUG_SESSION_CLOSE (R526). The debug session ends when the host closes it or at a reset, tamper or life-cycle change. -/
  | debugSessionClose
  /-- BRIDGE_RESET (R535). PERST, a hot reset, a link-down or an FLR resets the bridge alone and ends outbound work. -/
  | bridgeReset
  /-- PCIE_LINK_UP (R535). The PCIe link trains up. -/
  | pcieLinkUp (rate lanes : Nat)
  /-- INBOUND_WRITE (R538). A host write to BAR0 enters the ordered inbound queue and completes in order. -/
  | inboundWrite (off : Nat) (v : Word) (blocked : Bool)
  /-- INBOUND_READ (R538). A host read of BAR0 returns after every earlier inbound write. -/
  | inboundRead (off : Nat)
  /-- BAR2_ACCESS (R539). A host access to BAR2 is mapped through a window, prefetching, or completes as UR. -/
  | bar2Access (off len : Nat) (data : Option (List Nat))
  /-- PREFETCH_DISCARD (R539). Prefetched data is discarded after 2 µs. -/
  | prefetchDiscard
  /-- FLUSHING_READ (R537). A flushing read returns and completes the initiator's earlier writes. -/
  | flushingRead (r : OutRead)
  /-- OUTBOUND_BACKOFF (R540). An outbound request blocked 2 µs behind a stuck inbound queue is backed off with RETRY. -/
  | outboundBackoff
  /-- COMPLETION_TIMEOUT (R541). An outbound read without completion within HBR_CPL_TO ends with FAULT. -/
  | completionTimeout (r : OutRead)
  /-- SCRUB_STEP (R544). A patrol scrub step reads a line and writes back a corrected error. -/
  | scrubStep (m loc addr : Nat) (res : ScrubRes) (pct : Nat)
  /-- DRAM_UE_READ (R546). An uncorrectable DRAM read returns poison, and the reader acts as R546 lays down. -/
  | dramUeRead (m loc addr : Nat) (reader : UeReader)
  /-- ROW_REMAP (R547). A row reaching the error limit, or giving an uncorrectable error, starts a copy to a remap target. -/
  | rowRemap (m loc : Nat)
  /-- REMAP_COPY_DONE (R547). The remap copy finishes and reads switch to the target row. -/
  | remapCopyDone (m e : Nat)
  /-- PPR_COMPLETE (R548). The post-package repair sequence completes or fails, and the final reply is written. -/
  | pprComplete (ok : Bool) (left : Nat)
  /-- SRAM_ROW_REPAIR (R549). An SRAM row with an uncorrectable or repeated error starts a copy to a soft spare. -/
  | sramRowRepair (g row : Nat) (ue : Bool)
  /-- SRAM_REPAIR_DONE (R549). The SRAM repair copy completes and reads switch at a tick boundary. -/
  | sramRepairDone (g row : Nat)
  /-- FUSE_COMMIT (R552). A write of RPR_FUSE_CMD.COMMIT burns uncommitted log entries into fuses. -/
  | fuseCommit (v : Word)
  /-- FUSE_COMMIT_DONE (R552). The fuse burn completes, or fails with FAIL set. -/
  | fuseCommitDone (ok : Bool)
  /-- DIE_TEMP_THRESHOLD (R583). The die temperature crosses the grade's warning or critical threshold. -/
  | dieTempThreshold (celsius : Int)
  /-- RAIL_WINDOW (R574). A core rail leaves or re-enters its warning or operating window. -/
  | railWindow (warn oper : Bool)
  /-- REFERENCE_RETURN (R37). A lost ETH_REFCLK or PCIE_REFCLK comes back into range, its CLK_STATUS bit sets and its condition source stops being present. -/
  | referenceReturn (clk : RefClk)
  /-- ROOT_PLL_UNLOCK (R446). The root PLL loses lock while running, latching Module-fatal source 1. -/
  | rootPllUnlock
  /-- LOCKSTEP_MISMATCH (R446). The two halves of a management lockstep pair disagree, latching Module-fatal source 50 or 51. -/
  | lockstepMismatch (pair : Nat)
  /-- LANTERN_READBACK (R446). The LANTERN ball level differs from the driven level for 1 µs, making Module-fatal source 55 present. -/
  | lanternReadback (differs : Bool)
  /-- CORE_UE (R557). An uncorrectable error in core-local arrays latches source 401 and raises a machine check. -/
  | coreUe (core : Nat)
  /-- BACKUP_POWER_CHANGEOVER (R568). VDD_IO18 crosses 1.60 or 1.62 V and the always-on domain changes over between main power and VBAT, changing which tamper windows are armed. -/
  | backupPowerChangeover (backup : Bool)
  /-- POWER_FAIL_DEASSERT (R471). PFAIL_N deasserts, letting release steps that waited on it begin while leaving the power-fail reaction in force. -/
  | powerFailDeassert
  /-- GPIO_INPUT_EDGE (R62). A filtered level change on a GPIO ball is stamped as a class 6 binary input with source number 8 + n. -/
  | gpioInputEdge (n : Nat) (level : Bool)
  /-- BAD_OPCODE (R402). Phiash takes a command entry whose VERSION or OPCODE is not valid and replies BAD_VERSION or BAD_OPCODE. -/
  | badOpcode (op : Nat) (h : Cmd)
  /-- CARRIAGE_IMAGE_ARRIVAL (R338). The whole of a carriage image sent over the Brace link arrives, fixing the warm or cold restore and its resume boundary. -/
  | carriageImageArrival (h : BrcHdr) (c : Nat) (img : CarImage)
  /-- CONFIGURATION_IMAGE (R338). The standby receives the active's configuration image of a state transfer and loads it for a route boundary. -/
  | configurationImage (h : BrcHdr) (img : ConfImage)
  /-- FORWARDED_REQUEST (R347). A command, Stageline request, switch agreement or state-transfer request forwarded by the partner arrives over the Brace link and is applied. -/
  | forwardedRequest (h : BrcHdr) (r : FwdReq)
  /-- RENDER_DONE (R440). Phiash finishes rendering a record as COMTRADE and writes the final reply with the bytes written or NO_RESOURCE; the .cfg
  texts of the lowest rate and of the higher ones, ascending. -/
  | renderDone (job : Nat) (cfg : List Nat) (more : List (List Nat))
  /-- FRAME_TX_END (R302). A frame finishes leaving the port, its cells return and a transmit queue completion is written once both PRP copies have left. -/
  | frameTxEnd (port : Nat)
  /-- PCIE_CONFIG_WRITE (R536). A host configuration write changes Bus Master Enable or the power state, governing whether outbound requests are refused. -/
  | pcieConfigWrite (bme d3 : Bool)
  /-- EXTEST (R529). A boundary-scan EXTEST instruction drives the field balls at debug level 3, or is refused outside Recovery. -/
  | extest (levels : List Nat)
deriving DecidableEq, Repr

end Sys2Proof
end

