-- ==== Sys2Proof/WellFormed.lean ====
section
/-! DEFINITION. Well-formed commands: operands within the ranges that the spec gives them (entry, port and engine numbers,
register offsets within the control space, fields of a word). A meaning whose row's operand has a range does nothing for an
operand outside it (log 23); no sender that follows the spec sends one. -/

namespace Sys2Proof.Machine

/-- A master ID of 17 R517. -/
def whoOk (w : Who) : Bool := w.master < 10

/-- A session number, header fields and parameter words as 13 R393 sizes them. -/
def cmdOk (h : Cmd) : Bool :=
  h.session < 64 && h.version < 256 && h.flags < 256 && h.tag < 2 ^ 32 && h.carriage < 65536 && h.p.length ≤ 13

/-- A signed 20-bit immediate of 07 R224. -/
def int20 (i : Int) : Bool := decide (-524288 ≤ i) && decide (i < 524288)

/-- What a halt may name (17 R529). -/
def haltOk : HaltTarget → Bool
  | .mgmt => true
  | .carriage c => c < 512
  | .other m => 2 ≤ m && m < 8

/-- A Brace message's header names a link (11 R322). -/
def hdrOk (h : BrcHdr) : Bool := h.link < 2 && h.unit < 2

end Sys2Proof.Machine

namespace Sys2Proof

open Machine

/-- Whether a command's operands lie in their ranges. -/
def wellFormed (i : Instr) : Bool :=
  match i with
  | .tick => true
  | .legBoundary bad => bad.all (fun c => c < 512)
  | .routeBoundary slots bad => slots.all (fun k => k < 256) && bad.all (fun c => c < 512)
  | .reservedAccess _ bytes _ => bytes ≤ 8
  | .registerWrite who off _ => whoOk who && off < 0x4000000
  | .rcRead who off => whoOk who && off < 0x4000000
  | .readLowWord off => off < 0x4000000
  | .timeSnapshot => true
  | .referenceLost _ => true
  | .ptpMessageRx port _ => port < 11
  | .holdoverEntry => true
  | .holdLimit => true
  | .ptpRoleWrite port _ => port < 11
  | .frameRx port _ => port < 11
  | .redEntryForget pair _ => pair < 5
  | .pfcPauseRx port prio _ => port < 11 && prio < 8
  | .pfcEnWrite port _ _ => port < 11
  | .frameTx port _ => port < 11
  | .gateEntryStart port entry => port < 11 && entry < 64
  | .tripWindow port _ => port < 10
  | .gclSwapRequest port => port < 11
  | .linkDown port => port < 11
  | .queueFlushDone port => port < 11
  | .linkUp port => port < 11
  | .synthUnlock port => port < 11
  | .synthLock port => port < 11
  | .macsecCtrlWrite port _ => port < 10
  | .fdbRead index => index < 16384
  | .fdbWriteStatic index => index < 16384
  | .fdbDelete index => index < 16384
  | .fdbAgeOut index => index < 16384
  | .wakeFrame port _ => port < 11
  | .svFrame port _ => port < 11
  | .legDeclare => true
  | .svEntryAgeOut entry => entry < 4096
  | .sauEntryRead entry => entry < 4096
  | .sauEntryCommit entry => entry < 4096
  | .sauInvalidate entry _ => entry < 4096
  | .sauInvalDone => true
  | .gather count _ _ => 1 ≤ count && count ≤ 16
  | .gatherDone => true
  | .filterStageRun lane ch => lane < 64 && ch < 32768
  | .trackHoldTimeout g => g < 1024
  | .fchDescRead table index => table < 3 && index < 32768
  | .fchDescCommit table index => table < 3 && index < 32768
  | .coefSwapRequest => true
  | .kPhasorDft e k => e < 34 && k < 65536
  | .kPhasorCos e k => e < 34 && k < 65536
  | .kSeq e k => e < 34 && k < 65536
  | .kImped e k => e < 34 && k < 65536
  | .kMho e k => e < 34 && k < 65536
  | .kQuad e k => e < 34 && k < 65536
  | .kDiff e k => e < 34 && k < 65536
  | .kFastOc e k => e < 34 && k < 65536
  | .kFastDiff e k => e < 34 && k < 65536
  | .kIdmt e k => e < 34 && k < 65536
  | .kFreq e k => e < 34 && k < 65536
  | .kPower e k => e < 34 && k < 65536
  | .kSync e k => e < 34 && k < 65536
  | .seatOverrun e => e < 34
  | .engineFault harness e => e < if harness then 17 else 34
  | .eenDescRead index => index < 65536
  | .eenDescCommit index => index < 65536
  | .inspectionResult kind _ => kind < 3
  | .harnessScan e c _ => e < 17 && c < 512
  | .hNop e => e < 17
  | .hLd e b _ => e < 17 && b < 2 ^ 20
  | .hAnd e b _ => e < 17 && b < 2 ^ 20
  | .hOr e b _ => e < 17 && b < 2 ^ 20
  | .hXor e b _ => e < 17 && b < 2 ^ 20
  | .hApush e => e < 17
  | .hOpush e => e < 17
  | .hXpush e => e < 17
  | .hPop e _ => e < 17
  | .hNot e => e < 17
  | .hSeta e _ => e < 17
  | .hSt e b _ => e < 17 && b < 2 ^ 20
  | .hSet e b => e < 17 && b < 2 ^ 20
  | .hRst e b => e < 17 && b < 2 ^ 20
  | .hRise e b => e < 17 && b < 2 ^ 20
  | .hFall e b => e < 17 && b < 2 ^ 20
  | .hTmr e n kind => e < 17 && n < 256 && kind < 3
  | .hCtu e n => e < 17 && n < 256
  | .hCtd e n => e < 17 && n < 256
  | .hCrst e n => e < 17 && n < 256
  | .hCld e n => e < 17 && n < 256
  | .hLdw e a => e < 17 && a < 2 ^ 14
  | .hLdi e imm => e < 17 && int20 imm
  | .hLdhi e v => e < 17 && v < 4096
  | .hStw e a _ => e < 17 && a < 2 ^ 14
  | .hAdd e a _ => e < 17 && a < 2 ^ 14
  | .hSub e a _ => e < 17 && a < 2 ^ 14
  | .hAddi e imm _ => e < 17 && int20 imm
  | .hCmp e a rel _ _ => e < 17 && a < 2 ^ 14 && rel < 6
  | .hCmpi e imm rel _ => e < 17 && int20 imm && rel < 6
  | .hInc e a => e < 17 && a < 2 ^ 14
  | .hDec e a => e < 17 && a < 2 ^ 14
  | .hAndw e a => e < 17 && a < 2 ^ 14
  | .hOrw e a => e < 17 && a < 2 ^ 14
  | .hXorw e a => e < 17 && a < 2 ^ 14
  | .hShf e n _ => e < 17 && n < 32
  | .hTstb e bit _ => e < 17 && bit < 32
  | .hJmp e k cond => e < 17 && 1 ≤ k && k < 65536 && cond < 3
  | .hEnd e => e < 17
  | .gooseFrameRx port cls _ _ => port < 11 && cls < 8
  | .gooseAliveExpiry entry => entry < 2048
  | .gsubEntryRead entry => entry < 2048
  | .gsubEntryCommit entry => entry < 2048
  | .gmapWrite _ => true
  | .hleLoad c _ => c < 512
  | .holdStep c => c < 512
  | .seatEntryWrite bank index word _ => bank < 2 && index < 8192 && word < 4
  | .seatBankSwapRequest => true
  | .arbSeatStart index => index < 8192
  | .readmission => true
  | .handOff => true
  | .gooseRepetition entry => entry < 2048
  | .tripFrameLate port => port < 11
  | .gpubEntryRead entry => entry < 2048
  | .gpubEntryCommit entry => entry < 2048
  | .pubMapWrite _ => true
  | .svpubEntryRead entry => entry < 256
  | .svpubEntryCommit entry => entry < 256
  | .pmuEntryRead entry => entry < 32
  | .pmuEntryCommit entry => entry < 32
  | .tsmapEntryWrite bank index word _ => bank < 2 && index < 4096 && word < 2
  | .tsmapSwapRequest => true
  | .queueContextRead c q => c < 512 && q < 2048
  | .queueContextCommit c q => c < 512 && q < 2048
  | .queueReset c q => c < 512 && q < 2048
  | .queueDoorbell c q prod => c < 512 && q < 2048 && prod < 65536
  | .descriptorFetch c q n => c < 512 && q < 2048 && n < 32768
  | .vecCtrlWrite c v _ => c < 512 && v < 32
  | .drainEnd c _ => c < 512
  | .braceLinkTraining link _ => link < 2
  | .braceLaneRetire link lane _ _ => link < 2 && lane < 5
  | .braceRetrainDone link => link < 2
  | .braceLinkDown link => link < 2
  | .partnerLost => true
  | .orphanTimeout => true
  | .mirrorCells h _ => hdrOk h
  | .declarationRecord h _ _ _ => hdrOk h
  | .unmirroredLeg => true
  | .p2CompletionList h _ => hdrOk h
  | .publicationMirror h _ _ => hdrOk h
  | .tripSeatImages h _ => hdrOk h
  | .digestTable h _ _ => hdrOk h
  | .configJournal h _ => hdrOk h
  | .braceTime _ _ _ ns => ns < 1000000000
  | .braceStatus h _ => hdrOk h
  | .failMessage h => hdrOk h
  | .partnerLanternEdge => true
  | .lanternTimeout => true
  | .pairWaitExpiry => true
  | .fence => true
  | .takeover => true
  | .plannedSwitch => true
  | .resyncComplete _ => true
  | .proofExchangeEnd seen => seen < 32
  | .waybillRx ch _ => ch < 2
  | .waybillTx ch => ch < 2
  | .waybillLoss ch => ch < 2
  | .coldStartTimeout ch => ch < 2
  | .backupWaybill ch _ => ch < 2
  | .seatTx ch seat prio _ => ch < 2 && seat < 48 && prio < 256
  | .seatFrameRx ch _ => ch < 2
  | .statusFrameTx ch => ch < 2
  | .statusFrameRx ch _ => ch < 2
  | .claimProcess => true
  | .guardFrame port _ _ _ _ _ => port < 30
  | .guardColdEntry => true
  | .guardPortUp port => port < 30
  | .guardPortDown port => port < 30
  | .guardReadmit port => port < 30
  | .guardNodeReset port => port < 30
  | .nodeResetOrderRx => true
  | .stlTableEntryWrite bank index _ => bank < 2 && index < 488
  | .stlTableSwapRequest route => route < 2 ^ 20
  | .imapSwapRequest => true
  | .syncEvent k => k < 16
  | .cmdDoorbell ses prod => ses < 64 && prod < 65536
  | .mgmtDatagram g count _ _ seg _ _ _ => g.ses < 64 && count ≤ 16 && seg.length ≤ 1024
  | .sessionRingCfgWrite ses reg _ => ses < 64 && reg ≤ 4
  | .sessionReset ses _ => ses < 64
  | .replyConsumerWrite ses _ => ses < 64
  | .cmdHello h => cmdOk h
  | .cmdBye h => cmdOk h
  | .cmdEcho h => cmdOk h
  | .cmdModuleStatus h => cmdOk h
  | .cmdCreate h _ => cmdOk h
  | .cmdDestroy h => cmdOk h
  | .cmdEnable h => cmdOk h
  | .cmdDisable h => cmdOk h
  | .cmdReset h => cmdOk h
  | .cmdHarnessMode h => cmdOk h
  | .cmdProgramLoad h _ => cmdOk h
  | .cmdSave h => cmdOk h
  | .cmdRestore h _ => cmdOk h
  | .cmdCarriageQuery h => cmdOk h
  | .cmdParamUpdate h _ => cmdOk h
  | .cmdStreamLive h _ => cmdOk h
  | .cmdStreamSuspend h => cmdOk h
  | .cmdStreamResume h => cmdOk h
  | .cmdStreamRetire h => cmdOk h
  | .cmdStreamGrant h => cmdOk h
  | .cmdStreamRevoke h => cmdOk h
  | .cmdLearnList h => cmdOk h
  | .cmdGsubCommit h _ _ => cmdOk h
  | .cmdGpubCommit h _ _ => cmdOk h
  | .cmdGpubState h => cmdOk h
  | .cmdSvpubCommit h _ => cmdOk h
  | .cmdPmuCommit h _ => cmdOk h
  | .cmdPmuCtrl h => cmdOk h
  | .cmdTripmap h _ => cmdOk h
  | .cmdTimeSource h => cmdOk h
  | .cmdFreeRunAccept h => cmdOk h
  | .cmdTimeStep h => cmdOk h
  | .cmdTimeLimits h => cmdOk h
  | .cmdPortPtp h => cmdOk h
  | .cmdHoldback h => cmdOk h
  | .cmdRecArm h _ => cmdOk h
  | .cmdRecDisarm h => cmdOk h
  | .cmdRecForce h => cmdOk h
  | .cmdRecRender h => cmdOk h
  | .cmdEvrRestart h => cmdOk h
  | .cmdKeyGenerate h => cmdOk h
  | .cmdKeyUnwrap h _ _ _ => cmdOk h
  | .cmdKeyDerive h ctx _ => cmdOk h && ctx.length ≤ 32
  | .cmdKeyDestroy h => cmdOk h
  | .cmdKeyInfo h => cmdOk h
  | .cmdLifecycle h => cmdOk h
  | .cmdBracePair h => cmdOk h
  | .cmdBraceResync h => cmdOk h
  | .cmdBraceSwitch h => cmdOk h
  | .cmdBraceProof h => cmdOk h
  | .cmdStlTable h _ => cmdOk h
  | .cmdStlImap h _ => cmdOk h
  | .cmdStlBackupSet h => cmdOk h
  | .cmdStlReadmit h => cmdOk h
  | .cmdStlNodeReset h => cmdOk h
  | .cmdModeSet h => cmdOk h
  | .cmdRetireUnit h => cmdOk h
  | .cmdRepairStatus h => cmdOk h
  | .cmdDramPpr h => cmdOk h
  | .cmdModuleReset h => cmdOk h
  | .cmdRecoveryWrite h _ data => cmdOk h && data.all (fun b => b < 256)
  | .cmdRecoveryCommit h _ => cmdOk h
  | .cmdDiagRead h => cmdOk h
  | .cmdDiagWrite h => cmdOk h
  | .cmdDiagLoopback h => cmdOk h
  | .cmdDiagSample h => cmdOk h
  | .cmdDiagInspect h => cmdOk h
  | .recorderLegTake r _ => r < 16
  | .trigInEdge b _ _ => b < 8
  | .itArm k => k < 4
  | .itCancel k => k < 4
  | .itTimeout k => k < 4
  | .recordSlotFree r _ => r < 16
  | .carriageFatalDisable => true
  | .sourceClear n => n < 416
  | .unitClear u => u < 32
  | .powerOnReset => true
  | .resetIn _ => true
  | .systemReset => true
  | .coreReset => true
  | .resetRelease r => r.memCfg.length == 4
  | .liveryUp => true
  | .watchdogKick _ => true
  | .watchdogWarn => true
  | .watchdogExpiry => true
  | .startTimeout => true
  | .rstCmdCore => true
  | .rstCmdSystem => true
  | .rstCmdPark => true
  | .powerFail => true
  | .pfailAck => true
  | .modeRequest _ => true
  | .cdrvSelWrite b _ => b < 8
  | .debugResetRequest _ => true
  | .tamperAlarm sensor _ _ => sensor < 5
  | .tamperAlarmBackup sensor _ _ => sensor < 5
  | .unlockWrite who _ => whoOk who
  | .unlockExpiry => true
  | .slotZero who _ => whoOk who
  | .tamperLogClear who _ => whoOk who
  | .trngReady => true
  | .trngStartupTimeout => true
  | .trngTestFail => true
  | .debugAuth level _ => level ≤ 3
  | .debugRead addr => addr < 2 ^ 39
  | .debugHalt t => haltOk t
  | .debugResume t => haltOk t
  | .debugSessionClose => true
  | .bridgeReset => true
  | .pcieLinkUp rate lanes => 1 ≤ rate && rate ≤ 5 && 1 ≤ lanes && lanes ≤ 8
  | .inboundWrite off _ _ => off < 0x4000000
  | .inboundRead off => off < 0x4000000
  | .bar2Access _ len data => 1 ≤ len && data.all (fun l => l.length == len && l.all (fun b => b < 256))
  | .prefetchDiscard => true
  | .flushingRead r => r.n ≤ 16
  | .outboundBackoff => true
  | .completionTimeout r => r.n ≤ 16
  | .scrubStep m loc addr _ pct => m < 4 && loc < 2 ^ 27 && pct ≤ 100 && addr / 256 % 4 == m
  | .dramUeRead m loc addr _ => m < 4 && loc < 2 ^ 27 && addr / 256 % 4 == m
  | .rowRemap m loc => m < 4 && loc < 2 ^ 27
  | .remapCopyDone m e => m < 4 && e < 16
  | .pprComplete _ _ => true
  | .sramRowRepair g row _ => g < 8 && row < 2 ^ 24
  | .sramRepairDone g row => g < 8 && row < 2 ^ 24
  | .fuseCommit _ => true
  | .fuseCommitDone _ => true
  | .dieTempThreshold _ => true
  | .railWindow _ _ => true
  | .referenceReturn _ => true
  | .rootPllUnlock => true
  | .lockstepMismatch pair => pair < 2
  | .lanternReadback _ => true
  | .coreUe core => core < 256
  | .backupPowerChangeover _ => true
  | .powerFailDeassert => true
  | .gpioInputEdge n _ => n < 16
  | .badOpcode op h => cmdOk h && op < 65536
  | .carriageImageArrival h c _ => hdrOk h && c < 512
  | .configurationImage h _ => hdrOk h
  | .forwardedRequest h _ => hdrOk h
  | .renderDone _ cfg more => (cfg :: more).all (fun l => l.all (fun b => b < 256))
  | .frameTxEnd port => port < 11
  | .pcieConfigWrite _ _ => true
  | .extest levels => levels.all (fun l => l < 2)

end Sys2Proof
end

