-- ==== Sys2Proof/Decode.lean ====
section
/-! DEFINITION. Words that spell a command. The rows of spec/opcode_table.json give no bits: a command reaches the block as an
event with operands, not as a word, so no word spells one. -/

namespace Sys2Proof

/-- One row's bits: how many, their mask and pattern, and the command they spell. -/
structure WordRow where
  bits    : Nat
  mask    : Nat
  pattern : Nat
  cmd     : Instr
deriving DecidableEq, Repr

/-- The rows of the opcode table that give bits: none does. -/
def wordRows : List WordRow := []

/-- The command that a word spells by the table's bits. -/
def decodeTableWord (nbits w : Nat) : Option Instr :=
  (wordRows.find? (fun r => r.bits == nbits && w &&& r.mask == r.pattern)).map (fun r => r.cmd)

end Sys2Proof
end

