-- ==== Sys2Proof/Config.lean ====
section
/-! DEFINITION. What an implementation fixes and the spec leaves open, and the free values: constants with no body,
so that no statement can rest on their value. Each is named in the assumption log. -/

namespace Sys2Proof.Config

/-- A free value: what the spec does not state, for the `n`-th time one is needed (log 5). -/
opaque freeWord : Nat → Word

/-- A free natural number (log 5). -/
opaque freeNat : Nat → Nat

/-- Whether the part is of the industrial grade (00_scope R1, 16 R496). -/
opaque gradeIndustrial : Bool

/-- GLB_ID [31:24] (16 R496). -/
opaque siliconRevision : Nat

end Sys2Proof.Config

namespace Sys2Proof.Config

/-- The drift estimate beta of a fit whose indices do not spread: R119 divides by 0 there (log 5). -/
opaque fitDegenerate : Nat → Int

/-- The lead of a filled slot, which R129 does not state (log 5). -/
opaque fillLead : Nat → Nat → Nat

end Sys2Proof.Config

namespace Sys2Proof.Config

/-- A coefficient of the filter ROM: bank, phase, tap, an 18-bit Q1.17 number (05 R148 states responses, not numbers; log 10). -/
opaque coefRom (bank phase tap : Nat) : BitVec 18

/-- The CRC-32 of a list of words: the spec does not give its polynomial (log 11). -/
opaque crc32 : List Nat → Word

/-- Which float within 2 ulp of its number the engine's function ROM gives: function (0 sine, 1 cosine, 2 atan2, 3 exp2, 4 log2, 5 and 6
cosine and sine of 64ths of a turn) and its arguments' bits (06 R196; log 13). -/
opaque romPick (fn a b : Nat) : Nat

end Sys2Proof.Config

namespace Sys2Proof.Config

/-- Bytes of the encoded frame of a GOOSE entry, an SV entry or a synchrophasor stream with its map words: the spec gives no
encoding lengths (log 15). -/
opaque gooseLen : List Nat → Nat
opaque svLen : List Nat → Nat
opaque pmuLen : List Nat → Nat

end Sys2Proof.Config

namespace Sys2Proof.Config

/-- Bytes of a carriage image's body by what the carriage was granted, and the words its header and its encrypted body hold where the
spec does not fix them: nonce, digest, section offsets, ciphertext and tag (10 R313, R314; log 18). -/
opaque imageLen : List Nat → Nat
opaque imageWord : Nat → Nat → Nat

end Sys2Proof.Config

namespace Sys2Proof.Config

/-- Whether CRC-64 takes the bits of a byte lowest first: 11 R335 gives polynomial, initial value and final XOR, not the order of
bits (log 21). -/
opaque crc64LowFirst : Bool

/-- The Device Serial Number from fuses (18 R533). -/
opaque deviceSerial : Nat

end Sys2Proof.Config

namespace Sys2Proof.Config

/-- The key that the KDF of 17 R515 gives: source key, context bytes, bits of output. Key material is not modelled (log 9). -/
opaque kdf (key : Nat) (context : List Nat) (bits : Nat) : Nat

end Sys2Proof.Config
end

