-- ==== Sys2Proof/Machine/Bits.lean ====
section
/-! DEFINITION. Bit fields of words, signed readings, saturation and the sparse tables the model uses. -/

namespace Sys2Proof.Machine

/-- Field of `n` bits from bit `lo` of `w`. -/
def fld (w lo n : Nat) : Nat := w / 2 ^ lo % 2 ^ n

/-- Bit `i` of `w`. -/
def bitOf (w i : Nat) : Bool := w / 2 ^ i % 2 == 1

/-- `w` with the field of `n` bits from bit `lo` set to `v` (reduced to the field's width). -/
def putFld (w lo n v : Nat) : Nat := w - fld w lo n * 2 ^ lo + v % 2 ^ n * 2 ^ lo

/-- A Bool as the bit it is in a register. -/
def b2n (b : Bool) : Nat := if b then 1 else 0

/-- The signed number whose two's complement of `n` bits is `w`. -/
def sx (n w : Nat) : Int :=
  if w % 2 ^ n < 2 ^ (n - 1) then (w % 2 ^ n : Nat) else ((w % 2 ^ n : Nat) : Int) - ((2 ^ n : Nat) : Int)

/-- The two's complement of `n` bits of `i`. -/
def wrapN (n : Nat) (i : Int) : Nat := (i % ((2 ^ n : Nat) : Int)).toNat

/-- `i` limited to the range of a signed number of `n` bits. -/
def satS (n : Nat) (i : Int) : Int :=
  if i < -((2 ^ (n - 1) : Nat) : Int) then -((2 ^ (n - 1) : Nat) : Int)
  else if ((2 ^ (n - 1) : Nat) : Int) - 1 < i then ((2 ^ (n - 1) : Nat) : Int) - 1 else i

/-- `i` limited to magnitude `m`. -/
def clampMag (m i : Int) : Int := if m < i then m else if i < -m then -m else i

/-- Floor division by a power of two. -/
def shrI (i : Int) (n : Nat) : Int := i / ((2 ^ n : Nat) : Int)

/-- Round to nearest, ties to even, of `num / den` (`den` positive). -/
def rneDiv (num den : Int) : Int :=
  let q := num / den
  let r := num % den
  if 2 * r < den then q else if den < 2 * r then q + 1 else if q % 2 == 0 then q else q + 1

/-- A 32-bit saturating counter's next value (15 R462: counters are 32-bit and saturating). -/
def satInc (n : Nat) : Nat := if n < 0xFFFFFFFF then n + 1 else 0xFFFFFFFF

/-- The number whose bits, lowest first, are `bs`. -/
def ofBits : List Bool → Nat
  | [] => 0
  | b :: bs => b2n b + 2 * ofBits bs

/-- The word of a number. -/
def w32 (n : Nat) : Word := BitVec.ofNat 32 n

/-- A list with no repeats and its elements in the order they first stood. -/
def dedup : List Nat → List Nat
  | [] => []
  | a :: l => a :: (dedup l).filter (fun x => x != a)

/-- First `n` elements, padded with `d` when there are fewer. -/
def takePad {α : Type} (d : α) : Nat → List α → List α
  | 0, _ => []
  | n + 1, [] => d :: takePad d n []
  | n + 1, a :: l => a :: takePad d n l

/-- Element `i`, or `d` past the end. -/
def nth {α : Type} (d : α) (l : List α) (i : Nat) : α := (l[i]?).getD d

/-- Word `w` of an entry or a descriptor. -/
def entW (e : List Nat) (w : Nat) : Nat := nth 0 e w

/-- `l` with element `i` replaced, where it has one. -/
def setNth {α : Type} : List α → Nat → α → List α
  | [], _, _ => []
  | _ :: l, 0, v => v :: l
  | a :: l, i + 1, v => a :: setNth l i v

/-- `a` put into a sorted list before the first element it may stand before. -/
def ordIns {α : Type} (le : α → α → Bool) (a : α) : List α → List α
  | [] => [a]
  | b :: l => if le a b then a :: b :: l else b :: ordIns le a l

/-- A list sorted; equal elements keep their order. -/
def isort {α : Type} (le : α → α → Bool) : List α → List α
  | [] => []
  | a :: l => ordIns le a (isort le l)

/-! Sparse tables: key and value pairs, keys rising. -/

/-- A sparse table. -/
abbrev Tbl (α : Type) := List (Nat × α)

/-- The entry at a key. -/
def tfind {α : Type} : Tbl α → Nat → Option α
  | [], _ => none
  | (a, x) :: t, k => if a = k then some x else tfind t k

/-- The table with no entry at a key. -/
def tdel {α : Type} : Tbl α → Nat → Tbl α
  | [], _ => []
  | (a, x) :: t, k => if a = k then tdel t k else (a, x) :: tdel t k

/-- The table with an entry placed before the first larger key. -/
def tins {α : Type} : Tbl α → Nat → α → Tbl α
  | [], k, v => [(k, v)]
  | (a, x) :: t, k, v => if k < a then (k, v) :: (a, x) :: t else (a, x) :: tins t k v

/-- The table with the value at a key replaced. -/
def tput {α : Type} (t : Tbl α) (k : Nat) (v : α) : Tbl α := tins (tdel t k) k v

/-- The value at a key of a table whose other keys hold `d`. -/
def tget {α : Type} (d : α) (t : Tbl α) (k : Nat) : α := (tfind t k).getD d

/-- A table whose other keys hold `d`, with one value replaced: no entry equals `d`. -/
def tset {α : Type} [DecidableEq α] (d : α) (t : Tbl α) (k : Nat) (v : α) : Tbl α :=
  if v = d then tdel t k else tput t k v

/-- The keys of a table. -/
def tkeys {α : Type} (t : Tbl α) : List Nat := t.map (fun p => p.1)

/-- Every value of a table mapped with its key. -/
def tmap {α β : Type} (f : Nat → α → β) (t : Tbl α) : Tbl β := t.map (fun p => (p.1, f p.1 p.2))

end Sys2Proof.Machine
end

