-- ==== Sys2Proof/Machine/RegMap.lean ====
section
/-! DEFINITION. The control-space offset of every register, one name per register table row of the spec
(00_scope R4 to R6 give the block bases; the docstring of each name gives its rule). -/

namespace Sys2Proof.Machine.Reg

/-- CLK_STATUS (R65, RO). -/
def clkStatus : Nat := 0x10000
/-- CLK_RPLL_NDIV (R65, RO). -/
def clkRpllNdiv : Nat := 0x10004
/-- CLK_MON_CFG (R65, RWB). -/
def clkMonCfg : Nat := 0x10008
/-- CLK_EVT (R65, W1C). -/
def clkEvt : Nat := 0x1000c
/-- CLK_DOMAIN_ON (R65, RO). -/
def clkDomainOn : Nat := 0x10010
/-- CLK_HIST_TC_k (R65, RO). -/
def clkHistTc (k : Nat) : Nat := 0x10100 + k * 0x8
/-- CLK_HIST_CAUSE_k (R65, RO). -/
def clkHistCause (k : Nat) : Nat := 0x10104 + k * 0x8
/-- TIM_CTRL (R66, RW). -/
def timCtrl : Nat := 0x30000
/-- TIM_STATUS (R66, RO). -/
def timStatus : Nat := 0x30004
/-- TIM_SEC_LO (R66, RO). -/
def timSecLo : Nat := 0x30008
/-- TIM_SEC_HI (R66, RO). -/
def timSecHi : Nat := 0x3000c
/-- TIM_NS (R66, RO). -/
def timNs : Nat := 0x30010
/-- TIM_FRAC (R66, RO). -/
def timFrac : Nat := 0x30014
/-- TIM_TICKCODE (R66, RO). -/
def timTickcode : Nat := 0x30018
/-- TIM_ADDEND_LO (R66, RO). -/
def timAddendLo : Nat := 0x3001c
/-- TIM_ADDEND_HI (R66, RO). -/
def timAddendHi : Nat := 0x30020
/-- TIM_RATE (R66, RO). -/
def timRate : Nat := 0x30024
/-- TIM_PHASE_RATE (R66, RO). -/
def timPhaseRate : Nat := 0x30028
/-- TIM_SLEW_MAX (R66, RW). -/
def timSlewMax : Nat := 0x3002c
/-- TIM_OFFSET (R66, RO). -/
def timOffset : Nat := 0x30030
/-- TIM_OFS_WARN (R66, RW). -/
def timOfsWarn : Nat := 0x30034
/-- TIM_HOLD_LIMIT (R66, RW). -/
def timHoldLimit : Nat := 0x30038
/-- TIM_UTC_OFFSET (R66, RO). -/
def timUtcOffset : Nat := 0x3003c
/-- TIM_EVT (R66, W1C). -/
def timEvt : Nat := 0x30040
/-- TIM_P_CFG (R66, RW). -/
def timPCfg (n : Nat) : Nat := 0x30100 + n * 0x20
/-- TIM_P_RX_LAT (R66, RW). -/
def timPRxLat (n : Nat) : Nat := 0x30104 + n * 0x20
/-- TIM_P_TX_LAT (R66, RW). -/
def timPTxLat (n : Nat) : Nat := 0x30108 + n * 0x20
/-- TIM_P_RX_ASYM (R66, RW). -/
def timPRxAsym (n : Nat) : Nat := 0x3010c + n * 0x20
/-- TIM_P_TX_ASYM (R66, RW). -/
def timPTxAsym (n : Nat) : Nat := 0x30110 + n * 0x20
/-- TIM_P_PDELAY (R66, RO). -/
def timPPdelay (n : Nat) : Nat := 0x30114 + n * 0x20
/-- TIM_P_OFFSET (R66, RO). -/
def timPOffset (n : Nat) : Nat := 0x30118 + n * 0x20
/-- TIM_P_STAT (R66, RO). -/
def timPStat (n : Nat) : Nat := 0x3011c + n * 0x20
/-- ETH_CTRL (R97, RW). -/
def ethCtrl (n : Nat) : Nat := 0x100000 + n * 0x10000
/-- ETH_STATUS (R97, RO). -/
def ethStatus (n : Nat) : Nat := 0x100004 + n * 0x10000
/-- ETH_EVT (R97, W1C). -/
def ethEvt (n : Nat) : Nat := 0x100008 + n * 0x10000
/-- ETH_MAXLEN (R97, RWM). -/
def ethMaxlen (n : Nat) : Nat := 0x10000c + n * 0x10000
/-- ETH_MAC_LO (R97, RW). -/
def ethMacLo (n : Nat) : Nat := 0x100010 + n * 0x10000
/-- ETH_MAC_HI (R97, RW). -/
def ethMacHi (n : Nat) : Nat := 0x100014 + n * 0x10000
/-- ETH_PFC_EN (R97, RW). -/
def ethPfcEn (n : Nat) : Nat := 0x100018 + n * 0x10000
/-- ETH_PAUSE_STATE (R97, RO). -/
def ethPauseState (n : Nat) : Nat := 0x10001c + n * 0x10000
/-- ETH_SAMPLE_N (R97, RW). -/
def ethSampleN (n : Nat) : Nat := 0x100020 + n * 0x10000
/-- ETH_RX_FRAMES (R97, RC). -/
def ethRxFrames (n : Nat) : Nat := 0x100100 + n * 0x10000
/-- ETH_RX_FCS_ERR (R97, RC). -/
def ethRxFcsErr (n : Nat) : Nat := 0x100104 + n * 0x10000
/-- ETH_RX_TOO_LONG (R97, RC). -/
def ethRxTooLong (n : Nat) : Nat := 0x100108 + n * 0x10000
/-- ETH_TX_FRAMES (R97, RC). -/
def ethTxFrames (n : Nat) : Nat := 0x10010c + n * 0x10000
/-- ETH_TX_DROP_NRDY (R97, RC). -/
def ethTxDropNrdy (n : Nat) : Nat := 0x100110 + n * 0x10000
/-- ETH_TX_DROP_FLUSH (R97, RC). -/
def ethTxDropFlush (n : Nat) : Nat := 0x100114 + n * 0x10000
/-- ETH_PFC_IGNORED (R97, RC). -/
def ethPfcIgnored (n : Nat) : Nat := 0x100118 + n * 0x10000
/-- ETH_SAMPLE_LOST (R97, RC). -/
def ethSampleLost (n : Nat) : Nat := 0x10011c + n * 0x10000
/-- ETH_SEC_CTRL (R97, RW). -/
def ethSecCtrl (n : Nat) : Nat := 0x100200 + n * 0x10000
/-- ETH_SEC_TX_SA_a (R97, RW). -/
def ethSecTxSa (n : Nat) (a : Nat) : Nat := 0x100204 + n * 0x10000 + a * 0x4
/-- ETH_SEC_RX_SA_a (R97, RW). -/
def ethSecRxSa (n : Nat) (a : Nat) : Nat := 0x100214 + n * 0x10000 + a * 0x4
/-- ETH_SEC_REPLAY (R97, RW). -/
def ethSecReplay (n : Nat) : Nat := 0x100224 + n * 0x10000
/-- ETH_SEC_TX_PN (R97, RO). -/
def ethSecTxPn (n : Nat) : Nat := 0x100228 + n * 0x10000
/-- ETH_SEC_DROP (R97, RC). -/
def ethSecDrop (n : Nat) : Nat := 0x10022c + n * 0x10000
/-- SWC_CTRL (R98, RW). -/
def swcCtrl : Nat := 0x200000
/-- SWC_FREE (R98, RO). -/
def swcFree : Nat := 0x200004
/-- SWC_FREE_MIN (R98, RC). -/
def swcFreeMin : Nat := 0x200008
/-- SWC_AGE_ROUTES (R98, RW). -/
def swcAgeRoutes : Nat := 0x20000c
/-- SWC_EVT (R98, W1C). -/
def swcEvt : Nat := 0x200010
/-- SWC_ETYPE_i (R98, RW). -/
def swcEtype (i : Nat) : Nat := 0x200100 + i * 0x4
/-- SWC_Q_THR (R98, RW). -/
def swcQThr (p : Nat) (c : Nat) : Nat := 0x200200 + p * 0x20 + c * 0x4
/-- SWC_Q_OCC (R98, RO). -/
def swcQOcc (p : Nat) (c : Nat) : Nat := 0x200400 + p * 0x20 + c * 0x4
/-- SWC_Q_DROP (R98, RC). -/
def swcQDrop (p : Nat) (c : Nat) : Nat := 0x200600 + p * 0x20 + c * 0x4
/-- SWC_RED_CFG (R98, RWM). -/
def swcRedCfg (k : Nat) : Nat := 0x200800 + k * 0x20
/-- SWC_RED_FORGET (R98, RW). -/
def swcRedForget (k : Nat) : Nat := 0x200804 + k * 0x20
/-- SWC_RED_DUP (R98, RC). -/
def swcRedDup (k : Nat) : Nat := 0x200808 + k * 0x20
/-- SWC_RED_UNIQUE (R98, RC). -/
def swcRedUnique (k : Nat) : Nat := 0x20080c + k * 0x20
/-- SWC_RED_WRONG_LAN (R98, RC). -/
def swcRedWrongLan (k : Nat) : Nat := 0x200810 + k * 0x20
/-- SWC_FDB_CMD (R98, WO). -/
def swcFdbCmd : Nat := 0x200900
/-- SWC_FDB_DATA0 (R98, RW). -/
def swcFdbData0 : Nat := 0x200904
/-- SWC_FDB_DATA1 (R98, RW). -/
def swcFdbData1 : Nat := 0x200908
/-- SWC_FDB_DATA2 (R98, RW). -/
def swcFdbData2 : Nat := 0x20090c
/-- SWC_FDB_COUNT (R98, RO). -/
def swcFdbCount : Nat := 0x200910
/-- SWC_GCL_CTRL (R98, RW). -/
def swcGclCtrl (p : Nat) : Nat := 0x201000 + p * 0x400
/-- SWC_GCL_SCHED (R98, RW). -/
def swcGclSched (p : Nat) : Nat := 0x201004 + p * 0x400
/-- SWC_GCL_STATUS (R98, RO). -/
def swcGclStatus (p : Nat) : Nat := 0x201008 + p * 0x400
/-- SWC_GCL_ENTRY (R98, RW). -/
def swcGclEntry (p : Nat) (b : Nat) (e : Nat) : Nat := 0x201100 + p * 0x400 + b * 0x100 + e * 0x4
/-- SWC_WAKE_CTRL (R98, RW). -/
def swcWakeCtrl : Nat := 0x204000
/-- SWC_WAKE_STATUS (R98, W1C). -/
def swcWakeStatus : Nat := 0x204004
/-- SWC_WAKE_PAT (R98, RW). -/
def swcWakePat (w : Nat) (i : Nat) : Nat := 0x204100 + w * 0x100 + i * 0x4
/-- SWC_WAKE_MASK (R98, RW). -/
def swcWakeMask (w : Nat) (i : Nat) : Nat := 0x204180 + w * 0x100 + i * 0x4
/-- SWC_WAKE_LEN (R98, RW). -/
def swcWakeLen (w : Nat) : Nat := 0x204190 + w * 0x100
/-- SAU_CTRL (R135, RW). -/
def sauCtrl : Nat := 0x300000
/-- SAU_STATUS (R135, RO). -/
def sauStatus : Nat := 0x300004
/-- SAU_EVT (R135, W1C). -/
def sauEvt : Nat := 0x300008
/-- SAU_LEARN_MAX (R135, RW). -/
def sauLearnMax : Nat := 0x30000c
/-- SAU_AGE_ROUTES (R135, RW). -/
def sauAgeRoutes : Nat := 0x300010
/-- SAU_LOSS_LEGS (R135, RW). -/
def sauLossLegs : Nat := 0x300014
/-- SAU_FIT_CFG (R135, RW). -/
def sauFitCfg : Nat := 0x300018
/-- SAU_FIT_GATE (R135, RW). -/
def sauFitGate : Nat := 0x30001c
/-- SAU_INVAL (R135, WO). -/
def sauInval : Nat := 0x300020
/-- SAU_INVAL_STATUS (R135, RO). -/
def sauInvalStatus : Nat := 0x300024
/-- SAU_DISC_LOST (R135, RC). -/
def sauDiscLost : Nat := 0x300028
/-- SAU_BADPORT (R135, RC). -/
def sauBadport : Nat := 0x30002c
/-- SAU_ECC_CORR (R135, RC). -/
def sauEccCorr : Nat := 0x300030
/-- SAU_ECC_UNCORR (R135, RC). -/
def sauEccUncorr : Nat := 0x300034
/-- SAU_ENT_STAGE_w (R135, RW). -/
def sauEntStage (w : Nat) : Nat := 0x300100 + w * 0x4
/-- SAU_ENT_CMD (R135, WO). -/
def sauEntCmd : Nat := 0x300180
/-- SAU_ENT_STATUS (R135, RO). -/
def sauEntStatus : Nat := 0x300184
/-- SAU_GATHER_IDX_i (R135, RW). -/
def sauGatherIdx (i : Nat) : Nat := 0x300200 + i * 0x4
/-- SAU_GATHER_CMD (R135, WO). -/
def sauGatherCmd : Nat := 0x300240
/-- SAU_GATHER_STATUS (R135, RO). -/
def sauGatherStatus : Nat := 0x300244
/-- SAU_GATHER_VAL_i (R135, RO). -/
def sauGatherVal (i : Nat) : Nat := 0x300280 + i * 0x4
/-- SAU_GATHER_QUAL_j (R135, RO). -/
def sauGatherQual (j : Nat) : Nat := 0x3002c0 + j * 0x4
/-- SAU_S_STATE (R135, RO). -/
def sauSState (s : Nat) : Nat := 0x310000 + s * 0x40
/-- SAU_S_LAT (R135, RO). -/
def sauSLat (s : Nat) : Nat := 0x310004 + s * 0x40
/-- SAU_S_ANCHOR_N (R135, RO). -/
def sauSAnchorN (s : Nat) : Nat := 0x310008 + s * 0x40
/-- SAU_S_ANCHOR (R135, RO). -/
def sauSAnchor (s : Nat) : Nat := 0x31000c + s * 0x40
/-- SAU_S_DRIFT (R135, RO). -/
def sauSDrift (s : Nat) : Nat := 0x310010 + s * 0x40
/-- SAU_S_RESID_RMS (R135, RO). -/
def sauSResidRms (s : Nat) : Nat := 0x310014 + s * 0x40
/-- SAU_S_FRAMES (R135, RC). -/
def sauSFrames (s : Nat) : Nat := 0x310018 + s * 0x40
/-- SAU_S_LATE (R135, RC). -/
def sauSLate (s : Nat) : Nat := 0x31001c + s * 0x40
/-- SAU_S_FILLED (R135, RC). -/
def sauSFilled (s : Nat) : Nat := 0x310020 + s * 0x40
/-- SAU_S_INVALID (R135, RC). -/
def sauSInvalid (s : Nat) : Nat := 0x310024 + s * 0x40
/-- SAU_S_SLIPS (R135, RC). -/
def sauSSlips (s : Nat) : Nat := 0x310028 + s * 0x40
/-- SAU_S_OUTLIERS (R135, RC). -/
def sauSOutliers (s : Nat) : Nat := 0x31002c + s * 0x40
/-- SAU_S_DROP (R135, RC). -/
def sauSDrop (s : Nat) : Nat := 0x310030 + s * 0x40
/-- SAU_S_DROP_CAUSE (R135, RO). -/
def sauSDropCause (s : Nat) : Nat := 0x310034 + s * 0x40
/-- SAU_S_LAST_TC (R135, RO). -/
def sauSLastTc (s : Nat) : Nat := 0x310038 + s * 0x40
/-- SAU_ENT_s (R135, RO). -/
def sauEnt (s : Nat) (i : Nat) : Nat := 0x380000 + s * 0x80 + i * 0x4
/-- FCH_CTRL (R166, RW). -/
def fchCtrl : Nat := 0x400000
/-- FCH_STATUS (R166, RO). -/
def fchStatus : Nat := 0x400004
/-- FCH_EVT (R166, W1C). -/
def fchEvt : Nat := 0x400008
/-- FCH_SAT_CNT (R166, RC). -/
def fchSatCnt : Nat := 0x40000c
/-- FCH_BEHIND_CNT (R166, RC). -/
def fchBehindCnt : Nat := 0x400010
/-- FCH_COEF_CTRL (R166, RWM). -/
def fchCoefCtrl : Nat := 0x400014
/-- FCH_COEF_CRC (R166, RO). -/
def fchCoefCrc : Nat := 0x400018
/-- FCH_LANE_RET_LO (R166, RO). -/
def fchLaneRetLo : Nat := 0x40001c
/-- FCH_LANE_RET_HI (R166, RO). -/
def fchLaneRetHi : Nat := 0x400020
/-- FCH_DESC_STAGE_w (R166, RW). -/
def fchDescStage (w : Nat) : Nat := 0x400100 + w * 0x4
/-- FCH_DESC_CMD (R166, WO). -/
def fchDescCmd : Nat := 0x400120
/-- FCH_DESC_STATUS (R166, RO). -/
def fchDescStatus : Nat := 0x400124
/-- FCH_T_FREQ (R166, RO). -/
def fchTFreq (g : Nat) : Nat := 0x410000 + g * 0x10
/-- FCH_T_DPSI (R166, RO). -/
def fchTDpsi (g : Nat) : Nat := 0x410004 + g * 0x10
/-- FCH_T_STATUS (R166, RO). -/
def fchTStatus (g : Nat) : Nat := 0x410008 + g * 0x10
/-- FCH_T_CYCLES (R166, RC). -/
def fchTCycles (g : Nat) : Nat := 0x41000c + g * 0x10
/-- FCH_COEF_ROM (R166, RO). -/
def fchCoefRom (b : Nat) (p : Nat) (k : Nat) : Nat := 0x420000 + b * 0x4000 + p * 0x40 + k * 0x4
/-- FCH_COEF_LOAD (R166, RWM). -/
def fchCoefLoad (p : Nat) (k : Nat) : Nat := 0x430000 + p * 0x40 + k * 0x4
/-- FCH_L_STATUS (R166, RO). -/
def fchLStatus (l : Nat) : Nat := 0x440000 + l * 0x10
/-- FCH_L_TICK_CYC (R166, RO). -/
def fchLTickCyc (l : Nat) : Nat := 0x440004 + l * 0x10
/-- FCH_L_ROUTE_CYC (R166, RC). -/
def fchLRouteCyc (l : Nat) : Nat := 0x440008 + l * 0x10
/-- EEN_CTRL (R203, RW). -/
def eenCtrl : Nat := 0x500000
/-- EEN_STATUS (R203, RO). -/
def eenStatus : Nat := 0x500004
/-- EEN_EVT (R203, W1C). -/
def eenEvt : Nat := 0x500008
/-- EEN_NUMERR_CNT (R203, RC). -/
def eenNumerrCnt : Nat := 0x50000c
/-- EEN_STALE_CNT (R203, RC). -/
def eenStaleCnt : Nat := 0x500010
/-- EEN_RET_LO (R203, RO). -/
def eenRetLo : Nat := 0x500014
/-- EEN_RET_HI (R203, RO). -/
def eenRetHi : Nat := 0x500018
/-- EEN_INSPECT_LAST (R203, RO). -/
def eenInspectLast : Nat := 0x50001c
/-- EEN_KCAT_VER (R203, RO). -/
def eenKcatVer : Nat := 0x500020
/-- EEN_DESC_BASE_LO (R203, RWB). -/
def eenDescBaseLo : Nat := 0x500024
/-- EEN_DESC_BASE_HI (R203, RWB). -/
def eenDescBaseHi : Nat := 0x500028
/-- EEN_DESC_STAGE_w (R203, RW). -/
def eenDescStage (w : Nat) : Nat := 0x500100 + w * 0x4
/-- EEN_DESC_CMD (R203, WO). -/
def eenDescCmd : Nat := 0x500140
/-- EEN_DESC_STATUS (R203, RO). -/
def eenDescStatus : Nat := 0x500144
/-- EEN_E_STATUS (R203, RO). -/
def eenEStatus (e : Nat) : Nat := 0x510000 + e * 0x20
/-- EEN_E_TICK_CYC (R203, RO). -/
def eenETickCyc (e : Nat) : Nat := 0x510004 + e * 0x20
/-- EEN_E_ROUTE_CYC (R203, RC). -/
def eenERouteCyc (e : Nat) : Nat := 0x510008 + e * 0x20
/-- EEN_E_FAULTS (R203, RC). -/
def eenEFaults (e : Nat) : Nat := 0x51000c + e * 0x20
/-- EEN_E_CAUSE (R203, RO). -/
def eenECause (e : Nat) : Nat := 0x510010 + e * 0x20
/-- HLE_CTRL (R242, RW). -/
def hleCtrl : Nat := 0x600000
/-- HLE_STATUS (R242, RO). -/
def hleStatus : Nat := 0x600004
/-- HLE_EVT (R242, W1C). -/
def hleEvt : Nat := 0x600008
/-- HLE_RET_MAP (R242, RO). -/
def hleRetMap : Nat := 0x60000c
/-- HLE_INSPECT_LAST (R242, RO). -/
def hleInspectLast : Nat := 0x600010
/-- HLE_ISA_VER (R242, RO). -/
def hleIsaVer : Nat := 0x600014
/-- HLE_SCAN_LOST (R242, RC). -/
def hleScanLost : Nat := 0x600018
/-- HLE_LOAD_CMD (R242, WO). -/
def hleLoadCmd : Nat := 0x600020
/-- HLE_LOAD_ADDR_LO (R242, RW). -/
def hleLoadAddrLo : Nat := 0x600024
/-- HLE_LOAD_ADDR_HI (R242, RW). -/
def hleLoadAddrHi : Nat := 0x600028
/-- HLE_LOAD_STATUS (R242, RO). -/
def hleLoadStatus : Nat := 0x60002c
/-- HLE_G_NOMATCH (R242, RC). -/
def hleGNomatch : Nat := 0x600030
/-- HLE_G_QFULL (R242, RC). -/
def hleGQfull : Nat := 0x600034
/-- HLE_GS_STAGE_w (R242, RW). -/
def hleGsStage (w : Nat) : Nat := 0x600100 + w * 0x4
/-- HLE_GS_CMD (R242, WO). -/
def hleGsCmd : Nat := 0x600180
/-- HLE_GS_CSTAT (R242, RO). -/
def hleGsCstat : Nat := 0x600184
/-- HLE_GMAP_IDX (R242, RW). -/
def hleGmapIdx : Nat := 0x600200
/-- HLE_GMAP_DATA (R242, RW). -/
def hleGmapData : Nat := 0x600204
/-- HLE_C_MODE (R242, RO). -/
def hleCMode (c : Nat) : Nat := 0x610000 + c * 0x20
/-- HLE_C_ENGINE (R242, RO). -/
def hleCEngine (c : Nat) : Nat := 0x610004 + c * 0x20
/-- HLE_C_LEN (R242, RO). -/
def hleCLen (c : Nat) : Nat := 0x610008 + c * 0x20
/-- HLE_C_LAST_TC (R242, RO). -/
def hleCLastTc (c : Nat) : Nat := 0x61000c + c * 0x20
/-- HLE_C_SKIPPED (R242, RC). -/
def hleCSkipped (c : Nat) : Nat := 0x610010 + c * 0x20
/-- HLE_C_RET_STATUS (R242, RO). -/
def hleCRetStatus (c : Nat) : Nat := 0x610014 + c * 0x20
/-- HLE_C_STEP (R242, RWM). -/
def hleCStep (c : Nat) : Nat := 0x610018 + c * 0x20
/-- HLE_E_STATUS (R242, RO). -/
def hleEStatus (e : Nat) : Nat := 0x620000 + e * 0x10
/-- HLE_E_TICK_CYC (R242, RO). -/
def hleETickCyc (e : Nat) : Nat := 0x620004 + e * 0x10
/-- HLE_E_ROUTE_CYC (R242, RC). -/
def hleERouteCyc (e : Nat) : Nat := 0x620008 + e * 0x10
/-- HLE_E_CAUSE (R242, RO). -/
def hleECause (e : Nat) : Nat := 0x62000c + e * 0x10
/-- HLE_GS_ST (R242, RO). -/
def hleGsSt (s : Nat) : Nat := 0x630000 + s * 0x10
/-- HLE_GS_STNUM (R242, RO). -/
def hleGsStnum (s : Nat) : Nat := 0x630004 + s * 0x10
/-- HLE_GS_FRAMES (R242, RC). -/
def hleGsFrames (s : Nat) : Nat := 0x630008 + s * 0x10
/-- HLE_GS_DROP (R242, RC). -/
def hleGsDrop (s : Nat) : Nat := 0x63000c + s * 0x10
/-- HLE_GS_ENT_s (R242, RO). -/
def hleGsEnt (s : Nat) (i : Nat) : Nat := 0x640000 + s * 0x80 + i * 0x4
/-- TTB_STATUS (R264, RO). -/
def ttbStatus : Nat := 0x700000
/-- TTB_EVT (R264, W1C). -/
def ttbEvt : Nat := 0x700004
/-- TTB_BANK_CTRL (R264, RW). -/
def ttbBankCtrl : Nat := 0x700008
/-- TTB_BANK_STATUS (R264, RO). -/
def ttbBankStatus : Nat := 0x70000c
/-- TTB_HOLDBACK (R264, RO). -/
def ttbHoldback : Nat := 0x700010
/-- TTB_COLS (R264, RO). -/
def ttbCols : Nat := 0x700014
/-- TTB_INSP_CTRL (R264, RWM). -/
def ttbInspCtrl : Nat := 0x700018
/-- TTB_INSP_STATE (R264, RO). -/
def ttbInspState : Nat := 0x70001c
/-- TTB_SEQ_NEXT (R264, RO). -/
def ttbSeqNext : Nat := 0x700020
/-- TTB_SHED_CNT (R264, RC). -/
def ttbShedCnt : Nat := 0x700024
/-- TTB_ORPHAN_CNT (R264, RC). -/
def ttbOrphanCnt : Nat := 0x700028
/-- TTB_USE (R264, RO). -/
def ttbUse (k : Nat) : Nat := 0x700030 + k * 0x4
/-- TTB_C_STATE (R264, RO). -/
def ttbCState (c : Nat) : Nat := 0x710000 + c * 0x20
/-- TTB_C_SEQ (R264, RO). -/
def ttbCSeq (c : Nat) : Nat := 0x710004 + c * 0x20
/-- TTB_C_COST (R264, RO). -/
def ttbCCost (c : Nat) (k : Nat) : Nat := 0x710008 + c * 0x20 + k * 0x4
/-- TTB_C_SHED_TC (R264, RO). -/
def ttbCShedTc (c : Nat) : Nat := 0x710014 + c * 0x20
/-- TTB_C_SEATS (R264, RO). -/
def ttbCSeats (c : Nat) : Nat := 0x710018 + c * 0x20
/-- TTB_COLMAP (R264, RO). -/
def ttbColmap (k : Nat) (m : Nat) : Nat := 0x720000 + k * 0x100 + m * 0x4
/-- TTB_SEAT (R264, RW). -/
def ttbSeat (b : Nat) (i : Nat) (j : Nat) : Nat := 0x740000 + b * 0x20000 + i * 0x10 + j * 0x4
/-- PUB_CTRL (R290, RW). -/
def pubCtrl : Nat := 0x780000
/-- PUB_STATUS (R290, RO). -/
def pubStatus : Nat := 0x780004
/-- PUB_EVT (R290, W1C). -/
def pubEvt : Nat := 0x780008
/-- PUB_AUTH_FAIL_CNT (R290, RC). -/
def pubAuthFailCnt : Nat := 0x78000c
/-- PUB_TRIP_LATE_CNT (R290, RC). -/
def pubTripLateCnt : Nat := 0x780010
/-- PUB_MIRROR_MISS (R290, RC). -/
def pubMirrorMiss : Nat := 0x780014
/-- PUB_MIRROR_FIX (R290, RC). -/
def pubMirrorFix : Nat := 0x780018
/-- PUB_SAFE_BASE_LO (R290, RWB). -/
def pubSafeBaseLo : Nat := 0x78001c
/-- PUB_SAFE_BASE_HI (R290, RWB). -/
def pubSafeBaseHi : Nat := 0x780020
/-- PUB_PMU_TQ (R290, RW). -/
def pubPmuTq : Nat := 0x780024
/-- PUB_PMU_CTRL (R290, RW). -/
def pubPmuCtrl : Nat := 0x780028
/-- PUB_HIST_TC_k (R290, RO). -/
def pubHistTc (k : Nat) : Nat := 0x780100 + k * 0x8
/-- PUB_HIST_CAUSE_k (R290, RO). -/
def pubHistCause (k : Nat) : Nat := 0x780104 + k * 0x8
/-- PUB_GE_STAGE_w (R290, RW). -/
def pubGeStage (w : Nat) : Nat := 0x780200 + w * 0x4
/-- PUB_GE_CMD (R290, WO). -/
def pubGeCmd : Nat := 0x780300
/-- PUB_GE_CSTAT (R290, RO). -/
def pubGeCstat : Nat := 0x780304
/-- PUB_MAP_IDX (R290, RW). -/
def pubMapIdx : Nat := 0x780310
/-- PUB_MAP_DATA (R290, RW). -/
def pubMapData : Nat := 0x780314
/-- PUB_SV_STAGE_w (R290, RW). -/
def pubSvStage (w : Nat) : Nat := 0x780400 + w * 0x4
/-- PUB_SV_CMD (R290, WO). -/
def pubSvCmd : Nat := 0x780490
/-- PUB_SV_CSTAT (R290, RO). -/
def pubSvCstat : Nat := 0x780494
/-- PUB_PMU_STAGE_w (R290, RW). -/
def pubPmuStage (w : Nat) : Nat := 0x780500 + w * 0x4
/-- PUB_PMU_CMD (R290, WO). -/
def pubPmuCmd : Nat := 0x780540
/-- PUB_PMU_CSTAT (R290, RO). -/
def pubPmuCstat : Nat := 0x780544
/-- PUB_TSMAP_CTRL (R290, RW). -/
def pubTsmapCtrl : Nat := 0x780600
/-- PUB_TSMAP_STATUS (R290, RO). -/
def pubTsmapStatus : Nat := 0x780604
/-- PUB_GE_ST (R290, RO). -/
def pubGeSt (e : Nat) : Nat := 0x790000 + e * 0x10
/-- PUB_GE_STNUM (R290, RO). -/
def pubGeStnum (e : Nat) : Nat := 0x790004 + e * 0x10
/-- PUB_GE_SQNUM (R290, RO). -/
def pubGeSqnum (e : Nat) : Nat := 0x790008 + e * 0x10
/-- PUB_GE_TX (R290, RC). -/
def pubGeTx (e : Nat) : Nat := 0x79000c + e * 0x10
/-- PUB_SV_ST (R290, RO). -/
def pubSvSt (r : Nat) : Nat := 0x7a0000 + r * 0x10
/-- PUB_SV_TX (R290, RC). -/
def pubSvTx (r : Nat) : Nat := 0x7a0004 + r * 0x10
/-- PUB_PMU_ST (R290, RO). -/
def pubPmuSt (m : Nat) : Nat := 0x7a1000 + m * 0x10
/-- PUB_PMU_TX (R290, RC). -/
def pubPmuTx (m : Nat) : Nat := 0x7a1004 + m * 0x10
/-- PUB_PMU_SKIP (R290, RC). -/
def pubPmuSkip (m : Nat) : Nat := 0x7a1008 + m * 0x10
/-- PUB_TSMAP_W0 (R290, RW). -/
def pubTsmapW0 (b : Nat) (i : Nat) : Nat := 0x7c0000 + b * 0x8000 + i * 0x8
/-- PUB_TSMAP_W1 (R290, RW). -/
def pubTsmapW1 (b : Nat) (i : Nat) : Nat := 0x7c0004 + b * 0x8000 + i * 0x8
/-- CAR_ID (R318, RO). -/
def carId (c : Nat) : Nat := 0x1000000 + c * 0x10000
/-- CAR_STATE (R318, RO). -/
def carState (c : Nat) : Nat := 0x1000004 + c * 0x10000
/-- CAR_GEN (R318, RO). -/
def carGen (c : Nat) : Nat := 0x1000008 + c * 0x10000
/-- CAR_EVT (R318, W1C). -/
def carEvt (c : Nat) : Nat := 0x100000c + c * 0x10000
/-- CAR_EVT_MASK (R318, RW). -/
def carEvtMask (c : Nat) : Nat := 0x1000010 + c * 0x10000
/-- CAR_LAST_TC (R318, RO). -/
def carLastTc (c : Nat) : Nat := 0x1000014 + c * 0x10000
/-- CAR_STALE_DESC (R318, RC). -/
def carStaleDesc (c : Nat) : Nat := 0x1000018 + c * 0x10000
/-- CAR_STALE_CPL (R318, RC). -/
def carStaleCpl (c : Nat) : Nat := 0x100001c + c * 0x10000
/-- CAR_DB_IGNORED (R318, RC). -/
def carDbIgnored (c : Nat) : Nat := 0x1000020 + c * 0x10000
/-- CAR_DRAM_BASE_LO (R318, RO). -/
def carDramBaseLo (c : Nat) : Nat := 0x1000024 + c * 0x10000
/-- CAR_DRAM_BASE_HI (R318, RO). -/
def carDramBaseHi (c : Nat) : Nat := 0x1000028 + c * 0x10000
/-- CAR_DRAM_SIZE (R318, RO). -/
def carDramSize (c : Nat) : Nat := 0x100002c + c * 0x10000
/-- CAR_MEAS_OFS (R318, RO). -/
def carMeasOfs (c : Nat) : Nat := 0x1000030 + c * 0x10000
/-- CAR_EIMG_OFS (R318, RO). -/
def carEimgOfs (c : Nat) : Nat := 0x1000034 + c * 0x10000
/-- CAR_ESTATE_OFS (R318, RO). -/
def carEstateOfs (c : Nat) : Nat := 0x1000038 + c * 0x10000
/-- CAR_PORTS (R318, RO). -/
def carPorts (c : Nat) : Nat := 0x100003c + c * 0x10000
/-- CAR_RET_WORDS (R318, RO). -/
def carRetWords (c : Nat) : Nat := 0x1000040 + c * 0x10000
/-- CAR_CMDBIT_j (R318, RW). -/
def carCmdbit (c : Nat) (j : Nat) : Nat := 0x1000080 + c * 0x10000 + j * 0x4
/-- CAR_VEC_ADDR_LO (R318, RW). -/
def carVecAddrLo (c : Nat) (v : Nat) : Nat := 0x1000100 + c * 0x10000 + v * 0x10
/-- CAR_VEC_ADDR_HI (R318, RW). -/
def carVecAddrHi (c : Nat) (v : Nat) : Nat := 0x1000104 + c * 0x10000 + v * 0x10
/-- CAR_VEC_DATA (R318, RW). -/
def carVecData (c : Nat) (v : Nat) : Nat := 0x1000108 + c * 0x10000 + v * 0x10
/-- CAR_VEC_CTRL (R318, RW). -/
def carVecCtrl (c : Nat) (v : Nat) : Nat := 0x100010c + c * 0x10000 + v * 0x10
/-- CAR_QC_STAGE_w (R318, RW). -/
def carQcStage (c : Nat) (w : Nat) : Nat := 0x1000400 + c * 0x10000 + w * 0x4
/-- CAR_QC_CMD (R318, WO). -/
def carQcCmd (c : Nat) : Nat := 0x1000440 + c * 0x10000
/-- CAR_QC_STATUS (R318, RO). -/
def carQcStatus (c : Nat) : Nat := 0x1000444 + c * 0x10000
/-- CAR_QC_READ_w (R318, RO). -/
def carQcRead (c : Nat) (w : Nat) : Nat := 0x1000460 + c * 0x10000 + w * 0x4
/-- CAR_Q_DB (R318, WO). -/
def carQDb (c : Nat) (q : Nat) : Nat := 0x1001000 + c * 0x10000 + q * 0x4
/-- CAR_OUT_BIT_w (R318, RO). -/
def carOutBit (c : Nat) (w : Nat) : Nat := 0x1004000 + c * 0x10000 + w * 0x4
/-- CAR_OUT_WORD_w (R318, RO). -/
def carOutWord (c : Nat) (w : Nat) : Nat := 0x1004100 + c * 0x10000 + w * 0x4
/-- BRC_CTRL (R350, RW). -/
def brcCtrl : Nat := 0x800000
/-- BRC_CFG (R350, RWB). -/
def brcCfg : Nat := 0x800004
/-- BRC_STATUS (R350, RO). -/
def brcStatus : Nat := 0x800008
/-- BRC_EVT (R350, W1C). -/
def brcEvt : Nat := 0x80000c
/-- BRC_VERSION (R350, RO). -/
def brcVersion : Nat := 0x800010
/-- BRC_TERM (R350, RO). -/
def brcTerm : Nat := 0x800014
/-- BRC_EPOCH (R350, RO). -/
def brcEpoch : Nat := 0x800018
/-- BRC_PARTNER_EPOCH (R350, RO). -/
def brcPartnerEpoch : Nat := 0x80001c
/-- BRC_PAIR_WAIT (R350, RW). -/
def brcPairWait : Nat := 0x800020
/-- BRC_LTN_TIMEOUT (R350, RW). -/
def brcLtnTimeout : Nat := 0x800024
/-- BRC_MATCH_RUN (R350, RO). -/
def brcMatchRun : Nat := 0x800028
/-- BRC_MISMATCH_CNT (R350, RC). -/
def brcMismatchCnt : Nat := 0x80002c
/-- BRC_MISMATCH_INFO (R350, RO). -/
def brcMismatchInfo : Nat := 0x800030
/-- BRC_UNMIRRORED_CNT (R350, RC). -/
def brcUnmirroredCnt : Nat := 0x800034
/-- BRC_SAMPLE_DIFF (R350, RC). -/
def brcSampleDiff : Nat := 0x800038
/-- BRC_XFER_STATUS (R350, RO). -/
def brcXferStatus : Nat := 0x80003c
/-- BRC_SWITCH_TC (R350, RO). -/
def brcSwitchTc : Nat := 0x800040
/-- BRC_SWITCH_CAUSE (R350, RO). -/
def brcSwitchCause : Nat := 0x800044
/-- BRC_P2_MISS (R350, RC). -/
def brcP2Miss : Nat := 0x800048
/-- BRC_PROOF_STATUS (R350, RO). -/
def brcProofStatus : Nat := 0x800050
/-- BRC_PROOF_ROUTE (R350, RO). -/
def brcProofRoute : Nat := 0x800054
/-- BRC_XFER_SLOT (R350, RWB). -/
def brcXferSlot : Nat := 0x800058
/-- BRC_L_STATUS (R350, RO). -/
def brcLStatus (l : Nat) : Nat := 0x800100 + l * 0x20
/-- BRC_L_LANEMAP (R350, RO). -/
def brcLLanemap (l : Nat) : Nat := 0x800104 + l * 0x20
/-- BRC_L_ERR_LIM (R350, RW). -/
def brcLErrLim (l : Nat) : Nat := 0x800108 + l * 0x20
/-- BRC_L_ERR (R350, RC). -/
def brcLErr (l : Nat) : Nat := 0x80010c + l * 0x20
/-- BRC_L_CRC_ERR (R350, RC). -/
def brcLCrcErr (l : Nat) : Nat := 0x800110 + l * 0x20
/-- BRC_L_DUP (R350, RC). -/
def brcLDup (l : Nat) : Nat := 0x800114 + l * 0x20
/-- BRC_HIST_TC_k (R350, RO). -/
def brcHistTc (k : Nat) : Nat := 0x800200 + k * 0x8
/-- BRC_HIST_CAUSE_k (R350, RO). -/
def brcHistCause (k : Nat) : Nat := 0x800204 + k * 0x8
/-- STL_CTRL (R387, RW). -/
def stlCtrl : Nat := 0x900000
/-- STL_STATUS (R387, RO). -/
def stlStatus : Nat := 0x900004
/-- STL_EVT (R387, W1C). -/
def stlEvt : Nat := 0x900008
/-- STL_VMAX (R387, RO). -/
def stlVmax : Nat := 0x90000c
/-- STL_COLD_PORTS (R387, RWB). -/
def stlColdPorts : Nat := 0x900010
/-- STL_BACKUP (R387, RW). -/
def stlBackup : Nat := 0x900014
/-- STL_TBL_CTRL (R387, RW). -/
def stlTblCtrl : Nat := 0x900018
/-- STL_TBL_STATUS (R387, RO). -/
def stlTblStatus : Nat := 0x90001c
/-- STL_TBL_EPOCH (R387, RO). -/
def stlTblEpoch : Nat := 0x900020
/-- STL_TBL_COUNT (R387, RW). -/
def stlTblCount : Nat := 0x900024
/-- STL_IMAP_CTRL (R387, RW). -/
def stlImapCtrl : Nat := 0x900028
/-- STL_IMAP_STATUS (R387, RO). -/
def stlImapStatus : Nat := 0x90002c
/-- STL_ACK_MISS (R387, RC). -/
def stlAckMiss : Nat := 0x900030
/-- STL_SYNC_CFG_k (R387, RW). -/
def stlSyncCfg (k : Nat) : Nat := 0x900040 + k * 0x8
/-- STL_SYNC_OFS_k (R387, RW). -/
def stlSyncOfs (k : Nat) : Nat := 0x900044 + k * 0x8
/-- STL_SYNC_EVT (R387, W1C). -/
def stlSyncEvt : Nat := 0x9000c0
/-- STL_HIST_TC_k (R387, RO). -/
def stlHistTc (k : Nat) : Nat := 0x900100 + k * 0x8
/-- STL_HIST_CAUSE_k (R387, RO). -/
def stlHistCause (k : Nat) : Nat := 0x900104 + k * 0x8
/-- STL_N_STATUS (R387, RO). -/
def stlNStatus (ch : Nat) : Nat := 0x900200 + ch * 0x20
/-- STL_N_LOOP (R387, RO). -/
def stlNLoop (ch : Nat) : Nat := 0x900204 + ch * 0x20
/-- STL_N_WB_MISS (R387, RC). -/
def stlNWbMiss (ch : Nat) : Nat := 0x900208 + ch * 0x20
/-- STL_N_CRC_ERR (R387, RC). -/
def stlNCrcErr (ch : Nat) : Nat := 0x90020c + ch * 0x20
/-- STL_N_REINT (R387, RC). -/
def stlNReint (ch : Nat) : Nat := 0x900210 + ch * 0x20
/-- STL_G_PCFG (R387, RW). -/
def stlGPcfg (p : Nat) : Nat := 0x901000 + p * 0x10
/-- STL_G_PSTAT (R387, RO). -/
def stlGPstat (p : Nat) : Nat := 0x901004 + p * 0x10
/-- STL_G_PVIOL (R387, RC). -/
def stlGPviol (p : Nat) : Nat := 0x901008 + p * 0x10
/-- STL_G_PCMD (R387, WO). -/
def stlGPcmd (p : Nat) : Nat := 0x90100c + p * 0x10
/-- STL_TBL_ENTRY (R387, RW). -/
def stlTblEntry (b : Nat) (i : Nat) : Nat := 0x920000 + b * 0x800 + i * 0x4
/-- STL_IMAP_W0 (R387, RW). -/
def stlImapW0 (b : Nat) (i : Nat) : Nat := 0x930000 + b * 0x8000 + i * 0x8
/-- STL_IMAP_W1 (R387, RW). -/
def stlImapW1 (b : Nat) (i : Nat) : Nat := 0x930004 + b * 0x8000 + i * 0x8
/-- CMD_CTRL (R422, RW). -/
def cmdCtrl : Nat := 0x80000
/-- CMD_STATUS (R422, RO). -/
def cmdStatus : Nat := 0x80004
/-- CMD_EVT (R422, W1C). -/
def cmdEvt : Nat := 0x80008
/-- CMD_S_CFG (R422, RWB). -/
def cmdSCfg (s : Nat) : Nat := 0x81000 + s * 0x40
/-- CMD_S_STATE (R422, RO). -/
def cmdSState (s : Nat) : Nat := 0x81004 + s * 0x40
/-- CMD_S_CRING_LO (R422, RW). -/
def cmdSCringLo (s : Nat) : Nat := 0x81008 + s * 0x40
/-- CMD_S_CRING_HI (R422, RW). -/
def cmdSCringHi (s : Nat) : Nat := 0x8100c + s * 0x40
/-- CMD_S_RRING_LO (R422, RW). -/
def cmdSRringLo (s : Nat) : Nat := 0x81010 + s * 0x40
/-- CMD_S_RRING_HI (R422, RW). -/
def cmdSRringHi (s : Nat) : Nat := 0x81014 + s * 0x40
/-- CMD_S_RING_CFG (R422, RW). -/
def cmdSRingCfg (s : Nat) : Nat := 0x81018 + s * 0x40
/-- CMD_S_DB (R422, WO). -/
def cmdSDb (s : Nat) : Nat := 0x8101c + s * 0x40
/-- CMD_S_CONS (R422, RO). -/
def cmdSCons (s : Nat) : Nat := 0x81020 + s * 0x40
/-- CMD_S_RPROD (R422, RO). -/
def cmdSRprod (s : Nat) : Nat := 0x81024 + s * 0x40
/-- CMD_S_RCONS (R422, RW). -/
def cmdSRcons (s : Nat) : Nat := 0x81028 + s * 0x40
/-- CMD_S_VEC_LO (R422, RW). -/
def cmdSVecLo (s : Nat) : Nat := 0x8102c + s * 0x40
/-- CMD_S_VEC_HI (R422, RW). -/
def cmdSVecHi (s : Nat) : Nat := 0x81030 + s * 0x40
/-- CMD_S_VEC_DATA (R422, RW). -/
def cmdSVecData (s : Nat) : Nat := 0x81034 + s * 0x40
/-- CMD_S_ERR (R422, RC). -/
def cmdSErr (s : Nat) : Nat := 0x81038 + s * 0x40
/-- CMD_S_LAST_TC (R422, RO). -/
def cmdSLastTc (s : Nat) : Nat := 0x8103c + s * 0x40
/-- DRC_CTRL (R441, RW). -/
def drcCtrl : Nat := 0xa00000
/-- DRC_EVT (R441, W1C). -/
def drcEvt : Nat := 0xa00004
/-- DRC_GAP_CNT (R441, RC). -/
def drcGapCnt : Nat := 0xa00008
/-- DRC_TRIG_CFG (R441, RW). -/
def drcTrigCfg (b : Nat) : Nat := 0xa00100 + b * 0x10
/-- DRC_TRIG_LAT (R441, RW). -/
def drcTrigLat (b : Nat) : Nat := 0xa00104 + b * 0x10
/-- DRC_TRIG_LAST_TC (R441, RO). -/
def drcTrigLastTc (b : Nat) : Nat := 0xa00108 + b * 0x10
/-- DRC_TRIG_LAST_SUB (R441, RO). -/
def drcTrigLastSub (b : Nat) : Nat := 0xa0010c + b * 0x10
/-- DRC_IT_CFG (R441, RW). -/
def drcItCfg (k : Nat) : Nat := 0xa00200 + k * 0x20
/-- DRC_IT_CMD (R441, WO). -/
def drcItCmd (k : Nat) : Nat := 0xa00204 + k * 0x20
/-- DRC_IT_STATUS (R441, RO). -/
def drcItStatus (k : Nat) : Nat := 0xa00208 + k * 0x20
/-- DRC_IT_VAL_LO (R441, RO). -/
def drcItValLo (k : Nat) : Nat := 0xa0020c + k * 0x20
/-- DRC_IT_VAL_HI (R441, RO). -/
def drcItValHi (k : Nat) : Nat := 0xa00210 + k * 0x20
/-- DRC_IT_START_TC (R441, RO). -/
def drcItStartTc (k : Nat) : Nat := 0xa00214 + k * 0x20
/-- DRC_IT_STOP_TC (R441, RO). -/
def drcItStopTc (k : Nat) : Nat := 0xa00218 + k * 0x20
/-- DRC_R_STATE (R441, RO). -/
def drcRState (r : Nat) : Nat := 0xa01000 + r * 0x40
/-- DRC_R_SEQ (R441, RO). -/
def drcRSeq (r : Nat) : Nat := 0xa01004 + r * 0x40
/-- DRC_R_LAST_TC (R441, RO). -/
def drcRLastTc (r : Nat) : Nat := 0xa01008 + r * 0x40
/-- DRC_R_FREE (R441, WO). -/
def drcRFree (r : Nat) : Nat := 0xa0100c + r * 0x40
/-- DRC_R_RECORDS (R441, RC). -/
def drcRRecords (r : Nat) : Nat := 0xa01010 + r * 0x40
/-- DRC_R_MISSED (R441, RC). -/
def drcRMissed (r : Nat) : Nat := 0xa01014 + r * 0x40
/-- SUP_CTRL (R462, RW). -/
def supCtrl : Nat := 0x40000
/-- SUP_STATUS (R462, RO). -/
def supStatus : Nat := 0x40004
/-- SUP_LTN_CFG (R462, RWM). -/
def supLtnCfg : Nat := 0x40008
/-- SUP_CLR_RESULT (R462, RO). -/
def supClrResult : Nat := 0x4000c
/-- SUP_CLR_REFUSED (R462, RC). -/
def supClrRefused : Nat := 0x40010
/-- SUP_MF_SOURCE (R462, RO). -/
def supMfSource : Nat := 0x40014
/-- SUP_MF_TC (R462, RO). -/
def supMfTc : Nat := 0x40018
/-- SUP_IRQ_ADDR_LO (R462, RW). -/
def supIrqAddrLo (t : Nat) : Nat := 0x40020 + t * 0x10
/-- SUP_IRQ_ADDR_HI (R462, RW). -/
def supIrqAddrHi (t : Nat) : Nat := 0x40024 + t * 0x10
/-- SUP_IRQ_DATA (R462, RW). -/
def supIrqData (t : Nat) : Nat := 0x40028 + t * 0x10
/-- SUP_PEND_j (R462, RO). -/
def supPend (j : Nat) : Nat := 0x40040 + j * 0x4
/-- SUP_SRC_CFG (R462, RW). -/
def supSrcCfg (n : Nat) : Nat := 0x41000 + n * 0x8
/-- SUP_SRC_STATUS (R462, W1C). -/
def supSrcStatus (n : Nat) : Nat := 0x41004 + n * 0x8
/-- SUP_U_FIRST (R462, RO). -/
def supUFirst (u : Nat) : Nat := 0x44000 + u * 0x10
/-- SUP_U_FIRST_TC (R462, RO). -/
def supUFirstTc (u : Nat) : Nat := 0x44004 + u * 0x10
/-- SUP_U_CLR (R462, WO). -/
def supUClr (u : Nat) : Nat := 0x44008 + u * 0x10
/-- SUP_U_CNT (R462, RC). -/
def supUCnt (u : Nat) : Nat := 0x4400c + u * 0x10
/-- EVR_CTRL (R463, RW). -/
def evrCtrl : Nat := 0x50000
/-- EVR_STATUS (R463, RO). -/
def evrStatus : Nat := 0x50004
/-- EVR_LOST (R463, RC). -/
def evrLost : Nat := 0x50008
/-- EVR_RESTART_TC (R463, RO). -/
def evrRestartTc : Nat := 0x5000c
/-- EVR_PAGE (R463, RW). -/
def evrPage : Nat := 0x50010
/-- EVR_WIN (R463, RO). -/
def evrWin (i : Nat) (w : Nat) : Nat := 0x58000 + i * 0x20 + w * 0x4
/-- RST_CAUSE (R495, RO). -/
def rstCause : Nat := 0x20000
/-- RST_CAUSE_TC (R495, RO). -/
def rstCauseTc : Nat := 0x20004
/-- RST_FAIL_CNT (R495, RO). -/
def rstFailCnt : Nat := 0x20008
/-- RST_WDT_CFG (R495, RW). -/
def rstWdtCfg : Nat := 0x2000c
/-- RST_WDT_KICK (R495, WO). -/
def rstWdtKick : Nat := 0x20010
/-- RST_WDT_REMAIN (R495, RO). -/
def rstWdtRemain : Nat := 0x20014
/-- RST_START_TIMER (R495, RO). -/
def rstStartTimer : Nat := 0x20018
/-- RST_CMD (R495, WO). -/
def rstCmd : Nat := 0x2001c
/-- RST_EVT (R495, W1C). -/
def rstEvt : Nat := 0x20020
/-- RST_BALL_FUSE (R495, RO). -/
def rstBallFuse : Nat := 0x20024
/-- RST_STRAPS (R495, RO). -/
def rstStraps : Nat := 0x20028
/-- GLB_ID (R496, RO). -/
def glbId : Nat := 0x0
/-- GLB_MODE (R496, RO). -/
def glbMode : Nat := 0x4
/-- GLB_MODE_TC (R496, RO). -/
def glbModeTc : Nat := 0x8
/-- GLB_MODE_REQ (R496, RW). -/
def glbModeReq : Nat := 0xc
/-- GLB_STATUS (R496, RO). -/
def glbStatus : Nat := 0x10
/-- GLB_EVT (R496, W1C). -/
def glbEvt : Nat := 0x14
/-- GLB_TRIP_EN (R496, RW). -/
def glbTripEn : Nat := 0x18
/-- GLB_CDRV_OUT (R496, RW). -/
def glbCdrvOut : Nat := 0x1c
/-- GLB_CDRV_SEL (R496, RWM). -/
def glbCdrvSel (b : Nat) : Nat := 0x20 + b * 0x4
/-- SBX_CTRL (R531, RW). -/
def sbxCtrl : Nat := 0x60000
/-- SBX_STATUS (R531, RO). -/
def sbxStatus : Nat := 0x60004
/-- SBX_EVT (R531, W1C). -/
def sbxEvt : Nat := 0x60008
/-- SBX_LC (R531, RO). -/
def sbxLc : Nat := 0x6000c
/-- SBX_TRNG_STATUS (R531, RO). -/
def sbxTrngStatus : Nat := 0x60010
/-- SBX_TAMPER_CFG (R531, RWB). -/
def sbxTamperCfg : Nat := 0x60014
/-- SBX_TAMPER_STATUS (R531, RO). -/
def sbxTamperStatus : Nat := 0x60018
/-- SBX_TLOG_COUNT (R531, RO). -/
def sbxTlogCount : Nat := 0x6001c
/-- SBX_UNLOCK (R531, WO). -/
def sbxUnlock : Nat := 0x60020
/-- SBX_ZERO (R531, WO). -/
def sbxZero : Nat := 0x60024
/-- SBX_TLOG_CLR (R531, WO). -/
def sbxTlogClr : Nat := 0x60028
/-- SBX_ROLLBACK (R531, RO). -/
def sbxRollback : Nat := 0x6002c
/-- SBX_BOOT_STATUS (R531, RO). -/
def sbxBootStatus : Nat := 0x60030
/-- SBX_HIST_TC_k (R531, RO). -/
def sbxHistTc (k : Nat) : Nat := 0x60100 + k * 0x8
/-- SBX_HIST_CAUSE_k (R531, RO). -/
def sbxHistCause (k : Nat) : Nat := 0x60104 + k * 0x8
/-- SBX_TLOG_SEC_LO (R531, RO). -/
def sbxTlogSecLo (e : Nat) : Nat := 0x60200 + e * 0x10
/-- SBX_TLOG_SEC_HI (R531, RO). -/
def sbxTlogSecHi (e : Nat) : Nat := 0x60204 + e * 0x10
/-- SBX_TLOG_CAUSE (R531, RO). -/
def sbxTlogCause (e : Nat) : Nat := 0x60208 + e * 0x10
/-- SBX_S_ATTR (R531, RO). -/
def sbxSAttr (s : Nat) : Nat := 0x61000 + s * 0x10
/-- SBX_S_STATE (R531, RO). -/
def sbxSState (s : Nat) : Nat := 0x61004 + s * 0x10
/-- SBX_S_OWNER (R531, RO). -/
def sbxSOwner (s : Nat) : Nat := 0x61008 + s * 0x10
/-- SBX_S_REFUSED (R531, RC). -/
def sbxSRefused (s : Nat) : Nat := 0x6100c + s * 0x10
/-- TGT_STATUS (R532, RO). -/
def tgtStatus : Nat := 0x70000
/-- TGT_EVT (R532, W1C). -/
def tgtEvt : Nat := 0x70004
/-- TGT_BRIDGE_WORLD (R532, RWB). -/
def tgtBridgeWorld : Nat := 0x70008
/-- TGT_HIST_TC_k (R532, RO). -/
def tgtHistTc (k : Nat) : Nat := 0x70100 + k * 0x10
/-- TGT_HIST_CAUSE_k (R532, RO). -/
def tgtHistCause (k : Nat) : Nat := 0x70104 + k * 0x10
/-- TGT_HIST_ADDR_k (R532, RO). -/
def tgtHistAddr (k : Nat) : Nat := 0x70108 + k * 0x10
/-- TGT_R_BASE (R532, RWB). -/
def tgtRBase (r : Nat) : Nat := 0x71000 + r * 0x10
/-- TGT_R_LIMIT (R532, RWB). -/
def tgtRLimit (r : Nat) : Nat := 0x71004 + r * 0x10
/-- TGT_R_PERM (R532, RWB). -/
def tgtRPerm (r : Nat) : Nat := 0x71008 + r * 0x10
/-- TGT_R_CTRL (R532, RWB). -/
def tgtRCtrl (r : Nat) : Nat := 0x7100c + r * 0x10
/-- TGT_C_BASE (R532, RWB). -/
def tgtCBase (c : Nat) : Nat := 0x72000 + c * 0x8
/-- TGT_C_SIZE (R532, RWB). -/
def tgtCSize (c : Nat) : Nat := 0x72004 + c * 0x8
/-- TGT_DBG_STATUS (R532, RO). -/
def tgtDbgStatus : Nat := 0x78000
/-- TGT_DBG_CHAL_j (R532, RO). -/
def tgtDbgChal (j : Nat) : Nat := 0x78010 + j * 0x4
/-- HBR_CTRL (R558, RW). -/
def hbrCtrl : Nat := 0xb00000
/-- HBR_STATUS (R558, RO). -/
def hbrStatus : Nat := 0xb00004
/-- HBR_EVT (R558, W1C). -/
def hbrEvt : Nat := 0xb00008
/-- HBR_OB_BASE_HI (R558, RWB). -/
def hbrObBaseHi : Nat := 0xb0000c
/-- HBR_BAR2_SIZE (R558, RWB). -/
def hbrBar2Size : Nat := 0xb00010
/-- HBR_CPL_TO (R558, RW). -/
def hbrCplTo : Nat := 0xb00014
/-- HBR_BACKOFF (R558, RW). -/
def hbrBackoff : Nat := 0xb00018
/-- HBR_OB_REFUSED (R558, RC). -/
def hbrObRefused : Nat := 0xb0001c
/-- HBR_CPL_TO_CNT (R558, RC). -/
def hbrCplToCnt : Nat := 0xb00020
/-- HBR_RETRY_CNT (R558, RC). -/
def hbrRetryCnt : Nat := 0xb00024
/-- HBR_UR_CNT (R558, RC). -/
def hbrUrCnt : Nat := 0xb00028
/-- HBR_IB_DEPTH (R558, RO). -/
def hbrIbDepth : Nat := 0xb0002c
/-- HBR_W_BASE (R558, RWB). -/
def hbrWBase (w : Nat) : Nat := 0xb00100 + w * 0x10
/-- HBR_W_LIMIT (R558, RWB). -/
def hbrWLimit (w : Nat) : Nat := 0xb00104 + w * 0x10
/-- HBR_W_TARGET (R558, RWB). -/
def hbrWTarget (w : Nat) : Nat := 0xb00108 + w * 0x10
/-- HBR_W_CTRL (R558, RWB). -/
def hbrWCtrl (w : Nat) : Nat := 0xb0010c + w * 0x10
/-- MEM_CTRL (R559, RW). -/
def memCtrl : Nat := 0xc00000
/-- MEM_SIZE (R559, RO). -/
def memSize : Nat := 0xc00004
/-- MEM_QCTX_BASE_LO (R559, RWB). -/
def memQctxBaseLo : Nat := 0xc00008
/-- MEM_QCTX_BASE_HI (R559, RWB). -/
def memQctxBaseHi : Nat := 0xc0000c
/-- MEM_SCRUB_PERIOD (R559, RW). -/
def memScrubPeriod : Nat := 0xc00010
/-- MEM_CE_ROW_LIM (R559, RW). -/
def memCeRowLim : Nat := 0xc00014
/-- MEM_C_CFG (R559, RO). -/
def memCCfg (m : Nat) : Nat := 0xc01000 + m * 0x100
/-- MEM_C_EVT (R559, W1C). -/
def memCEvt (m : Nat) : Nat := 0xc01004 + m * 0x100
/-- MEM_C_CE (R559, RC). -/
def memCCe (m : Nat) : Nat := 0xc01008 + m * 0x100
/-- MEM_C_UE (R559, RC). -/
def memCUe (m : Nat) : Nat := 0xc0100c + m * 0x100
/-- MEM_C_ERR_LO (R559, RO). -/
def memCErrLo (m : Nat) : Nat := 0xc01010 + m * 0x100
/-- MEM_C_ERR_HI (R559, RO). -/
def memCErrHi (m : Nat) : Nat := 0xc01014 + m * 0x100
/-- MEM_C_ERR_LOC (R559, RO). -/
def memCErrLoc (m : Nat) : Nat := 0xc01018 + m * 0x100
/-- MEM_C_REMAP (R559, RO). -/
def memCRemap (m : Nat) : Nat := 0xc0101c + m * 0x100
/-- MEM_C_SCRUB_POS (R559, RO). -/
def memCScrubPos (m : Nat) : Nat := 0xc01020 + m * 0x100
/-- MEM_C_PPR (R559, RO). -/
def memCPpr (m : Nat) (i : Nat) : Nat := 0xc01040 + m * 0x100 + i * 0x4
/-- MEM_C_RMAP (R559, RO). -/
def memCRmap (m : Nat) (e : Nat) : Nat := 0xc08000 + m * 0x100 + e * 0x4
/-- RPR_CTRL (R560, RW). -/
def rprCtrl : Nat := 0xd00000
/-- RPR_STATUS (R560, RO). -/
def rprStatus : Nat := 0xd00004
/-- RPR_EVT (R560, W1C). -/
def rprEvt : Nat := 0xd00008
/-- RPR_LOG_COUNT (R560, RO). -/
def rprLogCount : Nat := 0xd0000c
/-- RPR_FUSE_LEFT (R560, RO). -/
def rprFuseLeft : Nat := 0xd00010
/-- RPR_FUSE_CMD (R560, RWM). -/
def rprFuseCmd : Nat := 0xd00014
/-- RPR_FUSE_STATUS (R560, RO). -/
def rprFuseStatus : Nat := 0xd00018
/-- RPR_K_ACTIVE (R560, RO). -/
def rprKActive (k : Nat) : Nat := 0xd00100 + k * 0x10
/-- RPR_K_SPARES (R560, RO). -/
def rprKSpares (k : Nat) : Nat := 0xd00104 + k * 0x10
/-- RPR_K_RETIRED (R560, RO). -/
def rprKRetired (k : Nat) : Nat := 0xd00108 + k * 0x10
/-- RPR_CORE_POS (R560, RO). -/
def rprCorePos (p : Nat) : Nat := 0xd00200 + p * 0x4
/-- RPR_SRAM (R560, RO). -/
def rprSram (g : Nat) : Nat := 0xd00300 + g * 0x4

end Sys2Proof.Machine.Reg
end

