-- ==== Sys2Proof/Machine/RegTable.lean ====
section
/-! DEFINITION. The register tables of the spec as data: base, index dimensions (stride, count), access code, reset
value, implemented bits and the value ranges R585 checks. Resets that depend on the index stand in `resetAt`. -/

namespace Sys2Proof.Machine

/-- Access codes of 00_scope R11. -/
inductive Access where
  | rw | ro | wo | w1c | rc | rwb | rwm
deriving DecidableEq, Repr

/-- One row of a register table: `dims` lists (stride, count) from the largest stride down; `ranges` lists
(lowest bit, width, least, greatest) of each field whose description states a range (R585). -/
structure RegRow where
  base   : Nat
  dims   : List (Nat × Nat)
  acc    : Access
  reset  : Nat
  mask   : Nat
  ranges : List (Nat × Nat × Nat × Nat)
deriving DecidableEq, Repr

namespace RegTable

/-- CLK registers, table rows 0 onward (R65). -/
def clkRows0 : List RegRow := [
  ⟨0x10000, [], .ro, 0x0, 0xffffffff, []⟩,
  ⟨0x10004, [], .ro, 0x50, 0xffffffff, []⟩,
  ⟨0x10008, [], .rwb, 0x7d0, 0xffff, [(0, 16, 100, 10000)]⟩,
  ⟨0x1000c, [], .w1c, 0x0, 0x3f, []⟩,
  ⟨0x10010, [], .ro, 0x3f, 0xffffffff, []⟩,
  ⟨0x10100, [(0x8, 8)], .ro, 0x0, 0xffffffff, []⟩,
  ⟨0x10104, [(0x8, 8)], .ro, 0x0, 0xffffffff, []⟩]

/-- Every register of block CLK. -/
def clkRows : List RegRow := clkRows0

/-- TIM registers, table rows 0 onward (R66). -/
def timRows0 : List RegRow := [
  ⟨0x30000, [], .rw, 0x0, 0x7, [(0, 2, 0, 2)]⟩,
  ⟨0x30004, [], .ro, 0x0, 0xffffffff, []⟩,
  ⟨0x30008, [], .ro, 0x0, 0xffffffff, []⟩,
  ⟨0x3000c, [], .ro, 0x0, 0xffffffff, []⟩,
  ⟨0x30010, [], .ro, 0x0, 0xffffffff, []⟩,
  ⟨0x30014, [], .ro, 0x0, 0xffffffff, []⟩,
  ⟨0x30018, [], .ro, 0x0, 0xffffffff, []⟩,
  ⟨0x3001c, [], .ro, 0x55555555, 0xffffffff, []⟩,
  ⟨0x30020, [], .ro, 0x5355, 0xffffffff, []⟩,
  ⟨0x30024, [], .ro, 0x0, 0xffffffff, []⟩,
  ⟨0x30028, [], .ro, 0x0, 0xffffffff, []⟩,
  ⟨0x3002c, [], .rw, 0x186a0, 0x3ffff, [(0, 32, 100, 200000)]⟩,
  ⟨0x30030, [], .ro, 0x0, 0xffffffff, []⟩,
  ⟨0x30034, [], .rw, 0x3e8, 0xffffffff, [(0, 32, 10, 1000000)]⟩,
  ⟨0x30038, [], .rw, 0x4b0, 0x1ffff, [(0, 32, 1, 72000)]⟩,
  ⟨0x3003c, [], .ro, 0x0, 0xffffffff, []⟩,
  ⟨0x30040, [], .w1c, 0x0, 0x7f, []⟩,
  ⟨0x30100, [(0x20, 11)], .rw, 0x0, 0x7, []⟩,
  ⟨0x30104, [(0x20, 11)], .rw, 0x0, 0xffffffff, []⟩,
  ⟨0x30108, [(0x20, 11)], .rw, 0x0, 0xffffffff, []⟩,
  ⟨0x3010c, [(0x20, 11)], .rw, 0x0, 0xffffffff, []⟩,
  ⟨0x30110, [(0x20, 11)], .rw, 0x0, 0xffffffff, []⟩,
  ⟨0x30114, [(0x20, 11)], .ro, 0x0, 0xffffffff, []⟩,
  ⟨0x30118, [(0x20, 11)], .ro, 0x0, 0xffffffff, []⟩]

/-- TIM registers, table rows 24 onward (R66). -/
def timRows1 : List RegRow := [
  ⟨0x3011c, [(0x20, 11)], .ro, 0x0, 0xffffffff, []⟩]

/-- Every register of block TIM. -/
def timRows : List RegRow := timRows0 ++ timRows1

/-- ETH registers, table rows 0 onward (R97). -/
def ethRows0 : List RegRow := [
  ⟨0x100000, [(0x10000, 11)], .rw, 0x30, 0x7f, []⟩,
  ⟨0x100004, [(0x10000, 11)], .ro, 0x8, 0xffffffff, []⟩,
  ⟨0x100008, [(0x10000, 11)], .w1c, 0x0, 0x1f, []⟩,
  ⟨0x10000c, [(0x10000, 11)], .rwm, 0x5f2, 0x3fff, [(0, 14, 1522, 9216)]⟩,
  ⟨0x100010, [(0x10000, 11)], .rw, 0x0, 0xffffffff, []⟩,
  ⟨0x100014, [(0x10000, 11)], .rw, 0x0, 0xffff, []⟩,
  ⟨0x100018, [(0x10000, 11)], .rw, 0x0, 0x3f, []⟩,
  ⟨0x10001c, [(0x10000, 11)], .ro, 0x0, 0xffffffff, []⟩,
  ⟨0x100020, [(0x10000, 11)], .rw, 0x0, 0xffff, []⟩,
  ⟨0x100100, [(0x10000, 11)], .rc, 0x0, 0xffffffff, []⟩,
  ⟨0x100104, [(0x10000, 11)], .rc, 0x0, 0xffffffff, []⟩,
  ⟨0x100108, [(0x10000, 11)], .rc, 0x0, 0xffffffff, []⟩,
  ⟨0x10010c, [(0x10000, 11)], .rc, 0x0, 0xffffffff, []⟩,
  ⟨0x100110, [(0x10000, 11)], .rc, 0x0, 0xffffffff, []⟩,
  ⟨0x100114, [(0x10000, 11)], .rc, 0x0, 0xffffffff, []⟩,
  ⟨0x100118, [(0x10000, 11)], .rc, 0x0, 0xffffffff, []⟩,
  ⟨0x10011c, [(0x10000, 11)], .rc, 0x0, 0xffffffff, []⟩,
  ⟨0x100200, [(0x10000, 11)], .rw, 0x0, 0xf, []⟩,
  ⟨0x100204, [(0x10000, 11), (0x4, 4)], .rw, 0x0, 0x800000ff, []⟩,
  ⟨0x100214, [(0x10000, 11), (0x4, 4)], .rw, 0x0, 0x800000ff, []⟩,
  ⟨0x100224, [(0x10000, 11)], .rw, 0x0, 0xffffffff, []⟩,
  ⟨0x100228, [(0x10000, 11)], .ro, 0x1, 0xffffffff, []⟩,
  ⟨0x10022c, [(0x10000, 11)], .rc, 0x0, 0xffffffff, []⟩]

/-- Every register of block ETH. -/
def ethRows : List RegRow := ethRows0

/-- SWC registers, table rows 0 onward (R98). -/
def swcRows0 : List RegRow := [
  ⟨0x200000, [], .rw, 0x3, 0x3, []⟩,
  ⟨0x200004, [], .ro, 0xf120, 0xffffffff, []⟩,
  ⟨0x200008, [], .rc, 0xf120, 0xffffffff, []⟩,
  ⟨0x20000c, [], .rw, 0x1770, 0xfffff, []⟩,
  ⟨0x200010, [], .w1c, 0x0, 0x7, []⟩,
  ⟨0x200100, [(0x4, 16)], .rw, 0x0, 0x8077ffff, []⟩,
  ⟨0x200200, [(0x20, 11), (0x4, 8)], .rw, 0x0, 0xfff000f, [(0, 4, 0, 9)]⟩,
  ⟨0x200400, [(0x20, 11), (0x4, 8)], .ro, 0x0, 0xffffffff, []⟩,
  ⟨0x200600, [(0x20, 11), (0x4, 8)], .rc, 0x0, 0xffffffff, []⟩,
  ⟨0x200800, [(0x20, 5)], .rwm, 0x0, 0x3, []⟩,
  ⟨0x200804, [(0x20, 5)], .rw, 0x190, 0xfff, [(0, 12, 10, 4000)]⟩,
  ⟨0x200808, [(0x20, 5)], .rc, 0x0, 0xffffffff, []⟩,
  ⟨0x20080c, [(0x20, 5)], .rc, 0x0, 0xffffffff, []⟩,
  ⟨0x200810, [(0x20, 5)], .rc, 0x0, 0xffffffff, []⟩,
  ⟨0x200900, [], .wo, 0x0, 0x3fff0003, []⟩,
  ⟨0x200904, [], .rw, 0x0, 0xffffffff, []⟩,
  ⟨0x200908, [], .rw, 0x0, 0xcfffffff, []⟩,
  ⟨0x20090c, [], .rw, 0x0, 0x3ffffff, []⟩,
  ⟨0x200910, [], .ro, 0x0, 0xffffffff, []⟩,
  ⟨0x201000, [(0x400, 11)], .rw, 0x0, 0x5, []⟩,
  ⟨0x201004, [(0x400, 11)], .rw, 0x0, 0xff, []⟩,
  ⟨0x201008, [(0x400, 11)], .ro, 0x0, 0xffffffff, []⟩,
  ⟨0x201100, [(0x400, 11), (0x100, 2), (0x4, 64)], .rw, 0x0, 0xc3ffffff, []⟩,
  ⟨0x204000, [], .rw, 0x0, 0xfff, []⟩]

/-- SWC registers, table rows 24 onward (R98). -/
def swcRows1 : List RegRow := [
  ⟨0x204004, [], .w1c, 0x0, 0xfff, []⟩,
  ⟨0x204100, [(0x100, 8), (0x4, 32)], .rw, 0x0, 0xffffffff, []⟩,
  ⟨0x204180, [(0x100, 8), (0x4, 4)], .rw, 0x0, 0xffffffff, []⟩,
  ⟨0x204190, [(0x100, 8)], .rw, 0x0, 0xff, [(0, 8, 1, 128)]⟩]

/-- Every register of block SWC. -/
def swcRows : List RegRow := swcRows0 ++ swcRows1

/-- SAU registers, table rows 0 onward (R135). -/
def sauRows0 : List RegRow := [
  ⟨0x300000, [], .rw, 0x3, 0x3, []⟩,
  ⟨0x300004, [], .ro, 0x0, 0xffffffff, []⟩,
  ⟨0x300008, [], .w1c, 0x0, 0xff, []⟩,
  ⟨0x30000c, [], .rw, 0x100, 0x1fff, [(0, 13, 0, 4096)]⟩,
  ⟨0x300010, [], .rw, 0x4b0, 0xfffff, []⟩,
  ⟨0x300014, [], .rw, 0x18, 0xff, [(0, 8, 1, 240)]⟩,
  ⟨0x300018, [], .rw, 0x842, 0xffff, []⟩,
  ⟨0x30001c, [], .rw, 0x4e20, 0xffffffff, []⟩,
  ⟨0x300020, [], .wo, 0x0, 0x80000fff, []⟩,
  ⟨0x300024, [], .ro, 0x0, 0xffffffff, []⟩,
  ⟨0x300028, [], .rc, 0x0, 0xffffffff, []⟩,
  ⟨0x30002c, [], .rc, 0x0, 0xffffffff, []⟩,
  ⟨0x300030, [], .rc, 0x0, 0xffffffff, []⟩,
  ⟨0x300034, [], .rc, 0x0, 0xffffffff, []⟩,
  ⟨0x300100, [(0x4, 24)], .rw, 0x0, 0xffffffff, []⟩,
  ⟨0x300180, [], .wo, 0x0, 0xfff0003, []⟩,
  ⟨0x300184, [], .ro, 0x0, 0xffffffff, []⟩,
  ⟨0x300200, [(0x4, 16)], .rw, 0x0, 0xfffffff, []⟩,
  ⟨0x300240, [], .wo, 0x0, 0x8000001f, []⟩,
  ⟨0x300244, [], .ro, 0x0, 0xffffffff, []⟩,
  ⟨0x300280, [(0x4, 16)], .ro, 0x0, 0xffffffff, []⟩,
  ⟨0x3002c0, [(0x4, 4)], .ro, 0x0, 0xffffffff, []⟩,
  ⟨0x310000, [(0x40, 4096)], .ro, 0x0, 0xffffffff, []⟩,
  ⟨0x310004, [(0x40, 4096)], .ro, 0x0, 0xffffffff, []⟩]

/-- SAU registers, table rows 24 onward (R135). -/
def sauRows1 : List RegRow := [
  ⟨0x310008, [(0x40, 4096)], .ro, 0x0, 0xffffffff, []⟩,
  ⟨0x31000c, [(0x40, 4096)], .ro, 0x0, 0xffffffff, []⟩,
  ⟨0x310010, [(0x40, 4096)], .ro, 0x0, 0xffffffff, []⟩,
  ⟨0x310014, [(0x40, 4096)], .ro, 0x0, 0xffffffff, []⟩,
  ⟨0x310018, [(0x40, 4096)], .rc, 0x0, 0xffffffff, []⟩,
  ⟨0x31001c, [(0x40, 4096)], .rc, 0x0, 0xffffffff, []⟩,
  ⟨0x310020, [(0x40, 4096)], .rc, 0x0, 0xffffffff, []⟩,
  ⟨0x310024, [(0x40, 4096)], .rc, 0x0, 0xffffffff, []⟩,
  ⟨0x310028, [(0x40, 4096)], .rc, 0x0, 0xffffffff, []⟩,
  ⟨0x31002c, [(0x40, 4096)], .rc, 0x0, 0xffffffff, []⟩,
  ⟨0x310030, [(0x40, 4096)], .rc, 0x0, 0xffffffff, []⟩,
  ⟨0x310034, [(0x40, 4096)], .ro, 0x0, 0xffffffff, []⟩,
  ⟨0x310038, [(0x40, 4096)], .ro, 0x0, 0xffffffff, []⟩,
  ⟨0x380000, [(0x80, 4096), (0x4, 32)], .ro, 0x0, 0xffffffff, []⟩]

/-- Every register of block SAU. -/
def sauRows : List RegRow := sauRows0 ++ sauRows1

/-- FCH registers, table rows 0 onward (R166). -/
def fchRows0 : List RegRow := [
  ⟨0x400000, [], .rw, 0x1, 0x1, []⟩,
  ⟨0x400004, [], .ro, 0x40, 0xffffffff, []⟩,
  ⟨0x400008, [], .w1c, 0x0, 0x7f, []⟩,
  ⟨0x40000c, [], .rc, 0x0, 0xffffffff, []⟩,
  ⟨0x400010, [], .rc, 0x0, 0xffffffff, []⟩,
  ⟨0x400014, [], .rwm, 0x0, 0x1, []⟩,
  ⟨0x400018, [], .ro, 0x0, 0xffffffff, []⟩,
  ⟨0x40001c, [], .ro, 0x0, 0xffffffff, []⟩,
  ⟨0x400020, [], .ro, 0x0, 0xffffffff, []⟩,
  ⟨0x400100, [(0x4, 8)], .rw, 0x0, 0xffffffff, []⟩,
  ⟨0x400120, [], .wo, 0x0, 0x7fff000f, []⟩,
  ⟨0x400124, [], .ro, 0x0, 0xffffffff, []⟩,
  ⟨0x410000, [(0x10, 1024)], .ro, 0x0, 0xffffffff, []⟩,
  ⟨0x410004, [(0x10, 1024)], .ro, 0x0, 0xffffffff, []⟩,
  ⟨0x410008, [(0x10, 1024)], .ro, 0x0, 0xffffffff, []⟩,
  ⟨0x41000c, [(0x10, 1024)], .rc, 0x0, 0xffffffff, []⟩,
  ⟨0x420000, [(0x4000, 4), (0x40, 256), (0x4, 16)], .ro, 0x0, 0xffffffff, []⟩,
  ⟨0x430000, [(0x40, 256), (0x4, 16)], .rwm, 0x0, 0x3ffff, []⟩,
  ⟨0x440000, [(0x10, 64)], .ro, 0x1, 0xffffffff, []⟩,
  ⟨0x440004, [(0x10, 64)], .ro, 0x0, 0xffffffff, []⟩,
  ⟨0x440008, [(0x10, 64)], .rc, 0x0, 0xffffffff, []⟩]

/-- Every register of block FCH. -/
def fchRows : List RegRow := fchRows0

/-- EEN registers, table rows 0 onward (R203). -/
def eenRows0 : List RegRow := [
  ⟨0x500000, [], .rw, 0x1, 0x1, []⟩,
  ⟨0x500004, [], .ro, 0x220, 0xffffffff, []⟩,
  ⟨0x500008, [], .w1c, 0x0, 0x3f, []⟩,
  ⟨0x50000c, [], .rc, 0x0, 0xffffffff, []⟩,
  ⟨0x500010, [], .rc, 0x0, 0xffffffff, []⟩,
  ⟨0x500014, [], .ro, 0x0, 0xffffffff, []⟩,
  ⟨0x500018, [], .ro, 0x0, 0xffffffff, []⟩,
  ⟨0x50001c, [], .ro, 0x0, 0xffffffff, []⟩,
  ⟨0x500020, [], .ro, 0x10000, 0xffffffff, []⟩,
  ⟨0x500024, [], .rwb, 0x0, 0xffffffff, [(0, 12, 0, 0)]⟩,
  ⟨0x500028, [], .rwb, 0x0, 0xff, []⟩,
  ⟨0x500100, [(0x4, 16)], .rw, 0x0, 0xffffffff, []⟩,
  ⟨0x500140, [], .wo, 0x0, 0xffff0003, []⟩,
  ⟨0x500144, [], .ro, 0x0, 0xffffffff, []⟩,
  ⟨0x510000, [(0x20, 34)], .ro, 0x0, 0xffffffff, []⟩,
  ⟨0x510004, [(0x20, 34)], .ro, 0x0, 0xffffffff, []⟩,
  ⟨0x510008, [(0x20, 34)], .rc, 0x0, 0xffffffff, []⟩,
  ⟨0x51000c, [(0x20, 34)], .rc, 0x0, 0xffffffff, []⟩,
  ⟨0x510010, [(0x20, 34)], .ro, 0x0, 0xffffffff, []⟩]

/-- Every register of block EEN. -/
def eenRows : List RegRow := eenRows0

/-- HLE registers, table rows 0 onward (R242). -/
def hleRows0 : List RegRow := [
  ⟨0x600000, [], .rw, 0x1, 0x1, []⟩,
  ⟨0x600004, [], .ro, 0x110, 0xffffffff, []⟩,
  ⟨0x600008, [], .w1c, 0x0, 0x7f, []⟩,
  ⟨0x60000c, [], .ro, 0x0, 0xffffffff, []⟩,
  ⟨0x600010, [], .ro, 0x0, 0xffffffff, []⟩,
  ⟨0x600014, [], .ro, 0x10000, 0xffffffff, []⟩,
  ⟨0x600018, [], .rc, 0x0, 0xffffffff, []⟩,
  ⟨0x600020, [], .wo, 0x0, 0x800101ff, []⟩,
  ⟨0x600024, [], .rw, 0x0, 0xffffffff, [(0, 6, 0, 0)]⟩,
  ⟨0x600028, [], .rw, 0x0, 0xff, []⟩,
  ⟨0x60002c, [], .ro, 0x0, 0xffffffff, []⟩,
  ⟨0x600030, [], .rc, 0x0, 0xffffffff, []⟩,
  ⟨0x600034, [], .rc, 0x0, 0xffffffff, []⟩,
  ⟨0x600100, [(0x4, 26)], .rw, 0x0, 0xffffffff, []⟩,
  ⟨0x600180, [], .wo, 0x0, 0x7ff0003, []⟩,
  ⟨0x600184, [], .ro, 0x0, 0xffffffff, []⟩,
  ⟨0x600200, [], .rw, 0x0, 0xffff, []⟩,
  ⟨0x600204, [], .rw, 0x0, 0xffffffff, []⟩,
  ⟨0x610000, [(0x20, 512)], .ro, 0x0, 0xffffffff, []⟩,
  ⟨0x610004, [(0x20, 512)], .ro, 0x0, 0xffffffff, []⟩,
  ⟨0x610008, [(0x20, 512)], .ro, 0x0, 0xffffffff, []⟩,
  ⟨0x61000c, [(0x20, 512)], .ro, 0x0, 0xffffffff, []⟩,
  ⟨0x610010, [(0x20, 512)], .rc, 0x0, 0xffffffff, []⟩,
  ⟨0x610014, [(0x20, 512)], .ro, 0x0, 0xffffffff, []⟩]

/-- HLE registers, table rows 24 onward (R242). -/
def hleRows1 : List RegRow := [
  ⟨0x610018, [(0x20, 512)], .rwm, 0x0, 0x1, []⟩,
  ⟨0x620000, [(0x10, 17)], .ro, 0x0, 0xffffffff, []⟩,
  ⟨0x620004, [(0x10, 17)], .ro, 0x0, 0xffffffff, []⟩,
  ⟨0x620008, [(0x10, 17)], .rc, 0x0, 0xffffffff, []⟩,
  ⟨0x62000c, [(0x10, 17)], .ro, 0x0, 0xffffffff, []⟩,
  ⟨0x630000, [(0x10, 2048)], .ro, 0x0, 0xffffffff, []⟩,
  ⟨0x630004, [(0x10, 2048)], .ro, 0x0, 0xffffffff, []⟩,
  ⟨0x630008, [(0x10, 2048)], .rc, 0x0, 0xffffffff, []⟩,
  ⟨0x63000c, [(0x10, 2048)], .rc, 0x0, 0xffffffff, []⟩,
  ⟨0x640000, [(0x80, 2048), (0x4, 32)], .ro, 0x0, 0xffffffff, []⟩]

/-- Every register of block HLE. -/
def hleRows : List RegRow := hleRows0 ++ hleRows1

/-- TTB registers, table rows 0 onward (R264). -/
def ttbRows0 : List RegRow := [
  ⟨0x700000, [], .ro, 0x0, 0xffffffff, []⟩,
  ⟨0x700004, [], .w1c, 0x0, 0x7f, []⟩,
  ⟨0x700008, [], .rw, 0x0, 0x1, []⟩,
  ⟨0x70000c, [], .ro, 0x0, 0xffffffff, []⟩,
  ⟨0x700010, [], .ro, 0x3, 0xffffffff, []⟩,
  ⟨0x700014, [], .ro, 0xf1f3f, 0xffffffff, []⟩,
  ⟨0x700018, [], .rwm, 0x7, 0x7, []⟩,
  ⟨0x70001c, [], .ro, 0x0, 0xffffffff, []⟩,
  ⟨0x700020, [], .ro, 0x1, 0xffffffff, []⟩,
  ⟨0x700024, [], .rc, 0x0, 0xffffffff, []⟩,
  ⟨0x700028, [], .rc, 0x0, 0xffffffff, []⟩,
  ⟨0x700030, [(0x4, 3)], .ro, 0x0, 0xffffffff, []⟩,
  ⟨0x710000, [(0x20, 512)], .ro, 0x0, 0xffffffff, []⟩,
  ⟨0x710004, [(0x20, 512)], .ro, 0x0, 0xffffffff, []⟩,
  ⟨0x710008, [(0x20, 512), (0x4, 3)], .ro, 0x0, 0xffffffff, []⟩,
  ⟨0x710014, [(0x20, 512)], .ro, 0x0, 0xffffffff, []⟩,
  ⟨0x710018, [(0x20, 512)], .ro, 0x0, 0xffffffff, []⟩,
  ⟨0x720000, [(0x4, 64)], .ro, 0x0, 0xffffffff, []⟩,
  ⟨0x720100, [(0x4, 34)], .ro, 0x0, 0xffffffff, []⟩,
  ⟨0x720200, [(0x4, 17)], .ro, 0x0, 0xffffffff, []⟩,
  ⟨0x740000, [(0x20000, 2), (0x10, 8192), (0x4, 4)], .rw, 0x0, 0xffffffff, []⟩]

/-- Every register of block TTB. -/
def ttbRows : List RegRow := ttbRows0

/-- PUB registers, table rows 0 onward (R290). -/
def pubRows0 : List RegRow := [
  ⟨0x780000, [], .rw, 0x1, 0x7, []⟩,
  ⟨0x780004, [], .ro, 0x0, 0xffffffff, []⟩,
  ⟨0x780008, [], .w1c, 0x0, 0x7f, []⟩,
  ⟨0x78000c, [], .rc, 0x0, 0xffffffff, []⟩,
  ⟨0x780010, [], .rc, 0x0, 0xffffffff, []⟩,
  ⟨0x780014, [], .rc, 0x0, 0xffffffff, []⟩,
  ⟨0x780018, [], .rc, 0x0, 0xffffffff, []⟩,
  ⟨0x78001c, [], .rwb, 0x0, 0xffffffff, [(0, 12, 0, 0)]⟩,
  ⟨0x780020, [], .rwb, 0x0, 0xff, []⟩,
  ⟨0x780024, [], .rw, 0xff0ff, 0xfffff, []⟩,
  ⟨0x780028, [], .rw, 0x0, 0x1, []⟩,
  ⟨0x780100, [(0x8, 8)], .ro, 0x0, 0xffffffff, []⟩,
  ⟨0x780104, [(0x8, 8)], .ro, 0x0, 0xffffffff, []⟩,
  ⟨0x780200, [(0x4, 58)], .rw, 0x0, 0xffffffff, []⟩,
  ⟨0x780300, [], .wo, 0x0, 0x7ff0003, []⟩,
  ⟨0x780304, [], .ro, 0x0, 0xffffffff, []⟩,
  ⟨0x780310, [], .rw, 0x0, 0x7fff, []⟩,
  ⟨0x780314, [], .rw, 0x0, 0xffffffff, []⟩,
  ⟨0x780400, [(0x4, 35)], .rw, 0x0, 0xffffffff, []⟩,
  ⟨0x780490, [], .wo, 0x0, 0xff0003, []⟩,
  ⟨0x780494, [], .ro, 0x0, 0xffffffff, []⟩,
  ⟨0x780500, [(0x4, 16)], .rw, 0x0, 0xffffffff, []⟩,
  ⟨0x780540, [], .wo, 0x0, 0x1f0003, []⟩,
  ⟨0x780544, [], .ro, 0x0, 0xffffffff, []⟩]

/-- PUB registers, table rows 24 onward (R290). -/
def pubRows1 : List RegRow := [
  ⟨0x780600, [], .rw, 0x0, 0x1, []⟩,
  ⟨0x780604, [], .ro, 0x0, 0xffffffff, []⟩,
  ⟨0x790000, [(0x10, 2048)], .ro, 0x0, 0xffffffff, []⟩,
  ⟨0x790004, [(0x10, 2048)], .ro, 0x0, 0xffffffff, []⟩,
  ⟨0x790008, [(0x10, 2048)], .ro, 0x0, 0xffffffff, []⟩,
  ⟨0x79000c, [(0x10, 2048)], .rc, 0x0, 0xffffffff, []⟩,
  ⟨0x7a0000, [(0x10, 256)], .ro, 0x0, 0xffffffff, []⟩,
  ⟨0x7a0004, [(0x10, 256)], .rc, 0x0, 0xffffffff, []⟩,
  ⟨0x7a1000, [(0x10, 32)], .ro, 0x0, 0xffffffff, []⟩,
  ⟨0x7a1004, [(0x10, 32)], .rc, 0x0, 0xffffffff, []⟩,
  ⟨0x7a1008, [(0x10, 32)], .rc, 0x0, 0xffffffff, []⟩,
  ⟨0x7c0000, [(0x8000, 2), (0x8, 4096)], .rw, 0x0, 0xffffffff, []⟩,
  ⟨0x7c0004, [(0x8000, 2), (0x8, 4096)], .rw, 0x0, 0xffffffff, []⟩]

/-- Every register of block PUB. -/
def pubRows : List RegRow := pubRows0 ++ pubRows1

/-- CAR registers, table rows 0 onward (R318). -/
def carRows0 : List RegRow := [
  ⟨0x1000000, [(0x10000, 512)], .ro, 0x0, 0xffffffff, []⟩,
  ⟨0x1000004, [(0x10000, 512)], .ro, 0x0, 0xffffffff, []⟩,
  ⟨0x1000008, [(0x10000, 512)], .ro, 0x0, 0xffffffff, []⟩,
  ⟨0x100000c, [(0x10000, 512)], .w1c, 0x0, 0xff, []⟩,
  ⟨0x1000010, [(0x10000, 512)], .rw, 0x0, 0xff, []⟩,
  ⟨0x1000014, [(0x10000, 512)], .ro, 0x0, 0xffffffff, []⟩,
  ⟨0x1000018, [(0x10000, 512)], .rc, 0x0, 0xffffffff, []⟩,
  ⟨0x100001c, [(0x10000, 512)], .rc, 0x0, 0xffffffff, []⟩,
  ⟨0x1000020, [(0x10000, 512)], .rc, 0x0, 0xffffffff, []⟩,
  ⟨0x1000024, [(0x10000, 512)], .ro, 0x0, 0xffffffff, []⟩,
  ⟨0x1000028, [(0x10000, 512)], .ro, 0x0, 0xffffffff, []⟩,
  ⟨0x100002c, [(0x10000, 512)], .ro, 0x0, 0xffffffff, []⟩,
  ⟨0x1000030, [(0x10000, 512)], .ro, 0x0, 0xffffffff, []⟩,
  ⟨0x1000034, [(0x10000, 512)], .ro, 0x0, 0xffffffff, []⟩,
  ⟨0x1000038, [(0x10000, 512)], .ro, 0x0, 0xffffffff, []⟩,
  ⟨0x100003c, [(0x10000, 512)], .ro, 0x0, 0xffffffff, []⟩,
  ⟨0x1000040, [(0x10000, 512)], .ro, 0x0, 0xffffffff, []⟩,
  ⟨0x1000080, [(0x10000, 512), (0x4, 8)], .rw, 0x0, 0xffffffff, []⟩,
  ⟨0x1000100, [(0x10000, 512), (0x10, 32)], .rw, 0x0, 0xffffffff, [(0, 2, 0, 0)]⟩,
  ⟨0x1000104, [(0x10000, 512), (0x10, 32)], .rw, 0x0, 0xff, []⟩,
  ⟨0x1000108, [(0x10000, 512), (0x10, 32)], .rw, 0x0, 0xffffffff, []⟩,
  ⟨0x100010c, [(0x10000, 512), (0x10, 32)], .rw, 0x1, 0x1, []⟩,
  ⟨0x1000400, [(0x10000, 512), (0x4, 4)], .rw, 0x0, 0xffffffff, []⟩,
  ⟨0x1000440, [(0x10000, 512)], .wo, 0x0, 0x7ff0003, []⟩]

/-- CAR registers, table rows 24 onward (R318). -/
def carRows1 : List RegRow := [
  ⟨0x1000444, [(0x10000, 512)], .ro, 0x0, 0xffffffff, []⟩,
  ⟨0x1000460, [(0x10000, 512), (0x4, 8)], .ro, 0x0, 0xffffffff, []⟩,
  ⟨0x1001000, [(0x10000, 512), (0x4, 2048)], .wo, 0x0, 0xffff, []⟩,
  ⟨0x1004000, [(0x10000, 512), (0x4, 64)], .ro, 0x0, 0xffffffff, []⟩,
  ⟨0x1004100, [(0x10000, 512), (0x4, 128)], .ro, 0x0, 0xffffffff, []⟩]

/-- Every register of block CAR. -/
def carRows : List RegRow := carRows0 ++ carRows1

/-- BRC registers, table rows 0 onward (R350). -/
def brcRows0 : List RegRow := [
  ⟨0x800000, [], .rw, 0x7, 0x7, []⟩,
  ⟨0x800004, [], .rwb, 0x0, 0x3, []⟩,
  ⟨0x800008, [], .ro, 0x0, 0xffffffff, []⟩,
  ⟨0x80000c, [], .w1c, 0x0, 0x3fff, []⟩,
  ⟨0x800010, [], .ro, 0x10000, 0xffffffff, []⟩,
  ⟨0x800014, [], .ro, 0x0, 0xffffffff, []⟩,
  ⟨0x800018, [], .ro, 0x0, 0xffffffff, []⟩,
  ⟨0x80001c, [], .ro, 0x0, 0xffffffff, []⟩,
  ⟨0x800020, [], .rw, 0x28, 0x7ff, [(0, 11, 1, 1200)]⟩,
  ⟨0x800024, [], .rw, 0x9a, 0x3ff, [(0, 10, 32, 1023)]⟩,
  ⟨0x800028, [], .ro, 0x0, 0xffffffff, []⟩,
  ⟨0x80002c, [], .rc, 0x0, 0xffffffff, []⟩,
  ⟨0x800030, [], .ro, 0x0, 0xffffffff, []⟩,
  ⟨0x800034, [], .rc, 0x0, 0xffffffff, []⟩,
  ⟨0x800038, [], .rc, 0x0, 0xffffffff, []⟩,
  ⟨0x80003c, [], .ro, 0x0, 0xffffffff, []⟩,
  ⟨0x800040, [], .ro, 0x0, 0xffffffff, []⟩,
  ⟨0x800044, [], .ro, 0x0, 0xffffffff, []⟩,
  ⟨0x800048, [], .rc, 0x0, 0xffffffff, []⟩,
  ⟨0x800050, [], .ro, 0x0, 0xffffffff, []⟩,
  ⟨0x800054, [], .ro, 0x0, 0xffffffff, []⟩,
  ⟨0x800058, [], .rwb, 0x0, 0xff, []⟩,
  ⟨0x800100, [(0x20, 2)], .ro, 0x0, 0xffffffff, []⟩,
  ⟨0x800104, [(0x20, 2)], .ro, 0x4688, 0xffffffff, []⟩]

/-- BRC registers, table rows 24 onward (R350). -/
def brcRows1 : List RegRow := [
  ⟨0x800108, [(0x20, 2)], .rw, 0x100, 0xffff, []⟩,
  ⟨0x80010c, [(0x20, 2)], .rc, 0x0, 0xffffffff, []⟩,
  ⟨0x800110, [(0x20, 2)], .rc, 0x0, 0xffffffff, []⟩,
  ⟨0x800114, [(0x20, 2)], .rc, 0x0, 0xffffffff, []⟩,
  ⟨0x800200, [(0x8, 8)], .ro, 0x0, 0xffffffff, []⟩,
  ⟨0x800204, [(0x8, 8)], .ro, 0x0, 0xffffffff, []⟩]

/-- Every register of block BRC. -/
def brcRows : List RegRow := brcRows0 ++ brcRows1

/-- STL registers, table rows 0 onward (R387). -/
def stlRows0 : List RegRow := [
  ⟨0x900000, [], .rw, 0xf, 0xf, []⟩,
  ⟨0x900004, [], .ro, 0x1f0000, 0xffffffff, []⟩,
  ⟨0x900008, [], .w1c, 0x0, 0x7ff, []⟩,
  ⟨0x90000c, [], .ro, 0x2, 0xffffffff, []⟩,
  ⟨0x900010, [], .rwb, 0x3, 0x3fffffff, []⟩,
  ⟨0x900014, [], .rw, 0x1f1f1f1f, 0x1f1f1f1f, []⟩,
  ⟨0x900018, [], .rw, 0x0, 0xfffff01, []⟩,
  ⟨0x90001c, [], .ro, 0x0, 0xffffffff, []⟩,
  ⟨0x900020, [], .ro, 0x0, 0xffffffff, []⟩,
  ⟨0x900024, [], .rw, 0x0, 0x1ff, [(0, 9, 0, 488)]⟩,
  ⟨0x900028, [], .rw, 0x0, 0x1, []⟩,
  ⟨0x90002c, [], .ro, 0x0, 0xffffffff, []⟩,
  ⟨0x900030, [], .rc, 0x0, 0xffffffff, []⟩,
  ⟨0x900040, [(0x8, 16)], .rw, 0x0, 0x800000ff, []⟩,
  ⟨0x900044, [(0x8, 16)], .rw, 0x0, 0xfffff, [(0, 20, 0, 639999)]⟩,
  ⟨0x9000c0, [], .w1c, 0x0, 0xffff, []⟩,
  ⟨0x900100, [(0x8, 8)], .ro, 0x0, 0xffffffff, []⟩,
  ⟨0x900104, [(0x8, 8)], .ro, 0x0, 0xffffffff, []⟩,
  ⟨0x900200, [(0x20, 2)], .ro, 0x1, 0xffffffff, []⟩,
  ⟨0x900204, [(0x20, 2)], .ro, 0x316a0, 0xffffffff, []⟩,
  ⟨0x900208, [(0x20, 2)], .rc, 0x0, 0xffffffff, []⟩,
  ⟨0x90020c, [(0x20, 2)], .rc, 0x0, 0xffffffff, []⟩,
  ⟨0x900210, [(0x20, 2)], .rc, 0x0, 0xffffffff, []⟩,
  ⟨0x901000, [(0x10, 30)], .rw, 0x1, 0xff01, []⟩]

/-- STL registers, table rows 24 onward (R387). -/
def stlRows1 : List RegRow := [
  ⟨0x901004, [(0x10, 30)], .ro, 0x0, 0xffffffff, []⟩,
  ⟨0x901008, [(0x10, 30)], .rc, 0x0, 0xffffffff, []⟩,
  ⟨0x90100c, [(0x10, 30)], .wo, 0x0, 0x3, []⟩,
  ⟨0x920000, [(0x800, 2), (0x4, 488)], .rw, 0x0, 0xffffffff, []⟩,
  ⟨0x930000, [(0x8000, 2), (0x8, 4096)], .rw, 0x0, 0x83ffffff, []⟩,
  ⟨0x930004, [(0x8000, 2), (0x8, 4096)], .rw, 0x0, 0x1fffff, []⟩]

/-- Every register of block STL. -/
def stlRows : List RegRow := stlRows0 ++ stlRows1

/-- CMD registers, table rows 0 onward (R422). -/
def cmdRows0 : List RegRow := [
  ⟨0x80000, [], .rw, 0x1, 0x1, []⟩,
  ⟨0x80004, [], .ro, 0x600, 0xffffffff, []⟩,
  ⟨0x80008, [], .w1c, 0x0, 0x7, []⟩,
  ⟨0x81000, [(0x40, 64)], .rwb, 0x0, 0xff7ff3, []⟩,
  ⟨0x81004, [(0x40, 64)], .ro, 0x1, 0xffffffff, []⟩,
  ⟨0x81008, [(0x40, 64)], .rw, 0x0, 0xffffffff, []⟩,
  ⟨0x8100c, [(0x40, 64)], .rw, 0x0, 0xffffffff, []⟩,
  ⟨0x81010, [(0x40, 64)], .rw, 0x0, 0xffffffff, []⟩,
  ⟨0x81014, [(0x40, 64)], .rw, 0x0, 0xffffffff, []⟩,
  ⟨0x81018, [(0x40, 64)], .rw, 0x404, 0xf0f, [(0, 4, 4, 12), (8, 4, 4, 12)]⟩,
  ⟨0x8101c, [(0x40, 64)], .wo, 0x0, 0xffff, []⟩,
  ⟨0x81020, [(0x40, 64)], .ro, 0x0, 0xffffffff, []⟩,
  ⟨0x81024, [(0x40, 64)], .ro, 0x0, 0xffffffff, []⟩,
  ⟨0x81028, [(0x40, 64)], .rw, 0x0, 0xffff, []⟩,
  ⟨0x8102c, [(0x40, 64)], .rw, 0x0, 0xffffffff, [(0, 2, 0, 0)]⟩,
  ⟨0x81030, [(0x40, 64)], .rw, 0x0, 0xffffffff, []⟩,
  ⟨0x81034, [(0x40, 64)], .rw, 0x0, 0xffffffff, []⟩,
  ⟨0x81038, [(0x40, 64)], .rc, 0x0, 0xffffffff, []⟩,
  ⟨0x8103c, [(0x40, 64)], .ro, 0x0, 0xffffffff, []⟩]

/-- Every register of block CMD. -/
def cmdRows : List RegRow := cmdRows0

/-- DRC registers, table rows 0 onward (R441). -/
def drcRows0 : List RegRow := [
  ⟨0xa00000, [], .rw, 0x1, 0x1, []⟩,
  ⟨0xa00004, [], .w1c, 0x0, 0x3f, []⟩,
  ⟨0xa00008, [], .rc, 0x0, 0xffffffff, []⟩,
  ⟨0xa00100, [(0x10, 8)], .rw, 0x0, 0x1ff, []⟩,
  ⟨0xa00104, [(0x10, 8)], .rw, 0x0, 0xffffffff, []⟩,
  ⟨0xa00108, [(0x10, 8)], .ro, 0x0, 0xffffffff, []⟩,
  ⟨0xa0010c, [(0x10, 8)], .ro, 0x0, 0xffffffff, []⟩,
  ⟨0xa00200, [(0x20, 4)], .rw, 0x10000, 0xffff3f1f, [(16, 16, 1, 65535)]⟩,
  ⟨0xa00204, [(0x20, 4)], .wo, 0x0, 0x3, []⟩,
  ⟨0xa00208, [(0x20, 4)], .ro, 0x0, 0xffffffff, []⟩,
  ⟨0xa0020c, [(0x20, 4)], .ro, 0x0, 0xffffffff, []⟩,
  ⟨0xa00210, [(0x20, 4)], .ro, 0x0, 0xffffffff, []⟩,
  ⟨0xa00214, [(0x20, 4)], .ro, 0x0, 0xffffffff, []⟩,
  ⟨0xa00218, [(0x20, 4)], .ro, 0x0, 0xffffffff, []⟩,
  ⟨0xa01000, [(0x40, 16)], .ro, 0x0, 0xffffffff, []⟩,
  ⟨0xa01004, [(0x40, 16)], .ro, 0x0, 0xffffffff, []⟩,
  ⟨0xa01008, [(0x40, 16)], .ro, 0x0, 0xffffffff, []⟩,
  ⟨0xa0100c, [(0x40, 16)], .wo, 0x0, 0x800000ff, []⟩,
  ⟨0xa01010, [(0x40, 16)], .rc, 0x0, 0xffffffff, []⟩,
  ⟨0xa01014, [(0x40, 16)], .rc, 0x0, 0xffffffff, []⟩]

/-- Every register of block DRC. -/
def drcRows : List RegRow := drcRows0

/-- SUP registers, table rows 0 onward (R462). -/
def supRows0 : List RegRow := [
  ⟨0x40000, [], .rw, 0x1, 0x1, []⟩,
  ⟨0x40004, [], .ro, 0x0, 0xffffffff, []⟩,
  ⟨0x40008, [], .rwm, 0x3, 0x7, [(0, 3, 0, 5)]⟩,
  ⟨0x4000c, [], .ro, 0x0, 0xffffffff, []⟩,
  ⟨0x40010, [], .rc, 0x0, 0xffffffff, []⟩,
  ⟨0x40014, [], .ro, 0x0, 0xffffffff, []⟩,
  ⟨0x40018, [], .ro, 0x0, 0xffffffff, []⟩,
  ⟨0x40020, [(0x10, 2)], .rw, 0x0, 0xffffffff, [(0, 2, 0, 0)]⟩,
  ⟨0x40024, [(0x10, 2)], .rw, 0x0, 0xff, []⟩,
  ⟨0x40028, [(0x10, 2)], .rw, 0x0, 0xffffffff, []⟩,
  ⟨0x40040, [(0x4, 13)], .ro, 0x0, 0xffffffff, []⟩,
  ⟨0x41000, [(0x8, 416)], .rw, 0x0, 0x3f, []⟩,
  ⟨0x41004, [(0x8, 416)], .w1c, 0x0, 0x2, []⟩,
  ⟨0x44000, [(0x10, 32)], .ro, 0x0, 0xffffffff, []⟩,
  ⟨0x44004, [(0x10, 32)], .ro, 0x0, 0xffffffff, []⟩,
  ⟨0x44008, [(0x10, 32)], .wo, 0x0, 0x1, []⟩,
  ⟨0x4400c, [(0x10, 32)], .rc, 0x0, 0xffffffff, []⟩]

/-- Every register of block SUP. -/
def supRows : List RegRow := supRows0

/-- EVR registers, table rows 0 onward (R463). -/
def evrRows0 : List RegRow := [
  ⟨0x50000, [], .rw, 0x1, 0x7, []⟩,
  ⟨0x50004, [], .ro, 0x2000000, 0xffffffff, []⟩,
  ⟨0x50008, [], .rc, 0x0, 0xffffffff, []⟩,
  ⟨0x5000c, [], .ro, 0x0, 0xffffffff, []⟩,
  ⟨0x50010, [], .rw, 0x0, 0x3f, []⟩,
  ⟨0x58000, [(0x20, 1024), (0x4, 8)], .ro, 0x0, 0xffffffff, []⟩]

/-- Every register of block EVR. -/
def evrRows : List RegRow := evrRows0

/-- RST registers, table rows 0 onward (R495). -/
def rstRows0 : List RegRow := [
  ⟨0x20000, [], .ro, 0x1, 0xffffffff, []⟩,
  ⟨0x20004, [], .ro, 0x0, 0xffffffff, []⟩,
  ⟨0x20008, [], .ro, 0x0, 0xffffffff, []⟩,
  ⟨0x2000c, [], .rw, 0x3e8, 0x1ffff, [(0, 16, 10, 60000)]⟩,
  ⟨0x20010, [], .wo, 0x0, 0x1, []⟩,
  ⟨0x20014, [], .ro, 0x3e8, 0xffffffff, []⟩,
  ⟨0x20018, [], .ro, 0x0, 0xffffffff, []⟩,
  ⟨0x2001c, [], .wo, 0x0, 0x7, []⟩,
  ⟨0x20020, [], .w1c, 0x0, 0x1f, []⟩,
  ⟨0x20024, [], .ro, 0x0, 0xffffffff, []⟩,
  ⟨0x20028, [], .ro, 0x0, 0xffffffff, []⟩]

/-- Every register of block RST. -/
def rstRows : List RegRow := rstRows0

/-- GLB registers, table rows 0 onward (R496). -/
def glbRows0 : List RegRow := [
  ⟨0x0, [], .ro, 0x5120, 0xffffffff, []⟩,
  ⟨0x4, [], .ro, 0x1, 0xffffffff, []⟩,
  ⟨0x8, [], .ro, 0x0, 0xffffffff, []⟩,
  ⟨0xc, [], .rw, 0x0, 0x7, []⟩,
  ⟨0x10, [], .ro, 0x0, 0xffffffff, []⟩,
  ⟨0x14, [], .w1c, 0x0, 0x3, []⟩,
  ⟨0x18, [], .rw, 0x0, 0x1, []⟩,
  ⟨0x1c, [], .rw, 0x0, 0xff, []⟩,
  ⟨0x20, [(0x4, 8)], .rwm, 0x0, 0x3fffff, [(0, 2, 0, 2)]⟩]

/-- Every register of block GLB. -/
def glbRows : List RegRow := glbRows0

/-- SBX registers, table rows 0 onward (R531). -/
def sbxRows0 : List RegRow := [
  ⟨0x60000, [], .rw, 0x1, 0x1, []⟩,
  ⟨0x60004, [], .ro, 0x0, 0xffffffff, []⟩,
  ⟨0x60008, [], .w1c, 0x0, 0x3fff, []⟩,
  ⟨0x6000c, [], .ro, 0x0, 0xffffffff, []⟩,
  ⟨0x60010, [], .ro, 0x0, 0xffffffff, []⟩,
  ⟨0x60014, [], .rwb, 0x0, 0x1f, []⟩,
  ⟨0x60018, [], .ro, 0x0, 0xffffffff, []⟩,
  ⟨0x6001c, [], .ro, 0x0, 0xffffffff, []⟩,
  ⟨0x60020, [], .wo, 0x0, 0xffffffff, []⟩,
  ⟨0x60024, [], .wo, 0x0, 0xffffffff, []⟩,
  ⟨0x60028, [], .wo, 0x0, 0xffffffff, []⟩,
  ⟨0x6002c, [], .ro, 0x0, 0xffffffff, []⟩,
  ⟨0x60030, [], .ro, 0x0, 0xffffffff, []⟩,
  ⟨0x60100, [(0x8, 8)], .ro, 0x0, 0xffffffff, []⟩,
  ⟨0x60104, [(0x8, 8)], .ro, 0x0, 0xffffffff, []⟩,
  ⟨0x60200, [(0x10, 8)], .ro, 0x0, 0xffffffff, []⟩,
  ⟨0x60204, [(0x10, 8)], .ro, 0x0, 0xffffffff, []⟩,
  ⟨0x60208, [(0x10, 8)], .ro, 0x0, 0xffffffff, []⟩,
  ⟨0x61000, [(0x10, 256)], .ro, 0x0, 0xffffffff, []⟩,
  ⟨0x61004, [(0x10, 256)], .ro, 0x0, 0xffffffff, []⟩,
  ⟨0x61008, [(0x10, 256)], .ro, 0x0, 0xffffffff, []⟩,
  ⟨0x6100c, [(0x10, 256)], .rc, 0x0, 0xffffffff, []⟩]

/-- Every register of block SBX. -/
def sbxRows : List RegRow := sbxRows0

/-- TGT registers, table rows 0 onward (R532). -/
def tgtRows0 : List RegRow := [
  ⟨0x70000, [], .ro, 0x0, 0xffffffff, []⟩,
  ⟨0x70004, [], .w1c, 0x0, 0x3f, []⟩,
  ⟨0x70008, [], .rwb, 0x0, 0x1, []⟩,
  ⟨0x70100, [(0x10, 8)], .ro, 0x0, 0xffffffff, []⟩,
  ⟨0x70104, [(0x10, 8)], .ro, 0x0, 0xffffffff, []⟩,
  ⟨0x70108, [(0x10, 8)], .ro, 0x0, 0xffffffff, []⟩,
  ⟨0x71000, [(0x10, 32)], .rwb, 0x0, 0xfffffff, []⟩,
  ⟨0x71004, [(0x10, 32)], .rwb, 0x0, 0xfffffff, []⟩,
  ⟨0x71008, [(0x10, 32)], .rwb, 0x0, 0x3ff03ff, []⟩,
  ⟨0x7100c, [(0x10, 32)], .rwb, 0x0, 0x7, []⟩,
  ⟨0x72000, [(0x8, 512)], .rwb, 0x0, 0x7ffff, []⟩,
  ⟨0x72004, [(0x8, 512)], .rwb, 0x0, 0xfff, []⟩,
  ⟨0x78000, [], .ro, 0x0, 0xffffffff, []⟩,
  ⟨0x78010, [(0x4, 12)], .ro, 0x0, 0xffffffff, []⟩]

/-- Every register of block TGT. -/
def tgtRows : List RegRow := tgtRows0

/-- HBR registers, table rows 0 onward (R558). -/
def hbrRows0 : List RegRow := [
  ⟨0xb00000, [], .rw, 0x1, 0x1, []⟩,
  ⟨0xb00004, [], .ro, 0x0, 0xffffffff, []⟩,
  ⟨0xb00008, [], .w1c, 0x0, 0x3f, []⟩,
  ⟨0xb0000c, [], .rwb, 0x0, 0xffffffff, [(0, 7, 0, 0)]⟩,
  ⟨0xb00010, [], .rwb, 0x14, 0x3f, [(0, 6, 20, 38)]⟩,
  ⟨0xb00014, [], .rw, 0x3e8, 0x1fff, [(0, 13, 5, 5000)]⟩,
  ⟨0xb00018, [], .rw, 0x3e8, 0x3fff, [(0, 14, 100, 10000)]⟩,
  ⟨0xb0001c, [], .rc, 0x0, 0xffffffff, []⟩,
  ⟨0xb00020, [], .rc, 0x0, 0xffffffff, []⟩,
  ⟨0xb00024, [], .rc, 0x0, 0xffffffff, []⟩,
  ⟨0xb00028, [], .rc, 0x0, 0xffffffff, []⟩,
  ⟨0xb0002c, [], .ro, 0x0, 0xffffffff, []⟩,
  ⟨0xb00100, [(0x10, 16)], .rwb, 0x0, 0xfffffff, []⟩,
  ⟨0xb00104, [(0x10, 16)], .rwb, 0x0, 0xfffffff, []⟩,
  ⟨0xb00108, [(0x10, 16)], .rwb, 0x0, 0xfffffff, []⟩,
  ⟨0xb0010c, [(0x10, 16)], .rwb, 0x0, 0x7, []⟩]

/-- Every register of block HBR. -/
def hbrRows : List RegRow := hbrRows0

/-- MEM registers, table rows 0 onward (R559). -/
def memRows0 : List RegRow := [
  ⟨0xc00000, [], .rw, 0x1, 0x1, []⟩,
  ⟨0xc00004, [], .ro, 0x0, 0xffffffff, []⟩,
  ⟨0xc00008, [], .rwb, 0x0, 0xffffffff, [(0, 26, 0, 0)]⟩,
  ⟨0xc0000c, [], .rwb, 0x0, 0xff, []⟩,
  ⟨0xc00010, [], .rw, 0x18, 0xff, [(0, 8, 1, 168)]⟩,
  ⟨0xc00014, [], .rw, 0x4, 0xff, [(0, 8, 1, 255)]⟩,
  ⟨0xc01000, [(0x100, 4)], .ro, 0x0, 0xffffffff, []⟩,
  ⟨0xc01004, [(0x100, 4)], .w1c, 0x0, 0x7f, []⟩,
  ⟨0xc01008, [(0x100, 4)], .rc, 0x0, 0xffffffff, []⟩,
  ⟨0xc0100c, [(0x100, 4)], .rc, 0x0, 0xffffffff, []⟩,
  ⟨0xc01010, [(0x100, 4)], .ro, 0x0, 0xffffffff, []⟩,
  ⟨0xc01014, [(0x100, 4)], .ro, 0x0, 0xffffffff, []⟩,
  ⟨0xc01018, [(0x100, 4)], .ro, 0x0, 0xffffffff, []⟩,
  ⟨0xc0101c, [(0x100, 4)], .ro, 0x0, 0xffffffff, []⟩,
  ⟨0xc01020, [(0x100, 4)], .ro, 0x0, 0xffffffff, []⟩,
  ⟨0xc01040, [(0x100, 4), (0x4, 32)], .ro, 0x0, 0xffffffff, []⟩,
  ⟨0xc08000, [(0x100, 4), (0x4, 16)], .ro, 0x0, 0xffffffff, []⟩]

/-- Every register of block MEM. -/
def memRows : List RegRow := memRows0

/-- RPR registers, table rows 0 onward (R560). -/
def rprRows0 : List RegRow := [
  ⟨0xd00000, [], .rw, 0x3, 0x3, []⟩,
  ⟨0xd00004, [], .ro, 0x0, 0xffffffff, []⟩,
  ⟨0xd00008, [], .w1c, 0x0, 0x3ff, []⟩,
  ⟨0xd0000c, [], .ro, 0x0, 0xffffffff, []⟩,
  ⟨0xd00010, [], .ro, 0x0, 0xffffffff, []⟩,
  ⟨0xd00014, [], .rwm, 0x0, 0x0, []⟩,
  ⟨0xd00018, [], .ro, 0x0, 0xffffffff, []⟩,
  ⟨0xd00100, [(0x10, 8)], .ro, 0x0, 0xffffffff, []⟩,
  ⟨0xd00104, [(0x10, 8)], .ro, 0x0, 0xffffffff, []⟩,
  ⟨0xd00108, [(0x10, 8)], .ro, 0x0, 0xffffffff, []⟩,
  ⟨0xd00200, [(0x4, 48)], .ro, 0x80000000, 0xffffffff, []⟩,
  ⟨0xd00300, [(0x4, 8)], .ro, 0x0, 0xffffffff, []⟩]

/-- Every register of block RPR. -/
def rprRows : List RegRow := rprRows0

end RegTable

end Sys2Proof.Machine
end

