-- ==== Sys2Proof/Machine/Sources.lean ====
section
/-! DEFINITION. The 416 supervision sources: which exist, their kind, their floor class, their unit, and the cause
codes of the privileged units' histories (15 R442 to R446, R451, and the tables of the source's own chapter). -/

namespace Sys2Proof.Machine

/-- Classes 0 Info, 1 Degraded, 2 Carriage-fatal, 3 Module-fatal of each source of a unit, bit 0 first, with the kind:
true for a condition source. `none` marks a bit with no source. -/
abbrev SrcKind := Option (Bool × Nat)

def srcI : SrcKind := some (false, 0)
def srcD : SrcKind := some (false, 1)
def srcM : SrcKind := some (false, 3)
def condI : SrcKind := some (true, 0)
def condD : SrcKind := some (true, 1)
def condM : SrcKind := some (true, 3)

/-- The sources of each unit, 0 to 31 (R442, R446, 16 R494, 17 R530, 18 R557 and the rules that raise each event). -/
def unitSources : Nat → List SrcKind
  | 0 => [condM, condM, condM, condD, condM, srcI]
  | 1 => [srcI, srcI, srcI, srcD, srcI, srcD, srcI]
  | 2 => [condM, srcD, srcD, srcI, srcI, none, none, none, srcI, srcI]
  | 3 => [srcI, srcI, srcM, srcM, srcM, condI, srcI, condM, srcD]
  | 4 => [srcM, srcM, srcM, srcM, srcM, srcD, srcD, srcD, srcD, srcI, srcI, srcI, srcD, srcD]
  | 5 => [srcD, srcD, srcI, srcD, srcI, srcI]
  | 6 => [srcI, srcI, srcI]
  | 18 => [srcI, srcI, srcI]
  | 19 => [srcI, srcI, srcD, srcD, srcI, srcD, srcI, srcI]
  | 20 => [srcI, srcD, srcI, srcD, srcI, srcI, srcI]
  | 21 => [srcD, srcD, srcI, srcI, srcI, srcI]
  | 22 => [srcD, srcD, srcI, srcD, srcD, srcD, srcI]
  | 23 => [srcI, srcI, srcD, srcI, srcI, srcI, srcI]
  | 24 => [srcD, srcD, srcI, srcI, srcI, srcI, srcI]
  | 25 => [srcI, srcD, srcD, srcD, srcD, srcD, srcI, srcI, srcI, srcD, srcI, srcD, srcI, srcD]
  | 26 => [condD, srcI, srcI, srcD, srcI, srcI, srcI, srcI, srcI, srcI, srcI, none, none, none, none, srcI]
  | 27 => [srcI, srcI, srcI, srcI, srcI, srcI]
  | 28 => [condD, srcI, srcD, srcI, srcI, srcI]
  | 29 => [srcI, srcD, srcD, condD, srcI, srcI, srcM]
  | 30 => [srcD, srcD, condD, srcD, condD, srcD, condD, condD, srcI, srcD]
  | 31 => [condD, condM, condD, condM]
  | n => if 7 ≤ n ∧ n ≤ 17 then [condD, srcI, condD, srcI, srcI] else []

/-- First source of a unit (R442). -/
def unitBase (u : Nat) : Nat :=
  if u < 6 then u * 16
  else if u ≤ 18 then 88 + (u - 6) * 8
  else if u ≤ 29 then 184 + (u - 18) * 16
  else if u = 30 then 392 else 408

/-- The unit of a source (R442). -/
def unitOf (n : Nat) : Nat :=
  if n < 80 then n / 16
  else if n < 88 then 5
  else if n < 184 then 6 + (n - 88) / 8
  else if n < 360 then 18 + (n - 184) / 16
  else if n < 392 then 29
  else if n < 408 then 30 else 31

/-- The bit of a source in its unit's register; channel m of unit 29 has its own register. -/
def srcBit (n : Nat) : Nat := if unitOf n = 29 then (n - 360) % 8 else n - unitBase (unitOf n)

/-- Kind and floor class of a source, if it exists. -/
def srcKind (n : Nat) : SrcKind := nth none (unitSources (unitOf n)) (srcBit n)

def srcExists (n : Nat) : Bool := (srcKind n).isSome
def isCondition (n : Nat) : Bool := match srcKind n with | some (c, _) => c | none => false
def floorClass (n : Nat) : Nat := match srcKind n with | some (_, c) => c | none => 0

/-- Sources whose events name a carriage (R445). -/
def namesCarriage (n : Nat) : Bool := [235, 236, 250, 251, 266, 269, 282].contains n

/-- The privileged units (R451). -/
def privileged (u : Nat) : Bool := [0, 4, 5, 24, 25, 26].contains u

/-- The history cause code of a source of a privileged unit; 15 where the unit's table gives none (R451). -/
def histCause (n : Nat) : Nat :=
  if n < 6 then n + 1
  else if 64 ≤ n ∧ n ≤ 68 then 1
  else if 69 ≤ n ∧ n ≤ 76 then nth 15 [2, 3, 4, 15, 5, 6, 7, 8] (n - 69)
  else if 80 ≤ n ∧ n ≤ 85 then nth 15 [1, 2, 3, 4, 15, 5] (n - 80)
  else if n = 280 then 1 else if n = 281 then 2 else if n = 283 then 3
  else if 296 ≤ n ∧ n ≤ 309 then nth 15 [15, 3, 2, 1, 4, 5, 15, 15, 6, 15, 8, 7, 15, 9] (n - 296)
  else if 314 ≤ n ∧ n ≤ 317 then nth 15 [1, 2, 5, 4] (n - 314)
  else 15

end Sys2Proof.Machine
end

