-- ==== Sys2Proof/Machine/RegFile.lean ====
section
/-! DEFINITION. Finding a register's table row, and what a register holds at reset (the tables of the spec, with the
registers whose reset value depends on their index). -/

namespace Sys2Proof.Machine

/-- Whether the rest `r` of an offset is a sum of strides within their counts. -/
def dimsHit : List (Nat × Nat) → Nat → Bool
  | [], r => r == 0
  | (st, ct) :: ds, r => r / st < ct && dimsHit ds (r % st)

/-- Whether a row covers an offset. -/
def RegRow.covers (r : RegRow) (off : Nat) : Bool := r.base ≤ off && dimsHit r.dims (off - r.base)

/-- The rows of the block that an offset lies in (00_scope R4 to R6). -/
def blockRows (off : Nat) : List RegRow :=
  if 0x1000000 ≤ off then (if off < 0x3000000 then RegTable.carRows else [])
  else if off < 0x10000 then RegTable.glbRows
  else if off < 0x20000 then RegTable.clkRows
  else if off < 0x30000 then RegTable.rstRows
  else if off < 0x40000 then RegTable.timRows
  else if off < 0x50000 then RegTable.supRows
  else if off < 0x60000 then RegTable.evrRows
  else if off < 0x70000 then RegTable.sbxRows
  else if off < 0x80000 then RegTable.tgtRows
  else if off < 0x90000 then RegTable.cmdRows
  else if off < 0x100000 then []
  else if off < 0x200000 then RegTable.ethRows
  else if off < 0x300000 then RegTable.swcRows
  else if off < 0x400000 then RegTable.sauRows
  else if off < 0x500000 then RegTable.fchRows
  else if off < 0x600000 then RegTable.eenRows
  else if off < 0x700000 then RegTable.hleRows
  else if off < 0x780000 then RegTable.ttbRows
  else if off < 0x800000 then RegTable.pubRows
  else if off < 0x900000 then RegTable.brcRows
  else if off < 0xA00000 then RegTable.stlRows
  else if off < 0xB00000 then RegTable.drcRows
  else if off < 0xC00000 then RegTable.hbrRows
  else if off < 0xD00000 then RegTable.memRows
  else if off < 0xE00000 then RegTable.rprRows
  else []

/-- The first row of a list that covers an offset. -/
def findRow : List RegRow → Nat → Option RegRow
  | [], _ => none
  | r :: rs, off => if r.covers off then some r else findRow rs off

/-- The ETH registers at 0x200 to 0x22C exist in blocks 8 and 9 only (03 R97). -/
def ethSecAbsent (off : Nat) : Bool :=
  0x100000 ≤ off && off < 0x1B0000 && (0x200 ≤ off % 0x10000) && !(off / 0x10000 % 16 == 8 || off / 0x10000 % 16 == 9)

/-- The register row at an offset; none where the offset is reserved or not word aligned (R7, R8). -/
def regRow? (off : Nat) : Option RegRow :=
  if off % 4 != 0 || ethSecAbsent off then none else findRow (blockRows off) off

/-- SUP_SRC_CFG of a source at reset: its floor class, its floor reactions and LOG (15 R462, field table). -/
def srcCfgReset (n : Nat) : Nat :=
  if !srcExists n then 0
  else
    let c := floorClass n
    c + (if n == 327 then 0 else 4) + (if 2 ≤ c then 8 else 0) + c * 256

/-- Reset values that depend on the register's index; none where the row's own value holds. -/
def resetAt (off : Nat) : Option Nat :=
  if off == 0 then some (0x5120 + b2n Config.gradeIndustrial * 65536 + Config.siliconRevision % 256 * 2 ^ 24)
  else if off == 0x100000 + 8 * 0x10000 || off == 0x100000 + 9 * 0x10000 then some 0x31
  else if off == 0x100000 + 10 * 0x10000 then some 0x3A
  else if 0x41000 ≤ off && off < 0x41000 + 416 * 8 then
    if off % 8 == 0 then some (srcCfgReset ((off - 0x41000) / 8))
    else some (if isCondition ((off - 0x41000) / 8) then 4 else 0)
  else if 0x200100 ≤ off && off < 0x200118 then
    some (nth 0 [0x801488BA, 0x802488B8, 0x803788F7, 0x804788FB, 0x8057888E, 0x800088E5] ((off - 0x200100) / 4))
  else if 0x200200 ≤ off && off < 0x200200 + 0x140 && (off - 0x200200) / 4 % 8 == 7 then some 0x01000006
  else if 0x510000 ≤ off && off < 0x510000 + 34 * 0x20 && off % 0x20 == 0 then
    some (if (off - 0x510000) / 0x20 < 32 then 0x100 else 1)
  else if 0x620000 ≤ off && off < 0x620000 + 17 * 0x10 && off % 0x10 == 0 then
    some (if (off - 0x620000) / 0x10 < 16 then 0x100 else 1)
  else if 0x720000 ≤ off && off < 0x720300 then
    let k := (off - 0x720000) / 0x100
    let m := (off - 0x720000) % 0x100 / 4
    some (if m < nth 0 [63, 31, 15] k then 0x80000000 + m else 0)
  else if 0xD00100 ≤ off && off < 0xD00180 && off % 0x10 == 0 then
    some (nth 0 [64, 32, 16, 48, 8, 0, 0, 0] ((off - 0xD00100) / 0x10))
  else if 0xD00100 ≤ off && off < 0xD00180 && off % 0x10 == 4 then
    some (nth 0 [0, 2, 1, 2, 2, 496, 0, 64] ((off - 0xD00100) / 0x10))
  else if 0xD00200 ≤ off && off < 0xD002C0 then some (0x80000000 + (off - 0xD00200) / 4)
  else if 0xD00300 ≤ off && off < 0xD00320 then
    some (nth 0 [64, 64, 32, 16, 64, 96, 32, 128] ((off - 0xD00300) / 4))
  else none

/-- What a register holds at power-on reset. -/
def regReset (off : Nat) : Word :=
  match resetAt off with
  | some v => w32 v
  | none => match regRow? off with
    | some r => w32 r.reset
    | none => 0

/-- The register file: offsets rising, and no entry that holds its register's reset value. -/
abbrev RegFile := List (Nat × Word)

/-- Reading the register file. -/
def rfRead (f : RegFile) (off : Nat) : Word := (tfind f off).getD (regReset off)

/-- Writing the register file. -/
def rfWrite (f : RegFile) (off : Nat) (v : Word) : RegFile :=
  if v = regReset off then tdel f off else tput f off v

end Sys2Proof.Machine
end

