-- ==== Sys2Proof/Machine/State.lean ====
section
/-! DEFINITION. The state of the block as plain data: every register (a sparse file against the reset values of the
register tables), every buffer, table, counter, mode and ball the spec gives it, and the queue of waiting commands. -/

namespace Sys2Proof.Machine

/-- No command of the block stops with a fault: the spec gives each of the table's rows an effect. -/
inductive Fault where
deriving DecidableEq, Repr

/-- Why a command has no meaning here. -/
inductive Refusal where
  /-- The row has no meaning in this model yet (raised by Dispatch alone); safe: the run stops. -/
  | notModelled (mnemonic : String)
deriving DecidableEq, Repr

/-- What a publication frame says beside its data (09 R267, R276, R285, R288): destination address, APPID, VLAN tag (PCP, VID),
confRev, octets of its references (gocbRef, datSet and goID; svID; or IPv4 addresses and UDP ports), test flag, simulation bit, and the
authentication extension: algorithm, key slot and the identity of the slot's key. -/
structure PubHead where
  da      : Nat
  appid   : Nat
  vlan    : Option (Nat × Nat)
  confRev : Nat
  refs    : List (List Nat)
  test    : Bool
  sim     : Bool
  auth    : Option (Nat × Nat × Nat)
deriving DecidableEq, Repr

/-- The SecTAG of a protected frame (03 R76): SCI (station address, then port identifier 0x0001), association number, packet number,
and whether its data is confidential. -/
structure SecTx where
  sci  : Nat
  an   : Nat
  pn   : Nat
  conf : Bool
deriving DecidableEq, Repr

/-- A frame that a unit of the device builds or forwards, as it stands in an egress queue (03 R80 to R86). `kind`:
0 forwarded, 1 GOOSE publication, 2 SV republication, 3 synchrophasor, 4 PTP, 6 of a carriage's queue. `src` is
the entry, or the carriage and queue, that made it; `body` is the content the model follows (of a PTP message: its kind,
originTimestamp in 2^-48 ns, and correctionField in 2^-16 ns modulo 2^64); `stamp` the ingress timestamp from which residence or
turnaround time counts (02 R56), in 2^-48 ns; `head` what publication states; `red` the copy's redundancy trailer or tag (03 R75);
`sec` its SecTAG. -/
structure TxFrame where
  kind : Nat
  src  : Nat
  cls  : Nat
  len  : Nat
  tag  : Nat
  body : List Nat
  stamp : Nat := 0
  head : Option PubHead := none
  red  : Option RedTag := none
  sec  : Option SecTx := none
deriving DecidableEq, Repr

/-- The header of a Brace message (11 R322, R326, R328): sequence number, term, role, unit, serial number, and the links it goes on. -/
structure BrcTx where
  seq    : Nat
  term   : Nat
  role   : Nat
  unit   : Nat
  serial : Nat
  links  : Nat
deriving DecidableEq, Repr

/-- What leaves the block, newest first in `Dev.out` (log 2). -/
inductive Out where
  /-- An interrupt of the management cores (15 R448). -/
  | irqLivery (src : Nat)
  /-- A message write outside DRAM and the outbound aperture: interrupt targets, session and carriage vectors (15 R448, 10 R319). -/
  | msg (addr : Nat) (data : Word)
  /-- A message write through the outbound aperture, at its host address (18 R534). -/
  | hostMsg (addr : Nat) (data : Word)
  /-- A frame starts on the line of a port (03 R86). -/
  | frame (port : Nat) (f : TxFrame)
  /-- The frame on the line of a port is cut short with an invalid FCS (03 R91). -/
  | frameCut (port : Nat) (f : TxFrame)
  /-- A frame starts on a port in PCS loopback: it comes back to the port's receiver and not to the line (03 R97). -/
  | looped (port : Nat) (f : TxFrame)
  /-- A frame is handed to a unit: 0 alignment, 1 GOOSE decoder, 2 PTP, 3 Livery, 4 carriage ring (03 R78). -/
  | deliver (unit port : Nat) (tick : Nat) (bytes : List Nat)
  /-- A reply written to a session: session, the source of its last accepted datagram where it is a management-port session, and the reply's
  words (13 R394, R400). -/
  | reply (session : Nat) (dst : Option Nat) (ws : List Nat)
  /-- A Brace message: its header, kind (11 R330) and content. -/
  | brace (h : BrcTx) (kind : Nat) (ws : List Nat)
  /-- A Stageline transmission: channel, seat, kind and content. -/
  | stl (chan seat : Nat) (ws : List Nat)
  /-- A value returned to the reader of a register or window. -/
  | readData (v : Word)
  /-- Data returned for a BAR2 read. -/
  | readBytes (v : List Nat)
  /-- A field ball driven to a level by a unit of the device: ball and level. -/
  | ball (name : String) (level : Nat)
  /-- An Info event to which the source table gives no source (log 6): the rule that raises it. -/
  | infoEvent (rule : Nat)
  /-- An access that ends with a status at the PCIe link: 0 UR, 1 FAULT, 2 RETRY. -/
  | pcie (status : Nat)
  /-- A carriage image written: destination (0 host buffer, 1 DRAM, 2 staging window, 3 Brace link), address, header words,
  and the body it encrypts (10 R312 to R314). -/
  | image (dest addr : Nat) (hdr : List Nat) (body : CarBody)
  /-- The configuration image of a state transfer (11 R338). -/
  | conf (i : ConfImage)
  /-- A result handed outside that the model names by its rule. -/
  | note (rule : Nat) (ws : List Nat)
deriving DecidableEq, Repr


/-- Local time and the servo (02 R40 to R53). `frac` counts 2^-48 ns; `third` is the phase of the unit added in the
first of every three RCLK cycles; `toEdge` counts RCLK cycles to the next tick edge; `pdT1` holds by port the egress timestamp of the
Pdelay_Req that waits for its answer (R54). -/
structure Tim where
  sec      : Nat
  ns       : Nat
  frac     : Nat
  third    : Nat
  toEdge   : Nat
  snap     : Option (List Nat)
  freq     : Int
  phase    : Int
  target   : Int
  good     : Nat
  holdCnt  : Nat
  firstLock : Bool
  pdT1     : Tbl Nat
deriving DecidableEq, Repr


/-- A frame that a redundancy source entry remembers: sequence number, length, the ports its copies came in on, and
whether its twin has come (03 R71, R74). -/
structure RedSeen where
  seq    : Nat
  len    : Nat
  ports  : List Nat
  paired : Bool
deriving DecidableEq, Repr

/-- A source entry of a redundancy unit: source address, tick of its last frame, newest sequence number, window. -/
structure RedSrc where
  sa   : Nat
  last : Nat
  hi   : Nat
  seen : List RedSeen
deriving DecidableEq, Repr

/-- An entry of the address table (03 R94): the words as SWC_FDB_DATA shows them, and the route of its last hit. -/
structure FdbEntry where
  addr : Nat
  vlan : Nat
  learned : Bool
  dest : Nat
  hit  : Nat
deriving DecidableEq, Repr

/-- The switch beyond its registers: egress queues by port times 8 plus class, the frame on each port's line, the gate
mask each list has in force, the ports whose trip window is open, redundancy sources by pair, the address table, sampling
counts, MACsec packet numbers by port times 4 plus association, the next transmit sequence number of each pair, multicast frames
dropped for want of an entry, and the ports that dropped a frame under R89 or R90 since a proof exchange began (11 R349). -/
structure Swc where
  queues  : Tbl (List TxFrame)
  line    : Tbl TxFrame
  gate    : Tbl Nat
  trip    : List Nat
  red     : Tbl (List RedSrc)
  fdb     : Tbl FdbEntry
  smpCnt  : Tbl Nat
  txPn    : Tbl Nat
  rxPn    : Tbl Nat
  redTx   : Tbl Nat
  mcDrop  : Nat
  dropped : List Nat
deriving DecidableEq, Repr


/-- A cell of the sample store (04 R126): leg it was written for, values, quality bytes, lead, residual, smpCnt, flags, and
the model's own index of the sample and case of the fill (R129; 0 a present sample, 6 a slip fill). -/
structure SauCell where
  leg   : Nat
  vals  : List Int
  quals : List Nat
  lead  : Nat
  resid : Int
  cnt   : Nat
  flags : Nat
  kase  : Nat
deriving DecidableEq, Repr

/-- A stream's timing model and counts (04 R112 to R121). Times are local time: `l` and `a` in 2^-8 ns, `dr` in 2^-40;
residuals in units of 2^-48 ns divided by the rate. `madeLeg` is the first leg declared since the make-live took effect, `liveLeg`
the first since the stream last became LIVE or left SUSPENDED (R129, R132). -/
structure Strm where
  l        : Int
  nA       : Int
  a        : Int
  dr       : Int
  acq      : Bool
  aSet     : Bool
  place    : Nat
  res      : List (Int × Int)
  latSum   : Int
  latCnt   : Nat
  anyRoute : Bool
  unsRoute : Bool
  lossCnt  : Nat
  legsGot  : List Nat
  madeLeg  : Nat
  liveLeg  : Nat
  fillRun  : Nat
  profSet  : Bool
  age      : Nat
deriving DecidableEq, Repr

/-- The alignment unit: entries (24 words), per-group caches (newest first), streams, store cells by leg position times
4,096 plus row, the cells with an ECC error (1 correctable, 2 uncorrectable) under the same key, and the latest declared leg. -/
structure Sau where
  entries  : Tbl (List Nat)
  cache    : Tbl (List (Nat × List Nat))
  strm     : Tbl Strm
  store    : Tbl SauCell
  ecc      : Tbl Nat
  declared : Option Nat
deriving DecidableEq, Repr


/-- The filter chain beyond its registers: descriptors in force by table times 32,768 plus index, commits waiting for the
route boundary, channels, groups, the two copies of bank 4, the leg of each measurand slot's last write by carriage times 65,536
plus slot, and the cycles each lane used since its tick and route counts were taken. -/
structure Fch where
  desc   : Tbl (List Nat)
  pend   : Tbl (List Nat)
  chans  : Tbl FChan
  grps   : Tbl FGrp
  coefA  : Tbl Nat
  coefI  : Tbl Nat
  meas   : Tbl Nat
  tickCyc  : Tbl Nat
  routeCyc : Tbl Nat
deriving DecidableEq, Repr


/-- The element engines beyond their registers: descriptors in force, commits waiting for the route boundary, instances by
descriptor index, records of background runs waiting for publication by carriage times 1,024 plus record, the engine of each
instance's last run, the instances and legs whose run was lost with its engine, and cycles used. -/
structure Een where
  desc  : Tbl (List Nat)
  pend  : Tbl (List Nat)
  inst  : Tbl KInst
  bg    : Tbl (List Nat)
  ranOn : Tbl Nat
  lost  : List (Nat × Nat)
  tickCyc  : Tbl Nat
  routeCyc : Tbl Nat
deriving DecidableEq, Repr


/-- A scan in progress on an engine: its carriage and leg, whether it is a Hold step, ACC, W, stack (saved ACC; operation 1 AND,
2 OR, 3 XOR), the next instruction, the frozen inputs, and the copy of the writable state (07 R208, R224). -/
structure HCtx where
  car   : Nat
  leg   : Nat
  hold  : Bool
  acc   : Bool
  w     : Nat
  stack : List (Bool × Nat)
  pc    : Nat
  inp   : Tbl Nat
  wr    : Tbl Nat
  tims  : Tbl HTim
  cnts  : Tbl HCnt
  ntim  : Nat
  ncnt  : Nat
deriving DecidableEq, Repr

/-- A carriage's Harness (07 R212 to R241): running and waiting program, mode asked for, committed state, live GOOSE and
Stageline words, frozen inputs by leg (oldest first), the input frozen at entry to Hold, bookkeeping of scans, the output image
handed to publication, the inputs of the scan that committed it, whether it is new, and whether retentive words wait to be written home. -/
structure HCar where
  prog    : Option HProg
  next    : Option HProg
  modeReq : Option Nat
  wr      : Tbl Nat
  tims    : Tbl HTim
  cnts    : Tbl HCnt
  live    : Tbl Nat
  frz     : List (Nat × Tbl Nat)
  holdInp : Nat × Tbl Nat
  last    : Option Nat
  skips   : Nat
  retRestored : Bool
  retLost : Bool
  swapped : Bool
  out     : Tbl Nat
  inp     : Tbl Nat
  fresh   : Bool
  dirty   : Bool
deriving DecidableEq, Repr

/-- The Harness engines beyond their registers: scans in progress by engine, carriages, the retention memory's home copies
by carriage times 1,024 plus word, GOOSE entries in force and waiting (26 words), the tick at which each entry's ALIVE runs out,
map words, and cycles used. -/
structure Hle where
  ctx   : Tbl HCtx
  cars  : Tbl HCar
  home  : Tbl Nat
  ents  : Tbl (List Nat)
  pend  : Tbl (List Nat)
  alive : Tbl Nat
  gmap  : Tbl Nat
  tickCyc  : Tbl Nat
  routeCyc : Tbl Nat
deriving DecidableEq, Repr


/-- A reservation of the plan (08 R249, R254): kind, column, relative tick, first cycle, length, carriage, and the items it serves
(channels or kernel instances by descriptor index, or the carriage's scan). -/
structure PSeat where
  kind  : Nat
  col   : Nat
  tick  : Nat
  start : Nat
  len   : Nat
  car   : Nat
  items : List Nat
deriving DecidableEq, Repr

/-- The Timetable beyond its registers (08 R252 to R262): the plan; a recomputed plan with the carriages it degrades and its
column counts, waiting for the route boundary; whether the plan has changed since its seats were last written into a bank; whether DEGRADED carriages are to be retried, and those
of them that resume with the next bank; units whose signature failed; kinds that
take a spare into the inspection seat, or run without inspection, from the next route boundary; the spare in its first inspection of
each kind with its result; columns that pass to a unit, and carriages shed, from the next leg; a switch-over asked for; and the leg at which the holdback last changed with the one
before it (01 R20); and the cycles that arbitrating seats used in this route by kind. -/
structure Ttb where
  plan     : List PSeat
  replan   : Option (List PSeat × List Nat × List Nat)
  bankDue  : Bool
  retry    : Bool
  back     : List Nat
  retire   : List (Nat × Nat)
  spareIn  : List Nat
  noInsp   : List Nat
  trial    : Tbl (Nat × Option Bool)
  colMove  : List (Nat × Nat × Nat)
  shedNext : List Nat
  switchReq : Bool
  holdOld  : Option (Nat × Nat)
  arbUsed  : Tbl Nat
deriving DecidableEq, Repr


/-- What a GOOSE publication entry runs on (09 R269 to R274, R279): the values last encoded, the published leg of its last state
change, the tick of the next scheduled frame, the interval that follows the frame before it, the tick of its last frame, whether
it published nothing while its carriage was safe, and the leg whose image was encoded last. -/
structure GeRun where
  vals  : Option (List Nat)
  leg   : Nat
  due   : Nat
  ivl   : Nat
  sent  : Option Nat
  quiet : Bool
  enc   : Nat
deriving DecidableEq, Repr

/-- Publication beyond its registers: GOOSE entries in force and waiting (58 words), their runs, map words, SV and synchrophasor
entries in force and waiting, the next report of each stream, carriages that committed since the last hand-off in commit order,
handed-off images, copies of the safe images, safe states asked for with their stamps, entries whose state change waits for the egress
tick, whether the frames of a takeover are due, whether this leg's mirror has come, the leg of each handed-off image, and synchrophasor
frames formed for the next egress tick. -/
structure Pub where
  ge      : Tbl (List Nat)
  gePend  : Tbl (List Nat)
  run     : Tbl GeRun
  map     : Tbl Nat
  sv      : Tbl (List Nat)
  svPend  : Tbl (List Nat)
  pmu     : Tbl (List Nat)
  pmuPend : Tbl (List Nat)
  pmuNext : Tbl Nat
  commits : List Nat
  img     : Tbl (Tbl Nat)
  safe    : Tbl (Tbl Nat)
  safeReq : Tbl Nat
  chg     : List Nat
  takeover : Bool
  mirrored : Bool
  imgLeg  : Tbl Nat
  pmuOut  : List TxFrame
deriving DecidableEq, Repr


/-- A descriptor that a queue has fetched: its ring index and its contents (10 R299). -/
structure QPost where
  idx  : Nat
  desc : QDesc
deriving DecidableEq, Repr

/-- A transmit frame of a queue on its way: the ports it has still to leave, its buffers, the generation it began under,
and the worst completion status so far (10 R302, R306). -/
structure QFly where
  ident : Nat
  ports : List Nat
  bufs  : List QPost
  gen   : Nat
  cls   : Nat
  stat  : Nat
deriving DecidableEq, Repr

/-- A queue context (10 R298): words 0 to 3, the indices, and the work the queue holds: descriptors posted, transmit frames on their way,
and whether the transmit run under way has a bad buffer. -/
structure QCtx where
  w0   : Nat
  w1   : Nat
  w2   : Nat
  w3   : Nat
  prod : Nat
  cons : Nat
  cpl  : Nat
  phase : Bool
  drop : Nat
  frames : Nat
  posted : List QPost
  flying : List QFly
  badRun : Bool
deriving DecidableEq, Repr

/-- What a created carriage holds beyond its window (10 R291, R292, R309): its Coachbuilder image, class and level, granted
subscription entries, a destroy that waits for the drain, an enable that waits for its seats, whether its restore is warm, and whether
its publication entries owe a first frame. -/
structure Car where
  img       : CoachImage
  cls       : Nat
  level     : Nat
  sv        : List Nat
  destroyPend : Bool
  enablePlan  : Bool
  warm      : Bool
  firstPub  : Bool
deriving DecidableEq, Repr



/-- What the partner's latest message says: role, term and serial number of its header, and its status (11 R326 to R328, R330). -/
structure Peer where
  role   : Nat
  term   : Nat
  serial : Nat
  st     : PeerStat
deriving DecidableEq, Repr

/-- A proof exchange (11 R349): start route and length in routes, RETURN, whether this module was the active, whether it has begun, the tick
of its switch-over, and the checks of Stageline that failed in it, as CAUSE numbers them. -/
structure Proof where
  start  : Nat
  len    : Nat
  ret    : Bool
  mine   : Bool
  begun  : Bool
  at'    : Nat
  causes : Nat
deriving DecidableEq, Repr

/-- The Brace pair beyond its registers (11): the partner's status; a differing version; sequence numbers taken; tick of the last
intact message; start of ORPHAN; tick of the last PARTNER_LANTERN edge and whether its count still runs; a unit clash; route at
which Standby was entered; trigger taken (cause and T); a fence that is due (tick of its cause, role it leaves); an agreed
switch-over (leg B and cause); the proof exchange; the check copy of own samples; the active's models; the declaration record that
waits (leg and cells counted) and cells got by leg; P2 items named (leg, kind, item) and done; the publication mirror of a leg; the
trip-seat images; record terms of digests (by carriage times 256 plus leg of the route), images committed of the latest legs, and the
digest table of the latest final leg; leg of the latest hand-off; consecutive equal legs since RESYNC; the state transfer (done, configuration image waiting,
generations of images restored, generations of images sent); lanes retired by link, lanes waiting for retraining; whether a proof exchange has been passed since the last pairing (R348); the leg from which an ACTIVE module sends
seat 0 and trip seats (R345), and the leg that the old active still serves after its fence (R346); and the carriages enabled and not shed at
the hand-offs of the latest legs (R335). -/
structure Brc where
  peer    : Option Peer
  badVer  : Bool
  seq     : List Nat
  lastMsg : Option Nat
  orphanAt : Option Nat
  ltn     : Nat
  ltnRun  : Bool
  clash   : Bool
  waitFrom : Option Nat
  trig    : Option (Nat × Nat)
  fenceDue : Option (Nat × Nat)
  switchAt : Option (Nat × Nat)
  proof   : Option Proof
  check   : Tbl SauCell
  models  : Tbl ModelRec
  decl    : Option (Nat × Nat)
  got     : Tbl Nat
  p2      : List (Nat × Nat × Nat)
  done    : List (Nat × Nat × Nat)
  mirror  : Option (Nat × List PubMirror)
  trips   : Tbl (List Nat)
  dig     : Tbl Nat
  imgs    : Tbl (List (Nat × Tbl Nat))
  own     : Option (Nat × List Nat)
  handed  : Option Nat
  okLegs  : Nat
  xferDone : Bool
  conf    : Option ConfImage
  imgGen  : Tbl Nat
  sent    : Tbl Nat
  lanes   : Tbl (List Nat)
  retrain : Tbl Nat
  proven  : Bool
  fromLeg : Nat
  grace   : Option Nat
  onLegs  : List (Nat × List Nat)
deriving DecidableEq, Repr



/-- A Stageline node of this module on a channel (12 R364 to R372): the last valid Waybill and the leg it came in, legs missed in a
row, the leg LISTEN was entered, the table received (epoch and entries) and the pending one (with its route), whether this node sends
seat 0, whether it does so with the received table (R371), a hand-over due (leg of its Waybill, next master), the leg from which it takes
seat 0, seats that arrived valid in this leg, whether the channel is lost, and the leg of its last Waybill. -/
structure StlNode where
  last   : Option Waybill
  lastLeg : Nat
  missed : Nat
  since  : Nat
  table  : Option (Nat × List Nat)
  pend   : Option (Nat × List Nat × Nat)
  master : Bool
  backup : Bool
  hand   : Option (Nat × Nat)
  takeFrom : Option Nat
  acks   : List Nat
  down   : Bool
  txLeg  : Option Nat
deriving DecidableEq, Repr

/-- The hosted Guard (12 R369 to R381): the Waybill last forwarded and its leg, whether it was consistent with the one before, its
table, the role and leg that each port's last status frame reported, ports to be re-admitted from the next leg, and node-reset orders
for the next leg. -/
structure StlGuard where
  fwd    : Option Waybill
  fwdLeg : Nat
  table  : List Nat
  roles  : Tbl (Nat × Nat)
  readmit : List Nat
  orders : List Nat
deriving DecidableEq, Repr

/-- Stageline beyond its registers (12): nodes by channel, the Guard, entries in the bank in force, route of an announced version,
versions reported by node with the route, leg of each node's last status frame, owners of jump seats (by entry: before, after, and
the leg of change), claims and releases of this leg (operation, node, entry), acknowledgements (seat, node) and trip seats sent in this
leg, payload of the latest copy of each seat, seats new since the last freeze, and seats taken in this leg. -/
structure Stl where
  node   : Tbl StlNode
  guard  : StlGuard
  count  : Nat
  verRoute : Option Nat
  vmax   : Tbl (Nat × Nat)
  heard  : Tbl Nat
  owners : Tbl (Nat × Nat × Nat)
  claimQ : List (Nat × Nat × Nat)
  acked  : List (Nat × Nat)
  tripSent : List Nat
  rx     : Tbl (List Nat)
  fresh  : List Nat
  got    : List Nat
deriving DecidableEq, Repr



/-- A command that has been accepted and has not ended (13 R403, R406): identity, session, tag, opcode, whether a final reply
is owed, and the carriage it names (0xFFFF for none). -/
structure Job where
  ident  : Nat
  ses    : Nat
  tag    : Nat
  op     : Nat
  notify : Bool
  car    : Nat
deriving DecidableEq, Repr

/-- An effect of an accepted command that waits for a route boundary, or for one of the boundaries its rule names; effects are
kept in the order applied (13 R405). -/
inductive Act where
  /-- A stream goes LIVE (0) with its entry words, is SUSPENDED (1), resumes (2) or is retired (3) (04 R100, R103, R104). -/
  | stream (op entry : Nat) (w : List Nat)
  /-- A mode change: the mode to enter (16 R483). -/
  | mode (m : Nat)
  /-- A holdback (01 R18). -/
  | holdback (h : Nat)
  /-- A save at F: carriage, command, slot, STOP, destination (0 host buffer, 1 DRAM, 2 staging window, 3 Brace link), address
  (10 R312). -/
  | save (c job slot : Nat) (stop : Bool) (dest addr : Nat)
  /-- A restore that resumes at a route: carriage, command, route count not reduced (10 R317). -/
  | resume (c job r : Nat)
  /-- The grants and seats of a destroyed carriage return: its region's base and size in 2 MiB units (10 R311). -/
  | freed (c base size : Nat) (img : CoachImage)
  /-- A planned switch-over or a proof exchange begins at a route (11 R346, R349). -/
  | proof (route : Nat)
deriving DecidableEq, Repr

/-- Command sessions beyond their registers: producer index, waiting final replies (eight words) and staging bytes (by session
times 65,536 plus offset), last datagram SEQ and its source address; the doorbells whose entries are outstanding, oldest first (tick and
producer index, R405); sessions that wait for a first reply, with its tag; sessions stalled by a reply that ended with FAULT; commands that have
not ended; effects that wait for a boundary; and
carriages to be enabled at the next leg boundary. -/
structure CmdSt where
  prod   : Tbl Nat
  finals : Tbl (List (List Nat))
  staging : Tbl Nat
  seqs   : Tbl Nat
  froms  : Tbl Nat
  stamps : Tbl (List (Nat × Nat))
  wait   : Tbl Nat
  faulted : List Nat
  nextJob : Nat
  jobs   : List Job
  route  : List Act
  legEn  : List Nat
deriving DecidableEq, Repr



/-- The trigger of an open record (14 R430, R437): term, KIND, FORCED, QUEST, clock state, point in 2^-16 ns of local time,
trigger leg, and the record's last leg. -/
structure RTrig where
  term   : Nat
  kind   : Nat
  forced : Bool
  quest  : Bool
  clock  : Nat
  point  : Int
  leg    : Nat
  last   : Nat
deriving DecidableEq, Repr

/-- A record that has taken its last leg and waits for the cycle RMS of its last legs (14 R426, R433): slot, first leg collected into the
slot, the record's first and last legs, SEQ, and its header. -/
structure RClose where
  slot  : Nat
  leg0  : Nat
  first : Nat
  last  : Nat
  seq   : Nat
  hdr   : List Nat
deriving DecidableEq, Repr

/-- A recorder beyond its registers (14 R423 to R437): descriptor; whether it arms at the next leg boundary; records held by slot
with their SEQ; slots that become free at the next leg boundary (256 for all); first leg collected since it armed; next leg; trigger;
last leg of the record before; MISSED and RETRIG; the legs that have GAP and whether the extent was capped; term conditions; last raw
slot of each THRESH term (value, time numerator, quality); TRIG_IN reports as term and taps; inputs of the decimated track by channel,
oldest first (of the pre-trigger ring until a trigger); a forced trigger; the leg up to which reports have been taken; and the records
that wait to be completed. -/
structure Recdr where
  desc     : List Nat
  armNext  : Bool
  held     : Tbl Nat
  freeNext : List Nat
  leg0     : Option Nat
  next     : Option Nat
  trig     : Option RTrig
  prevEnd  : Option Nat
  missed   : Nat
  retrig   : Nat
  gaps     : List Nat
  capped   : Bool
  conds    : Option Nat
  thr      : Tbl (Int × Int × Nat)
  edges    : List (Nat × Int)
  dec      : Tbl (List (Int × Nat))
  force    : Bool
  seen     : Nat
  closing  : List RClose
deriving DecidableEq, Repr

/-- Recorders; the two edges of each interval timer in taps with the leg it opened in (14 R438); renders in progress by command:
session, output address, length, recorder and slot; and the filtered levels and stamps of the GPIO balls (02 R62). -/
structure Drc where
  recs  : Tbl Recdr
  its   : Tbl (Option Int × Option Int × Nat)
  rend  : Tbl (Nat × Nat × Nat × Nat × Nat)
  gpio  : Tbl (Bool × Nat)
deriving DecidableEq, Repr



/-- One record of the event recorder (15 R459). -/
structure EvRec where
  tcFirst : Nat
  tcLast  : Nat
  sec     : Nat
  ns      : Nat
  source  : Nat
  rep     : Nat
  car     : Nat
  chg     : Nat
  data0   : Nat
  data1   : Nat
deriving DecidableEq, Repr

/-- What the LANTERN ball carries (15 R454). -/
inductive Lantern where
  | fuse | toggling | held
deriving DecidableEq, Repr

/-- Supervision and the event recorder beyond their registers. -/
structure Sup where
  lantern  : Lantern
  ltnLevel : Bool
  ltnCnt   : Nat
  occTick  : List Nat
  msgTick  : List Nat
  recs     : Tbl EvRec
  count    : Nat
  restart  : Bool
  fatalDis : List (Nat × Nat)
  fence    : Option Nat
deriving DecidableEq, Repr


/-- A reset that has been asked for and has not acted (16 R465 to R468): level (1 system, 2 core), cause, the flag bits of RST_CAUSE it
brings, and the tick and TickCode of its stamp. -/
structure ResetReq where
  level : Nat
  cause : Nat
  flags : Nat
  tick  : Nat
  tc    : Nat
deriving DecidableEq, Repr

/-- The reset unit beyond its registers (16): the level held (0 power-on, 1 system), whether the hold waits for a wake (Parked),
whether its release has begun and waits in step 5; a reset asked for; REFCLK lost; PFAIL_N low, the leg of the power-fail and PFAIL_ACK
driven; ticks since release step 1 and since the last kick, and WDT_WARN raised since; a core reset not completed yet; the security
version of the running image; whether the last release found the backup cell failed; the flash (0 copy A, 1 copy B, 2 the staging area; bytes by offset); and the copy that the boot ROM
accepted at the last start (2 for neither). -/
structure Rst where
  held    : Option Nat
  park    : Bool
  partway : Bool
  pend    : Option ResetReq
  refLost : Bool
  pfailPin : Bool
  pfailLeg : Option Nat
  acked   : Bool
  startTicks : Nat
  wdtTicks : Nat
  warned  : Bool
  coreGone : Bool
  imgVer  : Nat
  cellBad : Bool
  flash   : Tbl (Tbl Nat)
  bootImg : Nat
deriving DecidableEq, Repr


/-- The Strongbox and the debug logic beyond their registers: the identity of the key in each slot and of the root (0: no valid
root); the armed locked sequence (master, target offset and the tick of its first write); the sealed copies of slots in the retention memory (slot: attribute
word and key); whether the always-on domain runs from VBAT; tamper entries written on backup power since the last start; ticks since the
TRNG's start-up began; and application contexts that the debug port has halted beside a carriage. -/
structure Sbx where
  keys    : Tbl Nat
  root    : Nat
  armed   : Option (Nat × Nat × Nat)
  seals   : Tbl (List Nat)
  backup  : Bool
  bkNew   : Bool
  trngTicks : Nat
  halted  : List Nat
deriving DecidableEq, Repr


/-- The host bridge beyond its registers (18 R537 to R540): inbound writes that wait (offset and value, oldest first), outbound writes
that no flushing read has completed (addresses by initiator, the key of its message), and prefetched lines (first address, bytes). -/
structure Hbr where
  inq  : List (Nat × Nat)
  outw : Tbl (List Nat)
  pre  : List (Nat × Nat)
deriving DecidableEq, Repr

/-- The memory controllers beyond their registers (18 R545, R547, R548): stamps of the correctable errors of rows (channel times 2^27
plus place), rows that are to be remapped, and the repairs in progress (command, channel, place). -/
structure MemX where
  ce  : Tbl (List Nat)
  due : List Nat
  ppr : List (Nat × Nat × Nat)
deriving DecidableEq, Repr

/-- In-service repair beyond its registers (18 R549 to R552): the repair log in the retention memory, oldest first (kind and two detail
numbers), the fuse records, SRAM rows whose copy runs (group, row), application cores retired, and the route of
the latest correctable error of an SRAM row (by group times 2^24 plus row). -/
structure Rpr where
  log    : List (List Nat)
  fused  : List (List Nat)
  copies : List (Nat × Nat)
  cores  : List Nat
  sramCe : Tbl Nat
deriving DecidableEq, Repr


/-- The device: everything but the DRAM bytes and the queue of commands. -/
structure Dev where
  regs   : RegFile
  lagR   : Tbl Word
  lagL   : Tbl Word
  hiLat  : Tbl Word
  tim    : Tim
  sup    : Sup
  swc    : Swc
  sau    : Sau
  fch    : Fch
  een    : Een
  hle    : Hle
  pub    : Pub
  brc    : Brc
  stl    : Stl
  ttb    : Ttb
  cmd    : CmdSt
  drc    : Drc
  rst    : Rst
  sbx    : Sbx
  hbr    : Hbr
  memx   : MemX
  rpr    : Rpr
  cars   : Tbl Car
  carGen : Tbl Nat
  queues : Tbl QCtx
  flyId  : Nat
  msgSeq : Nat
  out    : List Out
  dramW  : List (Nat × List Byte)
  fresh  : Nat
deriving DecidableEq, Repr

/-- The whole state: the device, the DRAM bytes, and the commands that wait, first in first out. -/
structure State where
  dev     : Dev
  mem     : List Host.Cell
  pending : List Instr
deriving DecidableEq, Repr

/-! Reset (16 R464, R495; the tables of every block). Registers hold their tables' reset values, so the file lists nothing. -/

/-- Local time at reset, before the real-time counter is loaded (02 R45): the next tick edge is a whole tick away. -/
def Tim.reset : Tim :=
  { sec := 0, ns := 0, frac := 0, third := 0, toEdge := 40000, snap := none, freq := 0, phase := 0, target := 0, good := 0,
    holdCnt := 0, firstLock := false, pdT1 := [] }

def Sup.reset : Sup :=
  { lantern := .fuse, ltnLevel := false, ltnCnt := 0, occTick := [], msgTick := [], recs := [], count := 0,
    restart := false, fatalDis := [], fence := none }

def Brc.reset : Brc :=
  { peer := none, badVer := false, seq := [], lastMsg := none, orphanAt := none, ltn := 0, ltnRun := true, clash := false,
    waitFrom := none, trig := none, fenceDue := none, switchAt := none, proof := none, check := [], models := [], decl := none,
    got := [], p2 := [], done := [], mirror := none, trips := [], dig := [], imgs := [], own := none, handed := none, okLegs := 0,
    xferDone := false, conf := none, imgGen := [], sent := [], lanes := [], retrain := [],
    proven := false, fromLeg := 0, grace := none, onLegs := [] }

def Stl.reset : Stl :=
  { node := [], guard := ⟨none, 0, [], [], [], []⟩, count := 0, verRoute := none, vmax := [], heard := [], owners := [],
    claimQ := [], acked := [], tripSent := [], rx := [], fresh := [], got := [] }

def Rst.reset : Rst :=
  { held := some 0, park := false, partway := false, pend := none, refLost := false, pfailPin := false, pfailLeg := none,
    acked := false, startTicks := 0, wdtTicks := 0, warned := false, coreGone := false, imgVer := 0, cellBad := false, flash := [],
    bootImg := 2 }

/-- The device when a power-on reset asserts for the first time: nothing in the battery-backed domain, no fuse burnt (log 4). -/
def Dev.reset : Dev :=
  { regs := [], lagR := [], lagL := [], hiLat := [], tim := Tim.reset, sup := Sup.reset,
    swc := ⟨[], [], [], [], [], [], [], [], [], [], 0, []⟩, sau := ⟨[], [], [], [], [], none⟩, fch := ⟨[], [], [], [], [], [], [], [], []⟩,
    een := ⟨[], [], [], [], [], [], [], []⟩, hle := ⟨[], [], [], [], [], [], [], [], []⟩,
    pub := ⟨[], [], [], [], [], [], [], [], [], [], [], [], [], [], false, false, [], []⟩, brc := Brc.reset, stl := Stl.reset,
    ttb := ⟨[], none, false, false, [], [], [], [], [], [], [], false, none, []⟩, cmd := ⟨[], [], [], [], [], [], [], [], 0, [], [], []⟩,
    drc := ⟨[], [], [], []⟩, rst := Rst.reset, sbx := ⟨[], 0, none, [], false, false, 0, []⟩, hbr := ⟨[], [], []⟩, memx := ⟨[], [], []⟩,
    rpr := ⟨[], [], [], [], []⟩, cars := [], carGen := [], queues := [], flyId := 0, msgSeq := 0, out := [], dramW := [], fresh := 0 }

/-- The machine right after power-on reset: held in reset, nothing in DRAM, no command waiting (log 8 says how it starts to run). -/
def State.reset : State := { dev := Dev.reset, mem := [], pending := [] }

end Sys2Proof.Machine
end

