-- ==== Sys2Proof/Machine/Ops.lean ====
section
/-! DEFINITION. The named operations over the device: registers and their fields, local time, outputs, DRAM writes,
free values, and raising a supervision source with every reaction of its class (15 R442 to R461). -/

namespace Sys2Proof.Machine

/-! Registers. -/

/-- The word a register holds. -/
def Dev.rd (d : Dev) (off : Nat) : Word := rfRead d.regs off

/-- The device with a register holding a word. -/
def Dev.wr (d : Dev) (off : Nat) (v : Word) : Dev := { d with regs := rfWrite d.regs off v }

/-- A register as a number. -/
def Dev.rn (d : Dev) (off : Nat) : Nat := (d.rd off).toNat

/-- The device with a register holding a number modulo 2^32. -/
def Dev.wn (d : Dev) (off n : Nat) : Dev := d.wr off (w32 n)

/-- A field of a register: `n` bits from bit `lo`. -/
def Dev.fldR (d : Dev) (off lo n : Nat) : Nat := fld (d.rn off) lo n

/-- A bit of a register. -/
def Dev.bitR (d : Dev) (off i : Nat) : Bool := bitOf (d.rn off) i

/-- The device with a field of a register set. -/
def Dev.setF (d : Dev) (off lo n v : Nat) : Dev := d.wn off (putFld (d.rn off) lo n v)

/-- The device with a bit of a register set to a Bool. -/
def Dev.putB (d : Dev) (off i : Nat) (b : Bool) : Dev := d.setF off i 1 (b2n b)

/-- The device with a bit of a register set. -/
def Dev.setB (d : Dev) (off i : Nat) : Dev := d.putB off i true

/-- The device with a bit of a register cleared. -/
def Dev.clrB (d : Dev) (off i : Nat) : Dev := d.putB off i false

/-- A list of numbers written to registers `reg 0`, `reg 1`, …. -/
def wnList (reg : Nat → Nat) : Nat → List Nat → Dev → Dev
  | _, [], d => d
  | i, v :: vs, d => wnList reg (i + 1) vs (d.wn (reg i) v)

/-- The device with a 32-bit saturating counter register one higher. -/
def Dev.bump (d : Dev) (off : Nat) : Dev := d.wn off (satInc (d.rn off))

/-- The device with a saturating counter register `n` higher. -/
def Dev.bumpBy (d : Dev) (off n : Nat) : Dev := d.wn off (min 0xFFFFFFFF (d.rn off + n))

/-- A register's value in force where its writes lag to the next route boundary (02 R67). -/
def Dev.effR (d : Dev) (off : Nat) : Word := (tfind d.lagR off).getD (d.rd off)

/-- A register's value in force where its writes lag to the next leg boundary (00_scope R586). -/
def Dev.effL (d : Dev) (off : Nat) : Word := (tfind d.lagL off).getD (d.rd off)

/-- A write that takes effect at the next route boundary: the value in force before it is kept until then. -/
def Dev.wrLagR (d : Dev) (off : Nat) (v : Word) : Dev :=
  let old := d.effR off
  { d.wr off v with lagR := tput d.lagR off old }

/-- A write that takes effect at the next leg boundary. -/
def Dev.wrLagL (d : Dev) (off : Nat) (v : Word) : Dev :=
  let old := d.effL off
  { d.wr off v with lagL := tput d.lagL off old }

/-- The EN bit of a block in force (00_scope R586). -/
def Dev.enabled (d : Dev) (ctrl : Nat) : Bool := bitOf (d.effL ctrl).toNat 0

/-! Outputs, DRAM writes and free values. -/

/-- The device with one more output. -/
def Dev.emit (d : Dev) (o : Out) : Dev := { d with out := o :: d.out }

/-- A Brace message of this module, on every link that is up (11 R322, R326, R328). -/
def Dev.braceMsg (d : Dev) (kind : Nat) (ws : List Nat) : Dev :=
  let h : BrcTx := ⟨d.msgSeq, d.rn Reg.brcTerm, d.fldR Reg.brcStatus 0 3, d.fldR Reg.brcCfg 0 1, Config.deviceSerial,
    d.fldR Reg.brcStatus 4 2⟩
  { d with msgSeq := (d.msgSeq + 1) % 2 ^ 32 }.emit (.brace h kind ws)

/-- Prefetched lines that a write to 64-byte line `a / 64` does not touch (18 R539). -/
def preKeep (a : Nat) (l : List (Nat × Nat)) : List (Nat × Nat) :=
  l.filter (fun p => a / 64 < p.1 / 64 || (p.1 + p.2 - 1) / 64 < a / 64)

/-- The bytes of a word, lowest first (00_scope R8). -/
def wordBytes (w : Word) : List Byte := [w.extractLsb' 0 8, w.extractLsb' 8 8, w.extractLsb' 16 8, w.extractLsb' 24 8]

/-- The device with bytes of one line to be stored in DRAM by this command; a prefetched line they touch is discarded. -/
def Dev.storeAt (d : Dev) (a : Nat) (bs : List Byte) : Dev :=
  { d with dramW := d.dramW ++ [(a, bs)], hbr := { d.hbr with pre := preKeep a d.hbr.pre } }

/-- The device with words to be stored in DRAM by this command, in order. -/
def Dev.storeWords (d : Dev) : Nat → List Word → Dev
  | _, [] => d
  | a, w :: ws => Dev.storeWords (d.storeAt a (wordBytes w)) (a + 4) ws

/-- The device with a byte to be stored in DRAM. -/
def Dev.storeByte (d : Dev) (a b : Nat) : Dev := d.storeAt a [BitVec.ofNat 8 b]

/-- Bytes stored in DRAM from an address on. -/
def storeBytes : Nat → List Nat → Dev → Dev
  | _, [], d => d
  | a, b :: bs, d => storeBytes (a + 1) bs (d.storeByte a b)

/-- A write of an initiator to the host that waits for its flushing read (18 R537). -/
def Dev.outbound (d : Dev) (key addr : Nat) : Dev :=
  { d with hbr := { d.hbr with outw := tput d.hbr.outw key ((tfind d.hbr.outw key).getD [] ++ [addr]) } }

/-- A free value: a number nothing constrains (log 5). -/
def Dev.free (d : Dev) : Nat × Dev := (Config.freeNat d.fresh, { d with fresh := d.fresh + 1 })

/-- A device address inside DRAM (18 R534). -/
def inDram (a : Nat) : Bool := 0x1000000000 ≤ a && a < 0x5000000000

/-- A device address inside the outbound aperture (18 R534). -/
def inAperture (a : Nat) : Bool := 0x8000000000 ≤ a && a < 0x10000000000

/-- The host address of an aperture address (18 R534). -/
def hostAddr (d : Dev) (a : Nat) : Nat := d.rn Reg.hbrObBaseHi * 2 ^ 32 + (a - 0x8000000000)

/-- A message write outside DRAM leaves the block: in the aperture, at its host address (18 R534). -/
def msgOut (key a : Nat) (v : Word) (d : Dev) : Dev :=
  if inAperture a then (d.outbound key a).emit (.hostMsg (hostAddr d a) v) else d.emit (.msg a v)

/-! Local time (02 R40 to R43, 00_scope R12, R13). -/

/-- The addend of R41, in 2^-48 ns. -/
def addend : Nat := 0x535555555555

/-- Units of 2^-48 ns in one nanosecond. -/
def nsUnits : Nat := 2 ^ 48

/-- The extra units that `c` cycles add when `third` cycles have run since the last extra unit's group began: one in the
first cycle of every three. -/
def extraUnits (third c : Nat) : Nat := (third + c + 2) / 3 - (third + 2) / 3

/-- Local time `c` RCLK cycles later (R40, R41). -/
def Tim.advance (t : Tim) (c : Nat) : Tim :=
  let f := t.frac + c * addend + extraUnits t.third c
  let n := t.ns + f / nsUnits
  { t with frac := f % nsUnits, ns := n % 1000000000, sec := (t.sec + n / 1000000000) % 2 ^ 48,
           third := (t.third + c) % 3 }

/-- Local time within the 50 ms route, in 2^-48 ns. -/
def Tim.inRoute (t : Tim) : Nat := t.ns % 50000000 * nsUnits + t.frac

/-- The count of routes since the epoch of TAI, not reduced. -/
def Tim.absRoute (t : Tim) : Nat := t.sec * 20 + t.ns / 50000000

/-- The tick within the route, 0 to 3,839 (R43). -/
def Tim.tickInRoute (t : Tim) : Nat := t.inRoute * 76800 / (1000000000 * nsUnits)

/-- The count of ticks, not reduced. -/
def Tim.absTick (t : Tim) : Nat := t.absRoute * 3840 + t.tickInRoute

/-- The count of legs, not reduced. -/
def Tim.absLeg (t : Tim) : Nat := t.absTick / 16

/-- The TickCode of a count of ticks (R12, R13). -/
def tickCodeOf (absTick : Nat) : Nat :=
  absTick / 3840 % 2 ^ 20 * 4096 + absTick % 3840 / 16 * 16 + absTick % 16

/-- The TickCode of local time (R43). -/
def Tim.tickCode (t : Tim) : Nat := tickCodeOf t.absTick

/-- The TickCode now. -/
def Dev.tc (d : Dev) : Nat := d.tim.tickCode

/-- RCLK cycles from `t` to the next tick edge: the first cycle at which local time reaches a multiple of 1/76,800 s
counted from the 50 ms boundary (R42). -/
def Tim.cyclesToEdge (t : Tim) : Nat :=
  let next := t.tickInRoute + 1
  -- the edge in thirds of 2^-48 ns: next * 10^9 / 76800 ns
  let rem := next * 1000000000 * nsUnits - t.inRoute * 76800
  -- a cycle is (3 * addend + 1) / 3 units
  let c := (rem * 3 + 76800 * (3 * addend + 1) - 1) / (76800 * (3 * addend + 1))
  if (t.inRoute + (c - 1) * addend + extraUnits t.third (c - 1)) * 76800 ≥ next * 1000000000 * nsUnits then c - 1
  else if (t.inRoute + c * addend + extraUnits t.third c) * 76800 ≥ next * 1000000000 * nsUnits then c else c + 1

/-! Supervision (15). -/

/-- The event register that holds a source's bit, if its unit has one (R442). -/
def evtReg (n : Nat) : Option Nat :=
  let u := unitOf n
  if n = 327 then none
  else if u = 0 then some Reg.clkEvt else if u = 1 then some Reg.timEvt
  else if u = 2 then some (if n < 40 then Reg.rstEvt else Reg.glbEvt)
  else if u = 4 then some Reg.sbxEvt else if u = 5 then some Reg.tgtEvt else if u = 6 then some Reg.cmdEvt
  else if 7 ≤ u ∧ u ≤ 17 then some (Reg.ethEvt (u - 7))
  else if u = 18 then some Reg.swcEvt else if u = 19 then some Reg.sauEvt else if u = 20 then some Reg.fchEvt
  else if u = 21 then some Reg.eenEvt else if u = 22 then some Reg.hleEvt else if u = 23 then some Reg.ttbEvt
  else if u = 24 then some Reg.pubEvt else if u = 25 then some Reg.brcEvt else if u = 26 then some Reg.stlEvt
  else if u = 27 then some Reg.drcEvt else if u = 28 then some Reg.hbrEvt
  else if u = 29 then some (Reg.memCEvt ((n - 360) / 8))
  else if u = 30 then some Reg.rprEvt else none

/-- The bit of a source in its event register: GLB_EVT holds sources 40 onward from bit 0 (16 R494, R496). -/
def evtBit (n : Nat) : Nat := if unitOf n = 2 ∧ 40 ≤ n then n - 40 else srcBit n

/-- The TickCode and cause registers of entry `k` of a privileged unit's history (R451). -/
def histRegs (u k : Nat) : Nat × Nat :=
  if u = 0 then (Reg.clkHistTc k, Reg.clkHistCause k)
  else if u = 4 then (Reg.sbxHistTc k, Reg.sbxHistCause k)
  else if u = 5 then (Reg.tgtHistTc k, Reg.tgtHistCause k)
  else if u = 24 then (Reg.pubHistTc k, Reg.pubHistCause k)
  else if u = 25 then (Reg.brcHistTc k, Reg.brcHistCause k)
  else (Reg.stlHistTc k, Reg.stlHistCause k)

/-- Entry `k` of a history copied to entry `k + 1`. -/
def histMove (u k : Nat) (d : Dev) : Dev :=
  let a := histRegs u k
  let b := histRegs u (k + 1)
  let d := (d.wr b.1 (d.rd a.1)).wr b.2 (d.rd a.2)
  if u = 5 then d.wr (Reg.tgtHistAddr (k + 1)) (d.rd (Reg.tgtHistAddr k)) else d

/-- A new entry `p` of a privileged unit's history, the entries from `p` on moving up; one lost past entry 7 sets OVERFLOW (R451). -/
def histPut (u p cause addr : Nat) (d : Dev) : Dev :=
  let d := if p = 8 || fld (d.rn (histRegs u 7).2) 0 4 ≠ 0 then d.setB (Reg.supUFirst u) 16 else d
  if p = 8 then d
  else
    let d := ([6, 5, 4, 3, 2, 1, 0].filter (fun k => p ≤ k)).foldl (fun d k => histMove u k d) d
    let d := (d.wn (histRegs u p).1 d.tc).wn (histRegs u p).2 cause
    if u = 5 then d.wn (Reg.tgtHistAddr p) addr else d

/-- A new entry 0 of a privileged unit's history. -/
def histPush (u cause addr : Nat) (d : Dev) : Dev := histPut u 0 cause addr d

/-- The place of a source's entry: behind the entries of the same tick whose sources stand higher in the order of R63 (R451). -/
def histPos (u bit : Nat) (d : Dev) : Nat :=
  ((List.range 8).takeWhile (fun k =>
    let w := d.rn (histRegs u k).2
    d.rn (histRegs u k).1 == d.tc && fld w 0 4 != 0 && decide (bit < fld w 28 4))).length

/-- The unit's first-fault latch; of the sources of one tick it holds the lowest (R451). -/
def firstFault (n : Nat) (d : Dev) : Dev :=
  let r := Reg.supUFirst (unitOf n)
  if d.bitR r 15 then
    if d.rn (Reg.supUFirstTc (unitOf n)) = d.tc && n < d.fldR r 0 9 then (d.setF r 0 9 n).setB r 16 else d.setB r 16
  else (d.wn r (n + 0x8000)).wn (Reg.supUFirstTc (unitOf n)) d.tc

/-- Latching a source: its event bit, its status and occurrences, its unit's count, and its unit's first fault or
history with the detail bits `h` and `addr` of the unit's own table (R443, R447, R451). -/
def latchSource (n h addr : Nat) (d : Dev) : Dev :=
  let d := match evtReg n with
    | some r => d.setB r (evtBit n)
    | none => d
  let st := Reg.supSrcStatus n
  let d := (d.setB st 0).setB st 1
  let d := d.setF st 16 16 (min 0xFFFF (d.fldR st 16 16 + 1))
  let d := { d with sup := { d.sup with occTick := if isCondition n then d.sup.occTick else n :: d.sup.occTick } }
  let d := d.bump (Reg.supUCnt (unitOf n))
  if privileged (unitOf n) then
    if n = 327 then d
    else histPut (unitOf n) (histPos (unitOf n) (srcBit n) d) (histCause n + h + srcBit n * 2 ^ 28) addr d
  else firstFault n d

/-- The CARRIAGE field of a record: the carriage with its valid bit, or 0 (R459). -/
def evCar : Option Nat → Nat
  | some c => c + 0x8000
  | none => 0

/-- Whether EVR_STATUS.FORMAT is 1 (R461). -/
def evFormat1 (d : Dev) : Bool := d.fldR Reg.evrStatus 24 4 == 1

/-- The record at position `p` updated for a repeat (R458). -/
def evRepeat (p : Nat) (r : EvRec) (d : Dev) : Dev :=
  let cap := if evFormat1 d then 0xFF else 0xFFFF
  let r' := { r with tcLast := d.tc, rep := min cap (r.rep + 1), chg := (r.chg + 2) % 0x10000 }
  let d := { d with sup := { d.sup with recs := tput d.sup.recs p r' } }
  if r.rep < cap then d else d.bump Reg.evrLost

/-- The position of a new record: the next one, but before the records of the same tick that stand higher in the order of R63, by input
class and source (R456). -/
def evPos (d : Dev) (src : Nat) : Nat → Nat
  | 0 => 0
  | p + 1 => match tfind d.sup.recs p with
    | some r => if r.tcFirst = d.tc && src % 2 ^ 14 < r.source % 2 ^ 14 then evPos d src p else p + 1
    | none => p + 1

/-- A new record at position `p` (R457, R459). -/
def evAppend (p src car d0 d1 : Nat) (d : Dev) : Dev :=
  let r : EvRec := ⟨d.tc, d.tc, d.tim.sec % 2 ^ 32, d.tim.ns, src, 0, car, 2, d0, d1⟩
  let up := d.sup.recs.map (fun q => if p ≤ q.1 then (q.1 + 1, q.2) else q)
  let d := { d with sup := { d.sup with recs := tput up p r, count := d.sup.count + 1 } }
  d.setF Reg.evrStatus 0 17 d.sup.count

/-- Whether an event equals the last record in SOURCE, CARRIAGE, DATA0 and DATA1 (R458). -/
def evSame (r : EvRec) (src car d0 d1 : Nat) : Bool :=
  r.source == src && r.car == car && r.data0 == d0 && r.data1 == d1

/-- The recorder takes an event (R456 to R459, R586); true when this write filled it. -/
def evLog (src car d0 d1 : Nat) (d : Dev) : Dev × Bool :=
  if !d.enabled Reg.evrCtrl then (d.bump Reg.evrLost, false)
  else
    let p := evPos d src d.sup.count
    match (if p = 0 then none else tfind d.sup.recs (p - 1)) with
    | some r =>
      if evSame r src car d0 d1 then (evRepeat (p - 1) r d, false)
      else if 65536 ≤ d.sup.count then (d.bump Reg.evrLost, false)
      else (evAppend p src car d0 d1 d, d.sup.count + 1 == 65536)
    | none => if 65536 ≤ d.sup.count then (d.bump Reg.evrLost, false) else (evAppend p src car d0 d1 d, d.sup.count + 1 == 65536)

/-- Whether outbound requests are refused: Bus Master Enable 0 or D3hot (18 R536). -/
def outRefused (d : Dev) : Bool := !d.bitR Reg.hbrStatus 8 || d.bitR Reg.hbrStatus 9

/-- A message write of a word to a device address, once per tick for its key (15 R448, 10 R319); true when it ended with
FAULT (18 R536). -/
def msgWrite (key addr : Nat) (data : Word) (d : Dev) : Dev × Bool :=
  if addr = 0 || d.sup.msgTick.contains key then (d, false)
  else
    let d := { d with sup := { d.sup with msgTick := key :: d.sup.msgTick } }
    if inAperture addr && outRefused d then (d.bump Reg.hbrObRefused, true)
    else if inDram addr then (d.storeWords addr [data], false)
    else (msgOut key addr data d, false)

/-- The address of interrupt target `t` (R462). -/
def irqAddr (t : Nat) (d : Dev) : Nat := d.rn (Reg.supIrqAddrLo t) + d.fldR (Reg.supIrqAddrHi t) 0 8 * 2 ^ 32

/-- The Module-fatal reaction: the Lantern held, the first source and its stamp kept, FAIL sent, and the fence of the
next tick (R448, R450, R454; 11 R342, R344). -/
def moduleFatal (n : Nat) (d : Dev) : Dev :=
  let d := if d.bitR Reg.supMfSource 15 then
      (if d.rn Reg.supMfTc = d.tc && n < d.fldR Reg.supMfSource 0 9 then d.setF Reg.supMfSource 0 9 n else d)
    else (d.wn Reg.supMfSource (n + 0x8000)).wn Reg.supMfTc d.tc
  let d := { d with sup := { d.sup with lantern := .held, ltnLevel := bitOf (d.rn Reg.rstBallFuse) 2,
                                        fence := some (d.sup.fence.getD n) } }
  d.braceMsg 9 [n]

/-- The class of a source: the class software set, never below the floor (R445). -/
def srcClass (n : Nat) (d : Dev) : Nat := max (floorClass n) (d.fldR (Reg.supSrcCfg n) 0 2)

/-- Raising a source: it latches, and every reaction of its class is taken (R447 to R449). The fuel bounds the events
that reactions raise in turn: a full recorder (source 53) and a failed interrupt write (347, 56). -/
def raiseF : Nat → Nat → Option Nat → Nat → Nat → Nat → Nat → Dev → Dev
  | 0, _, _, _, _, _, _, d => d
  | f + 1, n, car, d0, d1, h, addr, d =>
    let d := latchSource n h addr d
    let cls := srcClass n d
    let cfg := d.rn (Reg.supSrcCfg n)
    let en := d.enabled Reg.supCtrl
    let d := if bitOf cfg 2 || decide (1 ≤ cls) then
        let r := evLog (n + 3 * 1024 + cls * 2 ^ 14) (evCar car) d0 d1 d
        if r.2 then raiseF f 53 none 0 0 0 0 (r.1.setB Reg.evrStatus 20) else r.1
      else d
    let d := if decide (2 ≤ cls) || (en && bitOf cfg 3) then d.emit (.irqLivery n) else d
    let irq (t : Nat) (d : Dev) : Dev :=
      let r := msgWrite t (irqAddr t d) (d.rd (Reg.supIrqData t)) d
      if r.2 then raiseF f 56 none t 0 0 0 (raiseF f 347 none 0 0 0 0 r.1) else r.1
    let d := if en && bitOf cfg 4 then irq 0 d else d
    let d := if en && bitOf cfg 5 && cls != 3 then irq 1 d else d
    let d := match cls, car with
      | 2, some c => { d with sup := { d.sup with fatalDis := d.sup.fatalDis ++ [(c, d.tim.absTick)] } }
      | _, _ => d
    if cls = 3 then moduleFatal n d else d

/-- Raising a source with its history detail. -/
def raiseH (n : Nat) (car : Option Nat) (d0 d1 h addr : Nat) (d : Dev) : Dev :=
  if srcExists n then raiseF 4 n car d0 d1 h addr d else d

/-- Raising a source with the carriage it names and its two data words. -/
def raise (n : Nat) (car : Option Nat) (d0 d1 : Nat) (d : Dev) : Dev := raiseH n car d0 d1 0 0 d

/-- A condition source's cause comes: it latches when the cause was not present (R443). -/
def setCond (n : Nat) (d0 : Nat) (d : Dev) : Dev :=
  if d.bitR (Reg.supSrcStatus n) 0 then d else raise n none d0 0 d

/-- A condition source's cause goes: the latch stays. -/
def clearCond (n : Nat) (d : Dev) : Dev := d.clrB (Reg.supSrcStatus n) 0

/-- A fresh event of a class other than 3 in the recorder (R456). -/
def logInput (cls src car d0 d1 : Nat) (d : Dev) : Dev :=
  let r := evLog (src + cls * 1024) car d0 d1 d
  if r.2 then raiseF 3 53 none 0 0 0 0 (r.1.setB Reg.evrStatus 20) else r.1

/-! The mode and what it permits. -/

/-- GLB_MODE.MODE (16 R483). -/
def Dev.mode (d : Dev) : Nat := d.fldR Reg.glbMode 0 3

def modeRecovery : Nat := 0
def modeBoot : Nat := 1
def modeCommission : Nat := 2
def modeStandby : Nat := 3
def modeActive : Nat := 4
def modeMaintenance : Nat := 5
def modeParked : Nat := 6

/-- A write to an RWM register: by boot code in Boot and in Maintenance; in any other mode no effect but source 49
(00_scope R11). -/
def rwm (d : Dev) (f : Dev → Dev) : Dev :=
  if d.mode = modeBoot ∨ d.mode = modeMaintenance then f d else raise 49 none 0 0 d

/-! Outcomes. -/

/-- The DRAM byte at a device address (log 3: bytes nothing has written read 0). -/
def memRead (m : List Host.Cell) (a : Nat) : Byte := (tfind m a).getD 0

/-- The DRAM with one byte stored: addresses rising, no entry of 0. -/
def memWrite (m : List Host.Cell) (a : Nat) (b : Byte) : List Host.Cell := tset 0 m a b

/-- The DRAM with bytes stored from an address on; bytes outside DRAM are not stored. -/
def memWriteBytes : List Host.Cell → Nat → List Byte → List Host.Cell
  | m, _, [] => m
  | m, a, b :: bs => memWriteBytes (if inDram a then memWrite m a b else m) (a + 1) bs

/-- The DRAM with a command's stores. -/
def memWriteWords : List Host.Cell → List (Nat × List Byte) → List Host.Cell
  | m, [] => m
  | m, (a, bs) :: ws => memWriteWords (memWriteBytes m a bs) ws

/-- Keys of a table strictly rising. -/
def rising {α : Type} : List (Nat × α) → Bool
  | [] => true
  | [_] => true
  | (a, _) :: (b, y) :: t => decide (a < b) && rising ((b, y) :: t)

/-- The canonical form of DRAM: addresses of DRAM strictly rising, and no entry of 0, which every unlisted address reads as. -/
def Memory.wf (m : List Host.Cell) : Bool := rising m && m.all (fun p => p.2 != 0 && inDram p.1)

/-- The outcome of a step. -/
abbrev Outcome := Host.Outcome State Fault Refusal

/-- The state in which the device has changed and the words it stored stand in DRAM. -/
def State.commit (s : State) (d : Dev) : State :=
  { s with dev := { d with dramW := [] }, mem := memWriteWords s.mem d.dramW }

/-- Whether the device runs: no power-on or system reset is held (16 R464, R471). -/
def Dev.up (d : Dev) : Bool := d.rst.held.isNone

/-- A command that acts whether or not a reset is held: the reset logic, the always-on domain and the debug logic. -/
def State.actR (s : State) (f : Dev → Dev) : Outcome := .next (s.commit (f s.dev))

/-- A command whose whole effect is a change of the device. While a reset is held nothing runs, and it has no effect. -/
def State.act (s : State) (f : Dev → Dev) : Outcome := s.actR (fun d => if d.up then f d else d)

/-- The byte of DRAM at a device address. -/
def memByte (m : List Host.Cell) (a : Nat) : Nat := (memRead m a).toNat

/-- The word of DRAM at a device address, lowest byte first. -/
def memWord (m : List Host.Cell) (a : Nat) : Nat :=
  (memRead m a).toNat + (memRead m (a + 1)).toNat * 2 ^ 8 + (memRead m (a + 2)).toNat * 2 ^ 16 +
    (memRead m (a + 3)).toNat * 2 ^ 24

/-- A command whose whole effect is a change of the device that reads DRAM. -/
def State.actM (s : State) (f : List Host.Cell → Dev → Dev) : Outcome := s.act (f s.mem)

/-- An effect where its condition holds, and nothing otherwise. -/
def onlyIf (b : Bool) (f : Dev → Dev) (d : Dev) : Dev := if b then f d else d

end Sys2Proof.Machine
end

