-- ==== Sys2Proof/Machine/Carriage.lean ====
section
/-! DEFINITION. Carriages: states, generations, events and message vectors, queues and their completions
(10 R294 to R310, R319). The registers of a carriage's window hold what the window shows. -/

namespace Sys2Proof.Machine

def stFree : Nat := 0
def stDisabled : Nat := 1
def stEnabled : Nat := 2
def stDraining : Nat := 3
def stFrozen : Nat := 4
def stRestoring : Nat := 5

/-- CAR_STATE.STATE (R294). -/
def carSt (d : Dev) (c : Nat) : Nat := d.fldR (Reg.carState c) 0 3

/-- Whether a carriage is ENABLED. -/
def carEnabled (d : Dev) (c : Nat) : Bool := carSt d c == stEnabled

/-- Whether any carriage is enabled (02 R48, R51). -/
def anyEnabled (d : Dev) : Bool := (tkeys d.cars).any (carEnabled d)

/-- Whether the carriage runs work: ENABLED, or RESTORING (R294). -/
def carRuns (d : Dev) (c : Nat) : Bool := carSt d c == stEnabled || carSt d c == stRestoring

/-- Whether a carriage catches up or has caught up under a warm restore (R316). -/
def warmUp (d : Dev) (c : Nat) : Bool := carSt d c == stRestoring && d.bitR (Reg.carState c) 8

/-- Whether a carriage is DEGRADED, so that its work is stopped (08 R258). -/
def isShed (d : Dev) (c : Nat) : Bool := d.fldR (Reg.ttbCState c) 0 2 == 3

/-- The class of a carriage: 0 P0, 1 P1, 2 P2. -/
def carCls (d : Dev) (c : Nat) : Nat := match tfind d.cars c with | some k => k.cls | none => 0

/-- The interface level of a carriage (R293). -/
def carLevel (d : Dev) (c : Nat) : Nat := match tfind d.cars c with | some k => k.level | none => 2

/-- The device with a carriage's record changed. -/
def modCar (c : Nat) (f : Car → Car) (d : Dev) : Dev :=
  match tfind d.cars c with
  | some k => { d with cars := tput d.cars c (f k) }
  | none => d

/-- The address of a message vector. -/
def vecAddr (d : Dev) (c v : Nat) : Nat := d.rn (Reg.carVecAddrLo c v) + d.fldR (Reg.carVecAddrHi c v) 0 8 * 2 ^ 32

/-- The key of a message write: interrupt targets are 0 and 1, session vectors 8 + s, carriage vectors from 128 on. -/
def vecKey (c v : Nat) : Nat := 128 + c * 32 + v

/-- A message write whose failure latches sources 347 and 56 (18 R536). -/
def msgWriteE (key addr : Nat) (data : Word) (d : Dev) : Dev :=
  let r := msgWrite key addr data d
  if r.2 then raise 56 none key 0 (raise 347 none key 0 r.1) else r.1

/-- A vector has a cause: one write when unmasked, PENDING when masked (R319). At level 1 only vector 0 exists. -/
def vecSignal (c v : Nat) (d : Dev) : Dev :=
  let v := if carLevel d c == 1 then 0 else v
  if d.bitR (Reg.carVecCtrl c v) 0 then d.setB (Reg.carVecCtrl c v) 1
  else msgWriteE (vecKey c v) (vecAddr d c v) (d.rd (Reg.carVecData c v)) d

/-- A bit of CAR_EVT sets: vector 0 is signalled when unmasked, and source 416 + c is recorded when CAR_LOG is 1
(R319, 15 R444). -/
def carEvent (c bit : Nat) (d : Dev) : Dev :=
  let d := d.setB (Reg.carEvt c) bit
  let d := if d.bitR Reg.evrCtrl 2 then logInput 3 (416 + c) (evCar (some c)) bit 0 d else d
  if d.bitR (Reg.carEvtMask c) bit then vecSignal c 0 d else d

/-- A carriage enters a state: CAR_LAST_TC and STATE_CHANGE follow (R294, R318). -/
def setCarSt (c st : Nat) (d : Dev) : Dev :=
  carEvent c 0 (((d.setF (Reg.carState c) 0 3 st)).wn (Reg.carLastTc c) d.tc)

/-- The next generation: 0 is skipped (R304). -/
def nextGen (g : Nat) : Nat := if (g + 1) % 0x10000 = 0 then 1 else (g + 1) % 0x10000

/-- The carriage's generation increments (R304). -/
def bumpGen (c : Nat) (d : Dev) : Dev :=
  let g := nextGen (d.fldR (Reg.carGen c) 0 16)
  let d := { d.wn (Reg.carGen c) g with carGen := tput d.carGen c g }
  carEvent c 1 d

/-- The safe image comes into force or leaves (09 R277; CAR_STATE.SAFE). -/
def setSafe (c : Nat) (b : Bool) (d : Dev) : Dev := d.putB (Reg.carState c) 7 b

/-! Queues. -/

/-- A queue context with nothing in it. -/
def QCtx.empty : QCtx := ⟨0, 0, 0, 0, 0, 0, 0, false, 0, 0, [], [], false⟩

/-- Words 0 to 7 of a context (R298). -/
def QCtx.words (x : QCtx) : List Nat :=
  [x.w0, x.w1, x.w2, x.w3, x.prod + x.cons * 65536, x.cpl + b2n x.phase * 65536, x.drop, x.frames]

/-- The global number of queue `q` of carriage `c` (R297). -/
def qNum (c q : Nat) : Nat := c * 2048 + q

def qGet (d : Dev) (g : Nat) : QCtx := tget QCtx.empty d.queues g

/-- The address of a context in the queue-context region of DRAM (R298; 18 R556). -/
def ctxAddr (d : Dev) (g : Nat) : Nat := d.rn Reg.memQctxBaseLo + d.fldR Reg.memQctxBaseHi 0 8 * 2 ^ 32 + g * 64

/-- A queue's context changed, its words in the queue-context region with it (R298). -/
def qSet (g : Nat) (x : QCtx) (d : Dev) : Dev :=
  { d with queues := tset QCtx.empty d.queues g x }.storeWords (ctxAddr d g) (x.words.map w32)

def QCtx.typ (x : QCtx) : Nat := fld x.w0 0 2
def QCtx.en (x : QCtx) : Bool := bitOf x.w0 2
def QCtx.irqEn (x : QCtx) : Bool := bitOf x.w0 3
def QCtx.vector (x : QCtx) : Nat := fld x.w0 4 5
def QCtx.log2 (x : QCtx) : Nat := fld x.w0 9 4
def QCtx.bufSize (x : QCtx) : Nat := fld x.w3 0 16
def QCtx.portMask (x : QCtx) : Nat := fld x.w3 16 11

/-- The number of queues of a carriage that are usable (R291). -/
def carQueues (d : Dev) (c : Nat) : Nat := d.fldR (Reg.carId c) 16 12 + 1

/-- The base of a carriage's DRAM region. -/
def carBase (d : Dev) (c : Nat) : Nat := d.rn (Reg.carDramBaseLo c) + d.fldR (Reg.carDramBaseHi c) 0 8 * 2 ^ 32

/-- The size of a carriage's DRAM region in bytes. -/
def carSize (d : Dev) (c : Nat) : Nat := d.rn (Reg.carDramSize c) * 0x200000

/-- Whether a buffer lies inside the carriage's region (R302). -/
def inRegion (d : Dev) (c ofs len : Nat) : Bool := ofs + len ≤ carSize d c

/-- One completion: written to the ring first, then CPL_PROD advances and PHASE toggles on its wrap; a vector is
signalled for IRQ (R300, R319). -/
def completion (g stamp len gen tag desc status : Nat) (sop eop irq : Bool) (port cls : Nat) (d : Dev) : Dev :=
  let c := g / 2048
  let x := qGet d g
  let fl := b2n sop + b2n eop * 2 + (if carLevel d c == 1 then 0 else b2n x.phase * 4)
  let d := d.storeWords (carBase d c + x.w2 + x.cpl * 16)
    [w32 stamp, w32 (len % 0x10000 + gen % 0x10000 * 0x10000), w32 (tag % 0x10000 + desc % 0x10000 * 0x10000),
     w32 (status + fl * 0x100 + port * 0x10000 + cls * 0x1000000)]
  let nx := (x.cpl + 1) % 2 ^ x.log2
  let d := qSet g { x with cpl := nx, phase := if nx = 0 then !x.phase else x.phase } d
  if irq && x.irqEn then vecSignal c x.vector d else d

/-- The completions of the buffers of a frame, SOP on the first and EOP on the last (R301). -/
def completions (g stamp gen status port cls : Nat) : Bool → List (QPost × Nat) → Dev → Dev
  | _, [], d => d
  | sop, (p, n) :: rest, d =>
    completions g stamp gen status port cls false rest
      (completion g stamp n gen p.desc.tag p.idx status sop rest.isEmpty p.desc.irq port cls d)

/-- A queue's reset: EN, PROD, CONS, CPL_PROD and PHASE clear; work already started stays and is discarded at its end
(R298, R306). -/
def queueReset (g : Nat) (d : Dev) : Dev :=
  let x := qGet d g
  qSet g { x with w0 := putFld x.w0 2 1 0, prod := 0, cons := 0, cpl := 0, phase := false, posted := [],
                  flying := x.flying.map (fun f => { f with gen := 0x10000 }), badRun := false } d

/-- Every queue of a carriage reset (R308). -/
def resetQueues (c : Nat) (d : Dev) : Dev :=
  ((tkeys d.queues).filter (fun g => g / 2048 == c)).foldl (fun d g => queueReset g d) d

/-- Lengths of the pieces of a frame of `len` bytes in buffers of `sz` bytes (R301). -/
def pieces (sz : Nat) : Nat → Nat → List Nat
  | 0, _ => []
  | _ + 1, 0 => []
  | k + 1, len => if len ≤ sz then [len] else sz :: pieces sz k (len - sz)

/-- A frame on its way to a carriage's receive queue: length, port, class, the tick of its stamp (01 R16), the tick in which its first
octet came, and its octets from the destination address on. -/
structure RxFrame where
  len   : Nat
  port  : Nat
  cls   : Nat
  tick  : Nat
  began : Nat
  bytes : List Nat
deriving DecidableEq, Repr

/-- Ticks of the TickCode's cycle between two TickCodes. -/
def ticksSince (tc since : Nat) : Nat :=
  let tk (t : Nat) : Nat := t / 4096 * 3840 + t % 4096
  (tk tc + 2 ^ 20 * 3840 - tk since) % (2 ^ 20 * 3840)

/-- Whether a frame began to arrive under the generation that a draining carriage had before (R306, R311's example). -/
def rxOldGen (d : Dev) (c began : Nat) : Bool :=
  (carSt d c == stDraining || carSt d c == stFrozen) && decide (ticksSince d.tc (d.rn (Reg.carLastTc c)) < d.tim.absTick - began)

/-- A frame's octets written to its buffers, piece by piece (R301). -/
def storePieces (base : Nat) : List (QPost × Nat) → List Nat → Dev → Dev
  | [], _, d => d
  | (p, n) :: rest, bs, d => storePieces base rest (bs.drop n) (storeBytes (base + p.desc.addr) (bs.take n) d)

/-- A frame for a carriage's receive queue: delivered whole with its completions, dropped when the queue cannot take
frames, discarded when it began under an older generation, or dropped whole when the ring is exhausted (R297, R301, R306; 03 R92).
The answer is R93's outcome code. -/
def queueRx (g : Nat) (f : RxFrame) (d : Dev) : Dev × Nat :=
  let c := g / 2048
  let x := qGet d g
  let ps := pieces x.bufSize f.len f.len
  if !x.en || x.typ != 1 || carQueues d c ≤ g % 2048 then (qSet g { x with drop := satInc x.drop } d, 3)
  else if rxOldGen d c f.began && ps.length ≤ x.posted.length then (carEvent c 4 (d.bump (Reg.carStaleCpl c)), 3)
  else if !carEnabled d c then (qSet g { x with drop := satInc x.drop } d, 3)
  else
    if x.posted.length < ps.length then
      (carEvent c 5 (raise 185 none g 0 (qSet g { x with drop := satInc x.drop } d)), 4)
    else
      let d := storePieces (carBase d c) (x.posted.zip ps) (f.bytes.take f.len) d
      let d := qSet g { x with posted := x.posted.drop ps.length, frames := satInc x.frames } d
      (completions g (tickCodeOf f.tick) (d.fldR (Reg.carGen c) 0 16) 0 f.port f.cls true (x.posted.zip ps) d, 0)

/-- Changing one transmit frame of a queue. -/
def flyUpd (ident : Nat) (f : QFly → QFly) (l : List QFly) : List QFly :=
  l.map (fun x => if x.ident = ident then f x else x)

/-- A copy of a queue's transmit frame has left a port or was dropped there; after its last copy its completions are
written, or discarded when the generation has changed (R302, R306). -/
def txCopyDone (g ident port stat : Nat) (d : Dev) : Dev :=
  let c := g / 2048
  let x := qGet d g
  match x.flying.find? (fun f => f.ident == ident) with
  | none => d
  | some f =>
    let rest := f.ports.filter (fun p => p != port)
    let st := max f.stat stat
    if rest != [] then qSet g { x with flying := flyUpd ident (fun f => { f with ports := rest, stat := st }) x.flying } d
    else
      let d := qSet g { x with flying := x.flying.filter (fun f => f.ident != ident) } d
      if f.gen = d.fldR (Reg.carGen c) 0 16 then
        let d := qSet g { qGet d g with frames := satInc x.frames } d
        completions g d.tc f.gen st port f.cls true (f.bufs.map (fun b => (b, b.desc.len))) d
      else carEvent c 4 (d.bump (Reg.carStaleCpl c))

end Sys2Proof.Machine
end

