-- ==== Sys2Proof/Machine/Digest.lean ====
section
/-! DEFINITION. The digest of a carriage and leg (11 R335), the Brace roles, and what the configuration journal carries
(11 R334). -/

namespace Sys2Proof.Machine

def brcRole (d : Dev) : Nat := d.fldR Reg.brcStatus 0 3
def roleNone : Nat := 0
def roleActive : Nat := 1
def roleStandby : Nat := 2
def roleResync : Nat := 3
def roleFenced : Nat := 4

/-- BRC_STATUS.PAIRED. -/
def paired (d : Dev) : Bool := d.bitR Reg.brcStatus 3

/-- Whether the module runs a shadow of the active's carriages (11 R331). -/
def isShadow (d : Dev) : Bool := brcRole d == roleStandby || brcRole d == roleResync

/-- Whether the module sends a mirror (11 R330). -/
def sendsMirror (d : Dev) : Bool := brcRole d == roleActive && paired d

/-- A Brace message of the mirror. -/
def brcSend (kind : Nat) (ws : List Nat) (d : Dev) : Dev := if sendsMirror d then d.braceMsg kind ws else d

/-- One bit into the CRC-64 of ECMA-182. -/
def crcBit (c : Nat) (b : Bool) : Nat :=
  let s := c * 2 % 2 ^ 64
  if (2 ^ 63 ≤ c) != b then s ^^^ 0x42F0E1EBA9EA3693 else s

/-- The bits of a byte, in the order the CRC takes them (log 21). -/
def byteBits (b : Nat) : List Bool :=
  let l := (List.range 8).map (fun i => bitOf b i)
  if Config.crc64LowFirst then l else l.reverse

/-- CRC-64 of bytes (R335). -/
def crc64 (bytes : List Nat) : Nat :=
  (bytes.foldl (fun c b => (byteBits b).foldl crcBit c) (2 ^ 64 - 1)) ^^^ (2 ^ 64 - 1)

/-- The bytes of words, lowest first. -/
def leBytes (ws : List Nat) : List Nat := ws.flatMap (fun w => (List.range 4).map (fun i => fld w (8 * i) 8))

def digKey (c leg : Nat) : Nat := c * 256 + leg % 240

/-- A record write of carriage `c` whose leg is `leg` enters that leg's digest. -/
def digRecord (c leg r : Nat) (ws : List Nat) (d : Dev) : Dev :=
  let k := digKey c leg
  let t := crc64 ([r % 256, r / 256 % 256] ++ leBytes ws)
  { d with brc := { d.brc with dig := tput d.brc.dig k (tget 0 d.brc.dig k ^^^ t) } }

/-- The output image that the scan of a leg committed. -/
def digImage (c leg : Nat) (out : Tbl Nat) (d : Dev) : Dev :=
  { d with brc := { d.brc with imgs := tput d.brc.imgs c ((leg, out) :: (tget [] d.brc.imgs c).take 3) } }

/-- The 768 bytes of a carriage's output image after the scan of a leg, and whether that scan committed. -/
def imageBytes (d : Dev) (c leg : Nat) : List Nat :=
  let img := (tget [] d.brc.imgs c).find? (fun p => p.1 ≤ leg)
  let t := match img with | some p => p.2 | none => []
  leBytes ((List.range 192).map (fun k => tget 0 t (0x1000 + k))) ++
    [b2n (match img with | some p => p.1 == leg | none => false)]

/-- Whether a carriage was ENABLED and not shed at a leg's hand-off; of a leg without one, as it is now (log 39). -/
def digOn (d : Dev) (c leg : Nat) : Bool :=
  match d.brc.onLegs.find? (fun p => p.1 == leg) with
  | some p => p.2.contains c
  | none => carEnabled d c && !isShed d c

/-- The carriages that a leg's digests cover, noted at its hand-off. -/
def noteOn (leg : Nat) (d : Dev) : Dev :=
  { d with brc := { d.brc with
      onLegs := ((leg, (tkeys d.cars).filter (fun c => carEnabled d c && !isShed d c)) :: d.brc.onLegs).take 4 } }

/-- d(c, n). -/
def digest (d : Dev) (c leg : Nat) : Nat :=
  if !digOn d c leg then 0
  else crc64 (imageBytes d c leg) ^^^ tget 0 d.brc.dig (digKey c leg)

/-- The table of a leg becomes final; the terms of a leg three legs older are dropped. -/
def digFinal (leg : Nat) (d : Dev) : Dev :=
  let own := (List.range 512).map (fun c => digest d c leg)
  { d with brc := { d.brc with own := some (leg, own),
                               dig := d.brc.dig.filter (fun p => p.1 % 256 != (leg + 237) % 240) } }

/-- A commit through registers enters the journal. -/
def journal (kind index : Nat) (w : List Nat) (d : Dev) : Dev := brcSend 7 (kind :: index :: w) d

/-! P2 work on the standby (11 R333). -/

/-- Whether a P2 item (1 a kernel, 2 a scan) is one that the shadow may run now: the leg it was named for. -/
def p2Leg (d : Dev) (kind item : Nat) : Option Nat :=
  (d.brc.p2.find? (fun p => p.2.1 == kind && p.2.2 == item)).map (fun p => p.1)

/-- A P2 item has completed: on the shadow it leaves the list, on the active it enters the next list. -/
def p2Done (leg kind item : Nat) (d : Dev) : Dev :=
  if isShadow d then { d with brc := { d.brc with p2 := d.brc.p2.filter (fun p => p != (leg, kind, item)) } }
  else if sendsMirror d then { d with brc := { d.brc with done := d.brc.done ++ [(leg, kind, item)] } }
  else d

end Sys2Proof.Machine
end

