-- ==== Sys2Proof/Machine/Real.lean ====
section
/-! DEFINITION. Sine, cosine, arctangent, 2^x and log2 as numbers: series on integers scaled by 2^128, far finer than any format of the
device. The function ROM's results lie within 2 ulp of them (06 R196), and the tracking groups' DFT rests on them (05 R156). -/

namespace Sys2Proof.Machine

/-- Bits needed to write `n`, with fuel. -/
def bitLen : Nat → Nat → Nat
  | 0, _ => 0
  | f + 1, n => if n = 0 then 0 else 1 + bitLen f (n / 2)

/-- ⌊√x⌋, found bit by bit from bit `b - 1` down. -/
def isqrtF : Nat → Nat → Nat → Nat
  | 0, r, _ => r
  | b + 1, r, x => if (r + 2 ^ b) * (r + 2 ^ b) ≤ x then isqrtF b (r + 2 ^ b) x else isqrtF b r x

def isqrt (x : Nat) : Nat := isqrtF ((bitLen 4096 x + 1) / 2) 0 x

/-- The scale: a number x is held as ⌊x * 2^128⌋ or near it. -/
def qOne : Int := (2 ^ 128 : Nat)

/-- π scaled by 2^320, for the reduction of large angles. -/
def piBig : Int := 0x3243f6a8885a308d313198a2e03707344a4093822299f31d0082efa98ec4e6c89452821e638d01377

/-- π and ln 2, scaled. -/
def qPi : Int := piBig / (2 ^ 192 : Nat)
def qLn2 : Int := 0xb17217f7d1cf79abc9e3b39803f2f6af

/-- A product of scaled numbers. -/
def qMul (a b : Int) : Int := a * b / qOne

/-- Terms of a sine or cosine series from `t = x^k / k!` on, `x2` being x². -/
def trigGo : Nat → Nat → Int → Int → Int
  | 0, _, _, _ => 0
  | f + 1, k, t, x2 => t + trigGo f (k + 2) (-(t * x2 / (qOne * ((k + 1) * (k + 2) : Nat)))) x2

/-- Sine and cosine of a scaled angle of magnitude up to π. -/
def qSin (x : Int) : Int := trigGo 40 1 x (qMul x x)
def qCos (x : Int) : Int := trigGo 40 0 qOne (qMul x x)

/-- A scaled angle m * 2^e brought into [-π, π); `e` at least -320. -/
def qWrap (m e : Int) : Int :=
  let t := m * (2 : Int) ^ (e + 320).toNat
  let r := (t + piBig) % (2 * piBig) - piBig
  r / (2 ^ 192 : Nat)

/-- The scaled angle of `m` 64ths of a turn, in [-π, π). -/
def qTurn (m : Nat) : Int :=
  let k : Int := (m % 64 : Nat)
  qPi * (if k < 32 then k else k - 64) / 32

/-- Terms of an arctangent series from `t = ±r^k` on. -/
def atanGo : Nat → Nat → Int → Int → Int
  | 0, _, _, _ => 0
  | f + 1, k, t, r2 => t / (k : Int) + atanGo f (k + 2) (-(qMul t r2)) r2

/-- Arctangent of a scaled number from 0 to 1: twice halved, then the series. -/
def qAtan (r : Int) : Int :=
  let half (r : Int) : Int := r * qOne / (qOne + (isqrt (qOne * qOne + r * r).toNat : Int))
  let s := half (half r)
  4 * atanGo 46 1 s (qMul s s)

/-- The scaled angle of a point, in (-π, π]; 0 for the origin. -/
def qAngle (y x : Int) : Int :=
  let ay : Int := y.natAbs
  let ax : Int := x.natAbs
  if y = 0 ∧ x = 0 then 0
  else
    let a := if ay ≤ ax then qAtan (ay * qOne / ax) else qPi / 2 - qAtan (ax * qOne / ay)
    let a := if x < 0 then qPi - a else a
    if y < 0 then -a else a

/-- Terms of e^x from `t = x^k / k!` on. -/
def expGo : Nat → Nat → Int → Int → Int
  | 0, _, _, _ => 0
  | f + 1, k, t, x => t + expGo f (k + 1) (t * x / (qOne * ((k + 1 : Nat) : Int))) x

/-- 2^x of a scaled x from 0 to 1. -/
def qExp2 (x : Int) : Int := expGo 45 0 qOne (qMul x qLn2)

/-- log2 of num / den, the quotient from 1 to 2: 2 artanh((y - 1) / (y + 1)) over ln 2. -/
def qLog2 (num den : Int) : Int :=
  let t := (num - den) * qOne / (num + den)
  let rec go : Nat → Nat → Int → Int
    | 0, _, _ => 0
    | f + 1, k, u => u / (k : Int) + go f (k + 2) (qMul u (qMul t t))
  2 * go 42 1 t * qOne / qLn2

end Sys2Proof.Machine
end

