-- ==== Sys2Proof/Machine/F32.lean ====
section
/-! DEFINITION. IEEE 754 binary32 with round to nearest even, subnormals replaced by zero of the same sign, and an
infinity or a NaN replaced by +0.0 with the numeric error noted (06 R196, R198). Operations are exact on rationals and
round once. -/

namespace Sys2Proof.Machine

/-- A float result: its bits, and whether an operation on the way gave an infinity or a NaN (R198). -/
structure FV where
  v   : Nat
  err : Bool
deriving DecidableEq, Repr

/-- Whether bits are finite. -/
def f32Fin (w : Nat) : Bool := fld w 23 8 != 255

/-- Sign of the bits. -/
def f32Neg (w : Nat) : Bool := bitOf w 31

/-- The value as a signed mantissa and a power of two (subnormals read as 0). -/
def f32Dec (w : Nat) : Int × Int :=
  let e := fld w 23 8
  let m : Int := if e = 0 then 0 else (2 ^ 23 + fld w 0 23 : Nat)
  (if f32Neg w then -m else m, (e : Int) - 150)

/-- Multiplying by a power of two, as a fraction. -/
def scale2 (num den : Nat) (e : Int) : Nat × Nat :=
  if 0 ≤ e then (num * 2 ^ e.toNat, den) else (num, den * 2 ^ (-e).toNat)

/-- `num / den` rounded to binary32 (`den` positive); none past the largest finite value. -/
def f32Enc (neg : Bool) (num den : Nat) : Option Nat :=
  let s := if neg then 2 ^ 31 else 0
  if num = 0 then some s
  else
    let k : Int := (bitLen 4096 num : Int) - (bitLen 4096 den : Int)
    let t := scale2 num den (-k)
    let k := if t.2 ≤ t.1 then k else k - 1
    let u := scale2 num den (23 - k)
    let q := (rneDiv u.1 u.2).toNat
    let k := if q = 2 ^ 24 then k + 1 else k
    let q := if q = 2 ^ 24 then 2 ^ 23 else q
    if 128 ≤ k then none
    else if k ≤ -127 then some s
    else some (s + (k + 127).toNat * 2 ^ 23 + (q - 2 ^ 23))

/-- A result with R198 applied. -/
def fvOf (e : Bool) : Option Nat → FV
  | some w => ⟨w, e⟩
  | none => ⟨0, true⟩

/-- An input word as a float. -/
def fIn (w : Nat) : FV := if f32Fin w then ⟨w % 2 ^ 32, false⟩ else ⟨0, true⟩

/-- `n / 2^s` of a signed number over a positive denominator as a float. -/
def fRat (n : Int) (den : Nat) : FV := fvOf false (f32Enc (n < 0) n.natAbs den)

def fInt (n : Int) : FV := fRat n 1

/-- A sum of two dyadic values rounded once. -/
def fAddV (a b : Int × Int) (zneg : Bool) : Option Nat :=
  let lo := min a.2 b.2
  let n := a.1 * (2 : Int) ^ (a.2 - lo).toNat + b.1 * (2 : Int) ^ (b.2 - lo).toNat
  let u := scale2 n.natAbs 1 lo
  if n = 0 then some (if zneg then 2 ^ 31 else 0) else f32Enc (n < 0) u.1 u.2

def fNeg (a : FV) : FV := ⟨if f32Neg a.v then a.v - 2 ^ 31 else a.v + 2 ^ 31, a.err⟩
def fAbs (a : FV) : FV := ⟨a.v % 2 ^ 31, a.err⟩

def fAdd (a b : FV) : FV :=
  fvOf (a.err || b.err) (fAddV (f32Dec a.v) (f32Dec b.v) (f32Neg a.v && f32Neg b.v))

def fSub (a b : FV) : FV := fAdd a (fNeg b)

def fMul (a b : FV) : FV :=
  let x := f32Dec a.v
  let y := f32Dec b.v
  let u := scale2 (x.1 * y.1).natAbs 1 (x.2 + y.2)
  fvOf (a.err || b.err) (f32Enc (f32Neg a.v != f32Neg b.v) u.1 u.2)

/-- Quotient; a zero divisor gives an infinity or a NaN, so R198 applies. -/
def fDiv (a b : FV) : FV :=
  let x := f32Dec a.v
  let y := f32Dec b.v
  if y.1 = 0 then ⟨0, true⟩
  else
    let u := scale2 x.1.natAbs y.1.natAbs (x.2 - y.2)
    fvOf (a.err || b.err) (f32Enc (f32Neg a.v != f32Neg b.v) u.1 u.2)

/-- Square root, correctly rounded: 2^80 times finer than needed, with the remainder as a sticky bit. -/
def fSqrt (a : FV) : FV :=
  let x := f32Dec a.v
  if x.1 < 0 then ⟨0, true⟩
  else if x.1 = 0 then a
  else
    let m := x.1.toNat * 2 ^ (if x.2 % 2 = 0 then 80 else 81)
    let r := isqrt m
    let n := r * 2 + b2n (r * r != m)
    let e := (x.2 - (if x.2 % 2 = 0 then 80 else 81)) / 2 - 1
    let u := scale2 n 1 e
    fvOf a.err (f32Enc false u.1 u.2)

/-- a < b on values. -/
def fLt (a b : FV) : Bool :=
  let x := f32Dec a.v
  let y := f32Dec b.v
  let lo := min x.2 y.2
  x.1 * (2 : Int) ^ (x.2 - lo).toNat < y.1 * (2 : Int) ^ (y.2 - lo).toNat

def fLe (a b : FV) : Bool := !fLt b a
def fMax (a b : FV) : FV := ⟨if fLt a b then b.v else a.v, a.err || b.err⟩
def fMin (a b : FV) : FV := ⟨if fLt b a then b.v else a.v, a.err || b.err⟩

def f0 : FV := ⟨0, false⟩
def f1 : FV := ⟨0x3F800000, false⟩

/-- Pairwise sums of neighbours (R196). -/
def pairSum : List FV → List FV
  | a :: b :: l => fAdd a b :: pairSum l
  | l => l

/-- A comparison that an operand's numeric error does not hide: the error goes into the record (R198). -/
abbrev FB := Bool × Bool

def cmpLe (a b : FV) : FB := (fLe a b, a.err || b.err)
def cmpLt (a b : FV) : FB := (fLt a b, a.err || b.err)

/-- A sum as a pairwise tree, with fuel for its levels. -/
def treeSum : Nat → List FV → FV
  | 0, l => l.headD f0
  | _ + 1, [] => f0
  | _ + 1, [a] => a
  | f + 1, l => treeSum f (pairSum l)

/-- A sum over the 16 vector lanes (R196): lane l adds the terms l, l + 16, … in order, and the lanes are added as a tree (log 13). -/
def laneSum (l : List FV) : FV :=
  treeSum 5 ((List.range 16).map (fun i =>
    ((List.range (l.length / 16)).map (fun j => nth f0 l (i + 16 * j))).foldl fAdd f0))

/-! The function ROM: sine, cosine, atan2, exp2 and log2, within 2 ulp of the number (R196). Which of the floats there it gives is
free (log 13). -/

/-- One of the floats within 2 ulp of num / den, `den` positive: the nearest one shifted by what the free value picks, when that stays
within 2 ulp, and the nearest itself otherwise. Zero is exact; an overflow is a numeric error (R198). -/
def romNear (num : Int) (den pick : Nat) (err : Bool) : FV :=
  match f32Enc (num < 0) num.natAbs den with
  | none => ⟨0, true⟩
  | some b =>
    if num = 0 ∨ b % 2 ^ 31 < 2 ^ 23 + 2 ∨ 0x7F7FFFFD < b % 2 ^ 31 then ⟨b, err⟩
    else
      let c := b + pick % 5 - 2
      let e : Int := (fld b 23 8 : Int) - 150
      let x := scale2 (2 ^ 23 + fld c 0 23) 1 ((fld c 23 8 : Int) - 150)
      let u := scale2 1 1 e
      -- |c - num / den| ≤ 2 * 2^e
      let ok := decide (((x.1 * den : Nat) : Int) * u.2 - ((num.natAbs * x.2 : Nat) : Int) * u.2 ≤ (2 * u.1 * x.2 * den : Nat) ∧
        ((num.natAbs * x.2 : Nat) : Int) * u.2 - ((x.1 * den : Nat) : Int) * u.2 ≤ (2 * u.1 * x.2 * den : Nat))
      ⟨if ok then c else b, err⟩

/-- A scaled number of the series as a float of the ROM. -/
def romQ (q : Int) (pick : Nat) (err : Bool) : FV := romNear q (2 ^ 128) pick err

def fSin (a : FV) : FV :=
  let x := f32Dec a.v
  if fld a.v 23 8 < 87 then let u := scale2 x.1.natAbs 1 x.2; romNear (if x.1 < 0 then -u.1 else u.1) u.2 (Config.romPick 0 a.v 0) a.err
  else romQ (qSin (qWrap x.1 x.2)) (Config.romPick 0 a.v 0) a.err

def fCos (a : FV) : FV :=
  let x := f32Dec a.v
  romQ (qCos (qWrap x.1 x.2)) (Config.romPick 1 a.v 0) a.err

/-- The tangent, from the ROM's sine and cosine. -/
def fTan (a : FV) : FV := fDiv (fSin a) (fCos a)

/-- 2^x. -/
def fExp2 (a : FV) : FV :=
  let x := f32Dec a.v
  if x.1 = 0 then f1
  else if fld a.v 23 8 < 87 then ⟨f1.v, a.err⟩
  else if 135 ≤ fld a.v 23 8 then if x.1 < 0 then ⟨0, a.err⟩ else ⟨0, true⟩
  else
    let q : Int := x.1 * (2 : Int) ^ (x.2 + 128).toNat
    let u := scale2 (qExp2 (q % qOne)).toNat (2 ^ 128) (q / qOne)
    romNear u.1 u.2 (Config.romPick 3 a.v 0) a.err

/-- log2 x; a number not above 0 has none (R198). -/
def fLog2 (a : FV) : FV :=
  let x := f32Dec a.v
  if x.1 ≤ 0 then ⟨0, true⟩
  else romQ ((x.2 + 23) * qOne + qLog2 x.1 (2 ^ 23 : Nat)) (Config.romPick 4 a.v 0) a.err

/-- g^a as the ROM forms it, 2^(a log2 g). -/
def fPow (g a : FV) : FV := fExp2 (fMul a (fLog2 g))

/-- The angle of (x, y). -/
def fAtan2 (y x : FV) : FV :=
  let p := f32Dec y.v
  let q := f32Dec x.v
  let lo := min p.2 q.2
  let m := p.1 * (2 : Int) ^ (p.2 - lo).toNat
  let n := q.1 * (2 : Int) ^ (q.2 - lo).toNat
  let pick := Config.romPick 2 y.v x.v
  if 0 < n ∧ (m.natAbs : Int) * (2 ^ 40 : Nat) < n then romNear m n.toNat pick (y.err || x.err)
  else romQ (qAngle m n) pick (y.err || x.err)

/-- Cosine and sine of `m` 64ths of a turn, as the ROM holds them (R184). -/
def turnCos (m : Nat) : FV := if m % 32 = 16 then f0 else romQ (qCos (qTurn m)) (Config.romPick 5 (m % 64) 0) false
def turnSin (m : Nat) : FV := if m % 32 = 0 then f0 else romQ (qSin (qTurn m)) (Config.romPick 6 (m % 64) 0) false

/-! Complex numbers as pairs. -/

abbrev CV := FV × FV

def cAdd (a b : CV) : CV := (fAdd a.1 b.1, fAdd a.2 b.2)
def cSub (a b : CV) : CV := (fSub a.1 b.1, fSub a.2 b.2)
def cMul (a b : CV) : CV := (fSub (fMul a.1 b.1) (fMul a.2 b.2), fAdd (fMul a.1 b.2) (fMul a.2 b.1))
def cConj (a : CV) : CV := (a.1, fNeg a.2)
def cScale (k : FV) (a : CV) : CV := (fMul k a.1, fMul k a.2)
def cMag (a : CV) : FV := fSqrt (fAdd (fMul a.1 a.1) (fMul a.2 a.2))

/-- Quotient of complex numbers. -/
def cDiv (a b : CV) : CV :=
  let n := fAdd (fMul b.1 b.1) (fMul b.2 b.2)
  let p := cMul a (cConj b)
  (fDiv p.1 n, fDiv p.2 n)

end Sys2Proof.Machine
end

