-- ==== Sys2Proof/Machine/Slots.lean ====
section
/-! DEFINITION. Strongbox key slots: their attributes, uses and checks, and the random source
(17 R500 to R509, R516). Key material itself is never readable; a slot holds the identity of its key. -/

namespace Sys2Proof.Machine

/-- The life-cycle state: 0 Blank, 1 Provisioned, 2 Deployed, 3 Returned, 4 Scrapped (R497). -/
def lifeCycle (d : Dev) : Nat := d.fldR Reg.sbxLc 0 3

/-- The attribute word of a slot (R501). -/
def slotAttr (d : Dev) (s : Nat) : Nat := d.rn (Reg.sbxSAttr s)

/-- The state of a slot: 0 EMPTY, 1 VALID, 2 BAD. -/
def slotState (d : Dev) (s : Nat) : Nat := d.fldR (Reg.sbxSState s) 0 2

def fnVerifyIn : Nat := 16
def fnSignOut : Nat := 17
def fnMacsec : Nat := 18
def fnSession : Nat := 19
def fnImage : Nat := 20
def fnDerive : Nat := 21
def fnWrap : Nat := 22

/-- The WORLD bit of an acting world (R501). -/
def worldBit : World → Option Nat
  | .livery => some 8
  | .hypervisor => some 9
  | .carriage _ => some 10
  | .none => none

/-- The MASTER bit of a master (R501). -/
def masterBit (m : Nat) : Option Nat :=
  if m ≤ 1 then some 4 else if m ≤ 7 then some 5 else if m = 8 then some 6 else if m = 9 then some 7 else none

def attrHas (a : Nat) : Option Nat → Bool
  | some b => bitOf a b
  | none => false

/-- When the acting world is a carriage and the slot is granted, the carriage owns it (R503, R505). -/
def ownerOk (d : Dev) (s : Nat) : World → Bool
  | .carriage c => !d.bitR (Reg.sbxSOwner s) 15 || d.fldR (Reg.sbxSOwner s) 0 9 == c
  | _ => true

/-- Whether a use of slot `s` for the function of FUNC bit `f`, which needs one of `types`, is permitted in `w` (R503). -/
def slotPermits (d : Dev) (s f : Nat) (types : List Nat) (w : World) : Bool :=
  let a := slotAttr d s
  lifeCycle d ≤ 3 && bitOf a (11 + lifeCycle d) && slotState d s == 1 && types.contains (fld a 0 4) &&
    bitOf a f && attrHas a (worldBit w) && ownerOk d s w

/-- The caller check of R504. -/
def callerOk (d : Dev) (s : Nat) (who : Who) : Bool :=
  attrHas (slotAttr d s) (masterBit who.master) && attrHas (slotAttr d s) (worldBit who.world)

/-- A slot's state changed, with SBX_STATUS.VALID_SLOTS kept. -/
def setSlotState (s st : Nat) (d : Dev) : Dev :=
  let n := d.fldR Reg.sbxStatus 16 9
  let n := n - b2n (slotState d s == 1) + b2n (st == 1)
  (d.setF (Reg.sbxSState s) 0 2 st).setF Reg.sbxStatus 16 9 n

/-- A slot made EMPTY: key and attributes gone (R506). -/
def slotEmpty (s : Nat) (d : Dev) : Dev :=
  let d := (setSlotState s 0 d).wn (Reg.sbxSAttr s) 0
  { d with sbx := { d.sbx with keys := tdel d.sbx.keys s } }

/-- Every slot made EMPTY, LOCK included. -/
def slotsZero (d : Dev) : Dev := (List.range 256).foldl (fun d s => slotEmpty s d) d

/-- A key installed in a slot (R506). -/
def slotInstall (s attr key : Nat) (d : Dev) : Dev :=
  let d := (setSlotState s 1 d).wn (Reg.sbxSAttr s) attr
  { d with sbx := { d.sbx with keys := tput d.sbx.keys s key } }

/-- A slot whose tag fails under SCHEME 0 becomes BAD (R509). -/
def slotGoesBad (s : Nat) (d : Dev) : Dev :=
  if !d.bitR Reg.sbxStatus 2 && slotState d s == 1 then
    raiseH 70 none s 0 (s * 16) 0 (setSlotState s 2 d)
  else d

/-- A use of a slot by a hardware unit: whether it is permitted, and the refusal counted and latched (R503, R509). -/
def slotUse (s f : Nat) (types : List Nat) (w : World) (tagBad : Bool) (d : Dev) : Bool × Dev :=
  let d := if tagBad then slotGoesBad s d else d
  if slotPermits d s f types w then (true, d)
  else (false, raiseH 73 none s 0 (s * 16) 0 (d.bump (Reg.sbxSRefused s)))

/-- A command or commit that names a slot: the caller check and the use check (R504). -/
def slotAsk (d : Dev) (s f : Nat) (types : List Nat) (w : World) (who : Who) : Bool :=
  callerOk d s who && slotPermits d s f types w

/-- Whether an entry's AUTH and KEY_SLOT may be committed (R504). -/
def namesSlot (d : Dev) (auth s f : Nat) (w : World) (who : Who) : Bool := auth == 0 || slotAsk d s f [auth] w who

/-- Phiash on a management core, which makes the commits through registers (log 20). -/
def liveryWho : Who := ⟨0, .livery⟩

/-- A command that names a slot: whether it may, and a refusal latched (R503, R504). -/
def slotAskU (s f : Nat) (types : List Nat) (w : World) (who : Who) (d : Dev) : Bool × Dev :=
  if slotAsk d s f types w who then (true, d)
  else (false, raiseH 73 none s 0 (s * 16) 0 (d.bump (Reg.sbxSRefused s)))

/-- Whether the TRNG releases output (R516). -/
def trngReady (d : Dev) : Bool := d.bitR Reg.sbxTrngStatus 0

end Sys2Proof.Machine
end

