-- ==== Sys2Proof/Machine/Switch.lean ====
section
/-! DEFINITION. Ethernet ports, PRP and HSR, the shared buffer, egress, the address table and wake frames
(03 R68 to R98). An address is the number whose byte i is octet i of the address, as ETH_MAC and SWC_FDB_DATA hold it. -/

namespace Sys2Proof.Machine

/-- The pair of a port: k = p / 2; the management port has none (R68). -/
def pairOf (p : Nat) : Option Nat := if p < 10 then some (p / 2) else none

def linkUp (d : Dev) (p : Nat) : Bool := d.bitR (Reg.ethStatus p) 0
def txNotReady (d : Dev) (p : Nat) : Bool := d.bitR (Reg.ethStatus p) 3
def rxEn (d : Dev) (p : Nat) : Bool := d.bitR (Reg.ethCtrl p) 4
def txEn (d : Dev) (p : Nat) : Bool := d.bitR (Reg.ethCtrl p) 5
def isStation (p : Nat) : Bool := p == 8 || p == 9

/-- The station address of a port. -/
def portMac (d : Dev) (p : Nat) : Nat := d.rn (Reg.ethMacLo p) + d.fldR (Reg.ethMacHi p) 0 16 * 2 ^ 32

/-- Byte time of a port in hundredths of ns: 25GBASE-R 32, 10GBASE-R 80, 1000BASE-X 800 (R85). -/
def byteTime (d : Dev) (p : Nat) : Nat :=
  match d.fldR (Reg.ethCtrl p) 0 2 with
  | 0 => 32
  | 1 => 80
  | _ => 800

/-- Whether an address is a group address. -/
def isGroup (a : Nat) : Bool := a % 2 == 1

/-- Local time `off` RCLK cycles into the tick, in 2^-48 ns. -/
def timeAt (d : Dev) (off : Nat) : Nat :=
  let t := d.tim.advance off
  (t.sec * 1000000000 + t.ns) * nsUnits + t.frac

/-- An ingress timestamp in 2^-48 ns, referred to the reference plane (02 R58). -/
def ingressStamp (d : Dev) (p off : Nat) : Nat :=
  let ps : Int := (d.effR (Reg.timPRxLat p)).toNat + sx 32 (d.effR (Reg.timPRxAsym p)).toNat
  ((timeAt d off : Int) - ps * (nsUnits : Nat) / 1000).toNat

/-- An egress timestamp (02 R58). -/
def egressStamp (d : Dev) (p off : Nat) : Nat :=
  let ps : Int := (d.effR (Reg.timPTxLat p)).toNat + sx 32 (d.effR (Reg.timPTxAsym p)).toNat
  ((timeAt d off : Int) + ps * (nsUnits : Nat) / 1000).toNat

/-- The tick of a timestamp: the frame stamp of 01 R16, taken from the corrected ingress timestamp (02 R59). -/
def tickOfStamp (u : Nat) : Nat :=
  let route := u / (50000000 * nsUnits)
  route * 3840 + u % (50000000 * nsUnits) * 76800 / (1000000000 * nsUnits)

/-- The stamp of a frame whose last bit arrived `off` RCLK cycles into the tick at a port, in ticks (01 R16; 02 R59). -/
def frameTick (d : Dev) (p off : Nat) : Nat := tickOfStamp (ingressStamp d p off)

/-- A frame for a receive queue; its first octet came a frame's time on the line before its last (10 R306). -/
def rxFrame (d : Dev) (p len off cls : Nat) (bytes : List Nat) : RxFrame :=
  let began := timeAt d off - len * byteTime d p * nsUnits / 100
  ⟨len, p, cls, frameTick d p off, tickOfStamp began, bytes⟩

/-! The shared buffer (R81). -/

/-- Cells of a frame. -/
def cellsOf (len : Nat) : Nat := (len + 255) / 256

def qThrAlpha (d : Dev) (p c : Nat) : Nat := d.fldR (Reg.swcQThr p c) 0 4
def qThrResv (d : Dev) (p c : Nat) : Nat := d.fldR (Reg.swcQThr p c) 16 12
def qOcc (d : Dev) (p c : Nat) : Nat := d.fldR (Reg.swcQOcc p c) 0 17

/-- The free count changed when a queue's held cells go from `a` to `b`; SWC_FREE_MIN follows it down. -/
def freeMove (a b : Nat) (d : Dev) : Dev :=
  let f := d.rn Reg.swcFree + a - b
  let d := d.wn Reg.swcFree f
  if f < d.rn Reg.swcFreeMin then d.wn Reg.swcFreeMin f else d

/-- A queue's occupancy set, with the free count. -/
def setOcc (p c n : Nat) (d : Dev) : Dev :=
  let r := qThrResv d p c
  freeMove (max (qOcc d p c) r) (max n r) (d.wn (Reg.swcQOcc p c) n)

/-- Whether a frame of `n` cells is admitted to a queue (R81). -/
def bufferAdmits (d : Dev) (p c n : Nat) : Bool :=
  let r := qThrResv d p c
  let o := qOcc d p c
  n ≤ r - o || (o + n - r) * 64 ≤ 2 ^ qThrAlpha d p c * d.rn Reg.swcFree

def egressQ (d : Dev) (p c : Nat) : List TxFrame := tget [] d.swc.queues (p * 8 + c)

def setEgressQ (p c : Nat) (l : List TxFrame) (d : Dev) : Dev :=
  { d with swc := { d.swc with queues := tset [] d.swc.queues (p * 8 + c) l } }

/-- A copy of a frame that will not be sent: a carriage queue's copy completes with STATUS 1 (10 R302). -/
def frameDropped (p : Nat) (f : TxFrame) (d : Dev) : Dev :=
  if f.kind = 6 then txCopyDone f.src f.tag p 1 d else d

/-- Whether a port holds no frame for later: its synthesiser is not locked, or TX_EN is 0 (R90). -/
def txShut (d : Dev) (p : Nat) : Bool := txNotReady d p || !txEn d p

/-- A port has dropped a frame under R89 or R90 (11 R349). -/
def markDrop (p : Nat) (d : Dev) : Dev :=
  if d.swc.dropped.contains p then d else { d with swc := { d.swc with dropped := p :: d.swc.dropped } }

/-- Frames flushed on a port whose link is down (R89), and a frame that a port does not hold (R90). -/
def countFlush (p n : Nat) (d : Dev) : Dev := if n = 0 then d else markDrop p (d.bumpBy (Reg.ethTxDropFlush p) n)
def countNrdy (p : Nat) (d : Dev) : Dev := markDrop p (d.bump (Reg.ethTxDropNrdy p))

/-- A frame enters an egress queue, is refused on a port whose link is down, or is dropped under R81. On a port that holds no
frame it reaches the queue's head at once and is dropped there (R90). The answer says whether it was queued. -/
def enqueue (p : Nat) (f : TxFrame) (d : Dev) : Dev × Bool :=
  if !linkUp d p then (frameDropped p f (countFlush p 1 d), false)
  else if !bufferAdmits d p f.cls (cellsOf f.len) then (frameDropped p f (d.bump (Reg.swcQDrop p f.cls)), false)
  else if txShut d p then (frameDropped p f (countNrdy p d), false)
  else (setOcc p f.cls (qOcc d p f.cls + cellsOf f.len) (setEgressQ p f.cls (egressQ d p f.cls ++ [f]) d), true)

/-- Every frame that waits at a port is dropped as it reaches the head of its queue, the highest class first (R90). -/
def drainShut (p : Nat) (d : Dev) : Dev :=
  [7, 6, 5, 4, 3, 2, 1, 0].foldl (fun d c =>
    (egressQ d p c).foldl (fun d f =>
      frameDropped p f (countNrdy p (setOcc p c (qOcc d p c - cellsOf f.len) d))) (setEgressQ p c [] d)) d

/-- One copy on each port of a list. -/
def enqueueAll (ps : List Nat) (f : TxFrame) (d : Dev) : Dev := ps.foldl (fun d p => (enqueue p f d).1) d

/-- The class of a forwarded frame: its priority, with 7 entering class 6 (R80). -/
def fwdClass (prio : Nat) : Nat := if prio = 7 then 6 else prio

/-! Redundancy (R71 to R75). -/

def redMode (d : Dev) (k : Nat) : Nat := d.fldR (Reg.swcRedCfg k) 0 2

/-- Frames counted in SWC_RED_UNIQUE: those of a window with no twin. -/
def unpaired (l : List RedSeen) : Nat := (l.filter (fun x => !x.paired)).length

/-- Distance of a sequence number ahead of another, modulo 2^16. -/
def seqAhead (a b : Nat) : Nat := (a + 0x10000 - b % 0x10000) % 0x10000

/-- The source entry after a frame's sequence number: items that left the window of 256 go (R73, R74). -/
def redSlide (e : RedSrc) (seq : Nat) : RedSrc × Nat :=
  let hi := if seqAhead seq e.hi < 0x8000 then seq else e.hi
  let kept := e.seen.filter (fun x => seqAhead hi x.seq < 256)
  let gone := e.seen.filter (fun x => !(seqAhead hi x.seq < 256))
  ({ e with hi := hi, seen := kept }, unpaired gone)

/-- The list without the entry idle longest (R73), and that entry; of several idle since one tick, the first in the list, which was
created first (log 26). -/
def redEvict (l : List RedSrc) : List RedSrc × Option RedSrc :=
  match l.foldl (fun (m : Option RedSrc) x => match m with
      | none => some x
      | some y => if x.last < y.last then some x else some y) none with
  | none => (l, none)
  | some e => (l.filter (fun x => x.sa != e.sa), some e)

def redList (d : Dev) (k : Nat) : List RedSrc := tget [] d.swc.red k

def setRedList (k : Nat) (l : List RedSrc) (d : Dev) : Dev :=
  { d with swc := { d.swc with red := tset [] d.swc.red k l } }

/-- What the redundancy unit found of a copy: the first good copy, or a copy of one taken before with the ports its
copies came in on. -/
inductive RedVerdict where
  | first
  | again (ports : List Nat)
deriving DecidableEq, Repr

/-- The redundancy unit takes a copy: source entry created or found, window moved, duplicate recognised by source
address, sequence number and size (R71 to R74). -/
def redTake (k p sa seq len : Nat) (d : Dev) : Dev × RedVerdict :=
  let l := redList d k
  let now := d.tim.absTick
  match l.find? (fun e => e.sa == sa) with
  | none =>
    let r := if 4096 ≤ l.length then redEvict l else (l, none)
    let d := match r.2 with
      | some e => d.bumpBy (Reg.swcRedUnique k) (unpaired e.seen)
      | none => d
    (setRedList k (r.1 ++ [⟨sa, now, seq, [⟨seq, len, [p], false⟩]⟩]) d, .first)
  | some e =>
    let r := redSlide e seq
    let d := d.bumpBy (Reg.swcRedUnique k) r.2
    let put (e' : RedSrc) (d : Dev) : Dev := setRedList k (l.map (fun x => if x.sa = sa then e' else x)) d
    match r.1.seen.find? (fun x => x.seq == seq && x.len == len) with
    | some x =>
      let x' := { x with paired := true, ports := p :: x.ports }
      (put { r.1 with last := now, seen := r.1.seen.map (fun y => if y.seq = seq ∧ y.len = len then x' else y) } d,
        .again x.ports)
    | none => (put { r.1 with last := now, seen := r.1.seen ++ [⟨seq, len, [p], false⟩] } d, .first)

/-- The redundancy trailer or tag of a copy that leaves a port: the pair's next sequence number, PRP or HSR, and the port's LAN
(R71, R75). -/
def redTagOf (d : Dev) (p : Nat) : Option RedTag :=
  match pairOf p with
  | none => none
  | some k => if redMode d k = 0 then none else some ⟨redMode d k == 2, p % 2 == 0, tget 0 d.swc.redTx k⟩

/-- A pair's transmit sequence number advances. -/
def redTxNext (k : Nat) (d : Dev) : Dev :=
  { d with swc := { d.swc with redTx := tset 0 d.swc.redTx k ((tget 0 d.swc.redTx k + 1) % 2 ^ 16) } }

/-- The ports that a mask names: a port of a redundant pair names both (09 R267; 10 R302). -/
def bothOfPair (d : Dev) (mask : Nat) : List Nat :=
  (List.range 11).filter (fun p => bitOf mask p ||
    (match pairOf p with
      | some k => redMode d k != 0 && (bitOf mask (2 * k) || bitOf mask (2 * k + 1))
      | none => false))

/-- One copy of a frame of the device's own on each port of a list, each with its own trailer or tag under the pair's next sequence
number (R75). -/
def enqueueCopies (ps : List Nat) (f : TxFrame) (d : Dev) : Dev :=
  let ks := (dedup (ps.filterMap pairOf)).filter (fun k => redMode d k != 0)
  ps.foldl (fun a p => (enqueue p { f with red := redTagOf d p } a).1) (ks.foldl (fun a k => redTxNext k a) d)

/-! MACsec (R76, R77). -/

def secEn (d : Dev) (p : Nat) : Bool := isStation p && d.bitR (Reg.ethSecCtrl p) 0
def txAn (d : Dev) (p : Nat) : Nat := d.fldR (Reg.ethSecCtrl p) 2 2
def txPn (d : Dev) (p an : Nat) : Nat := tget 1 d.swc.txPn (p * 4 + an)
def setTxPn (p an n : Nat) (d : Dev) : Dev := { d with swc := { d.swc with txPn := tset 1 d.swc.txPn (p * 4 + an) n } }
def rxPn (d : Dev) (p an : Nat) : Nat := tget 1 d.swc.rxPn (p * 4 + an)
def setRxPn (p an n : Nat) (d : Dev) : Dev := { d with swc := { d.swc with rxPn := tset 1 d.swc.rxPn (p * 4 + an) n } }

/-- Whether PTP on a port goes through its controlled MACsec port (02 R57). -/
def ptpSecure (d : Dev) (p : Nat) : Bool := d.bitR (Reg.timPCfg p) 2

/-- Whether the PTP message of a frame is an event message: messageType 0 to 3, after the addresses, a VLAN tag and the EtherType. -/
def ptpEvent (f : Frame) : Bool :=
  match f.bytes[14 + (if f.vlan.isSome then 4 else 0)]? with
  | some b => b % 16 < 4
  | none => false

/-- Whether a frame goes through the uncontrolled port in the clear: EAPOL, and PTP event messages unless SECURE is set (02 R57). -/
def uncontrolled (d : Dev) (p : Nat) (f : Frame) : Bool :=
  f.ethertype == 0x888E || (f.ethertype == 0x88F7 && ptpEvent f && !ptpSecure d p)

/-- A received frame against its SA and the replay window; true when it passes (R77). A frame with no tag passes only
through the uncontrolled port while MACsec is on. -/
def secVerify (p : Nat) (f : Frame) (d : Dev) : Dev × Bool :=
  match f.sec with
  | none => if secEn d p && !uncontrolled d p f then (d.bump (Reg.ethSecDrop p), false) else (d, true)
  | some t =>
    if !secEn d p then (if isStation p then d.bump (Reg.ethSecDrop p) else d, false)
    else
      let sa := d.rn (Reg.ethSecRxSa p t.an)
      let u := if bitOf sa 31 then slotUse (fld sa 0 8) fnMacsec [1] .livery t.slotBad d else (false, d)
      let nxt := rxPn d p t.an
      if u.1 && t.ok && nxt ≤ t.pn + d.rn (Reg.ethSecReplay p) then
        (setRxPn p t.an (max nxt (t.pn + 1)) u.2, true)
      else (u.2.bump (Reg.ethSecDrop p), false)

/-- The SCI of a port: its station address, octet 0 first, then port identifier 0x0001 (R76). -/
def secSci (d : Dev) (p : Nat) : Nat := portMac d p + 2 ^ 56

/-- The SecTAG of the frame that starts next on a port (R76). -/
def secTag (d : Dev) (p : Nat) : SecTx :=
  ⟨secSci d p, txAn d p, txPn d p (txAn d p), d.bitR (Reg.ethSecCtrl p) 1⟩

/-- A packet number for a frame that starts; false when the SA has none left or is not installed (R77). -/
def secTake (p : Nat) (d : Dev) : Dev × Bool :=
  let an := txAn d p
  let pn := txPn d p an
  let sa := d.rn (Reg.ethSecTxSa p an)
  let u := if bitOf sa 31 && pn ≤ 0xFFFFFFFF then slotUse (fld sa 0 8) fnMacsec [1] .livery false d else (false, d)
  if !u.1 then (u.2.bump (Reg.ethSecDrop p), false)
  else
    let d := setTxPn p an (pn + 1) u.2
    let d := d.wn (Reg.ethSecTxPn p) (min 0xFFFFFFFF (pn + 1))
    (if pn = 0xC0000000 then raise (100 + 8 * p) none p 0 d else d, true)

/-! Classification and the address table (R78, R94, R95). -/

/-- The entry of SWC_ETYPE that matches: its word. -/
def etypeEntry (d : Dev) (ety : Nat) : Option Nat :=
  ((List.range 16).map (fun i => d.rn (Reg.swcEtype i))).find? (fun w => bitOf w 31 && fld w 0 16 == ety)

/-- The priority of a frame: its VLAN priority, or the default of its EtherType. -/
def framePrio (d : Dev) (f : Frame) : Nat :=
  match f.vlan with
  | some (p, _) => p
  | none => match etypeEntry d f.ethertype with | some w => fld w 16 3 | none => 0

def frameVid (f : Frame) : Nat := match f.vlan with | some (_, v) => v | none => 0

/-- DEST of a frame: the entry's code, with 7 as drop, or the address table. -/
def frameDest (d : Dev) (f : Frame) : Nat :=
  match etypeEntry d f.ethertype with
  | some w => if fld w 20 3 = 7 then 0 else fld w 20 3
  | none => 6

/-- The entry that a destination address and VLAN find. -/
def fdbFind (t : Tbl FdbEntry) (a v : Nat) : Option (Nat × FdbEntry) := t.find? (fun e => e.2.addr == a && e.2.vlan == v)

def setFdb (t : Tbl FdbEntry) (d : Dev) : Dev :=
  { d with swc := { d.swc with fdb := t } }.wn Reg.swcFdbCount t.length

/-- The lowest index from `n` up that a table does not hold, among `k`. -/
def lowestFree {α : Type} (t : Tbl α) : Nat → Nat → Option Nat
  | 0, _ => none
  | k + 1, n => if (tfind t n).isNone then some n else lowestFree t k (n + 1)

/-- A source address seen on a port is learned, unless the table is full (R94). -/
def fdbLearn (p sa vid : Nat) (d : Dev) : Dev :=
  if isGroup sa then d
  else match fdbFind d.swc.fdb sa vid with
    | some (i, e) =>
      if e.learned then setFdb (tput d.swc.fdb i { e with dest := p * 2 ^ 20 + 2 ^ 24, hit := d.tim.absRoute }) d else d
    | none =>
      match lowestFree d.swc.fdb 16384 0 with
      | some i => setFdb (tput d.swc.fdb i ⟨sa, vid, true, p * 2 ^ 20 + 2 ^ 24, d.tim.absRoute⟩) d
      | none => raise 184 none p 0 d

/-- A frame handed to a unit with its stamp (01 R16). -/
def deliver (unit p : Nat) (f : Frame) (d : Dev) : Dev :=
  d.emit (.deliver unit p (tickCodeOf (frameTick d p f.off)) f.bytes)

/-- The address table's answer for a frame, with R93's outcome (R94). A multicast frame with no entry is counted in no register
(log 26). -/
def fdbForward (p : Nat) (f : Frame) (prio : Nat) (d : Dev) : Dev × Nat :=
  match fdbFind d.swc.fdb f.da (frameVid f) with
  | none =>
    if isGroup f.da then ({ d with swc := { d.swc with mcDrop := satInc d.swc.mcDrop } }, 3)
    else if d.bitR Reg.swcCtrl 1 then (deliver 3 p f d, 0) else (d, 3)
  | some (i, e) =>
    let d := setFdb (tput d.swc.fdb i { e with hit := d.tim.absRoute }) d
    match fld e.dest 24 2 with
    | 0 => queueRx (fld e.dest 0 20) (rxFrame d p f.len f.off (fwdClass prio) f.bytes) d
    | 1 =>
      let q := fld e.dest 20 4
      if !d.bitR Reg.swcCtrl 0 || q = p then (d, 3)
      else
        let r := enqueue q { kind := 0, src := p, cls := fwdClass prio, len := f.len, tag := 0, body := f.bytes } d
        (r.1, if r.2 then 0 else 2)
    | 2 => (deliver 3 p f d, 0)
    | _ => (d, 3)

/-- Delivery of a frame to the destination of its EtherType (R78, R79), with R93's outcome. -/
def deliverFrame (p : Nat) (f : Frame) (d : Dev) : Dev × Nat :=
  let d := fdbLearn p f.sa (frameVid f) d
  match frameDest d f with
  | 1 => (deliver 0 p f d, 0)
  | 2 => (deliver 1 p f d, 0)
  | 3 => (deliver 2 p f d, 0)
  | 4 => (deliver 4 p f d, 0)
  | 5 => (deliver 3 p f d, 0)
  | 6 => fdbForward p f (framePrio d f) d
  | _ => (d, 3)

/-- The other station port. -/
def otherStation (p : Nat) : Nat := if p = 8 then 9 else 8

/-- Whether an address is a station address of the ring's own node (R75). -/
def ownStation (d : Dev) (a : Nat) : Bool := a == portMac d 8 || a == portMac d 9

/-- Redundancy handling of a verified frame, then delivery (R71 to R75). LAN A is the even port of a pair (log 26). -/
def redHandle (p : Nat) (f : Frame) (d : Dev) : Dev × Nat :=
  match pairOf p with
  | none => (match f.red with
    | some t => if t.hsr then (d, 3) else deliverFrame p f d
    | none => deliverFrame p f d)
  | some k =>
    match f.red with
    | none => deliverFrame p f d
    | some t =>
      if t.hsr && redMode d k != 2 then (d.bump (Reg.swcRedWrongLan k), 3)
      else if redMode d k = 1 && !t.hsr then
        let d := if t.lanA != (p % 2 == 0) then d.bump (Reg.swcRedWrongLan k) else d
        let r := redTake k p f.sa t.seq f.len d
        match r.2 with
        | .first => deliverFrame p f r.1
        | .again _ => (r.1.bump (Reg.swcRedDup k), 1)
      else if redMode d k = 2 && t.hsr then
        if ownStation d f.sa then (d, 3)
        else
          let r := redTake k p f.sa t.seq f.len d
          let mine := ownStation d f.da
          let seen := match r.2 with | .first => [] | .again l => l
          let d := if mine || seen.contains p then r.1
            else (enqueue (otherStation p) { kind := 0, src := p, cls := 6, len := f.len, tag := 0, body := f.bytes, red := f.red }
              r.1).1
          match r.2 with
          | .first => if mine || isGroup f.da then deliverFrame p f d else (d, 0)
          | .again _ => (d.bump (Reg.swcRedDup k), 1)
      else deliverFrame p f d

/-- Whether this good frame is the port's Nth (R93). -/
def sampleTurn (p : Nat) (d : Dev) : Dev × Bool :=
  let n := d.fldR (Reg.ethSampleN p) 0 16
  if n = 0 then (d, false)
  else
    let c := tget 0 d.swc.smpCnt p + 1
    ({ d with swc := { d.swc with smpCnt := tset 0 d.swc.smpCnt p (if n ≤ c then 0 else c) } }, n ≤ c)

/-- The `n` bytes of a number, lowest first (00_scope R8). -/
def octets (n v : Nat) : List Nat := (List.range n).map (fun i => fld v (8 * i) 8)

/-- The 32 bytes of metadata of a sample (R93); the VLAN tag stands as it stood in the frame, after the addresses. -/
def sampleMeta (d : Dev) (p : Nat) (f : Frame) (outcome : Nat) : List Nat :=
  let u := ingressStamp d p f.off
  let ns := u / nsUnits
  octets 4 (tickCodeOf (tickOfStamp u)) ++ octets 4 (ns / 1000000000) ++ octets 4 (ns % 1000000000) ++
    octets 2 (u % nsUnits / 2 ^ 32) ++ octets 2 f.len ++ [p, fwdClass (framePrio d f), frameDest d f, outcome] ++
    (if f.vlan.isSome then takePad 0 4 (f.bytes.drop 12) else [0, 0, 0, 0]) ++ List.replicate 8 0

/-- A sample: the first 128 bytes and the metadata of R93; lost when the Livery's queue is full. -/
def placeSample (p : Nat) (f : Frame) (outcome : Nat) (d : Dev) : Dev :=
  if f.smpFull then raise 186 none p 0 (d.bump (Reg.ethSampleLost p))
  else d.emit (.note 93 (f.bytes.take (min 128 f.len) ++ sampleMeta d p f outcome))

/-- A frame at a port: length and FCS, counting, MACsec, redundancy, classification, sampling (R70 to R94). A port whose
receiver is off or whose link is down receives nothing, and in Parked frames reach the wake detector alone (R96). -/
def frameRx' (p : Nat) (f : Frame) (d : Dev) : Dev :=
  if !linkUp d p || !rxEn d p || d.mode == modeParked then d
  else if d.fldR (Reg.ethMaxlen p) 0 14 < f.len then d.bump (Reg.ethRxTooLong p)
  else if !f.fcsOk then d.bump (Reg.ethRxFcsErr p)
  else
    let s := sampleTurn p (d.bump (Reg.ethRxFrames p))
    let v := secVerify p f s.1
    let r := if v.2 then redHandle p f v.1 else (v.1, if isStation p then 5 else 3)
    if s.2 then placeSample p f r.2 r.1 else r.1

/-- A source entry is forgotten: its waiting frames count as unique (R73, R74). -/
def redForget (k sa : Nat) (d : Dev) : Dev :=
  let l := redList d k
  match l.find? (fun e => e.sa == sa) with
  | none => d
  | some e =>
    -- FORGET in ms as ticks: ms * 76.8
    if (d.tim.absTick - e.last) * 10 < d.fldR (Reg.swcRedForget k) 0 12 * 768 then d
    else setRedList k (l.filter (fun x => x.sa != sa)) (d.bumpBy (Reg.swcRedUnique k) (unpaired e.seen))

/-! Pause and gates (R83 to R88). -/

/-- A received pause frame for a priority (R87). -/
def pauseRx (p prio : Nat) (on : Bool) (d : Dev) : Dev :=
  if prio ≤ 5 && d.bitR (Reg.ethPfcEn p) prio then d.putB (Reg.ethPauseState p) prio on
  else d.bump (Reg.ethPfcIgnored p)

/-- The bits of a mask that clash with another mask, lowest first. -/
def clashBits (a b : Nat) : List Nat := (List.range 8).filter (fun i => bitOf a i && bitOf b i)

/-- A mask with the bits of a list cleared. -/
def clearBits (a : Nat) (l : List Nat) : Nat := l.foldl (fun a i => putFld a i 1 0) a

/-- A write of ETH_PFC_EN: a bit whose SCHED bit is 1 stays 0 and raises an Info event (R88). -/
def writePfcEn (p v : Nat) (d : Dev) : Dev :=
  let cl := clashBits (v % 64) (d.rn (Reg.swcGclSched p))
  let d := d.wn (Reg.ethPfcEn p) (clearBits (v % 64) cl)
  if cl = [] then d else d.emit (.infoEvent 88)

/-- A write of SWC_GCL_SCHED: a bit whose PFC bit is 1 stays 0 (R88). -/
def writeGclSched (p v : Nat) (d : Dev) : Dev :=
  let cl := clashBits (v % 256) (d.rn (Reg.ethPfcEn p))
  let d := d.wn (Reg.swcGclSched p) (clearBits (v % 256) cl)
  if cl = [] then d else d.emit (.infoEvent 88)

/-- SWC_GCL_SCHED as it reads: bit 7 is 1 where TRIP_WIN is set (R88). -/
def schedW (d : Dev) (p : Nat) : Nat :=
  let w := d.rn (Reg.swcGclSched p)
  if d.bitR (Reg.swcGclCtrl p) 3 then putFld w 7 1 1 else w

/-- A write of SWC_Q_THR: the free count follows the reserve (R81). -/
def writeQThr (p c v : Nat) (d : Dev) : Dev :=
  let o := qOcc d p c
  freeMove (max o (qThrResv d p c)) (max o (fld v 16 12)) (d.wn (Reg.swcQThr p c) (fld v 0 4 + fld v 16 12 * 2 ^ 16))

/-- FCLK cycles that a frame and its preamble and gap take on the line, rounded up. -/
def wireCycles (d : Dev) (p len : Nat) : Nat := ((len + 20) * byteTime d p * 768 + 99999) / 100000

/-- GUARD of a port (R85). -/
def guardOf (d : Dev) (p : Nat) : Nat := wireCycles d p (d.fldR (Reg.ethMaxlen p) 0 14)

/-- GUARD recomputed, where the port overlays the trip window (R85). -/
def setGuard (p : Nat) (d : Dev) : Dev := d.setF (Reg.swcGclCtrl p) 8 13 (guardOf d p)

def holdback (d : Dev) : Nat := d.fldR Reg.ttbHoldback 0 4

/-- The active entries of a port's gate list up to LAST: start in FCLK cycles within the leg, and gates. -/
def gateList (d : Dev) (p : Nat) : List (Nat × Nat) :=
  let b := b2n (d.bitR (Reg.swcGclCtrl p) 1)
  let rec go : Nat → Nat → List (Nat × Nat)
    | 0, _ => []
    | k + 1, e =>
      let w := d.rn (Reg.swcGclEntry p b e)
      if !bitOf w 31 then []
      else (fld w 8 4 * 10000 + fld w 12 14, fld w 0 8) :: (if bitOf w 30 then [] else go k (e + 1))
  go 64 0

/-- The holdback that governs a leg (01 R20). -/
def holdFor (d : Dev) (leg : Nat) : Nat :=
  match d.ttb.holdOld with
  | some (b, h) => if leg < b then h else holdback d
  | none => holdback d

/-- The leg whose stage tick begins now: `k` is 1 for the filter tick, 2 element, 3 Harness, 4 egress (01 R15, R20). -/
def stageLeg (d : Dev) (k : Nat) : Option Nat :=
  let n := d.tim.absTick / 16
  [n, n - 1].find? (fun l => l * 16 + holdFor d l + k == d.tim.absTick)

/-- The trip windows of a port near the present leg: start and end in FCLK cycles since the epoch (R85; 01 R20). -/
def tripTimes (d : Dev) (p : Nat) : List (Nat × Nat) :=
  let n := d.tim.absLeg
  [n - 1, n, n + 1].map (fun l =>
    let t := l * 160000 + (holdFor d l + 4) * 10000
    (t - d.fldR (Reg.swcGclCtrl p) 8 13, t + 10000))

/-- Whether instant `x` lies strictly inside the `n` cycles after `t`, modulo the leg. -/
def within (t n x : Nat) : Bool := let k := (x + 160000 - t) % 160000; 0 < k && k < n

/-- Whether a class's gate is open now: the list's mask while the list is enabled, under the trip window's overlay. -/
def gateOpen (d : Dev) (p c : Nat) : Bool :=
  if d.bitR (Reg.swcGclCtrl p) 3 then
    if c = 7 then d.swc.trip.contains p
    else !d.swc.trip.contains p && (!d.bitR (Reg.swcGclCtrl p) 0 || bitOf (tget 0xFF d.swc.gate p) c)
  else c = 7 || !d.bitR (Reg.swcGclCtrl p) 0 || bitOf (tget 0xFF d.swc.gate p) c

/-- Whether a frame of class `c` that starts at cycle `t` of the leg finishes before its gate closes (R86). -/
def fitsGate (d : Dev) (p c t n : Nat) : Bool :=
  let list := !d.bitR (Reg.swcGclCtrl p) 0 || c == 7 ||
    (gateList d p).all (fun e => !within t n e.1 || bitOf e.2 c)
  let trip := if !d.bitR (Reg.swcGclCtrl p) 3 then true
    else
      let a := d.tim.absLeg * 160000 + t
      (tripTimes d p).all (fun w => let x := if c = 7 then w.2 else w.1; !(a < x && x < a + n))
  list && trip

/-- Whether a class holds its frames for a pause (R87). -/
def pausedCls (d : Dev) (p c : Nat) : Bool := c ≤ 5 && d.bitR (Reg.ethPfcEn p) c && d.bitR (Reg.ethPauseState p) c

/-- The highest class with a frame waiting whose gate is open, whose frame fits and which is not paused (R80, R86). -/
def txClass (d : Dev) (p t : Nat) : Option Nat :=
  [7, 6, 5, 4, 3, 2, 1, 0].find? (fun c => match egressQ d p c with
    | [] => false
    | f :: _ => gateOpen d p c && fitsGate d p c t (wireCycles d p f.len) && !pausedCls d p c)

/-- The highest class with a frame waiting. -/
def headClass (d : Dev) (p : Nat) : Option Nat := [7, 6, 5, 4, 3, 2, 1, 0].find? (fun c => egressQ d p c != [])

/-- The head of a queue leaves it; `keep` keeps its cells in use while it stands on the line. -/
def popEgress (p c : Nat) (keep : Bool) (d : Dev) : Dev :=
  match egressQ d p c with
  | [] => d
  | f :: l =>
    let d := setEgressQ p c l d
    if keep then d else setOcc p c (qOcc d p c - cellsOf f.len) d

/-- Units of 2^-48 ns in one unit of correctionField, 2^-16 ns. -/
def corrUnit : Nat := 2 ^ 32

/-- The one-step update of a PTP message that leaves at a timestamp (02 R56): a Sync of the device's own takes its originTimestamp,
and a Pdelay_Resp or a forwarded message adds the time since its ingress timestamp to correctionField. -/
def ptpEgress (t : Nat) (f : TxFrame) : TxFrame :=
  match f.body with
  | [k, o, c] =>
    if k = 0 && f.stamp = 0 then { f with body := [k, t, c] }
    else if k = 0 || k = 2 then { f with body := [k, o, (c + (t - f.stamp) / corrUnit) % 2 ^ 64] }
    else f
  | _ => f

/-- The egress timestamp of a Pdelay_Req is kept for its answer (02 R54). -/
def pdelaySent (p t : Nat) (f : TxFrame) (d : Dev) : Dev :=
  if f.kind = 4 && f.body.head? == some 1 then { d with tim := { d.tim with pdT1 := tput d.tim.pdT1 p t } } else d

/-- Whether a frame that starts on a port is protected: all but PTP event messages in the clear (R76; 02 R57). -/
def txProtected (d : Dev) (p : Nat) (f : TxFrame) : Bool := secEn d p && !(f.kind == 4 && !ptpSecure d p)

/-- The frame as it goes on the line: its one-step update, then its SecTAG (02 R56, R57; R76). -/
def txOnLine (d : Dev) (p off : Nat) (f : TxFrame) : TxFrame :=
  let f := if f.kind = 4 then ptpEgress (egressStamp d p off) f else f
  if txProtected d p f then { f with sec := some (secTag d p) } else f

/-- Whether a trip frame's egress tick is over: it is never sent after it (09 R273). -/
def tripStale (d : Dev) (f : TxFrame) : Bool := f.kind == 1 && f.cls == 7 && f.tag < d.tim.absTick

/-- Trip frames of earlier ticks still waiting at a port are discarded (09 R273). -/
def tripLate (p : Nat) (d : Dev) : Dev :=
  let late := (egressQ d p 7).filter (tripStale d)
  let rest := (egressQ d p 7).filter (fun f => !tripStale d f)
  late.foldl (fun d f => raiseH 281 none f.src p (f.src * 65536) 0 (d.bump Reg.pubTripLateCnt))
    (late.foldl (fun d f => setOcc p 7 (qOcc d p 7 - cellsOf f.len) d) (if late = [] then d else setEgressQ p 7 rest d))

/-- A port's turn to transmit, `off` RCLK cycles into the tick (R80, R86, R90; R77 on a MACsec port; 02 R56; 09 R273). -/
def txStart (p off : Nat) (d : Dev) : Dev :=
  let d := tripLate p d
  if txShut d p then drainShut p d
  else if (tfind d.swc.line p).isSome || !linkUp d p then d
  else
    let t := d.tim.tickInRoute % 16 * 10000 + off / 4
    match txClass d p t with
    | none => d
    | some c => match egressQ d p c with
      | [] => d
      | f :: _ =>
        let s := if txProtected d p f then secTake p d else (d, true)
        if !s.2 then frameDropped p f (popEgress p c false s.1)
        else
          let f' := txOnLine d p off f
          let d := pdelaySent p (egressStamp d p off) f' (popEgress p c true s.1)
          { d with swc := { d.swc with line := tput d.swc.line p f' } }.emit
            (if d.bitR (Reg.ethCtrl p) 6 then .looped p f' else .frame p f')

/-- The frame on a port's line has finished: its cells return and its queue's copy is done (R80; 10 R302). -/
def txEnd (p : Nat) (d : Dev) : Dev :=
  match tfind d.swc.line p with
  | none => d
  | some f =>
    let d := { d with swc := { d.swc with line := tdel d.swc.line p } }
    let d := setOcc p f.cls (qOcc d p f.cls - cellsOf f.len) (d.bump (Reg.ethTxFrames p))
    if f.kind = 6 then txCopyDone f.src f.tag p 0 d else d

/-- A frame on the line is cut short with an invalid FCS: it counts as transmitted (R91). -/
def txCut (p : Nat) (d : Dev) : Dev :=
  match tfind d.swc.line p with
  | none => d
  | some f => txEnd p (d.emit (.frameCut p f))

/-! Links (R89, R90). -/

/-- The frames of a queue flushed: counted, and its cells still held until the flush ends (R89). -/
def flushQueue (p c : Nat) (d : Dev) : Dev :=
  let l := egressQ d p c
  l.foldl (fun d f => frameDropped p f d)
    (countFlush p l.length (setEgressQ p c [] d))

def linkGoesDown (p : Nat) (d : Dev) : Dev :=
  let d := ((d.clrB (Reg.ethStatus p) 0).clrB (Reg.ethStatus p) 1).clrB (Reg.ethStatus p) 4
  let d := txCut p (d.setB (Reg.ethStatus p) 5)
  let d := (List.range 8).foldl (fun d c => flushQueue p c d) d
  raise (99 + 8 * p) none p 0 (setCond (96 + 8 * p) p d)

def flushDone (p : Nat) (d : Dev) : Dev :=
  ((List.range 8).foldl (fun d c => setOcc p c 0 d) d).clrB (Reg.ethStatus p) 5

/-- Whether a port's link comes by Clause 37 auto-negotiation: block 10 with AN_EN set (R97). -/
def autoNeg (d : Dev) (p : Nat) : Bool := p == 10 && d.bitR (Reg.ethCtrl p) 3

/-- A port's link returns; on the management port auto-negotiation is complete then (R89, R97). -/
def linkComesUp (p : Nat) (d : Dev) : Dev :=
  let d := ((d.setB (Reg.ethStatus p) 0).setB (Reg.ethStatus p) 1).putB (Reg.ethStatus p) 4 (autoNeg d p)
  raise (97 + 8 * p) none p 0 (clearCond (96 + 8 * p) d)

def synthUnlock' (p : Nat) (d : Dev) : Dev :=
  let d := (d.clrB (Reg.ethStatus p) 2).setB (Reg.ethStatus p) 3
  setCond (98 + 8 * p) p (drainShut p (txCut p d))

def synthLock' (p : Nat) (d : Dev) : Dev :=
  clearCond (98 + 8 * p) ((d.setB (Reg.ethStatus p) 2).clrB (Reg.ethStatus p) 3)

/-- A write of ETH_SEC_CTRL: TX_AN in every mode; EN and CONF in Maintenance only (R77, R97). -/
def writeSecCtrl (p v : Nat) (d : Dev) : Dev :=
  let old := d.rn (Reg.ethSecCtrl p)
  let d1 := d.setF (Reg.ethSecCtrl p) 2 2 (fld v 2 2)
  let d1 := d1.wn (Reg.ethSecTxPn p) (min 0xFFFFFFFF (txPn d p (fld v 2 2)))
  if d.mode = modeMaintenance then d1.setF (Reg.ethSecCtrl p) 0 2 (fld v 0 2)
  else if fld v 0 2 = fld old 0 2 then d1 else d1.emit (.infoEvent 97)

/-- A new SA in a transmit or receive association: its packet numbers start afresh (R77). -/
def writeTxSa (p a v : Nat) (d : Dev) : Dev :=
  let d := setTxPn p a 1 (d.wn (Reg.ethSecTxSa p a) (v % 256 + b2n (bitOf v 31) * 2 ^ 31))
  if txAn d p = a then d.wn (Reg.ethSecTxPn p) 1 else d

def writeRxSa (p a v : Nat) (d : Dev) : Dev :=
  setRxPn p a 1 (d.wn (Reg.ethSecRxSa p a) (v % 256 + b2n (bitOf v 31) * 2 ^ 31))

/-- SWC_FDB_CMD OP 1: an entry's words into the data registers. -/
def fdbRead' (i : Nat) (d : Dev) : Dev :=
  match tfind d.swc.fdb i with
  | none => ((d.wn Reg.swcFdbData0 0).wn Reg.swcFdbData1 0).wn Reg.swcFdbData2 0
  | some e => ((d.wn Reg.swcFdbData0 (e.addr % 2 ^ 32)).wn Reg.swcFdbData1
      (e.addr / 2 ^ 32 % 65536 + e.vlan % 4096 * 65536 + b2n e.learned * 2 ^ 30 + 2 ^ 31)).wn Reg.swcFdbData2 e.dest

/-- SWC_FDB_CMD OP 2: the data registers written as a static entry; without VALID the entry is left empty. -/
def fdbWrite (i : Nat) (d : Dev) : Dev :=
  let w1 := d.rn Reg.swcFdbData1
  let a := d.rn Reg.swcFdbData0 + fld w1 0 16 * 2 ^ 32
  if 16384 ≤ i then d
  else if bitOf w1 31 then setFdb (tput d.swc.fdb i ⟨a, fld w1 16 12, false, d.rn Reg.swcFdbData2 % 2 ^ 26, 0⟩) d
  else setFdb (tdel d.swc.fdb i) d

/-- SWC_FDB_CMD OP 3. -/
def fdbDel (i : Nat) (d : Dev) : Dev := setFdb (tdel d.swc.fdb i) d

/-- A learned entry with no hit for SWC_AGE_ROUTES routes goes; 0 disables ageing (R95). -/
def fdbAge (i : Nat) (d : Dev) : Dev :=
  let lim := d.fldR Reg.swcAgeRoutes 0 20
  match tfind d.swc.fdb i with
  | none => d
  | some e => if e.learned && lim != 0 && e.hit + lim ≤ d.tim.absRoute then fdbDel i d else d

/-! The gate-list swap at the route boundary (R84). -/

/-- The entries of a bank up to LAST: words. -/
def gclBank (d : Dev) (p b : Nat) : Nat → Nat → List Nat
  | 0, _ => []
  | k + 1, e =>
    let w := d.rn (Reg.swcGclEntry p b e)
    if !bitOf w 31 then [] else w :: (if bitOf w 30 then [] else gclBank d p b k (e + 1))

def ascending : List Nat → Bool
  | a :: b :: l => a < b && ascending (b :: l)
  | _ => true

/-- Whether a bank keeps R83 and R88: entry 0 at tick 0 offset 0, ascending starts, a final entry, and no closure of a
priority that is not scheduled. -/
def gclBankOk (d : Dev) (p b : Nat) : Bool :=
  let l := gclBank d p b 64 0
  let starts := l.map (fun w => fld w 8 4 * 10000 + fld w 12 14)
  starts.head? == some 0 && ascending starts && l.all (fun w => fld w 12 14 ≤ 9999) &&
    (l.getLast?.map (fun w => bitOf w 30)) == some true &&
    (List.range 7).all (fun c => d.bitR (Reg.swcGclSched p) c || l.all (fun w => bitOf w c))

/-- The banks exchange, or the new bank is refused with BAD and an Info event (R84). A later swap that is accepted clears BAD
(log 26). -/
def gclSwap (p : Nat) (d : Dev) : Dev :=
  if !d.bitR (Reg.swcGclCtrl p) 2 then d
  else
    let nb := b2n (!d.bitR (Reg.swcGclCtrl p) 1)
    let ok := gclBankOk d p nb
    let d := (d.clrB (Reg.swcGclCtrl p) 2).clrB (Reg.swcGclStatus p) 1
    if ok then (d.setF (Reg.swcGclCtrl p) 1 1 nb).clrB (Reg.swcGclStatus p) 0
    else (d.setB (Reg.swcGclStatus p) 0).emit (.infoEvent 84)

/-- A write of SWC_GCL_CTRL: EN as written, SWAP set and pending until the boundary. -/
def writeGclCtrl (p v : Nat) (d : Dev) : Dev :=
  let d := d.putB (Reg.swcGclCtrl p) 0 (bitOf v 0)
  if bitOf v 2 then (d.setB (Reg.swcGclCtrl p) 2).setB (Reg.swcGclStatus p) 1 else d

/-- TRIP_WIN of a port set or cleared by the Timetable, p = 0 to 9 (R85). -/
def setTripWin (p : Nat) (b : Bool) (d : Dev) : Dev :=
  if 10 ≤ p then d
  else
    let d := d.putB (Reg.swcGclCtrl p) 3 b
    if b then setGuard p d else d

/-! The wake detector (R96). -/

/-- Byte `i` of a wake pattern. -/
def wakeByte (d : Dev) (w i : Nat) : Nat := d.fldR (Reg.swcWakePat w (i / 4)) (i % 4 * 8) 8

/-- Whether a mask bit of a wake pattern is set. -/
def wakeMask (d : Dev) (w i : Nat) : Bool := d.bitR (Reg.swcWakeMask w (i / 32)) (i % 32)

/-- Whether a frame matches a wake pattern over its length; over a length of 0, which the register holds at reset, every good frame
matches (log 26). -/
def wakeMatch (d : Dev) (w : Nat) (f : Frame) : Bool :=
  d.bitR Reg.swcWakeCtrl w && (List.range (d.fldR (Reg.swcWakeLen w) 0 8)).all (fun i =>
    !wakeMask d w i || (f.bytes[i]?) == some (wakeByte d w i))

/-- Whether a list begins with another. -/
def startsWith : List Nat → List Nat → Bool
  | _, [] => true
  | [], _ :: _ => false
  | a :: l, b :: m => a == b && startsWith l m

/-- Whether the magic-packet form occurs: six octets of 0xFF, then the station address sixteen times. -/
def magicIn (mac : Nat) : List Nat → Bool
  | [] => false
  | a :: l =>
    let oct := (List.range 6).map (fun i => fld mac (8 * i) 8)
    startsWith (a :: l) (List.replicate 6 0xFF ++ (List.replicate 16 oct).flatten) || magicIn mac l

/-- The bit of SWC_WAKE_CTRL and SWC_WAKE_STATUS of a port: 9 station 0, 10 station 1, 11 management. -/
def wakePortBit (p : Nat) : Option Nat := if 8 ≤ p ∧ p ≤ 10 then some (p + 1) else none

/-- The wake bits that a frame sets: patterns and the magic packet, on an enabled port. -/
def wakeHits (d : Dev) (p : Nat) (f : Frame) : List Nat :=
  match wakePortBit p with
  | none => []
  | some b =>
    if !f.fcsOk || !d.bitR Reg.swcWakeCtrl b then []
    else
      let l := (List.range 8).filter (fun w => wakeMatch d w f) ++
        (if d.bitR Reg.swcWakeCtrl 8 && magicIn (portMac d p) f.bytes then [8] else [])
      if l = [] then [] else l ++ [b]

/-! The rows of this chapter. A port, pair or index that the part does not have brings nothing. -/

/-- FRAME_RX (R70). -/
def execFrameRx (port : Nat) (f : Frame) (s : State) : Outcome := s.act (onlyIf (port < 11) (frameRx' port f))

/-- RED_ENTRY_FORGET (R73). -/
def execRedEntryForget (pair sa : Nat) (s : State) : Outcome := s.act (onlyIf (pair < 5) (redForget pair sa))

/-- PFC_PAUSE_RX (R87). -/
def execPfcPauseRx (port prio : Nat) (on : Bool) (s : State) : Outcome :=
  s.act (onlyIf (port < 11 && prio < 8) (pauseRx port prio on))

/-- PFC_EN_WRITE (R88): a write of ETH_PFC_EN, or of SWC_GCL_SCHED. -/
def execPfcEnWrite (port : Nat) (sched : Bool) (v : Word) (s : State) : Outcome :=
  s.act (onlyIf (port < 11) (if sched then writeGclSched port v.toNat else writePfcEn port v.toNat))

/-- FRAME_TX (R86). -/
def execFrameTx (port off : Nat) (s : State) : Outcome := s.act (onlyIf (port < 11) (txStart port off))

/-- FRAME_TX_END (10 R302). -/
def execFrameTxEnd (port : Nat) (s : State) : Outcome := s.act (onlyIf (port < 11) (txEnd port))

/-- The gate mask of an entry of the active bank takes effect (R83). After EN is set within a leg, the gates stay as they were until
the next entry starts (log 26). -/
def gateStart (p e : Nat) (d : Dev) : Dev :=
  let w := d.rn (Reg.swcGclEntry p (b2n (d.bitR (Reg.swcGclCtrl p) 1)) e)
  if d.bitR (Reg.swcGclCtrl p) 0 && bitOf w 31 then
    { d with swc := { d.swc with gate := tset 0xFF d.swc.gate p (fld w 0 8) } }
  else d

/-- GATE_ENTRY_START (R83). -/
def execGateEntryStart (port entry : Nat) (s : State) : Outcome :=
  s.act (onlyIf (port < 11 && entry < 64) (gateStart port entry))

/-- The trip window of a port opens, GUARD cycles before the egress tick, or ends with that tick (R85). -/
def tripWindow' (p : Nat) (opens : Bool) (d : Dev) : Dev :=
  let rest := d.swc.trip.filter (fun x => x != p)
  { d with swc := { d.swc with trip := if opens && d.bitR (Reg.swcGclCtrl p) 3 then p :: rest else rest } }

/-- TRIP_WINDOW (R85). -/
def execTripWindow (port : Nat) (opens : Bool) (s : State) : Outcome := s.act (onlyIf (port < 10) (tripWindow' port opens))

/-- GCL_SWAP_REQUEST (R84). -/
def execGclSwapRequest (port : Nat) (s : State) : Outcome :=
  s.act (onlyIf (port < 11) (fun d => writeGclCtrl port (d.rn (Reg.swcGclCtrl port) % 2 + 4) d))

/-- LINK_DOWN (R89). -/
def execLinkDown (port : Nat) (s : State) : Outcome := s.act (onlyIf (port < 11) (linkGoesDown port))

/-- QUEUE_FLUSH_DONE (R89). -/
def execQueueFlushDone (port : Nat) (s : State) : Outcome := s.act (onlyIf (port < 11) (flushDone port))

/-- LINK_UP (R89). -/
def execLinkUp (port : Nat) (s : State) : Outcome := s.act (onlyIf (port < 11) (linkComesUp port))

/-- SYNTH_UNLOCK (R90). -/
def execSynthUnlock (port : Nat) (s : State) : Outcome := s.act (onlyIf (port < 11) (synthUnlock' port))

/-- SYNTH_LOCK (R90). -/
def execSynthLock (port : Nat) (s : State) : Outcome := s.act (onlyIf (port < 11) (synthLock' port))

/-- MACSEC_CTRL_WRITE (R77), on the station ports. -/
def execMacsecCtrlWrite (port : Nat) (v : Word) (s : State) : Outcome :=
  s.act (onlyIf (isStation port) (writeSecCtrl port v.toNat))

/-- FDB_READ (R94). -/
def execFdbRead (index : Nat) (s : State) : Outcome := s.act (onlyIf (index < 16384) (fdbRead' index))

/-- FDB_WRITE_STATIC (R94). -/
def execFdbWriteStatic (index : Nat) (s : State) : Outcome := s.act (onlyIf (index < 16384) (fdbWrite index))

/-- FDB_DELETE (R94). -/
def execFdbDelete (index : Nat) (s : State) : Outcome := s.act (onlyIf (index < 16384) (fdbDel index))

/-- FDB_AGE_OUT (R95). -/
def execFdbAgeOut (index : Nat) (s : State) : Outcome := s.act (onlyIf (index < 16384) (fdbAge index))

end Sys2Proof.Machine
end

