-- ==== Sys2Proof/Machine/Time.lean ====
section
/-! DEFINITION. The time unit: source selection, the servo's states, the one step, holdover, PTP messages and port roles,
and the time snapshot (02 R44 to R60, R66, R67). The servo's frequency and phase terms are free values (log 5): the spec
gives their limits and not how the servo computes them. -/

namespace Sys2Proof.Machine

def tsFree : Nat := 0
def tsAcquiring : Nat := 1
def tsLocked : Nat := 2
def tsSlewing : Nat := 3
def tsHoldover : Nat := 4

/-- TIM_STATUS.STATE (R53). -/
def timState (d : Dev) : Nat := d.fldR Reg.timStatus 0 3

/-- TIM_CTRL.SRC: 0 free-run, 1 PTP, 2 Brace. -/
def timSrc (d : Dev) : Nat := d.fldR Reg.timCtrl 0 2

/-- TIM_SLEW_MAX in 2^-40: ppb * 2^40 / 10^9. -/
def slewMax (d : Dev) : Int := (d.fldR Reg.timSlewMax 0 18 * 2 ^ 40 / 1000000000 : Nat)

/-- The clock enters a state; SLEW shows SLEWING, or a phase term at its limit (R52, R67). -/
def setTimState (st : Nat) (d : Dev) : Dev :=
  let d := d.setF Reg.timStatus 0 3 st
  d.putB Reg.timStatus 4 (st == tsSlewing || slewMax d ≤ d.tim.phase || d.tim.phase ≤ -slewMax d)

/-- The correction the servo asks for, clamped to 300 ppm (R39): 300e-6 * 2^40. -/
def rateTarget (f p : Int) : Int := clampMag 329853488 (f + p)

/-- New servo terms: the phase term within TIM_SLEW_MAX and the total within 300 ppm, a clamp raising source 5
(R39, R50). With SERVO_EN 0 the current rate holds. -/
def servoTerms (d : Dev) : Dev :=
  if !d.bitR Reg.timCtrl 2 then d
  else
    let a := d.free
    let b := a.2.free
    let f := sx 40 a.1
    let p := clampMag (slewMax d) (sx 40 b.1)
    let d := { b.2 with tim := { b.2.tim with freq := f, phase := p, target := rateTarget f p } }
    let d := d.wn Reg.timPhaseRate (wrapN 32 p)
    if rateTarget f p = f + p then d else raise 5 none 0 0 d

/-- Whether the servo moves the rate: SERVO_EN 0 holds the current one, but free-run applies no correction (R46, R67). -/
def rateMoves (d : Dev) : Bool := d.bitR Reg.timCtrl 2 || timSrc d == 0

/-- TIM_RATE moves toward the servo's target by at most 20 ppb from one leg to the next (R39): 20e-9 * 2^40. -/
def rateLeg (d : Dev) : Dev :=
  if !rateMoves d then d
  else
  let cur := sx 32 (d.rn Reg.timRate)
  let step := clampMag 21990 (d.tim.target - cur)
  d.wn Reg.timRate (wrapN 32 (cur + step))

/-- TIM_OFFSET, saturating at 2^31 - 1 with TIM_STATUS.SAT (R66). -/
def setOffset (o : Int) (d : Dev) : Dev :=
  let o' := clampMag 2147483647 o
  let sat := o' != o
  let was := d.bitR Reg.timStatus 5
  let d := (d.wn Reg.timOffset (wrapN 32 o')).putB Reg.timStatus 5 sat
  if sat && !was then raise 22 none 0 0 d else d

/-- Local time set to a source's time and the tick divider realigned (R42, R48); STEP_SPENT sets, by TIME_STEP too (log 27). -/
def stepTo (sec ns : Nat) (d : Dev) : Dev :=
  let t := { d.tim with sec := sec % 2 ^ 48, ns := ns % 1000000000, frac := 0, third := 0 }
  let d := { d with tim := { t with toEdge := t.cyclesToEdge } }
  raise 18 none 0 0 (d.setB Reg.timStatus 3)

/-- The magnitude of an offset against TIM_OFS_WARN: true when the offset is below it (R52). An offset equal to it is not below it, and
does not exceed it: it keeps LOCKED, and enters SLEWING from the other states (log 27). -/
def ofsBelow (d : Dev) (o : Int) : Bool := o.natAbs < d.rn Reg.timOfsWarn

/-- LOCKED or SLEWING by the offset (R52). -/
def lockOrSlew (o : Int) (d : Dev) : Dev :=
  if ofsBelow d o then raise 16 none 0 0 (setTimState tsLocked d)
  else raise 19 none 0 0 (setTimState tsSlewing { d with tim := { d.tim with good := 0 } })

/-- The first lock after Boot: the one step is applied, or forfeited when a carriage is enabled or it is already spent
(R48, R49). -/
def firstLock (o : Int) (sec ns : Nat) (d : Dev) : Dev :=
  let spent := d.bitR Reg.timStatus 3
  let d := { d with tim := { d.tim with firstLock := true } }
  if spent || anyEnabled d then lockOrSlew o d
  else lockOrSlew 0 (setOffset 0 (stepTo sec ns d))

/-- Whether the start is past Boot, where the one step and the first lock belong (R48). -/
def pastBoot (d : Dev) : Bool := d.mode != modeBoot && d.mode != modeRecovery

/-- The servo takes a measurement from the selected source (R48 to R53). A return from HOLDOVER never steps, and with an offset below
TIM_OFS_WARN it is LOCKED at once (log 27). -/
def servoFeed (o : Int) (settled : Bool) (sec ns : Nat) (d : Dev) : Dev :=
  let d := servoTerms (setOffset o d)
  let st := timState d
  if st = tsAcquiring then
    if !settled || !pastBoot d then setTimState st d
    else if d.tim.firstLock then lockOrSlew o d else firstLock o sec ns d
  else if st = tsHoldover then lockOrSlew o { d with tim := { d.tim with firstLock := true } }
  else if st = tsLocked then
    if d.rn Reg.timOfsWarn < o.natAbs then
      raise 19 none 0 0 (setTimState tsSlewing { d with tim := { d.tim with good := 0 } })
    else setTimState tsLocked d
  else if st = tsSlewing then
    if ofsBelow d o then
      if d.tim.good + 1 = 4 then raise 20 none 0 0 (setTimState tsLocked { d with tim := { d.tim with good := 0 } })
      else setTimState tsSlewing { d with tim := { d.tim with good := d.tim.good + 1 } }
    else setTimState tsSlewing { d with tim := { d.tim with good := 0 } }
  else d

/-- The role of a port: 0 off, 1 ordinary, 2 boundary, 3 transparent (R55). -/
def ptpRole (d : Dev) (n : Nat) : Nat := d.fldR (Reg.timPCfg n) 0 2

/-- Ports of a role other than `n`. -/
def portsOfRole (d : Dev) (n r : Nat) : List Nat := (List.range 11).filter (fun p => p != n && ptpRole d p == r)

/-- The port state that Phiash's best master clock algorithm gives, coded 1 to 9 (R66); any other code leaves it. -/
def setPState (n k : Nat) (d : Dev) : Dev := if 1 ≤ k && k ≤ 9 then d.setF (Reg.timPStat n) 0 4 k else d

/-- Whether a message came as R57 lets it: on a MACsec port an event message in the clear, or protected with SECURE set, and any other
message protected. -/
def ptpAdmitted (d : Dev) (n : Nat) (m : PtpMsg) : Bool :=
  !secEn d n || m.prot == (decide (2 < m.kind) || ptpSecure d n)

/-- `num / den` (`den` positive) rounded to the nearest, ties away from 0. -/
def nearestAway (num den : Int) : Int := if 0 ≤ num then (2 * num + den) / (2 * den) else -((-2 * num + den) / (2 * den))

/-- A Pdelay_Resp gives the mean link delay, half of the time from the request less correctionField, which holds the turnaround
(R54, R56). With no request waiting it gives nothing. -/
def pdelayResp (n : Nat) (m : PtpMsg) (d : Dev) : Dev :=
  match tfind d.tim.pdT1 n with
  | none => d
  | some t1 =>
    let ps := nearestAway (((ingressStamp d n m.off : Int) - t1 - m.corr * corrUnit) * 500) nsUnits
    { d with tim := { d.tim with pdT1 := tdel d.tim.pdT1 n } }.wn (Reg.timPPdelay n) (wrapN 32 ps)

/-- The offset that a Sync shows at a port, in 2^-48 ns: its corrected ingress timestamp less originTimestamp, correctionField and the
mean link delay (R54, R58, R59). -/
def syncOffset (d : Dev) (n : Nat) (m : PtpMsg) : Int :=
  (ingressStamp d n m.off : Int) - m.origin - m.corr * corrUnit - (d.rn (Reg.timPPdelay n) : Int) * nsUnits / 1000

/-- A Sync at a port: TIM_P_OFFSET in ns, and the servo's measurement where Phiash chose the port, the source is PTP and the port is
no transparent clock's (R47, R54, R60). -/
def ptpSync (n : Nat) (m : PtpMsg) (d : Dev) : Dev :=
  let u := syncOffset d n m
  let o := nearestAway u nsUnits
  let d := d.wn (Reg.timPOffset n) (wrapN 32 (clampMag 2147483647 o))
  if timSrc d = 1 && m.chosen && ptpRole d n != 3 then
    let src := ((timeAt d 0 : Int) - u).toNat / nsUnits
    servoFeed o m.settled (src / 1000000000) (src % 1000000000) d
  else d

/-- A PTP message at a port (R54 to R60): a port whose role is off, another domain or a protection that R57 does not let brings nothing;
a two-step message is counted and ignored; a Sync of a transparent port goes on to the other transparent ports in class 6; a
Pdelay_Req is answered; a Pdelay_Resp gives the link delay; a Sync of the chosen port steers the servo while the source is PTP. -/
def ptpRx (n : Nat) (m : PtpMsg) (d : Dev) : Dev :=
  if ptpRole d n = 0 || !m.domain || !ptpAdmitted d n m then d
  else if m.twoStep then d.setF (Reg.timPStat n) 8 8 (min 255 (d.fldR (Reg.timPStat n) 8 8 + 1))
  else
    let d := setPState n m.pstate d
    let at' := ingressStamp d n m.off
    let corr := wrapN 64 m.corr
    match m.kind with
    | 0 =>
      let d := if ptpRole d n = 3 then
          enqueueAll (portsOfRole d n 3) { kind := 4, src := n, cls := 6, len := m.len, tag := 0, body := [0, m.origin, corr],
                                           stamp := at' } d
        else d
      ptpSync n m d
    | 1 => (enqueue n { kind := 4, src := n, cls := 6, len := m.len, tag := 0, body := [2, 0, corr], stamp := at' } d).1
    | 2 => pdelayResp n m d
    | 3 => match m.utc with
      | some u => d.wn Reg.timUtcOffset (wrapN 16 u + 2 ^ 31)
      | none => d
    | _ => d

/-- Messages that the ports send of themselves (R54): a Pdelay_Req on a port with a role, and a Sync on an ordinary or boundary port in
state MASTER. Phiash sets the intervals, so a free value decides at each route boundary (log 27). -/
def ptpSend (n : Nat) (d : Dev) : Dev :=
  if ptpRole d n = 0 then d
  else
    let a := d.free
    let b := a.2.free
    let msg (k : Nat) : TxFrame := { kind := 4, src := n, cls := 6, len := 64, tag := 0, body := [k, 0, 0] }
    let d := if a.1 % 2 = 1 then (enqueue n (msg 1) b.2).1 else b.2
    if b.1 % 2 = 1 && ptpRole d n ≠ 3 && d.fldR (Reg.timPStat n) 0 4 = 6 then (enqueue n (msg 0) d).1 else d

/-- Every port's messages of a route. -/
def ptpRoute (d : Dev) : Dev := (List.range 11).foldl (fun d n => ptpSend n d) d

/-- The source has been silent for 3 Sync intervals: the frequency term holds and the phase term is zero (R53). -/
def enterHoldover (d : Dev) : Dev :=
  if timSrc d = 0 || timState d = tsFree || timState d = tsHoldover then d
  else
    let d := { d with tim := { d.tim with phase := 0, target := rateTarget d.tim.freq 0, holdCnt := 0, good := 0 } }
    raise 17 none 0 0 (setTimState tsHoldover (d.wn Reg.timPhaseRate 0))

/-- HOLDOVER has lasted TIM_HOLD_LIMIT routes: a Degraded event (R53). -/
def holdLimit' (d : Dev) : Dev :=
  if timState d = tsHoldover && d.fldR Reg.timHoldLimit 0 17 ≤ d.tim.holdCnt then raise 21 none 0 0 d else d

/-- A write of TIM_P_CFG: ordinary role beside a port of boundary role leaves ROLE unchanged and raises an Info event; SECURE exists on
station ports only (R55, R67). The port state is INITIALIZING (1) when the role leaves off, and 0 while it is off (R66). -/
def writePtpCfg (n v : Nat) (d : Dev) : Dev :=
  let role := fld v 0 2
  let clash := role == 1 && portsOfRole d n 2 != []
  let d := if isStation n then d.putB (Reg.timPCfg n) 2 (bitOf v 2) else d
  if clash then d.emit (.infoEvent 55)
  else
    let was := ptpRole d n
    let d := d.setF (Reg.timPCfg n) 0 2 role
    if role = 0 then d.setF (Reg.timPStat n) 0 4 0 else if was = 0 then d.setF (Reg.timPStat n) 0 4 1 else d

/-- The state that follows a change of SRC: FREE with no correction, or ACQUIRING (R46, R53). -/
def srcChanged (d : Dev) : Dev :=
  if timSrc d = 0 then
    setTimState tsFree ({ d with tim := { d.tim with freq := 0, phase := 0, target := 0 } }.wn Reg.timPhaseRate 0)
  else setTimState tsAcquiring { d with tim := { d.tim with good := 0 } }

/-- A write of TIM_CTRL: SRC and SERVO_EN (R46, R53). A code reserved in SRC leaves the register unchanged (R585). -/
def writeTimCtrl (v : Nat) (d : Dev) : Dev :=
  if fld v 0 2 = 3 then d
  else
    let old := timSrc d
    let d := d.wn Reg.timCtrl (v % 8)
    if fld v 0 2 = old then d else srcChanged d

/-- The source set by the Livery, which gives the standby Brace and the active PTP (R46, R47). -/
def setSrc (k : Nat) (d : Dev) : Dev := if timSrc d = k then d else srcChanged (d.setF Reg.timCtrl 0 2 k)

/-! Reading time, and 64-bit pairs (R9, R44). -/

/-- The time registers as local time shows them. -/
def timeReg (d : Dev) (off : Nat) : Option Nat :=
  if off = Reg.timSecLo then some (d.tim.sec % 2 ^ 32)
  else if off = Reg.timSecHi then some (d.tim.sec / 2 ^ 32)
  else if off = Reg.timNs then some d.tim.ns
  else if off = Reg.timFrac then some (d.tim.frac / 2 ^ 32)
  else if off = Reg.timTickcode then some d.tc
  else none

/-- The snapshot of R44: TIM_SEC_HI, TIM_NS, TIM_FRAC, TIM_TICKCODE. -/
def takeSnap (d : Dev) : Dev :=
  { d with tim := { d.tim with snap := some [d.tim.sec / 2 ^ 32, d.tim.ns, d.tim.frac / 2 ^ 32, d.tc] } }

/-- The word a snapshot holds for a register. -/
def snapReg (l : List Nat) (off : Nat) : Option Nat :=
  if off = Reg.timSecHi then some (nth 0 l 0)
  else if off = Reg.timNs then some (nth 0 l 1)
  else if off = Reg.timFrac then some (nth 0 l 2)
  else if off = Reg.timTickcode then some (nth 0 l 3)
  else none

/-- The bases of the register rows that are low words of 64-bit pairs; the high word lies 4 above (R9). -/
def lowBases : List Nat :=
  [0x3001c, 0x100010, 0x40001c, 0x500014, 0x500024, 0x600024, 0x78001c, 0x1000024, 0x1000100, 0x81008, 0x81010, 0x8102c,
   0xa0020c, 0x40020, 0x60200, 0xc00008, 0xc01010]

/-- Whether an offset is the low word of a pair. -/
def isLowWord (off : Nat) : Bool :=
  match regRow? off with
  | some r => lowBases.contains r.base
  | none => false

/-- A read of a low word latches its high word (R9). -/
def latchHigh (off : Nat) (d : Dev) : Dev := { d with hiLat := tput d.hiLat (off + 4) (d.rd (off + 4)) }

/-- TIME_SNAPSHOT (R44): a read of TIM_SEC_LO. -/
def execTimeSnapshot (s : State) : Outcome :=
  s.act (fun d => (takeSnap d).emit (.readData (w32 (d.tim.sec % 2 ^ 32))))

/-- READ_LOW_WORD (R9). -/
def execReadLowWord (off : Nat) (s : State) : Outcome :=
  s.act (onlyIf (isLowWord off) (fun d => (latchHigh off d).emit (.readData (d.rd off))))

/-- PTP_MESSAGE_RX (R54). -/
def execPtpMessageRx (port : Nat) (m : PtpMsg) (s : State) : Outcome := s.act (onlyIf (port < 11) (ptpRx port m))

/-- HOLDOVER_ENTRY (R53). -/
def execHoldoverEntry (s : State) : Outcome := s.act enterHoldover

/-- HOLD_LIMIT (R53). -/
def execHoldLimit (s : State) : Outcome := s.act holdLimit'

/-- PTP_ROLE_WRITE (R55). -/
def execPtpRoleWrite (port : Nat) (v : Word) (s : State) : Outcome :=
  s.act (onlyIf (port < 11) (writePtpCfg port v.toNat))

/-- BRACE_TIME (R47): the active's time steers the clock while the source is Brace. -/
def execBraceTime (offset : Int) (settled : Bool) (sec ns : Nat) (s : State) : Outcome :=
  s.act (fun d => if timSrc d = 2 then servoFeed offset settled sec ns d else d)

end Sys2Proof.Machine
end

