-- ==== Sys2Proof/Machine/Sau.lean ====
section
/-! DEFINITION. Sampled-value ingest: the subscription table and its caches, timing models, slots, declaration and
gathers (04 R99 to R135). Times in the computations are exact: unit u of a stream of rate f is 2^-48 ns / f. -/

namespace Sys2Proof.Machine

/-- Round to nearest with ties away from zero (05 R142); `den` is positive. -/
def raDiv (num den : Int) : Int := if 0 ≤ num then (2 * num + den) / (2 * den) else -((-2 * num + den) / (2 * den))

/-- Ceiling division; `den` is positive. -/
def ceilDiv (num den : Int) : Int := -((-num) / den)

/-! Entries (R107). -/

/-- A FREE entry. -/
def sauZero : List Nat := List.replicate 24 0

def sauEnt (d : Dev) (i : Nat) : List Nat := tget sauZero d.sau.entries i
def entState (e : List Nat) : Nat := fld (entW e 0) 0 2
def entNchan (e : List Nat) : Nat := fld (entW e 0) 4 5
def entRate (e : List Nat) : Nat := fld (entW e 0) 9 2
def entNoasdu (e : List Nat) : Nat := fld (entW e 0) 11 4
def entMiss (e : List Nat) : Nat := fld (entW e 0) 15 3
def entAuth (e : List Nat) : Nat := fld (entW e 0) 18 2
def entSlot (e : List Nat) : Nat := fld (entW e 0) 20 8
def entMod (e : List Nat) : Nat := fld (entW e 5) 0 17
def entLat (e : List Nat) : Nat := entW e 6
def entBase (e : List Nat) : Nat := fld (entW e 7) 0 12
def entUnits (e : List Nat) : Nat := fld (entW e 7) 12 7

def esFree : Nat := 0
def esLearned : Nat := 1
def esLive : Nat := 2
def esSuspended : Nat := 3

/-- The rate of a RATE code in multiples of 4,800 samples/s; none when unknown. -/
def rateK : Nat → Option Nat
  | 0 => some 1
  | 1 => some 3
  | 2 => some 20
  | _ => none

/-- Slots of an entry in each leg. -/
def entK (e : List Nat) : Nat := (rateK (entRate e)).getD 1

/-- Rows per slot (R126). -/
def entRps (e : List Nat) : Nat := (entNchan e + 7) / 8

/-- Units of a stream (R104). -/
def entCost (e : List Nat) : Nat := entRps e * entK e

/-- The bits of each word of an entry that are not reserved (R107). -/
def entMask : Nat → Nat
  | 0 => 0xFFFFFFF
  | 3 => 0x1FFF
  | 5 => 0x1FFFF
  | 7 => 0x7FFFF
  | _ => 0xFFFFFFFF

/-- An entry's 24 words without their reserved bits, which read 0 (R107; 00_scope R10). -/
def entClean (w : List Nat) : List Nat := (List.range 24).map (fun k => entW w k &&& entMask k)

/-- Four octets as a word, the first lowest. -/
def packWord : List Nat → Nat
  | [] => 0
  | b :: bs => b % 256 + 256 * packWord bs

/-- Octets packed into `n` words. -/
def packWords : Nat → List Nat → List Nat
  | 0, _ => []
  | n + 1, bs => packWord (bs.take 4) :: packWords n (bs.drop 4)

/-- The first `n` of the 64 octets that an entry's words hold from word `w` on. -/
def entOctets (e : List Nat) (w n : Nat) : List Nat :=
  ((List.range 64).map (fun k => fld (entW e (w + k / 4)) (k % 4 * 8) 8)).take n

/-- The octets of an entry's svID: the first SVID_LEN (R99, R107). -/
def entSvid (e : List Nat) : List Nat := entOctets e 8 (fld (entW e 3) 0 8)

/-- The key: destination address, APPID, svID length and octets (R99). -/
def entKey (e : List Nat) : List Nat := [entW e 1, entW e 2, fld (entW e 3) 0 8] ++ packWords 16 (entSvid e)

/-- The key of a frame. -/
def svKey (f : SvFrame) : List Nat :=
  [f.da % 2 ^ 32, f.da / 2 ^ 32 % 65536 + f.appid % 65536 * 65536, f.svid.length] ++ packWords 16 f.svid

/-- Entries that hold a key and are not FREE, other than `except`. -/
def keyHolders (d : Dev) (key : List Nat) (except : Nat) : List Nat :=
  ((d.sau.entries).filter (fun p => p.1 != except && entState p.2 != 0 && entKey p.2 == key)).map (fun p => p.1)

/-- The entries in a state. -/
def inState (d : Dev) (st : Nat) : List Nat := ((d.sau.entries).filter (fun p => entState p.2 == st)).map (fun p => p.1)

/-- Units held by LIVE and SUSPENDED entries. -/
def unitsUsed (t : Tbl (List Nat)) : Nat := ((t.filter (fun p => 2 ≤ entState p.2)).map (fun p => entUnits p.2)).sum

/-- SAU_STATUS follows the table. -/
def sauStatusUpd (d : Dev) : Dev :=
  d.wn Reg.sauStatus (unitsUsed d.sau.entries + (inState d esLive).length * 65536)

/-- An entry written. -/
def setEnt (i : Nat) (e : List Nat) (d : Dev) : Dev :=
  sauStatusUpd { d with sau := { d.sau with entries := tset sauZero d.sau.entries i e } }

/-- An entry's STATE changed. -/
def setEntState (i st : Nat) (d : Dev) : Dev := setEnt i (setNth (sauEnt d i) 0 (putFld (entW (sauEnt d i) 0) 0 2 st)) d

/-! Streams. -/

/-- A stream that has just been made live: L is LAT, the model starts from nothing (R117, R119); `leg` is the next to be declared. -/
def Strm.fresh (lat leg : Nat) : Strm :=
  ⟨(lat * 256 : Nat), 0, 0, 0, true, false, 3, [], 0, 0, false, false, 0, [], leg, leg, 0, false, 0⟩

/-- The first leg that is not declared yet. -/
def firstOpen (d : Dev) : Nat := match d.sau.declared with | some m => m + 1 | none => 0

def strm (d : Dev) (i : Nat) : Strm := tget (Strm.fresh 0 0) d.sau.strm i
def setStrm (i : Nat) (x : Strm) (d : Dev) : Dev := { d with sau := { d.sau with strm := tput d.sau.strm i x } }
def delStrm (i : Nat) (d : Dev) : Dev := { d with sau := { d.sau with strm := tdel d.sau.strm i } }

/-- T in units u: 10^9 ns times 2^48 (the rate cancels). -/
def tU : Int := 1000000000 * (2 ^ 48 : Nat)

/-- The step of model time per index, T times 1 + D, in units u. -/
def stepU (x : Strm) : Int := 1000000000 * ((2 ^ 48 : Nat) + x.dr * 256)

/-- Rate in samples/s. -/
def rateF (k : Nat) : Int := (k * 4800 : Nat)

/-- A time in 2^-8 ns as units u. -/
def fromQ8 (k : Nat) (q : Int) : Int := q * (2 ^ 40 : Nat) * rateF k

/-- Units u as 2^-8 ns, rounded under R142. -/
def toQ8 (k : Nat) (u : Int) : Int := raDiv u ((2 ^ 40 : Nat) * rateF k)

/-- Units u as whole ns, rounded. -/
def toNs (k : Nat) (u : Int) : Int := raDiv u ((2 ^ 48 : Nat) * rateF k)

/-- Model time of an index, in units u (R118). -/
def tauU (k : Nat) (x : Strm) (n : Int) : Int := fromQ8 k x.a + (n - x.nA) * stepU x

/-- The start of a route in units u. -/
def routeU (k absRoute : Nat) : Int := (absRoute * 50000000 : Nat) * (2 ^ 48 : Nat) * rateF k

/-- The index nearest to a time, the larger of two equally near, with step `s` and index 0 at time 0. -/
def nearestIdx (t s : Int) : Int := (2 * t + s) / (2 * s)

/-- The index congruent to `c` modulo `m` nearest to `t` times 1 / `den`, the larger of two equally near (R115). -/
def nearestCong (c m : Nat) (t den : Int) : Int :=
  let m' : Int := m
  let c' : Int := c
  if m = 0 then c' else c' + m' * ((2 * (t - c' * den) + m' * den) / (2 * m' * den))

/-- Whether an smpSynch is synchronised (R114). -/
def synchronised (s : Nat) : Bool := s == 2 || (5 ≤ s && s ≤ 254)

/-- The sample time of R116 in units u, `x` being t_a - L. -/
def syncTime (m c : Nat) (x : Int) : Int :=
  let p : Int := (m : Int) * tU
  let t0 : Int := (c : Int) * tU
  if m = 0 then t0 else t0 + p * ((2 * (x - t0) + p) / (2 * p))

/-- The slot that covers a model time: its ordinal m, slot m ending at m * T (R124). -/
def slotOrd (t : Int) : Int := ceilDiv t tU

/-- Leg and slot of an ordinal for a stream of k slots per leg. -/
def slotLeg (k : Nat) (m : Int) : Int := ceilDiv m k
def slotJ (k : Nat) (m : Int) : Int := m - slotLeg k m * k + k - 1

/-- The lead of a sample in slot m, 2^-16 of T (R124). -/
def leadOf (m t : Int) : Nat := min 0xFFFF (raDiv ((m * tU - t) * 65536) tU).toNat

/-- The quality byte of a quality word (R127). -/
def qualByte (profile : Bool) (q : Nat) : Nat :=
  let v := fld q 0 2
  let inv := v == 1 || v == 2 || bitOf q 2 || bitOf q 4 || bitOf q 6
  let que := v == 3 || bitOf q 3 || bitOf q 5 || bitOf q 7 || bitOf q 8 || bitOf q 9
  b2n inv + b2n que * 2 + b2n (bitOf q 11) * 4 + b2n (bitOf q 12) * 8 + b2n (bitOf q 10) * 16 +
    b2n (profile && bitOf q 13) * 32

def qInvalid : Nat := 1
def qQuestionable : Nat := 2
def qInterp : Nat := 64
def qUnsync : Nat := 128

/-- Quality bits joined. -/
def orN (a b : Nat) : Nat := a ||| b

/-! The store (R126). -/

/-- The key of the cell of row `r` at an absolute leg. -/
def cellKey (leg r : Nat) : Nat := leg % 64 * 4096 + r % 4096

/-- The cell of an entry's slot, rows of 8 channels counted by `u`, when it was written for that leg. -/
def sauCell? (d : Dev) (e : List Nat) (leg j u : Nat) : Option SauCell :=
  match tfind d.sau.store (cellKey leg (entBase e + j * entRps e + u)) with
  | some c => if c.leg = leg then some c else none
  | none => none

/-- A cell written; an ECC error of the words it replaces is gone (18 R549). -/
def setCell (leg row : Nat) (c : SauCell) (d : Dev) : Dev :=
  { d with sau := { d.sau with store := tput d.sau.store (cellKey leg row) c, ecc := tdel d.sau.ecc (cellKey leg row) } }

/-- Flags of a cell changed; what it holds stays. -/
def setCellFlags (leg row : Nat) (f : Nat → Nat) (c : SauCell) (d : Dev) : Dev :=
  { d with sau := { d.sau with store := tput d.sau.store (cellKey leg row) { c with flags := f c.flags } } }

/-- Pieces of 8 of a list. -/
def eights {α : Type} : Nat → List α → List (List α)
  | 0, _ => []
  | n + 1, l => l.take 8 :: eights n (l.drop 8)

/-- A slot's cells written, one row for each 8 channels. -/
def writeSlot (e : List Nat) (leg j : Nat) (vals : List Int) (quals : List Nat) (lead : Nat) (resid : Int)
    (cnt flags kase : Nat) (d : Dev) : Dev :=
  ((List.range (entRps e)).zip ((eights (entRps e) vals).zip (eights (entRps e) quals))).foldl
    (fun d p => setCell leg (entBase e + j * entRps e + p.1) ⟨leg, p.2.1, p.2.2, lead, resid, cnt, flags, kase⟩ d) d

/-- Flags of a slot's cells changed. -/
def slotFlags (e : List Nat) (leg j : Nat) (f : Nat → Nat) (d : Dev) : Dev :=
  (List.range (entRps e)).foldl (fun d u => match sauCell? d e leg j u with
    | some c => setCellFlags leg (entBase e + j * entRps e + u) f c d
    | none => d) d

/-- All values and quality bytes of a slot. -/
def slotData (d : Dev) (e : List Nat) (leg j : Nat) : List (Int × Nat) :=
  ((List.range (entRps e)).flatMap (fun u => match sauCell? d e leg j u with
    | some c => c.vals.zip c.quals
    | none => [])).take (entNchan e)

def flPresent : Nat := 0
def flFilled : Nat := 1
def flSlip : Nat := 2
def flLate : Nat := 3

/-- The cell that carries a slot's record: its first row. -/
def slotHead (d : Dev) (e : List Nat) (leg j : Nat) : Option SauCell := sauCell? d e leg j 0

/-- The present sample of a slot. -/
def slotPresent (d : Dev) (e : List Nat) (leg j : Nat) : Option SauCell :=
  match slotHead d e leg j with
  | some c => if bitOf c.flags flPresent then some c else none
  | none => none

/-- Whether a leg is declared. -/
def isDeclared (d : Dev) (leg : Int) : Bool := match d.sau.declared with | some m => leg ≤ (m : Int) | none => false

/-- LATE_SEEN set in a slot (R130). A slot of a leg still open that holds nothing keeps the mark in a cell of no sample, which the
fill at its declaration replaces. -/
def markLate (e : List Nat) (leg j : Nat) (d : Dev) : Dev :=
  match slotHead d e leg j with
  | some _ => slotFlags e leg j (fun f => putFld f flLate 1 1) d
  | none => if isDeclared d leg then d else setCell leg (entBase e + j * entRps e) ⟨leg, [], [], 0, 0, 0, 2 ^ flLate, 0⟩ d

/-! Frames (R101 to R121, R130). -/

/-- The port group of a port (R106). -/
def portGroup (p : Nat) : Nat := p / 2

/-- Whether a stream profile is IEC 61869-9 (R105). -/
def profile9 (f : SvFrame) : Bool :=
  match f.asdus with
  | [] => false
  | a :: _ => a.smpRate.isSome || a.vals.length != 8 || 2 < a.smpSynch

/-- RATE code of an ASDU (R102). -/
def rateCode : Option Nat → Nat
  | some 4800 => 0
  | some 14400 => 1
  | some 96000 => 2
  | _ => 3

/-- The entry that learning fills from a frame (R102). -/
def learnedEntry (p : Nat) (f : SvFrame) : List Nat :=
  let a := f.asdus.head?
  let rc := rateCode (a.bind (fun a => a.smpRate))
  let m := nth 0 [4800, 14400, 96000, 0] rc
  let nch := min 31 ((a.map (fun a => a.vals.length)).getD 0)
  let w0 := esLearned + b2n (profile9 f) * 4 + nch * 16 + rc * 512 + min 15 f.asdus.length * 2048
  let k := svKey f
  [w0, nth 0 k 0, nth 0 k 1, f.svid.length + 2 ^ (8 + portGroup p), f.confRev % 2 ^ 32, m, 0, 0] ++ k.drop 3

/-- An unmatched frame is learned, or counted as a lost discovery (R102); no entry that is not FREE holds its key, since the lookup
found none (R99). -/
def svLearn (p : Nat) (f : SvFrame) (d : Dev) : Dev :=
  if !d.bitR Reg.sauCtrl 1 then d
  else
    let free := (List.range 4096).find? (fun i => entState (sauEnt d i) == esFree)
    match free with
    | some i =>
      if (inState d esLearned).length < d.fldR Reg.sauLearnMax 0 13 && f.svid.length ≤ 64 then
        raise 200 none i 0 (setStrm i (Strm.fresh 0 0) (setEnt i (learnedEntry p f) d))
      else raise 201 none 0 0 (d.bump Reg.sauDiscLost)
    | none => raise 201 none 0 0 (d.bump Reg.sauDiscLost)

/-- A lookup through the cache of a port group: a miss loads the committed entry, in place of an older form of the same entry, and
evicts the least recently used of 256 (R109). The answer is the entry's number and the form the cache holds. -/
def svLookup (g : Nat) (key : List Nat) (d : Dev) : Dev × Option (Nat × List Nat) :=
  let c := tget [] d.sau.cache g
  let put (l : List (Nat × List Nat)) : Dev := { d with sau := { d.sau with cache := tset [] d.sau.cache g l } }
  match c.find? (fun x => entKey x.2 == key) with
  | some x => (put (x :: c.filter (fun y => y.1 != x.1)), some x)
  | none =>
    match (d.sau.entries).find? (fun x => entState x.2 != 0 && entKey x.2 == key) with
    | some x => (put ((x :: c.filter (fun y => y.1 != x.1)).take 256), some x)
    | none => (d, none)

/-- Authentication of a frame against its entry: a slot use when the entry's AUTH asks for it (R106, R107). -/
def svAuth (e : List Nat) (f : SvFrame) (d : Dev) : Dev × Bool :=
  if entAuth e = 0 then (d, true)
  else match f.auth with
    | none => (d, false)
    | some a =>
      let u := slotUse (entSlot e) fnVerifyIn [entAuth e] .livery a.slotBad d
      (u.2, u.1 && a.ok && a.alg == entAuth e && entAuth e != 3)

/-- The lowest drop cause of a frame, or 0 (R106). -/
def svCause (p : Nat) (e : List Nat) (f : SvFrame) (authOk : Bool) : Nat :=
  if f.confRev ≠ entW e 4 then 1
  else if f.asdus.length ≠ entNoasdu e || f.asdus.any (fun a => a.vals.length != entNchan e) then 2
  else if !authOk then 3
  else if f.sim && !bitOf (entW e 0) 3 then 4
  else if !bitOf (entW e 3) (8 + portGroup p) then 5
  else if entState e = esSuspended then 6 else 0

/-- One sample into its slot, from a frame stamped `tick`: late when the stamp is past tick H of the slot's leg or the leg is
declared (01 R17, R130); the smaller lead is kept in a doubled slot, which counts as a slip of a fitted stream; a sample more than two
legs ahead of the declared one has no position (R124 to R126). The answer says whether the sample was late and whether it was taken. -/
def svPlace (i : Nat) (e : List Nat) (fitted acq : Bool) (t : Int) (resid : Int) (tick : Nat) (a : Asdu) (d : Dev) :
    Dev × Bool × Bool :=
  let k := entK e
  let m := slotOrd t
  let leg := slotLeg k m
  let j := (slotJ k m).toNat
  if isDeclared d leg || decide (leg * 16 + (holdFor d leg.toNat : Nat) < (tick : Int)) then
    (if leg < 0 then d else markLate e leg.toNat j d, true, false)
  else if leg < 0 || (match d.sau.declared with | some x => (x : Int) + 2 < leg | none => false) then (d, false, false)
  else
    let lead := leadOf m t
    let prof := bitOf (entW e 0) 2
    let q := a.quals.map (fun w => orN (qualByte prof w) (b2n fitted * 128 + b2n (fitted && acq) * 2))
    let q := takePad (b2n fitted * 128 + b2n (fitted && acq) * 2) (entNchan e) q
    let x := strm d i
    let d := setStrm i { x with legsGot := leg.toNat :: x.legsGot.filter (fun y => y != leg.toNat) } d
    let late := match slotHead d e leg.toNat j with | some c => b2n (bitOf c.flags flLate) * 2 ^ flLate | none => 0
    match slotPresent d e leg.toNat j with
    | none => (writeSlot e leg.toNat j a.vals q lead resid (a.smpCnt % 65536) (1 + late) 0 d, false, true)
    | some c =>
      let d := if lead < c.lead then writeSlot e leg.toNat j a.vals q lead resid (a.smpCnt % 65536) c.flags 0 d else d
      if fitted then (slotFlags e leg.toNat j (fun f => putFld f flSlip 1 1) (d.bump (Reg.sauSSlips i)), false, true)
      else (d, false, true)

/-- SAU_S_STATE.MODEL: 1 synchronised, 2 fitted, 3 ACQUIRING. -/
def modelCode (x : Strm) : Nat := if x.place = 1 then 1 else if x.acq then 3 else 2

/-- The models of a stream as its registers show them. -/
def sauRegs (i k absRoute : Nat) (d : Dev) : Dev :=
  let x := strm d i
  let d := d.setF (Reg.sauSState i) 0 2 (modelCode x)
  let d := d.wn (Reg.sauSLat i) (wrapN 32 (raDiv x.l 256))
  let d := d.wn (Reg.sauSAnchorN i) (wrapN 32 x.nA)
  let d := d.wn (Reg.sauSAnchor i) (if x.aSet then wrapN 32 (x.a - toQ8 k (routeU k absRoute)) else 0)
  d.wn (Reg.sauSDrift i) (wrapN 32 x.dr)

/-- The ASDUs of an accepted frame placed one by one; `n0` is the index of the last ASDU, `rest` how many follow. The answer
says whether any was late and any taken. -/
def svAsdus (i : Nat) (e : List Nat) (x0 : Int) (nE : Int) (den : Int) (resid : Int) (tick : Nat) :
    List Asdu → Dev → Bool → Bool → Dev × Bool × Bool
  | [], d, late, took => (d, late, took)
  | a :: rest, d, late, took =>
    let k := entK e
    let x := strm d i
    let sync := synchronised a.smpSynch
    -- R120: the first unsynchronised ASDU of a synchronised stream moves it to the fitted model
    let lost := !sync && x.place == 1
    let place := if sync then (if x.place = 3 then 1 else x.place) else 2
    let x := { x with place := place, anyRoute := true, unsRoute := x.unsRoute || !sync }
    let n := nearestCong (a.smpCnt % (max 1 (entMod e))) (entMod e) (nE - (rest.length : Int) * den) den
    let t := if place = 1 then syncTime (entMod e) a.smpCnt x0 else tauU k x n
    let x := if place = 1 then { x with latSum := x.latSum + (x0 - t), latCnt := x.latCnt + 1 } else x
    let d := setStrm i x d
    let d := if lost then raise 203 none i 0 d else d
    let r := svPlace i e (place != 1) x.acq t resid tick a d
    let d := (r.1.setF (Reg.sauSState i) 8 8 a.smpSynch).setF (Reg.sauSState i) 16 16 a.smpCnt
    svAsdus i e x0 nE den resid tick rest d (late || r.2.1) (took || r.2.2)

/-- The profile of a stream recognised from its first frame that passes R106 since the make-live (R105; log 28): the entry, its cached
forms and the copy the frame is processed with. -/
def svRecognise (i : Nat) (e : List Nat) (f : SvFrame) (d : Dev) : Dev × List Nat :=
  if (strm d i).profSet then (d, e)
  else
    let put (w : List Nat) : List Nat := setNth w 0 (putFld (entW w 0) 2 1 (b2n (profile9 f)))
    let d := setStrm i { strm d i with profSet := true } (setEnt i (put (sauEnt d i)) d)
    let c := tmap (fun _ l => l.map (fun (x : Nat × List Nat) => if x.1 = i then (x.1, put x.2) else x)) d.sau.cache
    ({ d with sau := { d.sau with cache := c } }, put e)

/-- An accepted frame: counted, unwrapped, restarts recognised, its residual taken, its samples placed (R113 to R121). -/
def svAccept (p i : Nat) (e : List Nat) (f : SvFrame) (d : Dev) : Dev :=
  let k := entK e
  let x := strm d i
  let tick := frameTick d p f.off
  let ta : Int := (ingressStamp d p f.off : Int) * rateF k
  let x0 := ta - fromQ8 k x.l
  let lastA := f.asdus.getLast?
  let c := (lastA.map (fun a => a.smpCnt)).getD 0
  let m := entMod e
  let firstT := ta - ((entLat e : Nat) : Int) * (2 ^ 48 : Nat) * rateF k
  let nFirst := nearestCong (c % max 1 m) m firstT tU
  let nE := if x.aSet then x.nA + nearestIdx (x0 - fromQ8 k x.a) (stepU x) else 0
  let nLater := nearestCong (c % max 1 m) m nE 1
  let restart := x.aSet && decide (8 < m) && decide (4 < (nLater - nE).natAbs)
  let isNew := !x.aSet || restart
  let n := if isNew then nFirst else nLater
  let x := if isNew then { x with nA := n, a := toQ8 k x0, dr := 0, acq := true, aSet := true, res := [] } else x
  let err := x0 - tauU k x n
  let x := { x with res := x.res ++ [(n, err)] }
  let d := setStrm i x ((d.bump (Reg.sauSFrames i)).wn (Reg.sauSLastTc i) (tickCodeOf tick))
  let d := if restart then raise 206 none i 0 d else d
  let lastSync := (lastA.map (fun a => synchronised a.smpSynch)).getD false && (x.place == 1 || x.place == 3)
  let resid := clampMag 32767 (toNs k (if lastSync then x0 - syncTime m c x0 else err))
  let r := if isNew then svAsdus i e x0 firstT tU resid tick f.asdus d false false
    else svAsdus i e x0 nE 1 resid tick f.asdus d false false
  let d := if r.2.1 then r.1.bump (Reg.sauSLate i) else r.1
  let d := if r.2.2 && d.bitR (Reg.sauSState i) 2 then raise 207 none i 0 (d.clrB (Reg.sauSState i) 2) else d
  sauRegs i k d.tim.absRoute d

/-- An SV frame reaching alignment on a port (R101 to R121, R130; 00_scope R586). -/
def svFrame' (p : Nat) (f : SvFrame) (d : Dev) : Dev :=
  if !d.enabled Reg.sauCtrl then d
  else if 10 ≤ p then d.bump Reg.sauBadport
  else
    let r := if f.svid.length ≤ 64 then svLookup (portGroup p) (svKey f) d else (d, none)
    let d := r.1
    match r.2 with
    | none => svLearn p f d
    | some (i, e) =>
      if entState e = esFree then svLearn p f d
      else if entState e = esLearned then setStrm i { strm d i with age := 0 } d
      else
        let a := svAuth e f d
        let cause := svCause p e f a.2
        if cause ≠ 0 then (a.1.bump (Reg.sauSDrop i)).wn (Reg.sauSDropCause i) cause
        else
          let r := svRecognise i e f a.1
          -- R105: 9-2LE is accepted only at 4,800 samples/s
          if !bitOf (entW r.2 0) 2 && entRate r.2 ≠ 0 then r.1 else svAccept p i r.2 f r.1

/-! Declaration (R113, R125, R129, R131). -/

/-- Whether a slot qualifies as history for a fill (R129). -/
def slotQualifies (d : Dev) (i : Nat) (e : List Nat) (ord : Int) : Bool :=
  let k := entK e
  let leg := slotLeg k ord
  if leg < ((strm d i).liveLeg : Int) || leg < 0 then false
  else match slotHead d e leg.toNat (slotJ k ord).toNat with
    | some c => bitOf c.flags flPresent || [2, 3, 4, 6].contains c.kase
    | none => false

/-- The data of a slot by its ordinal. -/
def ordData (d : Dev) (e : List Nat) (ord : Int) : List (Int × Nat) :=
  slotData d e (slotLeg (entK e) ord).toNat (slotJ (entK e) ord).toNat

/-- Whether a slot holds a present sample of the stream (R129 case 2). -/
def ordPresent (d : Dev) (i : Nat) (e : List Nat) (ord : Int) : Bool :=
  let leg := slotLeg (entK e) ord
  if leg < ((strm d i).madeLeg : Int) || leg < 0 then false
  else (slotPresent d e leg.toNat (slotJ (entK e) ord).toNat).isSome

/-- The fill of a slot by cases 2 to 4 of R129: values, joined source quality, and the case; `last` is the ordinal of the
last slot of the leg being declared. -/
def fillArith (d : Dev) (i : Nat) (e : List Nat) (ord last : Int) : Option (List (Int × Nat) × Nat) :=
  let l := ([1, 2, 3, 4] : List Int).find? (fun b => ordPresent d i e (ord - b))
  let r := ([1, 2, 3, 4] : List Int).find? (fun b => ord + b ≤ last && ordPresent d i e (ord + b))
  match l, r with
  | some a, some b =>
    if a + b - 1 ≤ 4 then
      some (((ordData d e (ord - a)).zip (ordData d e (ord + b))).map (fun p =>
        (raDiv (p.1.1 * b + p.2.1 * a) (a + b), orN p.1.2 p.2.2)), 2)
    else fillBack
  | _, _ => fillBack
where
  /-- Cases 3 and 4. -/
  fillBack : Option (List (Int × Nat) × Nat) :=
    if slotQualifies d i e (ord - 1) then
      if slotQualifies d i e (ord - 2) then
        some (((ordData d e (ord - 1)).zip (ordData d e (ord - 2))).map (fun p =>
          (satS 32 (2 * p.1.1 - p.2.1), orN p.1.2 p.2.2)), 3)
      else some (ordData d e (ord - 1), 4)
    else none

/-- Whether a fitted stream's model has no index in a slot: its next sample crossed into the following slot (R125). -/
def slotSlipped (k : Nat) (x : Strm) (ord : Int) : Bool :=
  if x.place = 1 || !x.aSet then false
  else
    -- the largest index whose model time is at or before the slot's end
    let n := x.nA + (ord * tU - fromQ8 k x.a) / stepU x
    tauU k x n ≤ (ord - 1) * tU

/-- One slot of the leg being declared: present samples end the run of fills; an empty slot is filled (R125, R129). The rules leave open
the lead of a filled slot, which is free (log 5), its residual and smpCnt, which are 0, and whether a slip fill stops at MISS_LIMIT: it
does not (log 28). -/
def declareSlot (i : Nat) (e : List Nat) (leg : Nat) (j : Nat) (d : Dev) : Dev :=
  let k := entK e
  let x := strm d i
  let ord : Int := (leg : Int) * k + j - k + 1
  let last : Int := (leg : Int) * k
  match slotPresent d e leg j with
  | some _ => setStrm i { x with fillRun := 0 } d
  | none =>
    let late := match slotHead d e leg j with | some c => b2n (bitOf c.flags flLate) * 2 ^ flLate | none => 0
    let lead := Config.fillLead i (leg * k + j) % 65536
    let put (l : List (Int × Nat)) (extra flags kase : Nat) (d : Dev) : Dev :=
      writeSlot e leg j (l.map (fun p => p.1)) (l.map (fun p => orN p.2 extra)) lead 0 0 (flags + late) kase d
    let bad (q flags : Nat) (d : Dev) : Dev :=
      writeSlot e leg j (List.replicate (entNchan e) (-2147483648)) (List.replicate (entNchan e) q) lead 0 0 (flags + late) 5
        (d.bump (Reg.sauSInvalid i))
    let slip := slotSlipped k x ord
    let got := if entMiss e ≤ x.fillRun && !slip then none else fillArith d i e ord last
    match got with
    | some (l, kase) =>
      if slip then put l qInterp 6 6 ((d.bump (Reg.sauSSlips i)).bump (Reg.sauSFilled i))
      else put l (qInterp + qQuestionable) 2 kase
        ((setStrm i { x with fillRun := x.fillRun + 1 } d).bump (Reg.sauSFilled i))
    | none =>
      if slip then bad (qInvalid + qInterp) 6 (d.bump (Reg.sauSSlips i))
      else bad qInvalid 2 (setStrm i { x with fillRun := x.fillRun + 1 } d)

/-- One stream at a declaration: its slots, and the count of legs without a frame (R113). -/
def declareStream (i leg : Nat) (d : Dev) : Dev :=
  let e := sauEnt d i
  let d := (List.range (entK e)).foldl (fun d j => declareSlot i e leg j d) d
  let x := strm d i
  let got := x.legsGot.contains leg
  let cnt := if got then 0 else x.lossCnt + 1
  let d := setStrm i { x with lossCnt := if entState e = esLive then cnt else 0,
                              legsGot := x.legsGot.filter (fun y => leg < y) } d
  if entState e = esLive && cnt = d.fldR Reg.sauLossLegs 0 8 && !got then
    raise 202 none i 0 (d.setB (Reg.sauSState i) 2)
  else d

/-- The newest leg whose filter tick has begun, each leg under the holdback that governs it (01 R15, R20; R129). -/
def filterLeg (d : Dev) : Nat :=
  let n := (d.tim.absTick - (holdback d + 1)) / 16
  match d.ttb.holdOld with
  | some (b, h) => if b ≤ n then n else min (b - 1) ((d.tim.absTick - (h + 1)) / 16)
  | none => n

/-- The next leg to declare: every leg exactly once, in order (R20); after a step of local time the count starts anew. -/
def nextDeclare (d : Dev) : Option Nat :=
  let n := filterLeg d
  match d.sau.declared with
  | none => some n
  | some m => if m + 1 ≤ n ∧ n ≤ m + 64 then some (m + 1) else if n ≤ m ∧ m ≤ n + 64 then none else some n

/-- Local time went back: legs up to the old count are not declared any more, and every stream's history starts with `leg`. -/
def restartLegs (leg : Nat) (d : Dev) : Dev :=
  { d with sau := { d.sau with strm := tmap (fun _ (x : Strm) =>
      { x with madeLeg := min x.madeLeg leg, liveLeg := min x.liveLeg leg }) d.sau.strm } }

/-- A leg declared: every slot of every LIVE and SUSPENDED stream filled, and the slots fixed (R129, R131). -/
def declareLeg (leg : Nat) (d : Dev) : Dev :=
  let d := if isDeclared d leg then restartLegs leg d else d
  let l := ((d.sau.entries).filter (fun p => 2 ≤ entState p.2)).map (fun p => p.1)
  let d := l.foldl (fun d i => declareStream i leg d) d
  { d with sau := { d.sau with declared := some leg } }

/-! The route boundary (R110, R112, R117, R119, R121). -/

/-- The fitted model at a route boundary (R119), each result rounded to its resolution. MIN_FRAMES 0 acts as 1: there is no mean over no
residual (log 28). The answer holds the outliers and the RMS of the residuals kept. -/
def fitUpdate (i k absRoute cfg gate : Nat) (x : Strm) : Strm × Nat × Nat :=
  let lim : Int := (gate : Int) * (2 ^ 48 : Nat) * rateF k
  let kept := x.res.filter (fun p => p.2.natAbs ≤ lim.natAbs)
  let out := x.res.length - kept.length
  let j : Int := kept.length
  let kp := if x.acq then 0 else fld cfg 0 4
  let kf := if x.acq then 0 else fld cfg 4 4
  let r0 := routeU k absRoute
  let nNew := x.nA + ceilDiv (r0 - fromQ8 k x.a) (stepU x)
  let sN := (kept.map (fun p => p.1)).sum
  let sE := (kept.map (fun p => p.2)).sum
  let sNN := (kept.map (fun p => p.1 * p.1)).sum
  let sNE := (kept.map (fun p => p.1 * p.2)).sum
  let sEE := (kept.map (fun p => p.2 * p.2)).sum
  let den := j * sNN - sN * sN
  let rms := if kept = [] then 0
    else min 0xFFFF ((Nat.sqrt ((4 * sEE / (j * ((2 ^ 48 : Nat) * rateF k) * ((2 ^ 48 : Nat) * rateF k))).toNat) + 1) / 2)
  if !x.aSet then (x, out, rms)
  else if kept.length < max 1 (fld cfg 8 8) then
    ({ x with nA := nNew, a := toQ8 k (tauU k x nNew), acq := false, res := [] }, out, rms)
  else if den = 0 then
    let beta := Config.fitDegenerate i
    let corr := sE / j + beta
    ({ x with nA := nNew, a := raDiv (tauU k x nNew * (2 ^ kp : Nat) + corr) ((2 ^ kp : Nat) * ((2 ^ 40 : Nat) * rateF k)),
              dr := raDiv (x.dr * (tU * (2 ^ kf : Nat)) + beta * (2 ^ 40 : Nat)) (tU * (2 ^ kf : Nat)), acq := false, res := [] }, out, rms)
  else
    let sxy := j * sNE - sN * sE
    -- ebar + beta (n_new - nbar) = (E * den + sxy * (j n_new - N)) / (j * den)
    let num := sE * den + sxy * (j * nNew - sN)
    let full := j * den * (2 ^ kp : Nat)
    let aNew := raDiv (tauU k x nNew * full + num) (full * ((2 ^ 40 : Nat) * rateF k))
    let dNew := raDiv (x.dr * (den * tU * (2 ^ kf : Nat)) + sxy * (2 ^ 40 : Nat)) (den * tU * (2 ^ kf : Nat))
    ({ x with nA := nNew, a := aNew, dr := dNew, acq := false, res := [] }, out, rms)

/-- The learned latency at a route boundary (R117). -/
def latUpdate (k cfg : Nat) (x : Strm) : Strm :=
  if x.place = 1 && x.latCnt != 0 then
    let den : Int := (x.latCnt * 2 ^ fld cfg 0 4 : Nat) * ((2 ^ 40 : Nat) * rateF k)
    { x with l := raDiv (x.l * den + x.latSum) den, latSum := 0, latCnt := 0 }
  else { x with latSum := 0, latCnt := 0 }

/-- A stream at a route boundary: fit, latency, return to the synchronised model (R117, R119, R121). -/
def strmRoute (i : Nat) (d : Dev) : Dev :=
  let e := sauEnt d i
  let k := entK e
  let cfg := (d.effR Reg.sauFitCfg).toNat
  let r := fitUpdate i k d.tim.absRoute cfg (d.effR Reg.sauFitGate).toNat (strm d i)
  let x := latUpdate k cfg r.1
  let back := x.place == 2 && x.anyRoute && !x.unsRoute
  let x := { x with place := if back then 1 else x.place, anyRoute := false, unsRoute := false }
  let d := (setStrm i x (d.bumpBy (Reg.sauSOutliers i) r.2.1)).wn (Reg.sauSResidRms i) r.2.2
  let d := sauRegs i k d.tim.absRoute d
  if back then raise 204 none i 0 d else d

/-- A LEARNED entry's count of boundaries; at SAU_AGE_ROUTES it returns to FREE (R112). -/
def entAge (i : Nat) (d : Dev) : Dev :=
  let lim := d.fldR Reg.sauAgeRoutes 0 20
  if entState (sauEnt d i) ≠ esLearned || lim = 0 || (strm d i).age < lim then d
  else delStrm i (setEnt i sauZero d)

/-- Every LEARNED entry's count of boundaries one higher (R112). -/
def countAges (d : Dev) : Dev :=
  (inState d esLearned).foldl (fun d i => setStrm i { strm d i with age := (strm d i).age + 1 } d) d

/-- The alignment unit at a route boundary, before the entries that go live: fits, caches emptied, ages counted. -/
def sauRoute (d : Dev) : Dev :=
  let l := ((d.sau.entries).filter (fun p => 2 ≤ entState p.2)).map (fun p => p.1)
  let d := l.foldl (fun d i => strmRoute i d) d
  countAges { d with sau := { d.sau with cache := [] } }

/-! Entries going live, suspended, resumed and retired at a route boundary (R100, R103, R104). -/

/-- Rows held by LIVE and SUSPENDED entries: base and length. -/
def rowRuns (t : Tbl (List Nat)) : List (Nat × Nat) :=
  (t.filter (fun p => 2 ≤ entState p.2)).map (fun p => (entBase p.2, entUnits p.2))

/-- The lowest row from which `n` rows are free (R103). -/
def lowestRun (runs : List (Nat × Nat)) (n : Nat) : Option Nat :=
  let fits (b : Nat) : Bool := b + n ≤ 4096 && runs.all (fun r => b + n ≤ r.1 || r.1 + r.2 ≤ b)
  let cands := (0 :: runs.map (fun r => r.1 + r.2)).filter fits
  match cands with
  | [] => none
  | c :: cs => some (cs.foldl min c)

/-- The cells of a run of rows at legs not declared yet dropped, from the store and from a shadow's check copy: what an earlier stream
left there is no sample of the next one. -/
def dropOpen (base n : Nat) (d : Dev) : Dev :=
  let keep (p : Nat × SauCell) : Bool := isDeclared d p.2.leg || p.1 % 4096 < base || base + n ≤ p.1 % 4096
  { d with sau := { d.sau with store := d.sau.store.filter keep }, brc := { d.brc with check := d.brc.check.filter keep } }

/-- An entry returns to FREE: its rows and its registers are released. -/
def freeEnt (i : Nat) (d : Dev) : Dev :=
  let e := sauEnt d i
  let d := if 2 ≤ entState e then dropOpen (entBase e) (entUnits e) d else d
  (delStrm i (setEnt i sauZero d)).wn (Reg.sauSState i) 0

/-- A make-live takes effect. An entry learned under the same key since the command returns to FREE; where another entry that is no
longer LEARNED holds the key, nothing goes live, for no two share one (R99; log 28). -/
def goLive (i : Nat) (w : List Nat) (d : Dev) : Dev :=
  let twins := keyHolders d (entKey w) i
  if twins.any (fun j => entState (sauEnt d j) != esLearned) then d
  else
    let d := twins.foldl (fun d j => freeEnt j d) d
    match lowestRun (rowRuns (tdel d.sau.entries i)) (entCost w) with
    | none => d
    | some b =>
      let w := setNth (setNth w 0 (putFld (entW w 0) 0 2 esLive)) 7 (b + entCost w * 4096)
      let d := dropOpen b (entCost w) d
      sauRegs i (entK w) d.tim.absRoute (setStrm i (Strm.fresh (entLat w) (firstOpen d)) (setEnt i (entClean w) (d.wn (Reg.sauSState i) 0)))

/-- A suspend takes effect: LOSS clears. -/
def goSuspend (i : Nat) (d : Dev) : Dev :=
  if entState (sauEnt d i) = esLive then (setEntState i esSuspended d).clrB (Reg.sauSState i) 2 else d

/-- A resume takes effect: the count of R113 restarts and history starts anew (R100, R129). -/
def goResume (i : Nat) (d : Dev) : Dev :=
  if entState (sauEnt d i) = esSuspended then
    setStrm i { strm d i with lossCnt := 0, liveLeg := firstOpen d, fillRun := 0 } (setEntState i esLive d)
  else d

/-- A retire takes effect: the entry returns to FREE, its units and rows are released. -/
def goRetire (i : Nat) (d : Dev) : Dev := freeEnt i d

/-! Entry commands and gathers (R108, R111, R132 to R134). -/

/-- SAU_ENT_CMD OP 1. -/
def sauEntRead (i : Nat) (d : Dev) : Dev :=
  (wnList (fun w => Reg.sauEntStage w) 0 (takePad 0 24 (sauEnt d i)) d)

/-- Whether a commit of words over an entry is refused (R108; 17 R504). -/
def sauCommitBad (d : Dev) (who : Who) (i : Nat) (w : List Nat) : Bool :=
  let e := sauEnt d i
  let os := entState e
  let ns := entState w
  (os == esLive) != (ns == esLive) ||
    (2 ≤ os && (entNchan e != entNchan w || entRate e != entRate w || entNoasdu e != entNoasdu w ||
      entMod e != entMod w || entBase e != entBase w || entUnits e != entUnits w)) ||
    (ns != 0 && keyHolders d (entKey w) i != []) ||
    (ns != 0 && !namesSlot d (entAuth w) (entSlot w) fnVerifyIn .livery who)

/-- A committed entry in the table. Only LIVE and SUSPENDED entries have a timing model: SAU_S_STATE.MODEL follows (R107, R135). -/
def sauEntPut (i : Nat) (w : List Nat) (d : Dev) : Dev :=
  let was := entState (sauEnt d i)
  if entState w = 0 then freeEnt i d
  else
    let d := setEnt i (entClean w) d
    if 2 ≤ entState w then
      if 2 ≤ was then d else sauRegs i (entK w) d.tim.absRoute (setStrm i (Strm.fresh (entLat w) (firstOpen d)) d)
    else
      let d := d.setF (Reg.sauSState i) 0 2 0
      if was = esLearned then d else setStrm i (Strm.fresh (entLat w) (firstOpen d)) d

/-- SAU_ENT_CMD OP 2: the 24 staged words in one cycle, or a refusal. -/
def sauEntCommit (i : Nat) (d : Dev) : Dev :=
  let w := (List.range 24).map (fun k => d.rn (Reg.sauEntStage k))
  if sauCommitBad d liveryWho i w then d.wn Reg.sauEntStatus 2
  else sauEntPut i w (journal 0 i w (d.wn Reg.sauEntStatus 0))

/-- A write of SAU_INVAL: the entry, or all, out of every cache; BUSY until done (R111). -/
def sauInval (i : Nat) (all : Bool) (d : Dev) : Dev :=
  let c := if all then [] else (tmap (fun _ l => l.filter (fun x : Nat × List Nat => x.1 != i)) d.sau.cache).filter
    (fun p => p.2 != [])
  { d with sau := { d.sau with cache := c } }.wn Reg.sauInvalStatus 1

/-- The requester of a gather: diagnostic software, or a carriage whose grants are checked (R132). -/
abbrev Requester := Option Nat

/-- An element of a gather: entry, channel, leg, slot. -/
abbrev GElem := Nat × Nat × Nat × Nat

/-- The row of the cell that an element reads, when nothing but its contents can make it fault: the entry LIVE or SUSPENDED and granted,
the leg declared since its make-live and at most 61 back, channel and slot in range (R132). -/
def gatherRow (d : Dev) (who : Requester) (g : GElem) : Option Nat :=
  let e := sauEnt d g.1
  let granted := match who with
    | none => true
    | some c => match tfind d.cars c with | some k => k.sv.contains g.1 | none => false
  match d.sau.declared with
  | none => none
  | some m =>
    if entState e < 2 || !granted || m < g.2.2.1 || g.2.2.1 < (strm d g.1).madeLeg || entNchan e ≤ g.2.1 || entK e ≤ g.2.2.2 ||
        61 < m - g.2.2.1 then none
    else some (entBase e + g.2.2.2 * entRps e + g.2.1 / 8)

/-- What a faulted element returns (R133). -/
def gatherBad : Int × Nat × Bool := (-2147483648, 1, true)

/-- One element of a gather: value, quality, and whether it faults (R132, R133). -/
def gatherAt (d : Dev) (who : Requester) (g : GElem) : Int × Nat × Bool :=
  match gatherRow d who g with
  | none => gatherBad
  | some r =>
    match tfind d.sau.store (cellKey g.2.2.1 r) with
    | none => gatherBad
    | some c =>
      let q := nth 1 c.quals (g.2.1 % 8)
      if c.leg ≠ g.2.2.1 || tget 0 d.sau.ecc (cellKey g.2.2.1 r) = 2 || bitOf q 0 then gatherBad else (nth 0 c.vals (g.2.1 % 8), q, false)

/-- The element an index word names (R132); none when it is more legs back than there are. -/
def gatherElem (d : Dev) (w : Nat) : Option GElem :=
  match d.sau.declared with
  | some m => if m < fld w 17 6 then none else some (fld w 0 12, fld w 12 5, m - fld w 17 6, fld w 23 5)
  | none => none

/-- The ECC errors that a gather's elements meet: counted, and an uncorrectable one raised (R134). -/
def gatherEcc (who : Requester) (l : List GElem) (d : Dev) : Dev :=
  if d.sau.ecc = [] then d
  else l.foldl (fun d g => match gatherRow d who g with
    | none => d
    | some r =>
      if tget 0 d.sau.ecc (cellKey g.2.2.1 r) = 1 then d.bump Reg.sauEccCorr
      else if tget 0 d.sau.ecc (cellKey g.2.2.1 r) = 2 then raise 205 none 0 0 (d.bump Reg.sauEccUncorr) else d) d

/-- The elements of the staged index words at the positions `ps` have an ECC error of a kind: their cells are marked (log 28). -/
def eccFound (kind : Nat) (ps : List Nat) (d : Dev) : Dev :=
  ps.foldl (fun d p => match gatherElem d (d.rn (Reg.sauGatherIdx p)) with
    | none => d
    | some g => match gatherRow d none g with
      | none => d
      | some r => { d with sau := { d.sau with ecc := tput d.sau.ecc (cellKey g.2.2.1 r) kind } }) d

/-- A gather through SAU_GATHER: values and qualities into the registers, BUSY until GATHER_DONE (R132, R134). -/
def sauGather (count : Nat) (corr ecc : List Nat) (d : Dev) : Dev :=
  let d := eccFound 2 ecc (eccFound 1 corr d)
  let g := (List.range count).map (fun i => gatherElem d (d.rn (Reg.sauGatherIdx i)))
  let r := g.map (fun o => match o with | some g => gatherAt d none g | none => gatherBad)
  let d := gatherEcc none (g.filterMap id) d
  let d := ((List.range count).zip r).foldl (fun d p =>
    (d.wn (Reg.sauGatherVal p.1) (wrapN 32 p.2.1)).setF (Reg.sauGatherQual (p.1 / 4)) (p.1 % 4 * 8) 8 p.2.2.1) d
  let faults := ((List.range count).zip r).filter (fun p => p.2.2.2)
  d.wn Reg.sauGatherStatus (1 + faults.length * 2 + ((faults.head?).map (fun p => p.1)).getD 0 * 64)

/-! The rows of this chapter. -/

/-- SV_ENTRY_AGE_OUT (R112): an entry whose count has reached the limit at this route boundary. -/
def execSvEntryAgeOut (entry : Nat) (s : State) : Outcome := s.act (onlyIf (entry < 4096) (entAge entry))

/-- SAU_ENTRY_READ (R108). -/
def execSauEntryRead (entry : Nat) (s : State) : Outcome := s.act (onlyIf (entry < 4096) (sauEntRead entry))

/-- SAU_ENTRY_COMMIT (R108). -/
def execSauEntryCommit (entry : Nat) (s : State) : Outcome := s.act (onlyIf (entry < 4096) (sauEntCommit entry))

/-- SAU_INVALIDATE (R111). -/
def execSauInvalidate (entry : Nat) (all : Bool) (s : State) : Outcome := s.act (onlyIf (entry < 4096) (sauInval entry all))

/-- SAU_INVAL_DONE (R111). -/
def execSauInvalDone (s : State) : Outcome := s.act (fun d => d.wn Reg.sauInvalStatus 0)

/-- GATHER (R132): SAU_GATHER_CMD with GO; a COUNT of 0 or above 16 is ignored. The elements at the positions `corr` are found to have a
correctable ECC error, those at `ecc` an uncorrectable one (R134). -/
def execGather (count : Nat) (corr ecc : List Nat) (s : State) : Outcome :=
  s.act (onlyIf (1 ≤ count && count ≤ 16) (sauGather count (corr.filter (fun x => x < count)) (ecc.filter (fun x => x < count))))

/-- GATHER_DONE (R133). -/
def execGatherDone (s : State) : Outcome := s.act (fun d => d.clrB Reg.sauGatherStatus 0)

end Sys2Proof.Machine
end

