-- ==== Sys2Proof/Machine/Fch.lean ====
section
/-! DEFINITION. The filter chain: resampling, integrator/comb sections, averages, the tracked grid, detectors and
descriptors (05 R136 to R166). Values are Q31.16 as integers of 48 bits; the newest of a history stands first. -/

namespace Sys2Proof.Machine

/-! Descriptors (R165). -/

def fchKey (table i : Nat) : Nat := table * 32768 + i

/-- The descriptor in force; no words where there is none. -/
def fchDesc (d : Dev) (table i : Nat) : List Nat := tget [] d.fch.desc (fchKey table i)

/-- The descriptor last committed. -/
def fchCommitted (d : Dev) (table i : Nat) : List Nat := (tfind d.fch.pend (fchKey table i)).getD (fchDesc d table i)

def chEntry (w : List Nat) : Nat := fld (entW w 0) 0 12
def chChan (w : List Nat) : Nat := fld (entW w 0) 12 5
def chBank (w : List Nat) : Nat := fld (entW w 0) 17 3
def chTrkEn (w : List Nat) : Bool := bitOf (entW w 0) 20
def chGroup (w : List Nat) : Nat := fld (entW w 0) 21 10
def chTrip (w : List Nat) : Bool := bitOf (entW w 0) 31
def chUnit (w : List Nat) : Nat := fld (entW w 1) 0 2
def chFmt (w : List Nat) : Nat := fld (entW w 1) 2 2
def chAvg (w : List Nat) : Nat := fld (entW w 1) 20 12
def chHyst (w : List Nat) : Nat := fld (entW w 1) 12 8
def chOut (w : List Nat) : Nat := fld (entW w 5) 0 16
def chCar (w : List Nat) : Nat := fld (entW w 6) 0 9

/-- The carriage's grants, or none. -/
def carImg? (d : Dev) (c : Nat) : Option CoachImage := (tfind d.cars c).map (fun k => k.img)

/-- Whether a stream entry is granted to a carriage. -/
def svGranted (d : Dev) (c i : Nat) : Bool := match tfind d.cars c with | some k => k.sv.contains i | none => false

/-- The normaliser of R152: shift and multiplier for a gain. -/
def normS (gain : Nat) : Nat :=
  ((List.range 120).filter (fun s => raDiv (2 ^ s : Nat) gain < 2 ^ 24)).foldl max 0
def normK (gain : Nat) : Nat := (raDiv (2 ^ normS gain : Nat) gain).toNat

/-- Fields of an averaging descriptor. -/
def avKind (w : List Nat) : Nat := fld (entW w 0) 0 2
def avGrid (w : List Nat) : Bool := bitOf (entW w 0) 2
def avBin (w : List Nat) : Bool := bitOf (entW w 0) 3
def avLen (w : List Nat) : Nat := fld (entW w 0) 4 12 + 1
def avN (w : List Nat) : Nat := fld (entW w 0) 16 3
def avM (w : List Nat) : Nat := fld (entW w 0) 19 1 + 1
def avGain (w : List Nat) : Nat := (avLen w * avM w) ^ avN w

/-- Whether an integrator/comb section breaks R151: B_in + ⌈N log2(RM)⌉ above 64, or N, R or M out of range. -/
def icBad (w : List Nat) : Bool :=
  avN w < 1 || 6 < avN w || avLen w < 2 || 2 ^ (64 - (if avBin w then 48 else 32)) < avGain w

/-- Staged words of a channel out of range. -/
def chRange (d : Dev) (w : List Nat) : Bool :=
  let e := sauEnt d (chEntry w)
  entNchan e ≤ chChan w || (chBank w != 0 && chBank w != 4) || chUnit w == 3 || chFmt w == 3 ||
    (bitOf (entW w 1) 7 && fld (entW w 1) 8 4 == 0) || fld (entW w 5) 16 16 != 0 || fld (entW w 6) 9 23 != 0 || entW w 7 != 0

/-- Words that an enabled carriage's channel may not change. -/
def chFixed (w : List Nat) : List Nat := [chEntry w, chChan w, chBank w, chGroup w, chAvg w]

/-- The refusal REASON of a channel commit, or 0. -/
def chReason (d : Dev) (i : Nat) (w : List Nat) : Nat :=
  let old := fchCommitted d 0 i
  if chRange d w then 2
  else if !svGranted d (chCar w) (chEntry w) then 3
  else if old != [] && chCar old != chCar w then 4
  else if old != [] && carEnabled d (chCar w) && chFixed old != chFixed w then 5 else 0

/-- Staged words of an averaging descriptor out of range; KIND 0 with B_in 48 is refused (R153). -/
def avRange (i : Nat) (w : List Nat) : Bool :=
  i == 0 || 4096 ≤ i || 2 ≤ avKind w || fld (entW w 0) 20 12 != 0 || (avKind w == 0 && avBin w) ||
    fld (entW w 1) 30 2 != 0 || fld (entW w 2) 16 16 != 0 || entW w 3 % 64 != 0 || (w.drop 4).any (fun x => x != 0)

def avReason (i : Nat) (w : List Nat) : Nat :=
  if avKind w == 1 && icBad w then 1 else if avRange i w then 2 else 0

/-- Fields of a tracking-group descriptor. -/
def tgThree (w : List Nat) : Bool := bitOf (entW w 0) 30
def tgRefs (w : List Nat) : List Nat :=
  if tgThree w then [fld (entW w 0) 0 15, fld (entW w 0) 15 15, fld (entW w 1) 0 15] else [fld (entW w 0) 0 15]
def tgNom (w : List Nat) : Nat := (if bitOf (entW w 0) 31 then 60 else 50) * 2 ^ 24
def tgKt (w : List Nat) : Nat := fld (entW w 1) 15 4
def tgSlew (w : List Nat) : Nat := fld (entW w 1) 19 13
def tgJump (w : List Nat) : Nat := fld (entW w 3) 0 8
def tgHold (w : List Nat) : Nat := fld (entW w 3) 8 12

def tgRange (i : Nat) (w : List Nat) : Bool :=
  1024 ≤ i || 8 < tgKt w || tgSlew w == 0 || fld (entW w 3) 20 12 != 0 || (w.drop 4).any (fun x => x != 0)

def tgReason (i : Nat) (w : List Nat) : Nat := if tgRange i w then 2 else 0

/-- The REASON of a commit to a table (R165). -/
def fchReason (d : Dev) (table i : Nat) (w : List Nat) : Nat :=
  if table = 0 then chReason d i w else if table = 1 then avReason i w else if table = 2 then tgReason i w else 2

/-- The words a commit stores: K and S of an integrator/comb section are computed (R152). -/
def fchWords (table : Nat) (w : List Nat) : List Nat :=
  if table = 1 ∧ avKind w = 1 then setNth w 1 (normK (avGain w) + normS (avGain w) * 2 ^ 24) else w

/-- FCH_DESC_CMD OP 1. -/
def fchDescRead (table i : Nat) (d : Dev) : Dev :=
  wnList (fun w => Reg.fchDescStage w) 0 (takePad 0 8 (fchCommitted d table i)) d

/-- FCH_DESC_CMD OP 2. -/
def fchDescCommit (table i : Nat) (d : Dev) : Dev :=
  let w := (List.range 8).map (fun k => d.rn (Reg.fchDescStage k))
  let r := fchReason d table i w
  if r ≠ 0 then d.wn Reg.fchDescStatus (2 + r * 16)
  else { journal 1 (fchKey table i) w (d.wn Reg.fchDescStatus 0) with fch := { d.fch with pend := tput d.fch.pend (fchKey table i) (fchWords table w) } }

/-! Numbers (R142). -/

/-- A stage output of `n` bits: saturation is counted and raised. -/
def fchSat (n : Nat) (v : Int) (d : Dev) : Int × Dev :=
  if satS n v = v then (v, d) else (satS n v, raise 216 none 0 0 (d.bump Reg.fchSatCnt))

/-- A sample that carries INVALID enters the arithmetic as 0 (R143). -/
def fchIn (x : Int × Nat) : Int := if bitOf x.2 0 then 0 else x.1

/-- Quality bytes joined over a window. -/
def qJoin (l : List (Int × Nat)) : Nat := l.foldl (fun q x => orN q x.2) 0

/-- The newest `n` of a history, missing ones zeros carrying INVALID (R144). -/
def win (n : Nat) (l : List (Int × Nat)) : List (Int × Nat) := takePad (0, qInvalid) n l

/-! Coefficients (R147, R148). -/

/-- The coefficient of a phase in units of 2^-17; phase 0 of bank 0 is 1.0 at tap 8. -/
def coef (d : Dev) (bank p k : Nat) : Int :=
  if bank = 4 then sx 18 (tget 0 d.fch.coefA (p * 16 + k))
  else if bank = 0 ∧ p = 0 then (if k = 8 then 2 ^ 17 else 0)
  else (Config.coefRom bank p k).toInt

/-- c_p[k] with p up to 256. -/
def coefX (d : Dev) (bank p k : Nat) : Int :=
  if p = 256 then (if k = 15 then 0 else coef d bank 0 (k + 1)) else coef d bank p k

/-- 2^25 times c(k, mu), mu in 2^-16. -/
def coefMu (d : Dev) (bank mu k : Nat) : Int :=
  let p := mu / 256
  let f : Int := (mu % 256 : Nat)
  (256 - f) * coefX d bank p k + f * coefX d bank (p + 1) k

/-- The interpolated value of 16 samples, newest first, rounded once (R146). -/
def resample (bank mu : Nat) (x : List (Int × Nat)) (d : Dev) : (Int × Nat) × Dev :=
  let w := win 16 x
  let s := ((List.range 16).zip w).foldl (fun s p => s + coefMu d bank mu p.1 * fchIn p.2) 0
  let r := fchSat 48 (raDiv s (2 ^ 25)) d
  ((r.1, qJoin w), r.2)

/-! Integrator/comb sections (R150 to R152). -/

def mod64 (i : Int) : Nat := wrapN 64 i

/-- One input through the integrators; the last one's state. -/
def integ : List Nat → Nat → List Nat
  | [], _ => []
  | a :: l, x => let y := (a + x) % 2 ^ 64; y :: integ l y

/-- One value through the combs: the output and the delays. -/
def combs : List (List Nat) → Nat → Nat × List (List Nat)
  | [], y => (y, [])
  | dl :: l, y =>
    let r := combs l ((y + 2 ^ 64 - dl.getLastD 0) % 2 ^ 64)
    (r.1, (y :: dl.dropLast) :: r.2)

/-- The normaliser's output in Q31.16. -/
def normOut (k s f : Nat) (y : Nat) (d : Dev) : Int × Dev :=
  fchSat 48 (raDiv (sx 64 y * (k * 2 ^ f : Nat)) (2 ^ s : Nat)) d

/-! A channel's history. -/

def FAvg.empty : FAvg := ⟨[], [], [], 0, 0, 0⟩
def FChan.empty : FChan := ⟨none, [], [0, 0, 0], [[0], [0], [0]], [], [], [], 0, 0, FAvg.empty, (0, 0), []⟩
def fchan (d : Dev) (ch : Nat) : FChan := tget FChan.empty d.fch.chans ch
def setChan (ch : Nat) (x : FChan) (d : Dev) : Dev := { d with fch := { d.fch with chans := tput d.fch.chans ch x } }

/-- A channel's history restarted (R144); its outputs carry INVALID, so its flags keep their last values (R163). -/
def restartChan (ch : Nat) (d : Dev) : Dev := setChan ch { FChan.empty with flags := (fchan d ch).flags } d

def FGrp.start : FGrp := ⟨0, 0, [], [], none, 0, 0, none, []⟩
def fgrp (d : Dev) (g : Nat) : FGrp := tget FGrp.start d.fch.grps g
def setGrp (g : Nat) (x : FGrp) (d : Dev) : Dev := { d with fch := { d.fch with grps := tput d.fch.grps g x } }

def tIdle : Nat := 0
def tAcquire : Nat := 1
def tTrack : Nat := 2
def tHold : Nat := 3

def grpState (d : Dev) (g : Nat) : Nat := d.fldR (Reg.fchTStatus g) 0 2

/-- A group's state set; STATE_CYC restarts when it changes. -/
def setGrpState (g st : Nat) (d : Dev) : Dev :=
  let d := if grpState d g = st then d else d.setF (Reg.fchTStatus g) 8 16 0
  d.setF (Reg.fchTStatus g) 0 2 st

/-- A group starts in ACQUIRE at F_NOM (R158). -/
def startGrp (g : Nat) (d : Dev) : Dev :=
  (setGrp g FGrp.start (setGrpState g tAcquire (d.wn (Reg.fchTStatus g) 0))).wn (Reg.fchTFreq g) (tgNom (fchDesc d 2 g))

/-- The channels of a carriage. -/
def carChans (d : Dev) (c : Nat) : List Nat :=
  ((d.fch.desc).filter (fun p => p.1 < 32768 && p.2 != [] && chCar p.2 == c)).map (fun p => p.1)

/-- The filter chain when a carriage is enabled (R144, R158). -/
def fchEnable (c : Nat) (d : Dev) : Dev :=
  (carChans d c).foldl (fun d ch =>
    let w := fchDesc d 0 ch
    let d := setChan ch FChan.empty d
    if chTrkEn w then startGrp (chGroup w) d else d) d

/-! The measurand buffer (R164, R173). -/

def measBase (d : Dev) (c : Nat) : Nat := carBase d c + d.rn (Reg.carMeasOfs c)

/-- The address of a slot's quality byte: the parallel array follows the 65,536 slots that an OUT_OFFSET can name (R173; log 14). -/
def measQAddr (d : Dev) (c slot : Nat) : Nat := measBase d c + 0x80000 + slot % 65536

/-- The leg of a slot's last write. -/
def measLeg (d : Dev) (c slot : Nat) : Option Nat := tfind d.fch.meas (c * 65536 + slot % 65536)

/-- A 64-bit value stored in a slot with its quality byte. -/
def measStore (c slot v q leg : Nat) (d : Dev) : Dev :=
  let d := (d.storeWords (measBase d c + slot * 8) [w32 v, w32 (v / 2 ^ 32)]).storeByte (measQAddr d c slot) q
  { d with fch := { d.fch with meas := tput d.fch.meas (c * 65536 + slot % 65536) leg } }

/-- The float32 of a Q31.16 value in a unit (R164). -/
def measF32 (unit : Nat) (v : Int) : Nat := (fRat v (65536 * (if unit = 0 then 1000 else if unit = 1 then 100 else 1))).v

/-- One output in its format; the answer is the slot after it. -/
def measOut (c fmt unit slot : Nat) (v : Int) (q leg : Nat) (d : Dev) : Dev :=
  let d := if fmt = 1 then d else measStore c slot (wrapN 64 v) q leg d
  if fmt = 0 then d else measStore c (slot + fmt - 1) (measF32 unit v) q leg d

/-- Slots of one output. -/
def fmtWidth (fmt : Nat) : Nat := if fmt = 2 then 2 else 1

/-- The slot of each output of a channel: time grid, then tracked, peak, RMS and envelope where enabled (log 14). -/
def chSlot (w : List Nat) (kind : Nat) : Nat :=
  let on := [true, chTrkEn w, bitOf (entW w 1) 4, bitOf (entW w 1) 6, bitOf (entW w 1) 7]
  chOut w + ((on.take kind).filter id).length * fmtWidth (chFmt w)

/-! Detectors (R160 to R163). -/

def absI (x : Int) : Int := (x.natAbs : Int)

/-- A detector's flag after an output. -/
def detFlag (old : Bool) (out : Int) (q thr hyst : Nat) : Bool :=
  if thr = 0 then false
  else if bitOf q 0 then old
  else if ((thr * 65536 : Nat) : Int) ≤ out then true
  else if out < (((thr - thr * hyst / 256) * 65536 : Nat) : Int) then false else old

/-- A detector's output stored and its flag set; `bit` is its place in the channel's flags, `thrW` its threshold's word. -/
def detOut (ch : Nat) (w : List Nat) (kind bit thrW : Nat) (v : Int) (q leg : Nat) (d : Dev) : Dev :=
  let d := measOut (chCar w) (chFmt w) (chUnit w) (chSlot w kind) v q leg d
  let x := fchan d ch
  let f := detFlag (bitOf x.flags bit) v q (entW w thrW) (chHyst w)
  setChan ch { x with flags := putFld x.flags bit 1 (b2n f) } d

/-- Peak and RMS at a tracked sample. -/
def detTracked (ch : Nat) (w : List Nat) (leg : Nat) (d : Dev) : Dev :=
  let h := (fchan d ch).trk
  let pw := win (if bitOf (entW w 1) 5 then 32 else 64) h
  let d := if bitOf (entW w 1) 4 then
      detOut ch w 2 0 2 (pw.foldl (fun m x => max m (absI (fchIn x))) 0) (qJoin pw) leg d else d
  let rw := win 64 h
  let s := rw.foldl (fun s x => s + (raDiv (fchIn x) 65536) ^ 2) 0
  if bitOf (entW w 1) 6 then
    let v := isqrt (s.toNat * 2 ^ 26)
    let d := detOut ch w 3 1 3 v (qJoin rw) leg d
    let x := fchan d ch
    setChan ch { x with rms := ((leg, v, qJoin rw) :: x.rms).take 64 } d
  else d

/-- The envelope on the time grid. -/
def detEnv (ch : Nat) (w : List Nat) (v : Int) (q leg : Nat) (d : Dev) : Dev :=
  if !bitOf (entW w 1) 7 then d
  else
    let x := fchan d ch
    let e := max (absI v) (x.env - shrI x.env (fld (entW w 1) 8 4))
    detOut ch w 4 2 4 e q leg (setChan ch { x with env := e } d)

/-! Averages (R150 to R153). -/

/-- The delay line of a moving average in the carriage's region: its words at HIST_BASE, its quality bytes behind them (R153; log 14). -/
def histAddr (d : Dev) (w a : List Nat) : Nat := carBase d (chCar w) + entW a 3

/-- A moving average's sum and quality after an input that has taken its place in the delay line of `n` words at `b`. -/
def avgStep (m : List Host.Cell) (b n : Nat) (x : FAvg) (v : Int) (q : Nat) : Int × Nat :=
  let old := if x.count < n then 0 else sx 32 (memWord m (b + 4 * x.pos))
  let live := (List.range (min x.count n)).filter (fun i => i != x.pos)
  let qs := live.foldl (fun q i => orN q (memByte m (b + 4 * n + i))) q
  (x.sum + v - old, if x.count + 1 < n then orN qs qInvalid else qs)

/-- One input of a channel's averaging section. -/
def avgInput (m : List Host.Cell) (ch : Nat) (w : List Nat) (inp : Int × Nat) (leg : Nat) (d : Dev) : Dev :=
  let a := fchDesc d 1 (chAvg w)
  let x := fchan d ch
  let v := fchIn inp
  let out (v : Int) (q : Nat) (d : Dev) : Dev := measOut (chCar w) (chFmt w) (chUnit w) (fld (entW a 2) 0 16) v q leg d
  if a = [] then d
  else if avKind a = 0 then
    let n := avLen a
    let b := histAddr d w a
    let r := fchSat 32 (raDiv v 65536) d
    let s := avgStep m b n x.avg r.1 inp.2
    let y : FAvg := ⟨((r.1, inp.2) :: x.avg.hist).take n, [], [], min n (x.avg.count + 1), s.1, (x.avg.pos + 1) % n⟩
    let d := (r.2.storeWords (b + 4 * x.avg.pos) [w32 (wrapN 32 r.1)]).storeByte (b + 4 * n + x.avg.pos) inp.2
    let o := fchSat 48 (raDiv (s.1 * 65536) (n : Nat)) (setChan ch { x with avg := y } d)
    out o.1 s.2 o.2
  else
    let r := if avBin a then (v, d) else fchSat 32 (raDiv v 65536) d
    let wlen := avN a * (avLen a * avM a - 1) + 1
    let h := win wlen ((0, inp.2) :: x.avg.hist)
    let is := integ (takePad 0 (avN a) x.avg.ints) (mod64 r.1)
    let cnt := x.avg.count + 1
    if cnt < avLen a then setChan ch { x with avg := ⟨h, is, x.avg.combs, cnt, 0, 0⟩ } r.2
    else
      let c := combs (takePad (List.replicate (avM a) 0) (avN a) x.avg.combs) (is.getLastD 0)
      let d := setChan ch { x with avg := ⟨h, is, c.2, 0, 0, 0⟩ } r.2
      let o := normOut (fld (entW a 1) 0 24) (fld (entW a 1) 24 6) (if avBin a then 0 else 16) c.1 d
      out o.1 (qJoin h) o.2

/-! The tracked grid (R154 to R158). -/

/-- The tracked sample of an emission: `grid` starts at the value of the emission's leg plus 8 (R155). -/
def trackedAt (grid : List (Int × Nat)) (mu : Nat) (d : Dev) : (Int × Nat) × Dev :=
  if mu = 0 then resample 3 0 grid d else resample 3 (65536 - mu) (grid.drop 1) d

/-- The emission of a group at a leg. -/
def emitAt (d : Dev) (g leg : Nat) : Option Nat := ((fgrp d g).emits.find? (fun e => e.1 == leg)).map (fun e => e.2)

/-- Δ of R154 from f_est in Q8.24. -/
def stepOf (f : Nat) : Nat := (raDiv (f * 256 : Nat) 75).toNat

/-- The wrapped difference of angles in 2^-31 cycle. -/
def dPsi (a b : Nat) : Int := sx 31 (a + 2 ^ 31 - b)

/-- An update of f_est under R157. -/
def freqUpdate (g kt : Nat) (slew : Option Nat) (dpsi : Int) (d : Dev) : Dev :=
  let f := d.rn (Reg.fchTFreq g)
  let df := raDiv ((f : Int) * dpsi) (2 ^ (31 + kt) : Nat)
  let df := match slew with
    | some s => clampMag (raDiv (s * 2 ^ 24 : Nat) 1000) df
    | none => df
  let nf := (f : Int) + df
  let lo : Int := 40 * 2 ^ 24
  let hi : Int := 70 * 2 ^ 24
  let cl := max lo (min hi nf)
  let d := (d.wn (Reg.fchTFreq g) cl.toNat).putB (Reg.fchTStatus g) 2 (cl == lo || cl == hi)
  if cl = nf then d else raise 218 none g 0 d

/-- Angle (2^-31 cycle, 0 to 2^31 - 1) and magnitude (Q31.16, RMS as R184 has it) of the fundamental DFT term of 64 reference samples, the
newest last: one phase, or six times the positive sequence of three, 2A - B - C + j √3 (B - C). Exact but for the one rounding of each
result (R142, R156; log 12). -/
def trackDft (ref : List (List Int)) : Nat × Nat :=
  let q3 : Int := isqrt (3 * 2 ^ 256)
  let terms := ((List.range 64).zip ref.reverse).map (fun p =>
    let c := qCos (qTurn p.1)
    let s := qSin (qTurn p.1)
    let z : Int × Int := match p.2 with
      | [a, b, c'] => ((2 * a - b - c') * qOne, (b - c') * q3)
      | a :: _ => (6 * a * qOne, 0)
      | [] => (0, 0)
    (z.1 * c - z.2 * s, z.1 * s + z.2 * c))
  let re := (terms.map (fun t => t.1)).sum
  let im := (terms.map (fun t => t.2)).sum
  let den : Nat := 64 * 6 * 2 ^ 256
  (wrapN 31 (raDiv (qAngle im re * (2 ^ 31 : Nat)) (2 * qPi)),
    (isqrt (4 * 2 * (re * re + im * im).toNat / (den * den)) + 1) / 2)

/-- A HOLD that has lasted a route by leg `n` raises its event once (R158). -/
def holdEvent (g n : Nat) (d : Dev) : Dev :=
  match (fgrp d g).hold with
  | some (l, false) => if l + 240 ≤ n then raise 219 none g 0 (setGrp g { fgrp d g with hold := some (l, true) } d) else d
  | _ => d

/-- A cycle end of a group with its reference (R156, R158). -/
def cycleEnd (g leg : Nat) (bad : Bool) (psi mag : Nat) (d : Dev) : Dev :=
  let w := fchDesc d 2 g
  let d := holdEvent g leg d
  let d := d.bump (Reg.fchTCycles g)
  let st := grpState d g
  let d := d.setF (Reg.fchTStatus g) 8 16 (min 0xFFFF (d.fldR (Reg.fchTStatus g) 8 16 + 1))
  let x := fgrp d g
  let d := if bad || mag < entW w 2 * 65536 then
      setGrp g { x with hold := if st = tHold then x.hold else some (leg, false), psi := none, jumps := 0, settle := 0 }
        (setGrpState g tHold (d.clrB (Reg.fchTStatus g) 3))
    else if st = tHold then
      setGrp g { x with hold := none, psi := some psi, jumps := 0, settle := 0 }
        (setGrpState g tAcquire (d.clrB (Reg.fchTStatus g) 3))
    else match x.psi with
      | none => setGrp g { x with psi := some psi } d
      | some p =>
        let dp := dPsi psi p
        let d := d.wn (Reg.fchTDpsi g) (wrapN 32 dp)
        if st = tTrack && decide (((tgJump w * 2 ^ 23 : Nat) : Int) < absI dp) then
          let d := raise 220 none g 0 (d.setB (Reg.fchTStatus g) 3)
          if 1 ≤ x.jumps then setGrp g { x with psi := some psi, jumps := 0, settle := 0 } (setGrpState g tAcquire d)
          else setGrp g { x with psi := some psi, jumps := 1 } d
        else
          let d := d.clrB (Reg.fchTStatus g) 3
          if st = tTrack then
            setGrp g { x with psi := some psi, jumps := 0 } (freqUpdate g (tgKt w) (some (tgSlew w)) dp d)
          else
            let d := freqUpdate g 0 none dp d
            let n := if absI dp < (2 ^ 25 : Nat) then x.settle + 1 else 0
            let d := setGrp g { x with psi := some psi, settle := if 2 ≤ n then 0 else n, jumps := 0 } d
            if 2 ≤ n then setGrpState g tTrack d else d
  let y := fgrp d g
  setGrp g { y with ends := ((leg, d.rn (Reg.fchTFreq g)) :: y.ends).take 64 } d

/-- The reference sample of a group for an emission at leg `n - 8`, and the cycle end at the 64th. -/
def grpRef (g n mu : Nat) (d : Dev) : Dev :=
  let refs := tgRefs (fchDesc d 2 g)
  let r := refs.foldl (fun (r : List (Int × Nat) × Dev) ch =>
    let c := fchan r.2 ch
    let ahead := (c.next.getD (n + 1)) - (n + 1)
    let t := trackedAt (c.grid.drop ahead) mu r.2
    (r.1 ++ [t.1], t.2)) ([], d)
  let d := r.2
  let x := fgrp d g
  let ref := x.ref ++ [(r.1.map (fun v => v.1), qJoin r.1)]
  if ref.length < 64 then setGrp g { x with ref := ref } d
  else
    let a := trackDft (ref.map (fun v => v.1))
    cycleEnd g n (ref.any (fun v => bitOf v.2 0)) a.1 a.2 (setGrp g { x with ref := [] } d)

/-- A group's step at a time-grid leg, once all its reference channels have processed it (R154, R156). -/
def grpStep (g n : Nat) (d : Dev) : Dev :=
  let x := fgrp d g
  if grpState d g = tIdle || n ≤ x.leg then d
  else
    let dl := stepOf (d.rn (Reg.fchTFreq g))
    let th := x.theta + dl
    let em := if 2 ^ 32 ≤ th then [(n, (raDiv ((th - 2 ^ 32) * 65536 : Nat) (dl : Nat)).toNat)] else []
    let d := setGrp g { x with leg := n, theta := if 2 ^ 32 ≤ th then th - 2 ^ 32 else th,
                               emits := (em ++ x.emits).take 80 } d
    match emitAt d g (n - 8) with
    | some mu => grpRef g n mu d
    | none => d

/-- The groups whose references include a channel and have all processed leg `n`. -/
def grpsReady (d : Dev) (ch n : Nat) : List Nat :=
  ((d.fch.desc).filter (fun p => fchKey 2 0 ≤ p.1 && p.2 != [] && (tgRefs p.2).contains ch &&
    (tgRefs p.2).all (fun r => match (fchan d r).next with | some k => n < k | none => false))).map
      (fun p => p.1 - fchKey 2 0)

/-! One channel, one leg (R137, R145, R146). -/

/-- The elements a lane gathers for a channel's leg, in slot order (04 R132). -/
def chElems (d : Dev) (w : List Nat) (leg : Nat) : List GElem :=
  (List.range (entK (sauEnt d (chEntry w)))).map (fun j => (chEntry w, chChan w, leg, j))

/-- The slots of a leg of the channel's stream, gathered for its carriage: value and quality, in slot order. -/
def chSlots (d : Dev) (w : List Nat) (leg : Nat) : List (Int × Nat) :=
  (chElems d w leg).map (fun g => let r := gatherAt d (some (chCar w)) g; (r.1, r.2.1))

/-- The lead of the stream's last slot of a leg. -/
def chLead (d : Dev) (w : List Nat) (leg : Nat) : Nat :=
  let e := sauEnt d (chEntry w)
  if (gatherRow d (some (chCar w)) (chEntry w, chChan w, leg, entK e - 1)).isNone then 0
  else match slotHead d e leg (entK e - 1) with
  | some c => c.lead
  | none => 0

/-- mu of R146 in 2^-16. -/
def muOf (k lead : Nat) : Nat :=
  if k = 1 then lead else if k = 3 then (raDiv lead 3).toNat else (raDiv (557056 + lead : Nat) 20).toNat

/-- The pre-decimator over the slots of a leg (R146, R150). -/
def preDecim (k : Nat) (x : FChan) (sl : List (Int × Nat)) (d : Dev) : FChan × Dev :=
  let is := sl.foldl (fun is s => integ is (mod64 (fchIn s))) x.ints
  let q := ((sl.map (fun s => s.2)).reverse ++ x.qin).take (3 * (k - 1) + 1)
  let c := combs x.combs (is.getLastD 0)
  let o := normOut (normK (k ^ 3)) (normS (k ^ 3)) 16 c.1 d
  let qj := (takePad qInvalid (3 * (k - 1) + 1) q).foldl orN 0
  ({ x with ints := is, combs := c.2, qin := q, raw := ((o.1, qj) :: x.raw).take 17 }, o.2)

/-- The bank a channel resamples with (R149). -/
def chBankOf (w : List Nat) (k : Nat) : Nat := if chBank w = 4 then 4 else if k = 1 then 0 else if k = 3 then 1 else 2

/-- The values of a channel's leg that are converted to float32 (R138): the tracked sample of a channel that produces them, the time-grid
value of another, and each average and detector output. The example of chapter 05 counts one conversion for a tracked channel (log 14). -/
def chConv (w : List Nat) (tracked : Bool) (avgOut : Nat) : Nat :=
  if chFmt w = 0 then 0
  else (if chTrkEn w then b2n tracked else 1) + avgOut + b2n (bitOf (entW w 1) 7) +
    (if tracked then b2n (bitOf (entW w 1) 4) + b2n (bitOf (entW w 1) 6) else 0)

/-- ECLK cycles of a channel's leg, whose average takes `avgIn` inputs and gives `avgOut` outputs (R138). -/
def chCost (w a : List Nat) (k : Nat) (tracked : Bool) (avgIn avgOut : Nat) : Nat :=
  k + (if k = 1 then 0 else 3 * k + 5) + 20 + (if tracked then 22 else 0) +
    (if a = [] then 0 else if avKind a = 0 then 8 * avgOut else avN a * avgIn + (avN a + 4) * avgOut) +
    (if tracked then (if bitOf (entW w 1) 4 then 8 else 0) + (if bitOf (entW w 1) 6 then 42 else 0) else 0) +
    (if bitOf (entW w 1) 7 then 6 else 0) + 3 * chConv w tracked avgOut

/-- ECLK cycles of a group's step at leg `n`: 20 for a tracked sample, 80 more at a cycle end (R138). -/
def grpCost (d : Dev) (g n : Nat) : Nat :=
  if grpState d g = tIdle || n ≤ (fgrp d g).leg || (emitAt d g (n - 8)).isNone then 0
  else 20 + (if (fgrp d g).ref.length = 63 then 80 else 0)

/-- Inputs and outputs of a channel's average in a leg with or without a tracked sample. -/
def avgCounts (d : Dev) (ch : Nat) (a : List Nat) (tracked : Bool) : Nat × Nat :=
  let i := if a = [] then 0 else if avGrid a then b2n tracked else 1
  (i, if avKind a = 0 ∨ avLen a ≤ (fchan d ch).avg.count + 1 then i else 0)

/-- The tracked sample of a channel's leg, when its group emitted one 8 legs before. -/
def chTracked (m : List Host.Cell) (ch n : Nat) (w : List Nat) (d : Dev) : Dev × Bool :=
  if !chTrkEn w then (d, false)
  else match emitAt d (chGroup w) (n - 8) with
    | none => (d, false)
    | some mu =>
      let x := fchan d ch
      let t := trackedAt x.grid mu d
      let d := setChan ch { x with trk := (t.1 :: x.trk).take 64, tstar := (tickCodeOf ((n - 8 - 9) * 16), mu) } t.2
      let d := measOut (chCar w) (chFmt w) (chUnit w) (chSlot w 1) t.1.1 t.1.2 n d
      let d := detTracked ch w n d
      (if avGrid (fchDesc d 1 (chAvg w)) then avgInput m ch w t.1 n d else d, true)

/-- All stages of a channel for leg `n`. -/
def chanLeg (m : List Host.Cell) (lane ch n : Nat) (w : List Nat) (d : Dev) : Dev :=
  let d := gatherEcc (some (chCar w)) (chElems d w n) d
  let d0 := d
  let k := entK (sauEnt d (chEntry w))
  let sl := chSlots d w n
  let x := fchan d ch
  let r := if k = 1 then
      ({ x with raw := (sl.map (fun s => (fchIn s * 65536, s.2)) ++ x.raw).take 17 }, d)
    else preDecim k x sl d
  let g := resample (chBankOf w k) (muOf k (chLead d w n)) (if k = 1 then r.1.raw.drop 1 else r.1.raw) r.2
  let d := setChan ch { r.1 with grid := (g.1 :: r.1.grid).take 64, next := some (n + 1) } g.2
  let d := measOut (chCar w) (chFmt w) (chUnit w) (chSlot w 0) g.1.1 g.1.2 n d
  let d := detEnv ch w (fchIn g.1) g.1.2 n d
  let a := fchDesc d 1 (chAvg w)
  let d := if a != [] && !avGrid a then avgInput m ch w g.1 n d else d
  let t := chTracked m ch n w d
  let r := (grpsReady t.1 ch n).foldl (fun (r : Dev × Nat) g => (grpStep g n r.1, r.2 + grpCost r.1 g n)) (t.1, 0)
  let d := r.1
  let io := avgCounts d0 ch a t.2
  let cost := chCost w a k t.2 io.1 io.2 + r.2
  { d with fch := { d.fch with tickCyc := tput d.fch.tickCyc lane (tget 0 d.fch.tickCyc lane + cost),
                               routeCyc := tput d.fch.routeCyc lane (tget 0 d.fch.routeCyc lane + cost) } }

/-- The leg a channel processes next, and whether it skips (R139). -/
def nextLeg (d : Dev) (ch m : Nat) (w : List Nat) : Nat × Bool :=
  match (fchan d ch).next with
  | none => (m, false)
  | some n => if n + 48 < m && !(chTrip w && carCls d (chCar w) == 0) then (m, true) else (n, false)

/-- Whether a lane may run a channel: the lane neither retired nor withdrawn into the inspection seat (R140), the chain enabled, the
carriage running and not shed (08 R258). -/
def laneCan (d : Dev) (lane : Nat) (w : List Nat) : Bool :=
  w != [] && d.enabled Reg.fchCtrl && carRuns d (chCar w) && !isShed d (chCar w) &&
    !d.bitR (Reg.fchLStatus lane) 1 && !d.bitR (Reg.fchLStatus lane) 2

/-- A skip of R139: the channel's history restarts, counted. -/
def chanSkip (ch : Nat) (d : Dev) : Dev := raise 221 none ch 0 ((restartChan ch d).bump Reg.fchBehindCnt)

/-- Whether a channel of a warm restore has not reached the latest declared leg (10 R316). -/
def chanBehind (d : Dev) (ch : Nat) (w : List Nat) : Bool :=
  warmUp d (chCar w) && (match (fchan d ch).next, d.sau.declared with
    | some n, some m => n < m
    | _, _ => false)

/-- Whether a channel's stages run in the filter tick (R137). -/
def inStage (d : Dev) (w : List Nat) : Bool := chTrip w && carCls d (chCar w) == 0

/-- A lane that serves pipeline leg `l` runs a channel's stages for its next leg, if that is declared and not past `l` (R136, R137;
08 R243). -/
def filterRun (m : List Host.Cell) (lane ch l : Nat) (d : Dev) : Dev :=
  let w := fchDesc d 0 ch
  if !laneCan d lane w then d
  else match d.sau.declared with
    | none => d
    | some now =>
      let r := nextLeg d ch now w
      let d := if r.2 then chanSkip ch d else d
      if min now l < r.1 then d else chanLeg m lane ch r.1 w d

/-- A filter stage of leg `l` passed over is a skip of that leg (01 R20). -/
def stagePassed (ch l : Nat) (d : Dev) : Dev :=
  match (fchan d ch).next with
  | some n => if l < n then d else let d := chanSkip ch d; setChan ch { fchan d ch with next := some (l + 1) } d
  | none => d

/-! Boundaries. -/

/-- FCH_COEF_CRC follows the active copy of bank 4 (R149, R166). -/
def coefCrc (d : Dev) : Dev :=
  d.wn Reg.fchCoefCrc (Config.crc32 ((List.range 4096).map (fun i => tget 0 d.fch.coefA i))).toNat

/-- A new averaging descriptor in force: the sections of the channels that name it start anew (R144). -/
def restartAvgs (a : Nat) (d : Dev) : Dev :=
  ((d.fch.desc).filter (fun p => p.1 < 32768 && p.2 != [] && chAvg p.2 == a)).foldl
    (fun d p => setChan p.1 { fchan d p.1 with avg := FAvg.empty } d) d

/-- Commits in force, and what they restart (R144, R165). -/
def fchApply (d : Dev) : Dev :=
  let p := d.fch.pend
  let d := { d with fch := { d.fch with pend := [] } }
  p.foldl (fun d e =>
    let new := fchDesc d 0 e.1 == []
    let d := { d with fch := { d.fch with desc := tput d.fch.desc e.1 e.2 } }
    if e.1 < 32768 then if new then setChan e.1 FChan.empty d else restartChan e.1 d
    else if e.1 < 65536 then restartAvgs (e.1 - 32768) d else d) d

/-- The exchange of bank 4's copies (R149). -/
def coefSwap (d : Dev) : Dev :=
  if !d.bitR Reg.fchCoefCtrl 0 then d
  else
    let d := { d with fch := { d.fch with coefA := d.fch.coefI, coefI := d.fch.coefA } }
    raise 222 none 0 0 (coefCrc (d.clrB Reg.fchCoefCtrl 0))

/-- The groups in HOLD at a leg boundary: a HOLD of a route or more raises its event (R158). -/
def holdEvents (d : Dev) : Dev := (tkeys d.fch.grps).foldl (fun d g => holdEvent g d.tim.absLeg d) d

/-- The lanes' route counts taken at a route boundary. -/
def laneRoute (d : Dev) : Dev :=
  let t := d.fch.routeCyc
  let d := (List.range 64).foldl (fun d l => d.wn (Reg.fchLRouteCyc l) (tget 0 t l)) d
  { d with fch := { d.fch with routeCyc := [] } }

/-- The lanes' tick counts taken when a filter tick ends. -/
def laneTick (d : Dev) : Dev :=
  let t := d.fch.tickCyc
  (List.range 64).foldl (fun d l => d.wn (Reg.fchLTickCyc l) (tget 0 t l)) d

/-- The filter chain at a route boundary. -/
def fchRoute (d : Dev) : Dev := laneRoute (coefSwap (fchApply d))

/-- FCH_CTRL.EN back to 1: every channel restarts its history (00_scope R586). -/
def fchResume (d : Dev) : Dev := (tkeys d.fch.chans).foldl (fun d ch => restartChan ch d) d

/-- After HOLD_ROUTES routes in HOLD, f_est is F_NOM. -/
def holdTimeout (g : Nat) (d : Dev) : Dev :=
  let w := fchDesc d 2 g
  match (fgrp d g).hold with
  | some (l, _) => if grpState d g == tHold && l + tgHold w * 240 ≤ d.tim.absLeg then
      (d.wn (Reg.fchTFreq g) (tgNom w)).clrB (Reg.fchTStatus g) 2 else d
  | none => d

/-- TRACK_HOLD_TIMEOUT (R158). -/
def execTrackHoldTimeout (g : Nat) (s : State) : Outcome := s.act (onlyIf (g < 1024) (holdTimeout g))

/-- FCH_DESC_READ (R165). -/
def execFchDescRead (table index : Nat) (s : State) : Outcome :=
  s.act (onlyIf (table < 3 && index < 32768) (fchDescRead table index))

/-- COEF_SWAP_REQUEST (R149): FCH_COEF_CTRL is RWM (00_scope R11). -/
def execCoefSwapRequest (s : State) : Outcome := s.act (fun d => (rwm d (fun d => d.setB Reg.fchCoefCtrl 0)))

end Sys2Proof.Machine
end

