-- ==== Sys2Proof/Machine/Seats.lean ====
section
/-! DEFINITION. The seat table and which seats begin in a tick: fields of an entry, columns and their units, the pipeline legs that a
kind of unit serves, and the seats that a tick holds (08 R243, R248, R249, R252; 01 R20). Kinds are 0 filter lane, 1 element engine,
2 Harness engine. -/

namespace Sys2Proof.Machine

/-! Entries (R247, R248). -/

def unitsOf (k : Nat) : Nat := if k = 0 then 64 else if k = 1 then 34 else 17

/-- Cycles of a tick of a kind. -/
def tickCycles (k : Nat) : Nat := if k = 2 then 10000 else 13333

def ttbBank (d : Dev) : Nat := b2n (d.bitR Reg.ttbBankCtrl 1)
def seatW (d : Dev) (b i j : Nat) : Nat := d.rn (Reg.ttbSeat b i j)

/-- The valid entries of a bank: index and four words. -/
def bankSeats (d : Dev) (b : Nat) : List (Nat × List Nat) :=
  d.regs.filterMap (fun p =>
    let i := (p.1 - Reg.ttbSeat b 0 0) / 16
    if Reg.ttbSeat b 0 0 ≤ p.1 && p.1 % 16 == 0 && i < 8192 && bitOf p.2.toNat 31 then
      some (i, (List.range 4).map (seatW d b i)) else none)

def stKind (w : List Nat) : Nat := fld (entW w 0) 0 2
def stArb (w : List Nat) : Bool := bitOf (entW w 0) 2
def stBgres (w : List Nat) : Bool := bitOf (entW w 0) 3
def stTick (w : List Nat) : Nat := fld (entW w 0) 4 4
def stColumn (w : List Nat) : Nat := fld (entW w 0) 8 6
def stClass (w : List Nat) : Nat := fld (entW w 0) 14 2
def stCar (w : List Nat) : Nat := fld (entW w 0) 16 9
def stStart (w : List Nat) : Nat := fld (entW w 1) 0 14
def stLen (w : List Nat) : Nat := fld (entW w 1) 16 14
def stBase (w : List Nat) : Nat := fld (entW w 2) 0 8
def stDiv (w : List Nat) : Nat := fld (entW w 2) 8 8
def stFirst (w : List Nat) : Nat := fld (entW w 3) 0 16
def stCount (w : List Nat) : Nat := fld (entW w 3) 16 16

/-! Columns (R252). -/

/-- The unit a column maps to. -/
def colUnit (d : Dev) (k m : Nat) : Option Nat :=
  if d.bitR (Reg.ttbColmap k m) 31 then some (d.fldR (Reg.ttbColmap k m) 0 7) else none

/-- The column a unit serves. -/
def unitCol (d : Dev) (k u : Nat) : Option Nat := (List.range (unitsOf k)).find? (fun m => colUnit d k m == some u)

/-! The seats of a tick (R243, R249; 01 R20). -/

/-- The absolute tick of a kind's stage in a pipeline leg. -/
def stagePoint (d : Dev) (k l : Nat) : Nat := l * 16 + holdFor d l + k + 1

/-- The pipeline legs whose relative ticks of a kind are being counted, the oldest first, each with the relative tick (R243). After the
holdback has fallen there may be two, and after it has risen none. -/
def relLegs (d : Dev) (k : Nat) : List (Nat × Nat) :=
  let t := d.tim.absTick
  (dedup [t / 16 - 2, t / 16 - 1, t / 16]).filterMap (fun l =>
    if stagePoint d k l ≤ t && t < stagePoint d k l + 16 then some (l, t - stagePoint d k l) else none)

/-- Whether a seat recurs in a pipeline leg. -/
def recurs (w : List Nat) (l : Nat) : Bool := stDiv w != 0 && l % 240 % stDiv w == stBase w

/-- The active bank's seats of a column in this tick with their pipeline legs: those of the stage window, then the older leg's others, then
the newer leg's, each in the order of START. -/
def tickSeats (d : Dev) (k m : Nat) : List (Nat × List Nat) :=
  let ss := ((bankSeats d (ttbBank d)).filter (fun p => stKind p.2 == k && stColumn p.2 == m)).map (fun p => p.2)
  let rl := relLegs d k
  let part (stage : Bool) : List (Nat × List Nat) :=
    (rl.filter (fun x => (x.2 == 0) == stage)).flatMap (fun x =>
      (isort (fun a b => stStart a ≤ stStart b) (ss.filter (fun w => stTick w == x.2 && recurs w x.1))).map (fun w => (x.1, w)))
  part true ++ part false

/-- Seats that fit a tick of `cap` cycles one after another, and those that do not; `u` cycles are used. -/
def fitSeats (cap : Nat) : Nat → List (Nat × List Nat) → List (Nat × List Nat) × List (Nat × List Nat)
  | _, [] => ([], [])
  | u, s :: l =>
    if u + stLen s.2 ≤ cap then let r := fitSeats cap (u + stLen s.2) l; (s :: r.1, r.2)
    else let r := fitSeats cap u l; (r.1, s :: r.2)

/-- The seats of a column that are served in this tick, and those passed over (01 R20). -/
def seatsNow (d : Dev) (k m : Nat) : List (Nat × List Nat) × List (Nat × List Nat) :=
  fitSeats (tickCycles k) 0 (tickSeats d k m)

/-- Whether an exclusive seat of a carriage holds the item at a position of its work list, in the stage window or outside it (R248). -/
def seatHolds (c pos : Nat) (stage : Bool) (w : List Nat) : Bool :=
  !stArb w && stCar w == c && (stTick w == 0) == stage && stFirst w ≤ pos && pos < stFirst w + stCount w

/-- The pipeline leg that a unit serves now for an item of a carriage's work list, in an exclusive seat. -/
def seatLeg (d : Dev) (k u c pos : Nat) (stage : Bool) : Option Nat :=
  match unitCol d k u with
  | none => none
  | some m => (((seatsNow d k m).1).find? (fun s => seatHolds c pos stage s.2)).map (fun s => s.1)

/-- The arbitrating seats that a unit serves now, each with its pipeline leg. -/
def arbNow (d : Dev) (k u : Nat) : List (Nat × List Nat) :=
  match unitCol d k u with
  | none => []
  | some m => ((seatsNow d k m).1).filter (fun s => stArb s.2)

/-- The place of an item in a list, or past its end. -/
def placeIn (x : Nat) (l : List Nat) : Nat := (l.takeWhile (fun y => y != x)).length

end Sys2Proof.Machine
end

