-- ==== Sys2Proof/Machine/Een.lean ====
section
/-! DEFINITION. The element engines: descriptors, the element image in DRAM, and the kernels of the catalogue
(06 R167 to R198, R203). A kernel's sequence of operations is the formula of its rule as written (log 13). -/

namespace Sys2Proof.Machine

/-! Descriptors (R178). -/

def kDesc (d : Dev) (i : Nat) : List Nat := tget [] d.een.desc i
def kCommitted (d : Dev) (i : Nat) : List Nat := (tfind d.een.pend i).getD (kDesc d i)
def kCode (w : List Nat) : Nat := fld (entW w 0) 0 8
def kBg (w : List Nat) : Bool := bitOf (entW w 0) 8
def kEn (w : List Nat) : Bool := bitOf (entW w 0) 9
def kResult (w : List Nat) : Nat := fld (entW w 0) 10 10
def kIn (w : List Nat) (i : Nat) : Nat := fld (entW w (1 + i / 2)) (i % 2 * 16) 16
def kCar (w : List Nat) : Nat := fld (entW w 15) 0 9

/-- Set bits among the low `n` of a mask, ascending. -/
def bitsOf (n mask : Nat) : List Nat := (List.range n).filter (fun i => bitOf mask i)

/-- Harmonics of a PHASOR_DFT mask. -/
def harmonics (w : List Nat) : List Nat := (bitsOf 6 (entW w 3)).map (fun i => i + 2)

/-- Result records of an instance. -/
def kRecords (w : List Nat) : Nat := if kCode w = 1 then 1 + (harmonics w).length else if kCode w = 4 then 6 else 1

/-- Slots per leg of an entry. -/
def slotsPer (d : Dev) (i : Nat) : Nat := entK (sauEnt d i)

/-- Cycles of one run (R182). -/
def kCost (d : Dev) (w : List Nat) : Nat :=
  let loops := (bitsOf 6 (entW w 3)).length
  match kCode w with
  | 1 => 16 + 8 * (harmonics w).length
  | 2 => 14
  | 3 => 12
  | 4 => 48
  | 5 => 4 + 4 * loops
  | 6 => 4 + 6 * loops
  | 7 => 20 + 12 * fld (entW w 3) 0 3
  | 8 => 10 + 2 * ((bitsOf 24 (entW w 3)).length * slotsPer d (kIn w 0))
  | 9 => 12 + 4 * fld (entW w 12) 12 4
  | 10 => 30
  | 11 => 40
  | 12 => 14
  | 13 => 24
  | _ => 0

/-- An instance as it stands at enable (R181). -/
def KInst.empty : KInst := ⟨[], [], 0, [], [], (0, 0), none, 0⟩
/-- The state an instance starts with: no run was due for a leg before the present one. -/
def KInst.start (d : Dev) : KInst := { KInst.empty with last := some (d.tim.absLeg - 1) }
def kInst (d : Dev) (i : Nat) : KInst := tget KInst.empty d.een.inst i
def setInst (i : Nat) (x : KInst) (d : Dev) : Dev := { d with een := { d.een with inst := tput d.een.inst i x } }

/-- The descriptors of a carriage. -/
def carKernels (d : Dev) (c : Nat) : List (Nat × List Nat) := (d.een.desc).filter (fun p => p.2 != [] && kCar p.2 == c)

/-- The element engines when a carriage is enabled or re-admitted (R181). -/
def eenEnable (c : Nat) (d : Dev) : Dev := (carKernels d c).foldl (fun d p => setInst p.1 (KInst.start d) d) d

/-! The commit check (R179). -/

/-- Whether a bit pattern lies between two floats. -/
def fIn2 (w lo hi : Nat) : Bool := f32Fin w && fLe ⟨lo, false⟩ ⟨w, false⟩ && fLe ⟨w, false⟩ ⟨hi, false⟩

def allFin (w : List Nat) (ks : List Nat) : Bool := ks.all (fun k => f32Fin (entW w k))
def allZero (w : List Nat) (ks : List Nat) : Bool := ks.all (fun k => entW w k == 0)

/-- The elements of FAST_DIFF: entry, channel, scale. -/
def diffElems (w : List Nat) : List (Nat × Nat × Nat) :=
  ((List.range (fld (entW w 12) 12 4)).map (fun e => entW w (3 + e))).map
    (fun x => (fld x 0 12, fld x 12 5, fld x 17 15))

/-- Whether the parameters of a kernel are in range; words it does not list are 0. -/
def kParams (d : Dev) (w : List Nat) : Bool :=
  let p := entW w
  match kCode w with
  | 1 => p 3 < 64 && allFin w [4] && allZero w [5, 6, 7, 8, 9, 10, 11, 12, 13, 14]
  | 2 => allFin w [4] && allZero w [3, 5, 6, 7, 8, 9, 10, 11, 12, 13, 14]
  | 3 => p 3 < 2 && allFin w [4, 5, 6] && allZero w [7, 8, 9, 10, 11, 12, 13, 14]
  | 4 => allFin w [3, 4, 5] && allZero w [6, 7, 8, 9, 10, 11, 12, 13, 14]
  | 5 => p 3 < 64 && allFin w [4, 5, 6] && allZero w [7, 8, 9, 10, 11, 12, 13, 14]
  | 6 => p 3 < 64 && allFin w [4, 5, 6] && fIn2 (p 7) 1 0x3FC90FDB && fIn2 (p 8) 0xBF490FDB 0x3F490FDB &&
      fIn2 (p 9) 0xBF490FDB 0x3F490FDB && fLt f0 ⟨p 7, false⟩ && allZero w [10, 11, 12, 13, 14]
  | 7 => p 3 < 16 && 2 ≤ fld (p 3) 0 3 && fld (p 3) 0 3 ≤ 6 && p 4 < 2 ^ 30 &&
      (List.range 6).all (fun e => fld (p 4) (5 * e) 4 < 12) && allFin w [5, 6, 7, 8, 9, 10] && p 14 == 0
  | 8 => 0 < p 3 && (entState (sauEnt d (kIn w 0)) < 2 || p 3 < 2 ^ entNchan (sauEnt d (kIn w 0))) && p 3 < 2 ^ 24 &&
      1 ≤ p 5 && p 5 ≤ 8 &&
      allZero w [6, 7, 8, 9, 10, 11, 12, 13, 14]
  | 9 => (diffElems w).all (fun e => entState (sauEnt d e.1) < 2 || e.2.1 < entNchan (sauEnt d e.1)) &&
      p 12 < 2 ^ 16 && 1 ≤ fld (p 12) 8 4 && fld (p 12) 8 4 ≤ 8 && 2 ≤ fld (p 12) 12 4 && fld (p 12) 12 4 ≤ 8 &&
      allZero w [13, 14]
  | 10 => p 3 < 32 && fld (p 3) 0 4 ≤ 8 && 1 ≤ kIn w 1 && kIn w 1 ≤ 7 &&
      fIn2 (p 6) 0x3F866666 0x3FA66666 && allFin w [4, 5, 7, 8, 9, 10, 11] && allZero w [12, 13, 14]
  | 11 => allFin w [3, 4, 5] && p 6 < 2 ^ 12 && 2 ≤ fld (p 6) 0 7 && fld (p 6) 0 7 ≤ 64 && bitOf (p 6) 7 == false &&
      1 ≤ fld (p 6) 8 4 && allZero w [7, 8, 9, 10, 11, 12, 13, 14]
  | 12 => allFin w [3] && allZero w [4, 5, 6, 7, 8, 9, 10, 11, 12, 13, 14]
  | 13 => allFin w [3, 4, 5, 6, 7] && allZero w [8, 9, 10, 11, 12, 13, 14]
  | _ => false

/-- Entries a kernel names. -/
def kEntries (w : List Nat) : List Nat :=
  if kCode w = 8 then [kIn w 0] else if kCode w = 9 then (diffElems w).map (fun e => e.1) else []

/-- Input records a kernel names. -/
def kInRecs (w : List Nat) : List Nat :=
  let b (i n : Nat) := (List.range n).map (fun k => kIn w i + k)
  match kCode w with
  | 3 => b 0 3
  | 4 => b 0 3 ++ b 1 3 ++ (if kIn w 2 = 0xFFFF then [] else [kIn w 2])
  | 5 => b 0 6
  | 6 => b 0 6
  | 7 => b 0 (9 * fld (entW w 3) 0 3)
  | 10 => b 0 1
  | 12 => b 0 3 ++ b 1 3
  | 13 => b 0 1 ++ b 1 1
  | _ => []

/-- Groups that a carriage's channels name. -/
def carGroups (d : Dev) (c : Nat) : List Nat :=
  ((carChans d c).filter (fun ch => chTrkEn (fchCommitted d 0 ch))).map (fun ch => chGroup (fchCommitted d 0 ch))

/-- Whether a slot lies among a carriage's channel outputs. -/
def slotOfCar (d : Dev) (c slot : Nat) : Bool :=
  (carChans d c).any (fun ch =>
    let w := fchDesc d 0 ch
    chOut w ≤ slot && slot < chSlot w 5 + fmtWidth (chFmt w))

/-- The channel of a carriage whose float32 tracked output fills a slot. -/
def trackedChan (d : Dev) (c slot : Nat) : Option Nat :=
  (carChans d c).find? (fun ch =>
    let w := fchDesc d 0 ch
    chTrkEn w && chFmt w != 0 && chSlot w 1 + chFmt w - 1 == slot)

/-- The instance of a carriage that writes a record. -/
def writerOf (d : Dev) (c r : Nat) : Option (List Nat) :=
  ((d.een.desc).find? (fun p => p.2 != [] && kCar p.2 == c && kResult p.2 ≤ r && r < kResult p.2 + kRecords p.2)).map
    (fun p => p.2)

/-- The tracking group of a record, followed through SEQ and IMPED. -/
def recGroup (d : Dev) (c : Nat) : Nat → Nat → Option Nat
  | 0, _ => none
  | f + 1, r => match writerOf d c r with
    | none => none
    | some w => if kCode w ≤ 2 then some (kIn w 1) else if kCode w = 3 ∨ kCode w = 4 then recGroup d c f (kIn w 0) else none

/-- Whether every record of a list comes from one group. -/
def oneGroup (d : Dev) (c : Nat) (rs : List Nat) : Bool :=
  match rs with
  | [] => true
  | r :: _ => (recGroup d c 8 r).isSome && rs.all (fun x => recGroup d c 8 x == recGroup d c 8 r)

/-- Whether the inputs keep the grouping and format rules of a kernel (R184, R185, R189 to R191). -/
def kFormat (d : Dev) (w : List Nat) : Bool :=
  let c := kCar w
  match kCode w with
  | 1 => (match trackedChan d c (kIn w 0) with | some ch => chGroup (fchDesc d 0 ch) == kIn w 1 | none => false)
  | 2 => (match trackedChan d c (kIn w 0) with | some ch => chGroup (fchDesc d 0 ch) == kIn w 1 | none => false)
  | 3 => oneGroup d c (kInRecs w)
  | 4 => oneGroup d c (kInRecs w)
  | 5 => (match writerOf d c (kIn w 0) with | some x => kCode x == 4 && kResult x == kIn w 0 | none => false)
  | 6 => (match writerOf d c (kIn w 0) with | some x => kCode x == 4 && kResult x == kIn w 0 | none => false)
  | 7 => oneGroup d c (kInRecs w) && (List.range (3 * fld (entW w 3) 0 3)).all (fun i =>
      match writerOf d c (kIn w 0 + 3 * i) with
      | some x => kCode x == 1 && kResult x == kIn w 0 + 3 * i && harmonics x == [2, 5]
      | none => false)
  | 8 => (bitsOf 24 (entW w 3)).length * slotsPer d (kIn w 0) ≤ 16
  | 9 =>
    let ks := (diffElems w).map (fun e => slotsPer d e.1)
    ks.all (fun k => k == ks.headD 1) && (diffElems w).length * ks.headD 1 ≤ 16
  | 12 => oneGroup d c (kInRecs w)
  | _ => true

/-- Whether the records named and written keep R172 and overlap no other instance's. -/
def kOrder (d : Dev) (i : Nat) (w : List Nat) : Bool :=
  let p0bg := carCls d (kCar w) != 0 || kBg w
  (kInRecs w).all (fun r => match writerOf d (kCar w) r with
    | none => false
    | some x => if p0bg && carCls d (kCar w) == 0 && !kBg x then true
        else if !p0bg && kBg x then false else r < kResult w) &&
    kResult w + kRecords w ≤ 1024 &&
    (carKernels d (kCar w)).all (fun p => p.1 == i || kResult w + kRecords w ≤ kResult p.2 || kResult p.2 + kRecords p.2 ≤ kResult w)

/-- Element-tick cycles of a carriage with one descriptor replaced, its seat included (R168, R170). -/
def elemCost (d : Dev) (c i : Nat) (w : List Nat) : Nat :=
  40 + (((carKernels d c).filter (fun p => p.1 != i)).map (fun p => if kEn p.2 && !kBg p.2 then kCost d p.2 else 0)).sum +
    (if kEn w && !kBg w then kCost d w else 0)

/-- The grants that a descriptor needs. -/
def kGranted (d : Dev) (w : List Nat) : Bool :=
  let c := kCar w
  (kEntries w).all (fun e => svGranted d c e && 2 ≤ entState (sauEnt d e)) &&
    (if kCode w ≤ 2 then slotOfCar d c (kIn w 0) && (carGroups d c).contains (kIn w 1) else true) &&
    (if kCode w = 11 then (carGroups d c).contains (kIn w 1) else true)

/-- Indices whose committed descriptor is a carriage's. -/
def kHeld (d : Dev) (c : Nat) : List Nat :=
  (dedup (tkeys d.een.desc ++ tkeys d.een.pend)).filter (fun i => kCommitted d i != [] && kCar (kCommitted d i) == c)

/-- Whether an index is held by another carriage, or a new descriptor would be one more than the carriage's grant. -/
def kForeign (d : Dev) (i : Nat) (w : List Nat) : Bool :=
  let old := kCommitted d i
  if old = [] then ((carImg? d (kCar w)).map (fun m => m.kernels.length)).getD 0 ≤ (kHeld d (kCar w)).length
  else kCar old != kCar w

/-- The device with every committed channel and kernel descriptor as if in force. -/
def committedView (d : Dev) : Dev :=
  { d with fch := { d.fch with desc := d.fch.pend.foldl (fun t p => tput t p.1 p.2) d.fch.desc, pend := [] },
           een := { d.een with desc := d.een.pend.foldl (fun t p => tput t p.1 p.2) d.een.desc, pend := [] } }

/-- The REASON of a commit, the lowest that holds, or 0; the descriptors it is checked against are those committed before. -/
def kReason (dev : Dev) (i : Nat) (w : List Nat) : Nat :=
  let d := committedView dev
  let old := kCommitted d i
  if kCode w = 0 || 13 < kCode w then 1
  else if fld (entW w 0) 20 12 != 0 || fld (entW w 15) 9 23 != 0 || 1024 < kResult w + kRecords w || !kParams d w then 2
  else if !kGranted d w then 3
  else if !kOrder d i w then 4
  else if !kFormat d w then 5
  else if carCls d (kCar w) == 0 && 13333 < elemCost d (kCar w) i w then 6
  else if old != [] && kCar old == kCar w && carEnabled d (kCar w) && old.take 3 != w.take 3 then 7
  else if kForeign d i w then 8 else 0

/-- EEN_DESC_CMD OP 1. -/
def eenDescRead (i : Nat) (d : Dev) : Dev := wnList (fun w => Reg.eenDescStage w) 0 (takePad 0 16 (kCommitted d i)) d

/-- Sixteen words committed as a descriptor; the descriptor table of R178 in DRAM follows. -/
def eenPlace (i : Nat) (w : List Nat) (d : Dev) : Dev :=
  let base := d.rn Reg.eenDescBaseLo + d.fldR Reg.eenDescBaseHi 0 8 * 2 ^ 32
  let d := d.storeWords (base + i * 64) (w.map w32)
  { d with een := { d.een with pend := tput d.een.pend i w } }

/-- EEN_DESC_CMD OP 2. -/
def eenDescCommit (i : Nat) (d : Dev) : Dev :=
  let w := (List.range 16).map (fun k => d.rn (Reg.eenDescStage k))
  let r := kReason d i w
  if r ≠ 0 then d.wn Reg.eenDescStatus (2 + r * 16) else eenPlace i w (journal 2 i w (d.wn Reg.eenDescStatus 0))

/-- Commits in force at a route boundary: a new instance starts as at enable, and a change of CURVE clears the accumulator
(R179, R180). -/
def eenApply (d : Dev) : Dev :=
  let p := d.een.pend
  let d := { d with een := { d.een with pend := [] } }
  p.foldl (fun d e =>
    let old := kDesc d e.1
    let d := { d with een := { d.een with desc := tput d.een.desc e.1 e.2 } }
    if old = [] then setInst e.1 (KInst.start d) d
    else if kCode e.2 = 10 && fld (entW old 3) 0 4 != fld (entW e.2 3) 0 4 then setInst e.1 { kInst d e.1 with acc := 0 } d
    else d) d

/-! The element image (R173, R174). -/

def eimgAddr (d : Dev) (c r : Nat) : Nat := carBase d c + d.rn (Reg.carEimgOfs c) + r * 32

/-- The eight words of a published record. -/
def recWords (m : List Host.Cell) (d : Dev) (c r : Nat) : List Nat :=
  (List.range 8).map (fun w => memWord m (eimgAddr d c r + w * 4))

/-- The record as a run of the carriage sees it: a background run sees records that wait for publication (R172). -/
def recSeen (m : List Host.Cell) (d : Dev) (c r : Nat) (bg : Bool) : List Nat :=
  if bg then (tfind d.een.bg (c * 1024 + r)).getD (recWords m d c r) else recWords m d c r

def fbNew : Nat := 0x10000
def fbInvalid : Nat := 0x20000
def fbNumerr : Nat := 0x200000
def fbStale : Nat := 0x400000

/-- Flag bits that a quality byte gives (R174). -/
def qFlags (q : Nat) : Nat :=
  b2n (bitOf q 0) * 0x20000 + b2n (bitOf q 1 || bitOf q 6) * 0x40000 + b2n (bitOf q 2) * 0x80000 + b2n (bitOf q 7) * 0x100000

/-- Flag bits that an input record gives a run for leg `n`: NEW only where the record holds that leg (R174). -/
def rFlags (n w0 : Nat) : Nat := (fld w0 17 4 * 2 + b2n (bitOf w0 16 && fld w0 24 8 == n % 240)) * 0x10000

/-- KFLAGS bits that survive INVALID (R176): LOW of the phasors, BLOCKED of FAST_DIFF, and the OP bits of FAST_OC. -/
def kExempt (code : Nat) : Nat := if code ≤ 2 then 1 else if code = 8 then 0xFFFF else if code = 9 then 2 else 0

/-- KFLAGS with R176 applied. -/
def maskK (code kf flags : Nat) : Nat := if bitOf flags 17 then kf &&& kExempt code else kf

/-- Word 0 of a record. -/
def recHead (code kf flags : Nat) (err : Bool) (leg : Nat) : Nat :=
  let fl := orN flags (if err then fbNumerr + fbInvalid else 0)
  maskK code (kf % 65536) fl + fld fl 16 8 * 65536 + leg % 240 * 2 ^ 24

/-- Whether an instance's records wait for publication (R171, R245). -/
def isBg (d : Dev) (w : List Nat) : Bool := kBg w || carCls d (kCar w) != 0

/-- A record written, in the image or waiting for publication; it enters its leg's digest (11 R335). -/
def recWrite (c r : Nat) (bg : Bool) (ws : List Nat) (d : Dev) : Dev :=
  let ws := takePad 0 8 ws
  let d := digRecord c (fld (entW ws 0) 24 8) r ws d
  if bg then { d with een := { d.een with bg := tput d.een.bg (c * 1024 + r) ws } }
  else d.storeWords (eimgAddr d c r) (ws.map w32)

/-- A numeric error counted and raised (R198). -/
def numErr (c : Nat) (err : Bool) (d : Dev) : Dev := if err then raise 235 (some c) c 0 (d.bump Reg.eenNumerrCnt) else d

/-- What a run produces: flags of its inputs, and per record its KFLAGS, its seven words and its errors. -/
structure KOut where
  flags : Nat
  recs  : List (Nat × List Nat × Bool)
deriving DecidableEq, Repr

/-- A result whose words are floats and whose flags come from comparisons: an error in either is the record's (R198). -/
def kFloats (fs : List FB) (kf : Nat) (vs : List FV) : Nat × List Nat × Bool :=
  (kf, vs.map (fun v => v.v), vs.any (fun v => v.err) || fs.any (fun f => f.2))

/-- Records of a run written in order from RESULT on. -/
def kStore (w : List Nat) (leg : Nat) (o : KOut) (d : Dev) : Dev :=
  ((List.range o.recs.length).zip o.recs).foldl (fun d p =>
    numErr (kCar w) p.2.2.2
      (recWrite (kCar w) (kResult w + p.1) (isBg d w)
        (recHead (kCode w) p.2.1 o.flags p.2.2.2 leg :: p.2.2.1) d)) d

/-- Flags joined over input records. -/
def joinR (n : Nat) (rs : List (List Nat)) : Nat := rs.foldl (fun f r => orN f (rFlags n (entW r 0))) 0

/-- The phasor of a record. -/
def phasor (r : List Nat) : CV := (fIn (entW r 1), fIn (entW r 2))

/-- A parameter as a float. -/
def par (w : List Nat) (k : Nat) : FV := fIn (entW w k)

/-! Phasors (R184). The kernels take the operations in the order in which the rules write them (R196; log 13). -/

/-- π and 2π as floats. -/
def fPi : FV := ⟨0x40490FDB, false⟩
def f2Pi : FV := ⟨0x40C90FDB, false⟩

/-- An angle wrapped into [-π, π): the remainder by 2π, rounded once. -/
def wrapPi (a : FV) : FV :=
  let x := f32Dec a.v
  let lo := min x.2 (-22)
  let n := x.1 * (2 : Int) ^ (x.2 - lo).toNat
  let p := (0xC90FDB : Int) * (2 : Int) ^ (-22 - lo).toNat
  let r := (n + p) % (2 * p) - p
  if r = n then a
  else
    let u := scale2 r.natAbs 1 lo
    let y := fvOf a.err (f32Enc (r < 0) u.1 u.2)
    if y.v = fPi.v then ⟨fPi.v + 2 ^ 31, y.err⟩ else y

def sqrt2o64 : FV := ⟨0x3CB504F3, false⟩

/-- (√2 / 64) times the sum over the newest 64 samples, each with its weight. -/
def dftSum (wt : Nat → FV) (x : List Nat) : FV :=
  fMul sqrt2o64 (laneSum (((List.range 64).zip x).map (fun p => fMul (fIn p.2) (wt p.1))))

/-- Magnitude and angle words of a component: RE, IM, MAG, ANG. -/
def compWords (re im : FV) : List FV := [re, im, cMag (re, im), wrapPi (fAtan2 im re)]

/-- f_est of a group as a float. -/
def fEst (d : Dev) (g : Nat) : FV := fRat (d.rn (Reg.fchTFreq g) : Nat) (2 ^ 24)

/-- The fundamental's record of a phasor kernel. -/
def fundRec (d : Dev) (w : List Nat) (x : KInst) (re im : FV) : Nat × List Nat × Bool :=
  let v := compWords re im
  let low := cmpLt (nth f0 v 2) (par w 4)
  let r := kFloats [low] (b2n low.1) v
  (r.1, r.2.1 ++ [x.tstar.1, x.tstar.2, (fEst d (kIn w 1)).v], r.2.2)

/-- A harmonic's record of PHASOR_DFT. -/
def harmRec (w : List Nat) (x : KInst) (ins : List Nat) (mag1 : FV) (h : Nat) : Nat × List Nat × Bool :=
  let v := compWords (dftSum (fun m => turnCos (h * m)) ins) (dftSum (fun m => turnSin (h * m)) ins)
  let ratio := fDiv (nth f0 v 2) mag1
  let low := cmpLt (nth f0 v 2) (par w 4)
  let r := kFloats [low] (b2n low.1) (v ++ [ratio])
  (r.1, r.2.1.take 4 ++ [x.tstar.1, x.tstar.2, ratio.v], r.2.2)

/-- Samples of a phasor ring that a window uses. -/
def ringWin (n : Nat) (x : KInst) : List (Nat × Nat) := takePad (0, qInvalid) n x.ring

def kDft (d : Dev) (w : List Nat) (x : KInst) : KOut :=
  let win := ringWin 64 x
  let ins := win.map (fun s => s.1)
  let f := fundRec d w x (dftSum turnCos ins) (dftSum turnSin ins)
  let mag1 : FV := ⟨nth 0 f.2.1 2, false⟩
  ⟨orN fbNew (qFlags (win.foldl (fun q s => orN q s.2) 0)), f :: (harmonics w).map (harmRec w x ins mag1)⟩

def kCos (d : Dev) (w : List Nat) (x : KInst) : KOut :=
  let win := ringWin 80 x
  let ins := win.map (fun s => s.1)
  let c := dftSum turnCos (ins.take 64)
  let c16 := dftSum turnCos (ins.drop 16)
  ⟨orN fbNew (qFlags (win.foldl (fun q s => orN q s.2) 0)), [fundRec d w x c (fNeg c16)]⟩

/-- A phasor run: a tracked sample of this leg is appended and the window recomputed; in a leg without one the records are
rewritten with the new LEG and NEW 0 (R184). -/
def phasorRun (m : List Host.Cell) (i n : Nat) (w : List Nat) (f : Dev → List Nat → KInst → KOut) (d : Dev) : Dev :=
  let c := kCar w
  if measLeg d c (kIn w 0) = some n then
    let v := memWord m (measBase d c + kIn w 0 * 8)
    let q := memByte m (measQAddr d c (kIn w 0))
    let x := kInst d i
    let ts := match trackedChan d c (kIn w 0) with | some ch => (fchan d ch).tstar | none => x.tstar
    let x := { x with ring := ((v, q) :: x.ring).take 80, tstar := ts }
    kStore w n (f d w x) (setInst i x d)
  else
    (List.range (kRecords w)).foldl (fun d k =>
      let r := recSeen m d c (kResult w + k) (isBg d w)
      let h := entW r 0
      let h := putFld (putFld (putFld h 16 1 0) 22 1 0) 24 8 (n % 240)
      recWrite c (kResult w + k) (isBg d w) (setNth r 0 h) d) d

/-! Sequence components and impedance (R186, R187). -/

def aRot : CV := (⟨0xBF000000, false⟩, ⟨0x3F5DB3D7, false⟩)
def aRot2 : CV := (⟨0xBF000000, false⟩, ⟨0xBF5DB3D7, false⟩)
def cThird (a : CV) : CV := (fDiv a.1 (fInt 3), fDiv a.2 (fInt 3))
def cSum3 (a b c : CV) : CV := cAdd (cAdd a b) c

/-- Zero, positive and negative sequence of three phasors. -/
def seqOf (a b c : CV) : CV × CV × CV :=
  (cThird (cSum3 a b c), cThird (cSum3 a (cMul aRot b) (cMul aRot2 c)), cThird (cSum3 a (cMul aRot2 b) (cMul aRot c)))

def kSeq (n : Nat) (rs : List (List Nat)) (w : List Nat) : KOut :=
  let p (i : Nat) : CV := phasor (nth [] rs i)
  let rot := bitOf (entW w 3) 0
  let s := seqOf (p 0) (if rot then p 2 else p 1) (if rot then p 1 else p 2)
  let m1 := cMag s.2.1
  let m2 := cMag s.2.2
  let ratio := fDiv m2 m1
  let z1 : Bool := m1.v % 2 ^ 31 == 0
  let o0 := cmpLe (par w 4) (cMag s.1)
  let o2 := cmpLe (par w 5) m2
  let or := cmpLe (par w 6) ratio
  let kf := b2n o0.1 + b2n o2.1 * 2 + b2n (!z1 && or.1) * 4
  ⟨joinR n rs, [kFloats [o0, o2, or] kf [s.1.1, s.1.2, s.2.1.1, s.2.1.2, s.2.2.1, s.2.2.2, ratio]]⟩

/-- One impedance loop: voltage and current. -/
def loopRec (w : List Nat) (flags : Nat) (v i : CV) : Nat × List Nat × Bool :=
  let im := cMag i
  let vm := cMag v
  let low := cmpLt im (par w 5)
  if low.1 then kFloats [low] 0 [f0, f0, im, vm]
  else
    let z := cDiv v i
    let r := kFloats [low] 1 [z.1, z.2, im, vm]
    (if r.2.2 || bitOf flags 17 then 0 else 1, r.2.1, r.2.2)

def kImped (n : Nat) (rs : List (List Nat)) (w : List Nat) : KOut :=
  let p (i : Nat) : CV := phasor (nth [] rs i)
  let fl := joinR n rs
  let res := if kIn w 2 = 0xFFFF then cSum3 (p 3) (p 4) (p 5) else p 6
  let k0 : CV := (par w 3, par w 4)
  let g (k : Nat) := loopRec w fl (p k) (cAdd (p (3 + k)) (cMul k0 res))
  let pp (a b : Nat) := loopRec w fl (cSub (p a) (p b)) (cSub (p (3 + a)) (p (3 + b)))
  ⟨fl, [g 0, g 1, g 2, pp 0 1, pp 1 2, pp 2 0]⟩

/-! Distance comparators (R188). -/

/-- A magnitude and an angle as a phasor. -/
def polar (mag ang : FV) : CV := (fMul mag (fCos ang), fMul mag (fSin ang))

def mhoOp (w : List Nat) (r : List Nat) : FV :=
  let z := phasor r
  let zr := polar (par w 4) (par w 5)
  let zo := polar (par w 6) (par w 5)
  (cMul (cSub zr z) (cConj (cAdd z zo))).1

/-- The four comparisons of QUAD: left and right sides, left not above right. -/
def quadSides (w : List Nat) (r : List Nat) : List (FV × FV) :=
  let z := phasor r
  let rl := fSub z.1 (fDiv z.2 (fTan (par w 7)))
  [(z.2, fSub (par w 4) (fMul z.1 (fTan (par w 8)))), (rl, par w 5), (fNeg (par w 6), rl),
   (fMul (fNeg z.1) (fTan (par w 9)), z.2)]

/-- The OP bits of a comparator over the selected valid loops, and its errors. -/
def loopsOut (n : Nat) (rs : List (List Nat)) (w : List Nat) (test : List Nat → FB) : KOut :=
  let sel := (bitsOf 6 (entW w 3)).filter (fun l => bitOf (entW (nth [] rs l) 0) 0)
  let ops := sel.map (fun l => (l, test (nth [] rs l)))
  let kf := (ops.map (fun o => b2n o.2.1 * 2 ^ o.1)).sum
  ⟨joinR n rs, [(kf + b2n (kf != 0) * 64, [], ops.any (fun o => o.2.2))]⟩

def kMho (n : Nat) (rs : List (List Nat)) (w : List Nat) : KOut :=
  loopsOut n rs w (fun r => cmpLe f0 (mhoOp w r))

def kQuad (n : Nat) (rs : List (List Nat)) (w : List Nat) : KOut :=
  loopsOut n rs w (fun r =>
    let cs := (quadSides w r).map (fun s => cmpLe s.1 s.2)
    (cs.all (fun c => c.1), cs.any (fun c => c.2)))

/-! Differential (R189). -/

/-- One end's three phasors of a harmonic compensated: ratio, zero sequence, vector group. -/
def endComp (w : List Nat) (e : Nat) (a b c : CV) : List CV :=
  let corr := fRat (fld (entW w (11 + e / 2)) (e % 2 * 16) 16 : Nat) 4096
  let vg := fld (entW w 4) (5 * e) 4
  let zsr := bitOf (entW w 4) (5 * e + 4)
  let s := seqOf (cScale corr a) (cScale corr b) (cScale corr c)
  let ang := fMul (fInt (vg : Nat)) ⟨0x3F060A92, false⟩
  let z0 : CV := if zsr then (f0, f0) else s.1
  let p := cMul s.2.1 (polar f1 (fNeg ang))
  let n := cMul s.2.2 (polar f1 ang)
  [cSum3 z0 p n, cSum3 z0 (cMul aRot2 p) (cMul aRot n), cSum3 z0 (cMul aRot p) (cMul aRot2 n)]

/-- The compensated phasors of every end of harmonic index `k`. -/
def endsOf (rs : List (List Nat)) (w : List Nat) (k : Nat) : List (List CV) :=
  (List.range (fld (entW w 3) 0 3)).map (fun e =>
    let p (f : Nat) : CV := phasor (nth [] rs (3 * (3 * e + f) + k))
    endComp w e (p 0) (p 1) (p 2))

def cSumL (l : List CV) : CV := l.foldl cAdd (f0, f0)
def fSumL (l : List FV) : FV := l.foldl fAdd f0

/-- T(Ir); the choice of its branch is a comparison, whose error is the value's. -/
def diffChar (w : List Nat) (ir : FV) : FV :=
  let lo := cmpLe ir (par w 8)
  let t := if lo.1 then fMax (par w 5) (fMul (par w 6) ir)
    else fAdd (fMul (par w 6) (par w 8)) (fMul (par w 7) (fSub ir (par w 8)))
  ⟨t.v, t.err || lo.2⟩

def kDiff (n : Nat) (rs : List (List Nat)) (w : List Nat) : KOut :=
  let e1 := endsOf rs w 0
  let e2 := endsOf rs w 1
  let e5 := endsOf rs w 2
  let ph (es : List (List CV)) (f : Nat) : List CV := es.map (fun e => nth (f0, f0) e f)
  let mag (es : List (List CV)) (f : Nat) : FV := cMag (cSumL (ph es f))
  let fs := List.range 3
  let idv := fs.map (mag e1)
  let irv := fs.map (fun f => fDiv (fSumL ((ph e1 f).map cMag)) (fInt 2))
  let h2 := fs.map (mag e2)
  let h5 := fs.map (mag e5)
  let ops := fs.map (fun f => cmpLe (diffChar w (nth f0 irv f)) (nth f0 idv f))
  let b2 := fs.map (fun f => cmpLe (fMul (par w 9) (nth f0 idv f)) (nth f0 h2 f))
  let b5 := fs.map (fun f => cmpLe (fMul (par w 10) (nth f0 idv f)) (nth f0 h5 f))
  let on (l : List FB) (f : Nat) : Bool := (nth (false, false) l f).1
  let blk (f : Nat) : Bool := if bitOf (entW w 3) 3 then (b2 ++ b5).any (fun b => b.1) else on b2 f || on b5 f
  let trip := fs.any (fun f => on ops f && !blk f)
  let w7 := (fs.map (fun f => fDiv (nth f0 h2 f) (nth f0 idv f))).foldl fMax f0
  let kf := ofBits ((ops ++ b2 ++ b5).map (fun b => b.1) ++ [trip])
  ⟨joinR n rs, [kFloats (ops ++ b2 ++ b5) kf (idv ++ irv ++ [w7])]⟩

/-! Fast-path elements (R190, R191). -/

/-- One element of a gather for a carriage: its value, its quality, and whether it faulted (04 R132). -/
def fastElem (d : Dev) (c n e ch j : Nat) : Int × Nat × Bool := gatherAt d (some c) (e, ch, n, j)

/-- One slot through a counter: the counter and OP state after it. -/
def countSlot (conf : Nat) (s : Nat × Bool) (hit : Option Bool) : Nat × Bool :=
  match hit with
  | none => (0, s.2)
  | some false => (0, false)
  | some true => (s.1 + 1, s.2 || conf ≤ s.1 + 1)

/-- The first largest magnitude of a list of elements with their positions. -/
def firstMax : List (Nat × Nat) → Option (Nat × Nat)
  | [] => none
  | (p, v) :: l => match firstMax l with
    | some (q, u) => if u ≤ v then some (p, v) else some (q, u)
    | none => some (p, v)

def kFastOc (d : Dev) (n : Nat) (w : List Nat) (x : KInst) : KOut × KInst :=
  let chs := bitsOf 24 (entW w 3)
  let k := slotsPer d (kIn w 0)
  let els := chs.map (fun ch => (List.range k).map (fun j => fastElem d (kCar w) n (kIn w 0) ch j))
  let old := takePad (0, false) chs.length x.cnts
  let new := (old.zip els).map (fun p => p.2.foldl (fun s e =>
    countSlot (entW w 5) s (if e.2.2 then none else some (entW w 4 ≤ e.1.natAbs))) p.1)
  let flat := els.flatten
  let good := ((List.range flat.length).zip flat).filter (fun p => !p.2.2.2)
  let top := firstMax (good.map (fun p => (p.1, p.2.1.natAbs)))
  let q := flat.foldl (fun q e => orN q e.2.1) 0
  let isNew := good.any (fun p => !bitOf p.2.2.1 6)
  let ws := match top with | some t => [t.2, t.1] | none => [0, 0xFFFFFFFF]
  (⟨orN (qFlags q) (if isNew then fbNew else 0), [(ofBits (new.map (fun s => s.2)), ws, false)]⟩, { x with cnts := new })

def kFastDiff (d : Dev) (n : Nat) (w : List Nat) (x : KInst) : KOut × KInst :=
  let es := diffElems w
  let k := slotsPer d ((es.headD (0, 0, 0)).1)
  let slots := (List.range k).map (fun j => es.map (fun e => (e.2.2, fastElem d (kCar w) n e.1 e.2.1 j)))
  let dOf (s : List (Nat × Int × Nat × Bool)) : Int := s.foldl (fun a e => a + (e.1 : Int) * e.2.1) 0
  let rOf (s : List (Nat × Int × Nat × Bool)) : Int := s.foldl (fun a e => a + (e.1 : Int) * absI e.2.1) 0
  let bad (s : List (Nat × Int × Nat × Bool)) : Bool := s.any (fun e => e.2.2.2)
  let lim (s : List (Nat × Int × Nat × Bool)) : Int := (entW w 11 * 4096 : Nat) + shrI (rOf s * (fld (entW w 12) 0 8 : Nat)) 8
  let st := slots.foldl (fun a s =>
    countSlot (fld (entW w 12) 8 4) a (if bad s then none else some (lim s ≤ absI (dOf s)))) ((x.cnts.head?).getD (0, false))
  let good := ((List.range k).zip slots).filter (fun p => !bad p.2)
  let top := firstMax (good.map (fun p => (p.1, (dOf p.2).natAbs)))
  let ws := match top with
    | some t => [t.2 / 4096, (rOf (nth [] slots t.1)).natAbs / 4096]
    | none => [0, 0]
  let all := slots.flatten
  let q := all.foldl (fun q e => orN q e.2.2.1) 0
  let isNew := all.any (fun e => !e.2.2.2 && !bitOf e.2.2.1 6)
  let blocked := slots.any bad
  (⟨orN (qFlags q) (if isNew then fbNew else 0), [(b2n st.2 + b2n blocked * 2, ws, false)]⟩, { x with cnts := [st] })

/-- The elements that a fast-path run gathers. -/
def fastElems (d : Dev) (n : Nat) (w : List Nat) : List GElem :=
  if kCode w = 8 then
    (bitsOf 24 (entW w 3)).flatMap (fun ch => (List.range (slotsPer d (kIn w 0))).map (fun j => (kIn w 0, ch, n, j)))
  else if kCode w = 9 then
    (diffElems w).flatMap (fun e => (List.range (slotsPer d e.1)).map (fun j => (e.1, e.2.1, n, j)))
  else []

/-! Curve timers (R192). -/

/-- K, ALPHA, C and TR of a curve as fractions; `none` where the descriptor gives it. -/
def curveTable : Nat → Option ((Int × Nat) × (Int × Nat) × (Int × Nat) × Option (Int × Nat))
  | 1 => some ((14, 100), (2, 100), (0, 1), none)
  | 2 => some ((135, 10), (1, 1), (0, 1), none)
  | 3 => some ((80, 1), (2, 1), (0, 1), none)
  | 4 => some ((120, 1), (1, 1), (0, 1), none)
  | 5 => some ((515, 10000), (2, 100), (114, 1000), some (485, 100))
  | 6 => some ((1961, 100), (2, 1), (491, 1000), some (216, 10))
  | 7 => some ((282, 10), (2, 1), (1217, 10000), some (291, 10))
  | _ => none

def frac (p : Int × Nat) : FV := fRat p.1 p.2

/-- t(G) for a multiple g of the setting. -/
def curveTime (w : List Nat) (g : FV) : FV :=
  let cv := fld (entW w 3) 0 4
  if cv = 0 then fMul (par w 4) (par w 9)
  else
    let kac : FV × FV × FV := match curveTable cv with
      | some t => (frac t.1, frac t.2.1, frac t.2.2.1)
      | none => (par w 7, par w 8, par w 9)
    fMax (par w 11) (fMul (par w 4) (fAdd (fDiv kac.1 (fSub (fPow g kac.2.1) f1)) kac.2.2))

/-- TR of the curve. -/
def curveTr (w : List Nat) : FV :=
  match curveTable (fld (entW w 3) 0 4) with
  | some (_, _, _, some t) => frac t
  | _ => par w 10

def tLeg : FV := fRat 1 4800

def kIdmt (n : Nat) (r : List Nat) (w : List Nat) (x : KInst) : KOut × KInst :=
  let g := fIn (entW r (fld (kIn w 1) 0 3))
  let ratio := fDiv g (par w 5)
  let a : FV := ⟨x.acc, false⟩
  let start := cmpLe (fMul (par w 6) (par w 5)) g
  let tt := curveTime w (fMin ratio (fInt 20))
  let reset := bitOf (entW w 3) 4
  let lim := fMin ratio (fRat 95 100)
  let tr := fDiv (fMul (par w 4) (curveTr w)) (fSub f1 (fMul lim lim))
  let next : FV :=
    if start.1 then fMin f1 (fAdd a (fDiv tLeg tt))
    else if reset then fMax f0 (fSub a (fDiv tLeg tr)) else f0
  let held := bitOf (entW r 0) 17
  let a2 : FV := if held then a else next
  let kf := b2n start.1 + b2n (a2.v == f1.v) * 2 + b2n (!start.1 && reset) * 4
  (⟨joinR n [r], [kFloats [start] kf [ratio, a2, tt]]⟩, { x with acc := a2.v })

/-! Frequency (R193). -/

/-- A consecutive count after a cycle end. -/
def runCount (cond : Bool) (n : Nat) : Nat := if cond then n + 1 else 0

def kFreq (d : Dev) (n : Nat) (w : List Nat) (x : KInst) (old : List Nat) : KOut × KInst :=
  let g := kIn w 1
  let f := fEst d g
  if grpState d g ≠ tTrack then
    (⟨fbInvalid, [(0, [f.v, entW old 2], false)]⟩, { x with freqs := [], runs := [0, 0, 0] })
  else
    let isEnd := (fgrp d g).ends.any (fun e => e.1 == n)
    let wn := fld (entW w 6) 0 7
    let conf := fld (entW w 6) 8 4
    if !isEnd then
      (⟨if x.freqs.length ≤ wn then fbInvalid else 0, [(fld (entW old 0) 0 3, [f.v, entW old 2], false)]⟩, x)
    else
      let hs := (f.v :: x.freqs).take 65
      let past := nth 0 hs wn
      let dfdt := fDiv (fMul (fSub f ⟨past, false⟩) f) (fInt (wn : Nat))
      let high := cmpLe (par w 3) f
      let under := cmpLe f (par w 4)
      let rocof := cmpLe (par w 5) (fAbs dfdt)
      let runs := [runCount high.1 (nth 0 x.runs 0), runCount under.1 (nth 0 x.runs 1),
        runCount (wn < hs.length && rocof.1) (nth 0 x.runs 2)]
      let kf := ofBits (runs.map (fun r => conf ≤ r))
      (⟨orN fbNew (if hs.length ≤ wn then fbInvalid else 0), [kFloats [high, under, rocof] kf [f, dfdt]]⟩,
        { x with freqs := hs, runs := runs })

/-! Power and synchro-check (R194, R195). -/

def kPower (n : Nat) (rs : List (List Nat)) (w : List Nat) : KOut :=
  let p (i : Nat) : CV := phasor (nth [] rs i)
  let s (i : Nat) : CV := cMul (p i) (cConj (p (3 + i)))
  let tot := cSum3 (s 0) (s 1) (s 2)
  let sm := cMag tot
  let pf := if sm.v % 2 ^ 31 = 0 then f0 else fDiv tot.1 sm
  let rev := cmpLe tot.1 (fNeg (par w 3))
  ⟨joinR n rs, [kFloats [rev] (b2n rev.1) [tot.1, tot.2, sm, pf, (s 0).1, (s 1).1, (s 2).1]]⟩

/-- Legs and 2^-16 legs between two instants t*, each a TickCode and mu'. -/
def tstarDiff (tc1 m1 tc2 m2 : Nat) : Int :=
  let r := sx 20 (tc1 / 4096 % 2 ^ 20 + 2 ^ 20 - tc2 / 4096 % 2 ^ 20)
  let l : Int := (tc1 / 16 % 256 : Nat) - (tc2 / 16 % 256 : Nat)
  (r * 240 + l) * 65536 - ((m1 : Int) - (m2 : Int))

def kSync (n : Nat) (r1 r2 : List Nat) (w : List Nat) : KOut :=
  let v1 := fIn (entW r1 3)
  let v2 := fIn (entW r2 3)
  let dt := fRat (raDiv (tstarDiff (entW r1 5) (fld (entW r1 6) 0 16) (entW r2 5) (fld (entW r2 6) 0 16) * 1000000000)
    (4800 * 65536)) 1000000000
  let f2 := fIn (entW r2 7)
  let du := fSub v1 v2
  let df := fSub (fIn (entW r1 7)) f2
  let dphi := wrapPi (fSub (fSub (fIn (entW r1 4)) (fIn (entW r2 4))) (fMul (fMul f2Pi f2) dt))
  let live1 := cmpLe (par w 6) v1
  let live2 := cmpLe (par w 6) v2
  let dead1 := cmpLt v1 (par w 7)
  let dead2 := cmpLt v2 (par w 7)
  let ins := [cmpLe (fAbs du) (par w 3), cmpLe (fAbs df) (par w 4), cmpLe (fAbs dphi) (par w 5)]
  let lim := live1.1 && live2.1 && ins.all (fun c => c.1)
  ⟨joinR n [r1, r2], [kFloats ([live1, live2, dead1, dead2] ++ ins)
    (ofBits [lim, live1.1, live2.1, dead1.1, dead2.1]) [du, df, dphi]]⟩

/-! A run (R170 to R172, R197). -/

/-- Role of an engine: 0 active, 1 spare, 2 inspection, 3 retired. -/
def eRole (d : Dev) (e : Nat) : Nat := d.fldR (Reg.eenEStatus e) 0 2

/-- Whether an instance has run for a leg or a later one. -/
def ranFor (x : KInst) (n : Nat) : Bool := match x.last with | some k => n ≤ k | none => false

/-- The enabled instances of an instance's carriage that run in the same window, with their descriptors, in ascending order of RESULT
(R172; 08 R248). -/
def kList (d : Dev) (w : List Nat) : List (Nat × List Nat) :=
  isort (fun a b => kResult a.2 ≤ kResult b.2) ((carKernels d (kCar w)).filter (fun p => isBg d p.2 == isBg d w))

/-- Whether instance `i` may run for leg `n` on an engine: an active engine, the engines enabled, the carriage running and not shed, the leg
declared, no run of the instance for it yet, and none of an instance of a higher RESULT in its window (R170, R172; 00_scope R586). -/
def kCan (d : Dev) (e i n : Nat) : Bool :=
  let w := kDesc d i
  w != [] && kEn w && eRole d e == 0 && d.enabled Reg.eenCtrl && carRuns d (kCar w) && !isShed d (kCar w) &&
    (match d.sau.declared with | some k => n ≤ k | none => false) && !ranFor (kInst d i) n &&
    (kList d w).all (fun p => kResult p.2 ≤ kResult w || !ranFor (kInst d p.1) n)

/-- The leg that an instance of a warm restore runs next while it has not reached the latest declared leg (10 R316). -/
def kernBehind (d : Dev) (i : Nat) (w : List Nat) : Option Nat :=
  if !warmUp d (kCar w) then none
  else match (kInst d i).last, d.sau.declared with
    | some l, some m => if l + 2 < m then some (l + 1) else none
    | _, _ => none

/-- The subscription entries that a carriage reads: those of its channels and of its fast-path kernels (10 R316). -/
def carEntries (d : Dev) (c : Nat) : List Nat :=
  (carChans d c).map (fun ch => chEntry (fchDesc d 0 ch)) ++ (carKernels d c).flatMap (fun p =>
    if kCode p.2 = 8 then [kIn p.2 0] else if kCode p.2 = 9 then (diffElems p.2).map (fun e => e.1) else [])

/-- The records that a run reads. -/
def runIns (m : List Host.Cell) (d : Dev) (w : List Nat) : List (List Nat) :=
  (kInRecs w).map (fun r => recSeen m d (kCar w) r (isBg d w))

/-- A run marked done for leg `n` by an engine, its cycles counted. -/
def kRan (e i n : Nat) (w : List Nat) (d : Dev) : Dev :=
  let cost := kCost d w
  let d := setInst i { kInst d i with last := some n, stale := 0 } d
  let d := if carCls d (kCar w) = 2 then p2Done n 1 i d else d
  { d with een := { d.een with tickCyc := tput d.een.tickCyc e (tget 0 d.een.tickCyc e + cost),
                               routeCyc := tput d.een.routeCyc e (tget 0 d.een.routeCyc e + cost),
                               ranOn := tput d.een.ranOn i e } }

/-- What a run of a kernel for leg `n` gives: its records and the instance's next state. -/
def kResultOf (m : List Host.Cell) (d : Dev) (n : Nat) (w : List Nat) (x : KInst) : KOut × KInst :=
  let rs := runIns m d w
  match kCode w with
  | 3 => (kSeq n rs w, x)
  | 4 => (kImped n rs w, x)
  | 5 => (kMho n rs w, x)
  | 6 => (kQuad n rs w, x)
  | 7 => (kDiff n rs w, x)
  | 8 => kFastOc d n w x
  | 9 => kFastDiff d n w x
  | 10 => kIdmt n (nth [] rs 0) w x
  | 11 => kFreq d n w x (recSeen m d (kCar w) (kResult w) (isBg d w))
  | 12 => (kPower n rs w, x)
  | 13 => (kSync n (nth [] rs 0) (nth [] rs 1) w, x)
  | _ => (⟨0, []⟩, x)

/-- A run of instance `i` for leg `n` on an engine. -/
def kRun (m : List Host.Cell) (e i n : Nat) (d : Dev) : Dev :=
  let w := kDesc d i
  let d := gatherEcc (some (kCar w)) (fastElems d n w) d
  if kCode w = 1 then kRan e i n w (phasorRun m i n w kDft d)
  else if kCode w = 2 then kRan e i n w (phasorRun m i n w kCos d)
  else
    let o := kResultOf m d n w (kInst d i)
    kRan e i n w (kStore w n o.1 (setInst i o.2 d))

/-! Publication and staleness, at the ticks that R171 and R177 name. -/

/-- Records of background runs published at the start of an element tick (R171, R245). -/
def bgPublish (d : Dev) : Dev :=
  let b := d.een.bg
  b.foldl (fun d p => d.storeWords (eimgAddr d (p.1 / 1024) (p.1 % 1024)) (p.2.map w32))
    { d with een := { d.een with bg := [] } }

/-- One record becomes STALE for leg `n`; for a second consecutive leg also INVALID (R177). Nothing in it is new in that leg. -/
def markStale (m : List Host.Cell) (code c r n : Nat) (second : Bool) (d : Dev) : Dev :=
  let w0 := putFld (memWord m (eimgAddr d c r)) 16 1 0
  let w1 := orN w0 (fbStale + (if second then fbInvalid else 0))
  let kf := maskK code (w1 % 65536) w1
  let w := w1 - w1 % 65536 + kf
  let d := digRecord c n r (w :: (List.range 7).map (fun k => memWord m (eimgAddr d c r + 4 * (k + 1)))) d
  raise 236 (some c) c r ((d.bump Reg.eenStaleCnt).storeWords (eimgAddr d c r) [w32 w])

/-- The records of an instance become STALE for leg `n`. -/
def staleInst (m : List Host.Cell) (n i : Nat) (w : List Nat) (d : Dev) : Dev :=
  let x := kInst d i
  let d := setInst i { x with stale := x.stale + 1 } d
  let d := { d with een := { d.een with lost := d.een.lost.filter (fun j => j != (i, n)) } }
  (List.range (kRecords w)).foldl (fun d k => markStale m (kCode w) (kCar w) (kResult w + k) n (1 ≤ x.stale) d) d

/-- The leg for which an instance is judged at an element or Harness tick of leg `n`: an element-tick instance for that leg, a deferred one
for the leg before, and one of a P2 carriage, whose runs may fall in the arbitrating window of the leg after, for the one before that. -/
def judged (d : Dev) (w : List Nat) (n : Nat) : Option Nat :=
  let b := if !isBg d w then 0 else if carCls d (kCar w) = 2 then 2 else 1
  if n < b then none else some (n - b)

/-- The enabled instances of running carriages, foreground or background, that did not run for the leg they are judged for, or whose engine
was lost in it (R177, R200). -/
def staleRun (bg : Bool) (n : Nat) (m : List Host.Cell) (d : Dev) : Dev :=
  ((d.een.desc).filter (fun p => p.2 != [] && kEn p.2 && isBg d p.2 == bg && carRuns d (kCar p.2) &&
      (kernBehind d p.1 p.2).isNone)).foldl (fun d p =>
    match judged d p.2 n with
    | none => d
    | some l => if ranFor (kInst d p.1) l && !d.een.lost.contains (p.1, l) then d else staleInst m l p.1 p.2 d) d

/-- The runs that an engine made for the present leg are lost with it (R200): records still to be judged become STALE when they are, and
records already in use become STALE at once. -/
def runsLost (m : List Host.Cell) (e : Nat) (d : Dev) : Dev :=
  match (relLegs d 1).getLast? with
  | none => d
  | some (n, _) =>
    ((d.een.desc).filter (fun p => p.2 != [] && tfind d.een.ranOn p.1 == some e)).foldl (fun d p =>
      match (kInst d p.1).last with
      | none => d
      | some l =>
        let now := if carCls d (kCar p.2) = 2 then n - 1 ≤ l else n = l
        if !now then d
        else if isBg d p.2 || d.tim.absTick < stagePoint d 2 n then { d with een := { d.een with lost := (p.1, l) :: d.een.lost } }
        else staleInst m n p.1 p.2 d) d

/-- EEN_DESC_READ (R179). -/
def execEenDescRead (index : Nat) (s : State) : Outcome := s.act (onlyIf (index < 65536) (eenDescRead index))

end Sys2Proof.Machine
end

