-- ==== Sys2Proof/Machine/Harness.lean ====
section
/-! DEFINITION. The Harness engines: operand space, instructions, scans, and the freeze of their inputs
(07 R204 to R214, R224 to R238). -/

namespace Sys2Proof.Machine

def HTim.zero : HTim := ⟨0, false, false, none⟩
def HCnt.zero : HCnt := ⟨0, false, false⟩
def HCar.empty : HCar :=
  ⟨none, none, none, [], [], [], [], [], (0, []), none, 0, false, false, false, [], [], false, false⟩

def hcar (d : Dev) (c : Nat) : HCar := tget HCar.empty d.hle.cars c
def setHcar (c : Nat) (x : HCar) (d : Dev) : Dev := { d with hle := { d.hle with cars := tput d.hle.cars c x } }

/-- The context of a scan with a new state. -/
def setCtx (e : Nat) (x : HCtx) (d : Dev) : Dev := { d with hle := { d.hle with ctx := tput d.hle.ctx e x } }
def dropCtx (e : Nat) (d : Dev) : Dev := { d with hle := { d.hle with ctx := tdel d.hle.ctx e } }

/-- A carriage's scans in progress and its records waiting for publication are dropped. -/
def dropWork (c : Nat) (d : Dev) : Dev :=
  { d with hle := { d.hle with ctx := d.hle.ctx.filter (fun p => p.2.car != c) },
           een := { d.een with bg := d.een.bg.filter (fun p => p.1 / 1024 != c) } }

/-! The operand space (R212). -/

/-- Words that instructions may write: flags, retentive, outputs, timer PT, counter PV (R225). -/
def hWritable (a : Nat) : Bool :=
  (0x800 ≤ a && a < 0x10C0) || (0x1200 ≤ a && a < 0x1300) || (0x1500 ≤ a && a < 0x1600)

def hTim (x : HCtx) (t : Nat) : HTim := tget HTim.zero x.tims t
def hCnt (x : HCtx) (n : Nat) : HCnt := tget HCnt.zero x.cnts n

/-- A counter's preset, signed. -/
def hPv (x : HCtx) (n : Nat) : Int := sx 32 (tget 0 x.wr (0x1500 + n))
def hPt (x : HCtx) (t : Nat) : Nat := tget 0 x.wr (0x1200 + t)

/-- The word at a word address. -/
def hWord (x : HCtx) (a : Nat) : Nat :=
  if hWritable a then tget 0 x.wr a
  else if 0x1100 ≤ a ∧ a < 0x1200 then (hTim x (a - 0x1100)).et
  else if 0x1300 ≤ a ∧ a < 0x1308 then
    ofBits ((List.range 32).map (fun i => decide ((a - 0x1300) * 32 + i < x.ntim) && (hTim x ((a - 0x1300) * 32 + i)).q))
  else if 0x1400 ≤ a ∧ a < 0x1500 then wrapN 32 (hCnt x (a - 0x1400)).cv
  else if 0x1600 ≤ a ∧ a < 0x1608 then
    ofBits ((List.range 32).map (fun i =>
      let n := (a - 0x1600) * 32 + i
      decide (n < x.ncnt) && decide (hPv x n ≤ (hCnt x n).cv)))
  else tget 0 x.inp a

/-- The bit at a bit address. -/
def hBit (x : HCtx) (b : Nat) : Bool := bitOf (hWord x (b / 32)) (b % 32)

/-- The copy with a word written, where the area is writable. -/
def hPut (a v : Nat) (x : HCtx) : HCtx := if hWritable a then { x with wr := tset 0 x.wr a (v % 2 ^ 32) } else x

/-- The copy with a bit written. -/
def hPutBit (b : Nat) (v : Bool) (x : HCtx) : HCtx := hPut (b / 32) (putFld (hWord x (b / 32)) (b % 32) 1 (b2n v)) x

/-- On to the next instruction. -/
def hNext (x : HCtx) : HCtx := { x with pc := x.pc + 1 }

/-! The instructions (R225 to R232). -/

def hLd (b : Nat) (neg : Bool) (x : HCtx) : HCtx := hNext { x with acc := hBit x b != neg }
def hAnd (b : Nat) (neg : Bool) (x : HCtx) : HCtx := hNext { x with acc := x.acc && (hBit x b != neg) }
def hOr (b : Nat) (neg : Bool) (x : HCtx) : HCtx := hNext { x with acc := x.acc || (hBit x b != neg) }
def hXor (b : Nat) (neg : Bool) (x : HCtx) : HCtx := hNext { x with acc := x.acc != (hBit x b != neg) }
def hPush (op : Nat) (x : HCtx) : HCtx := hNext { x with stack := (x.acc, op) :: x.stack }

/-- A group's pending operation: 1 AND, 2 OR, 3 XOR. -/
def hOp (op : Nat) (a b : Bool) : Bool := if op = 1 then a && b else if op = 2 then a || b else a != b

def hPop (neg : Bool) (x : HCtx) : HCtx :=
  match x.stack with
  | (a, op) :: st => hNext { x with stack := st, acc := hOp op a (x.acc != neg) }
  | [] => hNext x

def hNot (x : HCtx) : HCtx := hNext { x with acc := !x.acc }
def hSeta (v : Bool) (x : HCtx) : HCtx := hNext { x with acc := v }
def hSt (b : Nat) (neg : Bool) (x : HCtx) : HCtx := hNext (hPutBit b (x.acc != neg) x)
def hSet (b : Nat) (x : HCtx) : HCtx := hNext (if x.acc then hPutBit b true x else x)
def hRst (b : Nat) (x : HCtx) : HCtx := hNext (if x.acc then hPutBit b false x else x)

/-- RISE (R232). -/
def hRise (b : Nat) (x : HCtx) : HCtx :=
  let r := x.acc && !hBit x b
  hNext { hPutBit b x.acc x with acc := r }

/-- FALL (R232). -/
def hFall (b : Nat) (x : HCtx) : HCtx :=
  let r := !x.acc && hBit x b
  hNext { hPutBit b x.acc x with acc := r }

/-- Ticks since a timer's previous execution (R229); 16 in a Hold step (R237). -/
def hDelta (x : HCtx) (t : HTim) : Nat :=
  if x.hold then 16
  else match t.last with
    | some l => min 0xFFFFFFFF (16 * (x.leg - l))
    | none => 0

/-- TON, TOF and TP (R230). -/
def hTmrStep (kind : Nat) (inp : Bool) (pt delta : Nat) (t : HTim) : HTim :=
  if kind = 0 then
    let et := if inp && t.p then min pt (t.et + delta) else 0
    { t with et := et, q := inp && decide (pt ≤ et) }
  else if kind = 1 then
    if inp then { t with et := 0, q := true }
    else if t.p then { t with et := 0, q := decide (0 < pt) }
    else
      let et := min pt (t.et + delta)
      { t with et := et, q := decide (et < pt) }
  else
    if inp && !t.p && !t.q then { t with et := 0, q := decide (0 < pt) }
    else if t.q then
      let et := min pt (t.et + delta)
      { t with et := et, q := decide (et < pt) }
    else t

def hTmr (n kind : Nat) (x : HCtx) : HCtx :=
  let t := hTim x n
  let t := { hTmrStep kind x.acc (hPt x n) (hDelta x t) t with p := x.acc, last := some x.leg }
  hNext { x with tims := tput x.tims n t, acc := t.q }

/-- CTU (R231). -/
def hCtu (n : Nat) (x : HCtx) : HCtx :=
  let c := hCnt x n
  let cv := if x.acc && !c.pu then satS 32 (c.cv + 1) else c.cv
  hNext { x with cnts := tput x.cnts n { c with cv := cv, pu := x.acc }, acc := decide (hPv x n ≤ cv) }

/-- CTD (R231). -/
def hCtd (n : Nat) (x : HCtx) : HCtx :=
  let c := hCnt x n
  let cv := if x.acc && !c.pd then satS 32 (c.cv - 1) else c.cv
  hNext { x with cnts := tput x.cnts n { c with cv := cv, pd := x.acc }, acc := decide (cv ≤ 0) }

def hCrst (n : Nat) (x : HCtx) : HCtx :=
  hNext (if x.acc then { x with cnts := tput x.cnts n { hCnt x n with cv := 0 } } else x)
def hCld (n : Nat) (x : HCtx) : HCtx :=
  hNext (if x.acc then { x with cnts := tput x.cnts n { hCnt x n with cv := hPv x n } } else x)

def hLdw (a : Nat) (x : HCtx) : HCtx := hNext { x with w := hWord x a }
def hLdi (imm : Int) (x : HCtx) : HCtx := hNext { x with w := wrapN 32 imm }
def hLdhi (v : Nat) (x : HCtx) : HCtx := hNext { x with w := putFld x.w 20 12 v }
def hStw (a : Nat) (cond : Bool) (x : HCtx) : HCtx := hNext (if cond && !x.acc then x else hPut a x.w x)

/-- Signed arithmetic: saturating, or modulo 2^32 with WRAP (R226). -/
def hArith (wrap : Bool) (r : Int) : Nat := if wrap then wrapN 32 r else wrapN 32 (satS 32 r)

def hAdd (a : Nat) (wrap : Bool) (x : HCtx) : HCtx := hNext { x with w := hArith wrap (sx 32 x.w + sx 32 (hWord x a)) }
def hSub (a : Nat) (wrap : Bool) (x : HCtx) : HCtx := hNext { x with w := hArith wrap (sx 32 x.w - sx 32 (hWord x a)) }
def hAddi (imm : Int) (wrap : Bool) (x : HCtx) : HCtx := hNext { x with w := hArith wrap (sx 32 x.w + imm) }

/-- REL codes 0 to 5 over an order and an equality (R226). -/
def hRel (rel : Nat) (eq lt : Bool) : Bool :=
  match rel with
  | 0 => eq
  | 1 => !eq
  | 2 => lt
  | 3 => lt || eq
  | 4 => !lt && !eq
  | 5 => !lt
  | _ => false

/-- Whether bits are a NaN. -/
def f32Nan (w : Nat) : Bool := fld w 23 8 == 255 && fld w 0 23 != 0

/-- The order of binary32 as a number; infinities lie beyond every finite value, subnormals keep their value. -/
def f32Key (w : Nat) : Int := if bitOf w 31 then -((fld w 0 31 : Nat) : Int) else (fld w 0 31 : Nat)

/-- CMP (R226): FLOAT compares as float32, a NaN giving 0 before NEG. -/
def hCmp (a rel : Nat) (float neg : Bool) (x : HCtx) : HCtx :=
  let v := hWord x a
  let r :=
    if float then !f32Nan x.w && !f32Nan v && hRel rel (f32Key x.w == f32Key v) (decide (f32Key x.w < f32Key v))
    else hRel rel (sx 32 x.w == sx 32 v) (decide (sx 32 x.w < sx 32 v))
  hNext { x with acc := r != neg }

def hCmpi (imm : Int) (rel : Nat) (neg : Bool) (x : HCtx) : HCtx :=
  hNext { x with acc := hRel rel (sx 32 x.w == imm) (decide (sx 32 x.w < imm)) != neg }

def hInc (a : Nat) (x : HCtx) : HCtx := hNext (if x.acc then hPut a (wrapN 32 (satS 32 (sx 32 (hWord x a) + 1))) x else x)
def hDec (a : Nat) (x : HCtx) : HCtx := hNext (if x.acc then hPut a (wrapN 32 (satS 32 (sx 32 (hWord x a) - 1))) x else x)
def hAndw (a : Nat) (x : HCtx) : HCtx := hNext { x with w := x.w &&& hWord x a }
def hOrw (a : Nat) (x : HCtx) : HCtx := hNext { x with w := x.w ||| hWord x a }
def hXorw (a : Nat) (x : HCtx) : HCtx := hNext { x with w := x.w ^^^ hWord x a }
def hShf (right : Bool) (n : Nat) (x : HCtx) : HCtx :=
  hNext { x with w := if right then wrapN 32 (shrI (sx 32 x.w) n) else x.w * 2 ^ n % 2 ^ 32 }
def hTstb (bit : Nat) (neg : Bool) (x : HCtx) : HCtx := hNext { x with acc := bitOf x.w bit != neg }

/-- JMP (R225): 0 always, 1 if ACC, 2 if not ACC. -/
def hJmp (k cond : Nat) (x : HCtx) : HCtx :=
  if cond = 0 || (cond = 1 && x.acc) || (cond = 2 && !x.acc) then { x with pc := x.pc + k } else hNext x

/-- One instruction word of R224 executed; END and words that no loaded program holds leave the copy as it is. -/
def hInstr (w : Nat) (x : HCtx) : HCtx :=
  let neg := bitOf w 25
  let arg := fld w 20 5
  let ad := fld w 0 20
  let wa := fld w 0 14
  let imm := sx 20 ad
  match fld w 26 6 with
  | 0x00 => hNext x
  | 0x01 => hLd ad neg x
  | 0x02 => hAnd ad neg x
  | 0x03 => hOr ad neg x
  | 0x04 => hXor ad neg x
  | 0x05 => hPush 1 x
  | 0x06 => hPush 2 x
  | 0x07 => hPush 3 x
  | 0x08 => hPop neg x
  | 0x09 => hNot x
  | 0x0A => hSeta (bitOf arg 0) x
  | 0x0B => hSt ad neg x
  | 0x0C => hSet ad x
  | 0x0D => hRst ad x
  | 0x0E => hRise ad x
  | 0x0F => hFall ad x
  | 0x10 => hTmr (fld w 0 8) (fld arg 0 2) x
  | 0x11 => hCtu (fld w 0 8) x
  | 0x12 => hCtd (fld w 0 8) x
  | 0x13 => hCrst (fld w 0 8) x
  | 0x14 => hCld (fld w 0 8) x
  | 0x18 => hLdw wa x
  | 0x19 => hLdi imm x
  | 0x1A => hLdhi (fld w 0 12) x
  | 0x1B => hStw wa (bitOf arg 0) x
  | 0x1C => hAdd wa (bitOf arg 0) x
  | 0x1D => hSub wa (bitOf arg 0) x
  | 0x1E => hAddi imm (bitOf arg 0) x
  | 0x1F => hCmp wa (fld arg 0 3) (bitOf arg 3) neg x
  | 0x20 => hCmpi imm (fld arg 0 3) neg x
  | 0x21 => hInc wa x
  | 0x22 => hDec wa x
  | 0x23 => hAndw wa x
  | 0x24 => hOrw wa x
  | 0x25 => hXorw wa x
  | 0x26 => hShf (bitOf w 0) arg x
  | 0x27 => hTstb arg neg x
  | 0x30 => hJmp (fld w 0 16) (fld arg 0 2) x
  | _ => x

def opEnd : Nat := 0x31

/-! The freeze (R21, R210, R213, R214). -/

/-- The detector image of a carriage: 8 channels to a word. -/
def detImage (d : Dev) (c : Nat) : List (Nat × Nat) :=
  let chs := (carChans d c).take 1024
  let fl := chs.map (fun ch => (fchan d ch).flags)
  ((List.range 128).map (fun k =>
    (0x400 + k, ((List.range 8).map (fun j => nth 0 fl (8 * k + j) * 16 ^ j)).sum))).filter (fun p => p.2 != 0)

/-- The element flags and values of a carriage's records. -/
def elemImage (m : List Host.Cell) (d : Dev) (c : Nat) : List (Nat × Nat) :=
  let recs := dedup ((carKernels d c).flatMap (fun p => (List.range (kRecords p.2)).map (fun k => kResult p.2 + k)))
  recs.flatMap (fun r =>
    let ws := recWords m d c r
    (r, entW ws 0) :: ((List.range 8).zip ws).map (fun p => (0x2000 + 8 * r + p.1, p.2)))

/-- The frozen inputs of a carriage. -/
def frozen (m : List Host.Cell) (d : Dev) (c : Nat) : Tbl Nat :=
  let cmd := (List.range 8).map (fun j => (0x5C0 + j, d.rn (Reg.carCmdbit c j)))
  (elemImage m d c ++ detImage d c ++ (hcar d c).live ++ cmd).foldl (fun t p => tset 0 t p.1 p.2) []

def hMode (d : Dev) (c : Nat) : Nat := d.fldR (Reg.hleCMode c) 0 2
def hStop : Nat := 0
def hRun : Nat := 1
def hHold : Nat := 2

/-- A scan not run: it counts, in HLE_C_SKIPPED and since enable (R210, R214). -/
def scanSkipped (c : Nat) (d : Dev) : Dev :=
  let x := hcar d c
  setHcar c { x with skips := satInc x.skips } (d.bump (Reg.hleCSkipped c))

/-- The inputs of leg `n` frozen for a carriage; an image that no scan began in time is skipped (R21, R210). -/
def freezeCar (m : List Host.Cell) (n c : Nat) (d : Dev) : Dev :=
  let x := hcar d c
  if hMode d c ≠ hRun || !carRuns d c || isShed d c then d
  else
    let cap := if carCls d c = 0 then 1 else 2
    let q := x.frz ++ [(n, frozen m d c)]
    let d := setHcar c { x with frz := q.drop (q.length - cap) } d
    if cap < q.length then scanSkipped c d else d

/-- Every carriage's inputs frozen. -/
def freezeAll (m : List Host.Cell) (n : Nat) (d : Dev) : Dev := (tkeys d.cars).foldl (fun d c => freezeCar m n c d) d

/-! Scans (R205, R208, R228 to R233). -/

/-- The system words of a scan (R214). Every committed scan counts as one before, a Hold step's too; in the first Δ is 0, and in a later
Hold step 16 (R237). -/
def sysWords (x : HCar) (leg : Nat) (hold : Bool) : List (Nat × Nat) :=
  let delta := match x.last with
    | some l => if hold then 16 else min 0xFFFFFFFF (16 * (leg - l))
    | none => 0
  let gap := match x.last with | some l => l + 1 != leg | none => false
  [(0x5C8, tickCodeOf (leg * 16)), (0x5C9, delta),
   (0x5CA, ofBits [x.last.isNone, gap, x.last.isNone && x.retRestored, x.last.isNone && x.retLost, x.swapped, hold]),
   (0x5CB, x.skips), (0x5CD, 0xFFFFFFFF)]

/-- TIMERS and COUNTERS of a program. -/
def progTimers (p : HProg) : Nat := fld (entW p.hdr 3) 0 9
def progCounters (p : HProg) : Nat := fld (entW p.hdr 3) 16 9

/-- The context a scan starts with. -/
def scanStart (c leg : Nat) (hold : Bool) (inp : Tbl Nat) (p : HProg) (x : HCar) : HCtx :=
  ⟨c, leg, hold, false, 0, [], 0, (sysWords x leg hold).foldl (fun t q => tset 0 t q.1 q.2) inp,
    x.wr, x.tims, x.cnts, progTimers p, progCounters p⟩

/-- At most `n` instructions of a program; the answer says whether END was reached, and how many instructions executed, END included. -/
def scanRun (code : List Nat) : Nat → HCtx → HCtx × Bool × Nat
  | 0, x => (x, false, 0)
  | n + 1, x =>
    let w := nth (opEnd * 2 ^ 26) code x.pc
    if fld w 26 6 = opEnd then (x, true, 1)
    else
      let r := scanRun code n (hInstr w x)
      (r.1, r.2.1, r.2.2 + 1)

/-- Cycles used by an engine in the present tick and route (R204, R242). -/
def useCyc (e n : Nat) (d : Dev) : Dev :=
  { d with hle := { d.hle with tickCyc := tput d.hle.tickCyc e (tget 0 d.hle.tickCyc e + n),
                               routeCyc := tput d.hle.routeCyc e (tget 0 d.hle.routeCyc e + n) } }

/-- Words of the retentive area in a copy. -/
def retOf (t : Tbl Nat) : Tbl Nat := t.filter (fun p => 0xC00 ≤ p.1 && p.1 < 0x1000)

/-- Words of the output image in a copy. -/
def outOf (t : Tbl Nat) : Tbl Nat := t.filter (fun p => 0x1000 ≤ p.1 && p.1 < 0x10C0)

/-- END: the whole copy is committed; a Hold step's outputs are not handed to publication (R208, R237, R238). -/
def scanCommit (k : HCtx) (d : Dev) : Dev :=
  let x := hcar d k.car
  let x := { x with wr := k.wr, tims := k.tims, cnts := k.cnts, dirty := x.dirty || retOf k.wr != retOf x.wr,
                    swapped := false, last := some k.leg }
  let d := d.wn (Reg.hleCLastTc k.car) d.tc
  if k.hold then setHcar k.car x d
  else
    let x := { x with out := outOf k.wr, inp := k.inp, fresh := true }
    let d := { d with pub := { d.pub with commits := d.pub.commits ++ [k.car] } }
    let d := digImage k.car k.leg x.out d
    let d := if carCls d k.car = 2 then p2Done k.leg 2 k.car d else d
    setHcar k.car x d

/-- A scan that does not reach END: nothing is committed, and it counts as lost and skipped (R208). -/
def scanLost (e : Nat) (d : Dev) : Dev :=
  match tfind d.hle.ctx e with
  | none => d
  | some k => raise 250 (some k.car) k.car 0 ((scanSkipped k.car (dropCtx e d)).bump Reg.hleScanLost)

/-- Role of a Harness engine. -/
def hRole (d : Dev) (e : Nat) : Nat := d.fldR (Reg.hleEStatus e) 0 2

/-- Whether a scan of a carriage may start on an engine. -/
def scanCan (d : Dev) (e c : Nat) : Bool :=
  hRole d e == 0 && d.enabled Reg.hleCtrl && carRuns d c && !isShed d c && hMode d c == hRun &&
    (hcar d c).prog.isSome && (hcar d c).frz != [] && (tfind d.hle.ctx e).isNone

/-- A scan starts on an engine with the oldest frozen inputs and runs `steps` instructions, or to END. On the shadow a P2 scan runs
only where the active's list names it (11 R333). -/
def scanOn (e c steps : Nat) (d : Dev) : Dev :=
  let x := hcar d c
  match x.prog, x.frz with
  | some p, (leg, inp) :: fs =>
    if !scanCan d e c || (isShadow d && carCls d c == 2 && !d.brc.p2.contains (leg, 2, c)) then d
    else
      let r := scanRun p.code steps (scanStart c leg false inp p x)
      let d := useCyc e (24 + r.2.2) ((setHcar c { x with frz := fs } d).wn (Reg.hleCEngine c) e)
      if r.2.1 then scanCommit r.1 d else setCtx e r.1 d
  | _, _ => d

/-- Whether a P0 scan comes to an engine that retired earlier in the leg and still holds its column (R211). -/
def scanGone (d : Dev) (e c : Nat) : Bool :=
  carCls d c == 0 && hRole d e == 3 && d.enabled Reg.hleCtrl && carRuns d c && !isShed d c && hMode d c == hRun &&
    (hcar d c).prog.isSome && (hcar d c).frz != []

/-- A scan in a carriage's seat: the decision of the leg is lost where the engine retired earlier in it (R208, R211). -/
def scanSeat (e c steps : Nat) (d : Dev) : Dev :=
  if scanGone d e c then
    raise 250 (some c) c 0 ((scanSkipped c (setHcar c { hcar d c with frz := (hcar d c).frz.tail } d)).bump Reg.hleScanLost)
  else scanOn e c steps d

/-- Whether a Hold step runs a scan: a program, the mode Hold, the engines enabled, the carriage not shed (R238; 00_scope R586; 08 R258). -/
def holdCan (d : Dev) (c : Nat) : Bool := hMode d c == hHold && d.enabled Reg.hleCtrl && !isShed d c

/-- A step command in Hold (R238). -/
def holdStep (c : Nat) (d : Dev) : Dev :=
  let x := hcar d c
  match x.prog with
  | none => d
  | some p =>
    if !holdCan d c then d
    else
      let r := scanRun p.code (p.code.length + 1) (scanStart c x.holdInp.1 true x.holdInp.2 p x)
      if r.2.1 then scanCommit r.1 d else d

/-! Modes (R237, R238). -/

/-- A change of mode at a leg boundary: Run starts from R233's state, Hold freezes inputs, and Stop takes the safe states. -/
def hStart (retBad : Bool) (c : Nat) (d : Dev) : Dev :=
  let x := hcar d c
  let n := d.fldR (Reg.carRetWords c) 0 11
  let ret : Tbl Nat := if retBad then [] else
    ((List.range n).map (fun i => (0xC00 + i, tget 0 d.hle.home (c * 1024 + i)))).filter (fun p => p.2 != 0)
  let init := match x.prog with | some p => p.init | none => []
  let wr := init.foldl (fun t p => tset 0 t p.1 p.2) ret
  let d := setHcar c { x with wr := wr, tims := [], cnts := [], frz := [], last := none, skips := 0, out := [], fresh := false,
                              retRestored := !retBad, retLost := retBad, swapped := false, modeReq := none } d
  let d := (d.wn (Reg.hleCRetStatus c) (b2n (!retBad) + b2n retBad * 2)).setF (Reg.hleCMode c) 0 2 hRun
  if retBad then raise 251 (some c) c 0 d else d

/-- Retentive words written home at the end of the leg in which a scan committed (R235). -/
def retWrite (c : Nat) (d : Dev) : Dev :=
  let x := hcar d c
  if !x.dirty then d
  else
    let n := d.fldR (Reg.carRetWords c) 0 11
    let home := (List.range n).foldl (fun h i => tset 0 h (c * 1024 + i) (tget 0 x.wr (0xC00 + i))) d.hle.home
    setHcar c { x with dirty := false } { d with hle := { d.hle with home := home } }

/-- The mode asked for takes effect at a leg boundary (R237); `retBad` says whether the retentive words fail their check when Run
starts (R235, R236). A scan in progress is dropped with the mode that began it. -/
def hModeApply (retBad : Bool) (m : List Host.Cell) (c : Nat) (d : Dev) : Dev :=
  let x := hcar d c
  match x.modeReq with
  | none => d
  | some r =>
    let d := { d with hle := { d.hle with ctx := d.hle.ctx.filter (fun p => p.2.car != c) } }
    if r = hRun then hStart retBad c d
    else if r = hHold then
      let inp := match x.frz.getLast? with | some f => f | none => (d.tim.absLeg, frozen m d c)
      (setHcar c { x with modeReq := none, holdInp := inp, frz := [] } d).setF (Reg.hleCMode c) 0 2 hHold
    else (setHcar c { x with modeReq := none, frz := [], out := [], fresh := false } d).setF (Reg.hleCMode c) 0 2 hStop

/-- A second program in force at a route boundary (R241): state kept by address, INIT words take their new values. -/
def hSwap (c : Nat) (d : Dev) : Dev :=
  let x := hcar d c
  match x.next with
  | none => d
  | some p =>
    let wr := p.init.foldl (fun t q => tset 0 t q.1 q.2) x.wr
    ((setHcar c { x with prog := some p, next := none, wr := wr, swapped := true } d).clrB (Reg.hleCMode c) 2).wn
      (Reg.hleCLen c) p.code.length

/-! The rows. Each instruction row executes on the scan in progress of an engine. -/

/-- An instruction of the scan in progress of an engine, one cycle. -/
def onCtx (e : Nat) (f : HCtx → HCtx) (d : Dev) : Dev :=
  match tfind d.hle.ctx e with
  | some k => setCtx e (f k) (useCyc e 1 d)
  | none => d

def execHNop (e : Nat) (s : State) : Outcome := s.act (onCtx e hNext)
def execHLd (e b : Nat) (neg : Bool) (s : State) : Outcome := s.act (onCtx e (hLd b neg))
def execHAnd (e b : Nat) (neg : Bool) (s : State) : Outcome := s.act (onCtx e (hAnd b neg))
def execHOr (e b : Nat) (neg : Bool) (s : State) : Outcome := s.act (onCtx e (hOr b neg))
def execHXor (e b : Nat) (neg : Bool) (s : State) : Outcome := s.act (onCtx e (hXor b neg))
def execHApush (e : Nat) (s : State) : Outcome := s.act (onCtx e (hPush 1))
def execHOpush (e : Nat) (s : State) : Outcome := s.act (onCtx e (hPush 2))
def execHXpush (e : Nat) (s : State) : Outcome := s.act (onCtx e (hPush 3))
def execHPop (e : Nat) (neg : Bool) (s : State) : Outcome := s.act (onCtx e (hPop neg))
def execHNot (e : Nat) (s : State) : Outcome := s.act (onCtx e hNot)
def execHSeta (e : Nat) (v : Bool) (s : State) : Outcome := s.act (onCtx e (hSeta v))
def execHSt (e b : Nat) (neg : Bool) (s : State) : Outcome := s.act (onCtx e (hSt b neg))
def execHSet (e b : Nat) (s : State) : Outcome := s.act (onCtx e (hSet b))
def execHRst (e b : Nat) (s : State) : Outcome := s.act (onCtx e (hRst b))
def execHRise (e b : Nat) (s : State) : Outcome := s.act (onCtx e (hRise b))
def execHFall (e b : Nat) (s : State) : Outcome := s.act (onCtx e (hFall b))
def execHTmr (e n kind : Nat) (s : State) : Outcome := s.act (onCtx e (hTmr n kind))
def execHCtu (e n : Nat) (s : State) : Outcome := s.act (onCtx e (hCtu n))
def execHCtd (e n : Nat) (s : State) : Outcome := s.act (onCtx e (hCtd n))
def execHCrst (e n : Nat) (s : State) : Outcome := s.act (onCtx e (hCrst n))
def execHCld (e n : Nat) (s : State) : Outcome := s.act (onCtx e (hCld n))
def execHLdw (e a : Nat) (s : State) : Outcome := s.act (onCtx e (hLdw a))
def execHLdi (e : Nat) (imm : Int) (s : State) : Outcome := s.act (onCtx e (hLdi imm))
def execHLdhi (e v : Nat) (s : State) : Outcome := s.act (onCtx e (hLdhi v))
def execHStw (e a : Nat) (cond : Bool) (s : State) : Outcome := s.act (onCtx e (hStw a cond))
def execHAdd (e a : Nat) (wrap : Bool) (s : State) : Outcome := s.act (onCtx e (hAdd a wrap))
def execHSub (e a : Nat) (wrap : Bool) (s : State) : Outcome := s.act (onCtx e (hSub a wrap))
def execHAddi (e : Nat) (imm : Int) (wrap : Bool) (s : State) : Outcome := s.act (onCtx e (hAddi imm wrap))
def execHCmp (e a rel : Nat) (float neg : Bool) (s : State) : Outcome := s.act (onCtx e (hCmp a rel float neg))
def execHCmpi (e : Nat) (imm : Int) (rel : Nat) (neg : Bool) (s : State) : Outcome := s.act (onCtx e (hCmpi imm rel neg))
def execHInc (e a : Nat) (s : State) : Outcome := s.act (onCtx e (hInc a))
def execHDec (e a : Nat) (s : State) : Outcome := s.act (onCtx e (hDec a))
def execHAndw (e a : Nat) (s : State) : Outcome := s.act (onCtx e (hAndw a))
def execHOrw (e a : Nat) (s : State) : Outcome := s.act (onCtx e (hOrw a))
def execHXorw (e a : Nat) (s : State) : Outcome := s.act (onCtx e (hXorw a))
def execHShf (e n : Nat) (right : Bool) (s : State) : Outcome := s.act (onCtx e (hShf right n))
def execHTstb (e bit : Nat) (neg : Bool) (s : State) : Outcome := s.act (onCtx e (hTstb bit neg))
def execHJmp (e k cond : Nat) (s : State) : Outcome := s.act (onCtx e (hJmp k cond))

/-- END (R208): the scan in progress commits, and the engine is free. -/
def execHEnd (e : Nat) (s : State) : Outcome :=
  s.act (fun d => match tfind d.hle.ctx e with
    | some k => dropCtx e (scanCommit k (useCyc e 1 d))
    | none => d)

/-- HOLD_STEP (R238): HLE_C_STEP is RWM. -/
def execHoldStep (c : Nat) (s : State) : Outcome := s.act (onlyIf (c < 512) (fun d => rwm d (holdStep c)))

end Sys2Proof.Machine
end

