-- ==== Sys2Proof/Machine/HleLoad.lean ====
section
/-! DEFINITION. The Harness program loader: an image in DRAM is checked and loaded for a carriage, or refused
(07 R224, R225, R227, R234, R239 to R241). -/

namespace Sys2Proof.Machine

def iOp (w : Nat) : Nat := fld w 26 6
def iArg (w : Nat) : Nat := fld w 20 5
def iAddr (w : Nat) : Nat := fld w 0 20
def iNeg (w : Nat) : Bool := bitOf w 25

/-- Operand kinds of R224. -/
inductive OpKind where
  | none | bit | word | imm | num | off | hi | dir
deriving DecidableEq, Repr

/-- What the table of R225 says of an OP: operand kind, whether NEG has a meaning, the mask of ARG bits with a meaning, and
whether the operand is written (1 writable areas, 2 flag or retentive only). -/
def opInfo : Nat → Option (OpKind × Bool × Nat × Nat)
  | 0x00 => some (.none, false, 0, 0)
  | 0x01 => some (.bit, true, 0, 0)
  | 0x02 => some (.bit, true, 0, 0)
  | 0x03 => some (.bit, true, 0, 0)
  | 0x04 => some (.bit, true, 0, 0)
  | 0x05 => some (.none, false, 0, 0)
  | 0x06 => some (.none, false, 0, 0)
  | 0x07 => some (.none, false, 0, 0)
  | 0x08 => some (.none, true, 0, 0)
  | 0x09 => some (.none, false, 0, 0)
  | 0x0A => some (.none, false, 1, 0)
  | 0x0B => some (.bit, true, 0, 1)
  | 0x0C => some (.bit, false, 0, 1)
  | 0x0D => some (.bit, false, 0, 1)
  | 0x0E => some (.bit, false, 0, 2)
  | 0x0F => some (.bit, false, 0, 2)
  | 0x10 => some (.num, false, 3, 0)
  | 0x11 => some (.num, false, 0, 0)
  | 0x12 => some (.num, false, 0, 0)
  | 0x13 => some (.num, false, 0, 0)
  | 0x14 => some (.num, false, 0, 0)
  | 0x18 => some (.word, false, 0, 0)
  | 0x19 => some (.imm, false, 0, 0)
  | 0x1A => some (.hi, false, 0, 0)
  | 0x1B => some (.word, false, 1, 1)
  | 0x1C => some (.word, false, 1, 0)
  | 0x1D => some (.word, false, 1, 0)
  | 0x1E => some (.imm, false, 1, 0)
  | 0x1F => some (.word, true, 15, 0)
  | 0x20 => some (.imm, true, 7, 0)
  | 0x21 => some (.word, false, 0, 1)
  | 0x22 => some (.word, false, 0, 1)
  | 0x23 => some (.word, false, 0, 0)
  | 0x24 => some (.word, false, 0, 0)
  | 0x25 => some (.word, false, 0, 0)
  | 0x26 => some (.dir, false, 31, 0)
  | 0x27 => some (.none, true, 31, 0)
  | 0x30 => some (.off, false, 3, 0)
  | 0x31 => some (.none, false, 0, 0)
  | _ => none

/-- Whether the operand field keeps the reserved bits of its kind at 0. -/
def kindOk (k : OpKind) (a : Nat) : Bool :=
  match k with
  | .none => a == 0
  | .bit => true
  | .word => a < 2 ^ 14
  | .imm => true
  | .num => a < 2 ^ 8
  | .off => a < 2 ^ 16
  | .hi => a < 2 ^ 12
  | .dir => a < 2

/-- A word of R224 that R225 forbids (REASON 2): unknown OP, bits without a meaning set, REL 6 or 7, a TMR or JMP code 3. -/
def badWord (w : Nat) : Bool :=
  match opInfo (iOp w) with
  | none => true
  | some i => (iNeg w && !i.2.1) || iArg w &&& i.2.2.1 != iArg w || !kindOk i.1 (iAddr w) ||
      ((iOp w == 0x1F || iOp w == 0x20) && 6 ≤ fld (iArg w) 0 3) || ((iOp w == 0x10 || iOp w == 0x30) && iArg w == 3)

/-- Word addresses of R212. -/
def inSpace (a : Nat) : Bool :=
  a < 0x5D0 || hWritable a || (0x1100 ≤ a && a < 0x1200) || (0x1300 ≤ a && a < 0x1308) || (0x1400 ≤ a && a < 0x1500) ||
    (0x1600 ≤ a && a < 0x1608) || (0x2000 ≤ a && a < 0x4000)

/-- The word address an instruction names, if it names one. -/
def wordOf (w : Nat) : Option Nat :=
  match opInfo (iOp w) with
  | some (.bit, _) => some (iAddr w / 32)
  | some (.word, _) => some (iAddr w)
  | _ => none

/-- Whether an instruction writes its operand. -/
def writes (w : Nat) : Bool := match opInfo (iOp w) with | some i => i.2.2.2 != 0 | none => false

/-- An operand outside R212 or not writable for its instruction (REASON 3). -/
def badOperand (w : Nat) : Bool :=
  match opInfo (iOp w), wordOf w with
  | some i, some a => !inSpace a || (i.2.2.2 == 1 && !hWritable a) || (i.2.2.2 == 2 && !(0x800 ≤ a && a < 0x1000))
  | _, _ => false

/-- The stack depth before each instruction and after the last (R227). -/
def depths : List Nat → Int → List Int
  | [], k => [k]
  | w :: ws, k =>
    k :: depths ws (if 5 ≤ iOp w ∧ iOp w ≤ 7 then k + 1 else if iOp w = 8 then k - 1 else k)

/-- An instruction that breaks R227 on jumps, stack or END (REASON 4); the push that takes the depth past 16 is the offender. -/
def badFlow (code : List Nat) (dp : List Int) (i : Nat) : Bool :=
  let w := nth 0 code i
  let k := nth 0 dp i
  let t := i + fld w 0 16
  (iOp w == 0x30 && (fld w 0 16 == 0 || code.length - 1 < t || nth 0 dp t != k)) ||
    decide (16 < nth 0 dp (i + 1)) || (iOp w == 8 && decide (k ≤ 0)) || (iOp w == 0x31) != (i + 1 == code.length) ||
    (iOp w == 0x31 && k != 0)

/-- The timer an instruction names (R227). -/
def timerOf (w : Nat) : Option Nat :=
  if iOp w = 0x10 then some (fld w 0 8)
  else match opInfo (iOp w) with
    | some (.bit, _) => if 0x1300 * 32 ≤ iAddr w ∧ iAddr w < 0x1308 * 32 then some (iAddr w - 0x1300 * 32) else none
    | some (.word, _) =>
      let a := iAddr w
      if 0x1100 ≤ a ∧ a < 0x1200 then some (a - 0x1100) else if 0x1200 ≤ a ∧ a < 0x1300 then some (a - 0x1200) else none
    | _ => none

/-- The counter an instruction names. -/
def counterOf (w : Nat) : Option Nat :=
  if 0x11 ≤ iOp w ∧ iOp w ≤ 0x14 then some (fld w 0 8)
  else match opInfo (iOp w) with
    | some (.bit, _) => if 0x1600 * 32 ≤ iAddr w ∧ iAddr w < 0x1608 * 32 then some (iAddr w - 0x1600 * 32) else none
    | some (.word, _) =>
      let a := iAddr w
      if 0x1400 ≤ a ∧ a < 0x1500 then some (a - 0x1400) else if 0x1500 ≤ a ∧ a < 0x1600 then some (a - 0x1500) else none
    | _ => none

/-- One more than the largest of the numbers named, or 0. -/
def countNamed (f : Nat → Option Nat) (code : List Nat) : Nat :=
  code.foldl (fun n w => match f w with | some k => max n (k + 1) | none => n) 0

/-- Whether an earlier instruction of the same OP (TMR, CTU, CTD) names the same number. -/
def repeats (code : List Nat) (i : Nat) : Bool :=
  let w := nth 0 code i
  0x10 ≤ iOp w && iOp w ≤ 0x12 && (code.take i).any (fun v => iOp v == iOp w && fld v 0 8 == fld w 0 8)

/-- A timer or counter breach (REASON 6). -/
def badTimer (hdr code : List Nat) (i : Nat) : Bool :=
  let w := nth 0 code i
  repeats code i || (match timerOf w with | some t => fld (entW hdr 3) 0 9 ≤ t | none => false) ||
    (match counterOf w with | some t => fld (entW hdr 3) 16 9 ≤ t | none => false)

/-- Retentive words written, in order of first writing. -/
def retDests (code : List Nat) : List Nat :=
  dedup ((code.filter writes).filterMap (fun w => match wordOf w with
    | some a => if 0xC00 ≤ a ∧ a < 0x1000 then some a else none
    | none => none))

/-- Words of the flag area that a program uses. -/
def flagWords (code : List Nat) : Nat :=
  countNamed (fun w => match wordOf w with | some a => if 0x800 ≤ a ∧ a < 0xC00 then some (a - 0x800) else none | none => none)
    code

/-- A breach of R234 at an instruction (REASON 7). -/
def badRet (retWords : Nat) (code : List Nat) (i : Nat) : Bool :=
  let w := nth 0 code i
  match wordOf w with
  | some a => 0xC00 ≤ a && a < 0x1000 && (0xC00 + retWords ≤ a || (writes w && 64 < (retDests (code.take (i + 1))).length))
  | none => false

/-- The first instruction that meets a condition. -/
def firstBad (n : Nat) (f : Nat → Bool) : Option Nat := (List.range n).find? f

/-- Header fields that differ from what the loader computes (REASON 5); TIMERS and COUNTERS are one more than the highest number that an
instruction names (R227; log 31). -/
def badCounts (hdr code : List Nat) (dp : List Int) : Bool :=
  fld (entW hdr 5) 0 5 != (dp.foldl max 0).toNat || fld (entW hdr 5) 8 7 != (retDests code).length ||
    fld (entW hdr 3) 0 9 != countNamed timerOf code || fld (entW hdr 3) 16 9 != countNamed counterOf code ||
    fld (entW hdr 4) 0 11 != flagWords code

/-- INIT pairs name PT or PV words (R239). -/
def initOk (p : Nat × Nat) : Bool := (0x1200 ≤ p.1 && p.1 < 0x1300) || (0x1500 ≤ p.1 && p.1 < 0x1600)

/-- REASON and INDEX of a load, REASON 0 where it is accepted (R240). -/
def loadReason (d : Dev) (c : Nat) (hdr code : List Nat) (init : List (Nat × Nat)) : Nat × Nat :=
  let n := code.length
  let dp := depths code 0
  let crcOk := entW hdr 7 == (Config.crc32 (code ++ init.flatMap (fun p => [p.1, p.2]))).toNat
  let img := carImg? d c
  if entW hdr 0 ≠ 0x484C4550 || fld (entW hdr 1) 0 8 ≠ 1 || fld (entW hdr 1) 16 16 ≠ 1 || !crcOk then (1, 0)
  else match firstBad n (fun i => badWord (nth 0 code i)) with
  | some i => (2, i)
  | none => match firstBad n (fun i => badOperand (nth 0 code i)) with
  | some i => (3, i)
  | none => if init.any (fun p => !initOk p) then (3, n) else match firstBad n (badFlow code dp) with
  | some i => (4, i)
  | none => if n = 0 then (4, 0) else if badCounts hdr code dp then (5, 0) else match firstBad n (badTimer hdr code) with
  | some i => (6, i)
  | none =>
    let ret := (img.map (fun m => m.retWords)).getD 0
    match firstBad n (badRet (min ret (fld (entW hdr 4) 16 11)) code) with
  | some i => (7, i)
  | none =>
    if ret < fld (entW hdr 4) 16 11 then (7, 0)
    else if (img.map (fun m => m.progWords)).getD 0 < n then (8, 0)
    else if carCls d c = 0 ∧ 8800 < n + 24 then (9, 0) else (0, 0)

/-- The image at a DRAM address: header, instructions, pairs (R239). -/
def readImage (m : List Host.Cell) (a : Nat) : List Nat × List Nat × List (Nat × Nat) :=
  let hdr := (List.range 16).map (fun k => memWord m (a + 4 * k))
  let n := fld (entW hdr 2) 0 17
  let code := (List.range n).map (fun k => memWord m (a + 64 + 4 * k))
  let b := a + 64 + 4 * n
  (hdr, code, (List.range (fld (entW hdr 6) 0 16)).map (fun k => (memWord m (b + 8 * k), memWord m (b + 8 * k + 4))))

/-- A checked program placed: as the carriage's program, or in its second space (R241). -/
def placeProg (c : Nat) (swap : Bool) (p : HProg) (d : Dev) : Dev :=
  let x := hcar d c
  if swap && carEnabled d c then (setHcar c { x with next := some p } d).setB (Reg.hleCMode c) 2
  else (setHcar c { x with prog := some p } d).wn (Reg.hleCLen c) p.code.length

/-- The image that a list of words holds: header, instructions, pairs (R239). -/
def parseImage (ws : List Nat) : List Nat × List Nat × List (Nat × Nat) :=
  let n := fld (entW ws 2) 0 17
  (takePad 0 16 ws, (ws.drop 16).take n,
    (List.range (fld (entW ws 6) 0 16)).map (fun k => (entW ws (16 + n + 2 * k), entW ws (17 + n + 2 * k))))

/-- A load: checks, then placement; the answer is REASON and INDEX, REASON 0 where the program is placed. -/
def loadProg (i : List Nat × List Nat × List (Nat × Nat)) (c : Nat) (swap : Bool) (d : Dev) : Dev × Nat × Nat :=
  let r := loadReason d c i.1 i.2.1 i.2.2
  if r.1 ≠ 0 then (d.wn Reg.hleLoadStatus (2 + r.1 * 16 + r.2 * 4096), r)
  else (placeProg c swap ⟨i.1, i.2.1, i.2.2⟩ (d.wn Reg.hleLoadStatus 0), (0, 0))

end Sys2Proof.Machine
end

