-- ==== Sys2Proof/Machine/Goose.lean ====
section
/-! DEFINITION. GOOSE subscription: table, acceptance checks, decoding into carriages' GOOSE areas, ALIVE
(07 R215 to R223). -/

namespace Sys2Proof.Machine

def gsZero : List Nat := List.replicate 32 0
def gsEnt (d : Dev) (i : Nat) : List Nat := tget gsZero d.hle.ents i
def gsCommitted (d : Dev) (i : Nat) : List Nat := (tfind d.hle.pend i).getD (gsEnt d i)
def gsState (e : List Nat) : Nat := fld (entW e 0) 0 2
def gsAuth (e : List Nat) : Nat := fld (entW e 0) 4 2
def gsSlot (e : List Nat) : Nat := fld (entW e 0) 6 8
def gsBase (e : List Nat) : Nat := fld (entW e 4) 0 16
def gsNmap (e : List Nat) : Nat := fld (entW e 4) 16 7
def gsGroups (e : List Nat) : Nat := fld (entW e 4) 24 5

/-- Destination address, APPID and the GOCBREF_LEN octets of gocbRef (R215). -/
def gsKey (e : List Nat) : List Nat := [entW e 1, entW e 2] ++ entOctets e 10 (fld (entW e 9) 0 7)

def gooseKey (f : GooseFrame) : List Nat :=
  [f.da % 2 ^ 32, f.da / 2 ^ 32 % 65536 + f.appid % 65536 * 65536] ++ f.gocbRef.map (fun o => o % 256)

/-! Map words (R217). -/

def gmapW (d : Dev) (i : Nat) : Nat := tget 0 d.hle.gmap i
def gmCar (w : Nat) : Nat := fld w 0 9
def gmMember (w : Nat) : Nat := fld w 9 8
def gmType (w : Nat) : Nat := fld w 17 3
def gmDest (w : Nat) : Nat := fld w 20 12

/-- The map words of an entry. -/
def gsMap (d : Dev) (e : List Nat) : List Nat := (List.range (gsNmap e)).map (fun k => gmapW d (gsBase e + k))

/-- Bits of the GOOSE bit area that a map word writes. -/
def gmBits (w : Nat) : Nat := if gmType w = 0 then 1 else if gmType w = 1 then 2 else if gmType w = 6 then 5 else 0

/-- Whether a map word's fields are in range. -/
def gmOk (w : Nat) : Bool :=
  gmType w != 7 && (if gmBits w = 0 then gmDest w < 128 else gmDest w + gmBits w ≤ 2048)

/-- Whether two map words write one destination of one carriage. -/
def gmClash (a b : Nat) : Bool :=
  gmCar a == gmCar b &&
    (if gmBits a = 0 then gmBits b == 0 && gmDest a == gmDest b
     else gmBits b != 0 && gmDest a < gmDest b + gmBits b && gmDest b < gmDest a + gmBits a)

/-- Whether some two of a list clash. -/
def anyClash : List Nat → Bool
  | [] => false
  | a :: l => l.any (gmClash a) || anyClash l

/-! Entries (R216, R218). -/

/-- Whether the staged words are in range. -/
def gsRange (d : Dev) (e : List Nat) : Bool :=
  gsState e != 3 && gsAuth e != 3 && fld (entW e 0) 15 17 == 0 && fld (entW e 4) 23 1 == 0 && fld (entW e 4) 29 3 == 0 &&
    gsNmap e ≤ 64 && gsBase e + gsNmap e ≤ 65536 &&
    (List.range 4).all (fun k => fld (entW e (5 + k)) 20 11 == 0) &&
    fld (entW e 9) 7 25 == 0 && 1 ≤ fld (entW e 9) 0 7 && fld (entW e 9) 0 7 ≤ 64 && (gsMap d e).all gmOk

/-- Whether a carriage is granted a subscription entry. -/
def gsubGranted (d : Dev) (c i : Nat) : Bool := ((carImg? d c).map (fun m => m.gsub.contains i)).getD false

/-- Entries, as committed, other than `i`, that are not FREE. -/
def gsOthers (d : Dev) (i : Nat) : List (List Nat) :=
  ((dedup (tkeys d.hle.ents ++ tkeys d.hle.pend)).filter (fun k => k != i && gsState (gsCommitted d k) != 0)).map
    (gsCommitted d)

/-- The REASON of a commit, or 0 (R218): the lowest that holds, whatever STATE the words have (00_scope R587). -/
def gsReason (d : Dev) (i : Nat) (e : List Nat) : Nat :=
  let old := gsEnt d i
  if !gsRange d e then 1
  else if (gsMap d e).any (fun w => !gsubGranted d (gmCar w) i) then 2
  else if anyClash (gsMap d e) || (gsMap d e).any (fun w => (gsOthers d i).any (fun o => (gsMap d o).any (gmClash w))) then 3
  else if (gsOthers d i).any (fun o => gsKey o == gsKey e) then 4
  else if gsState old = 1 ∧ (gsKey old ≠ gsKey e ∨ gsBase old ≠ gsBase e ∨ gsNmap old ≠ gsNmap e) then 5 else 0

/-- HLE_GS_CMD OP 1. -/
def gsRead (i : Nat) (d : Dev) : Dev := wnList (fun w => Reg.hleGsStage w) 0 (takePad 0 26 (gsCommitted d i)) d

/-- HLE_GS_CMD OP 2 with the words of an entry; a key slot that does not permit the use refuses with REASON 0 where none of R218's holds
(17 R504; log 32). -/
def gsCommitW (who : Who) (i : Nat) (e : List Nat) (d : Dev) : Dev :=
  let r := gsReason d i e
  if r ≠ 0 then d.wn Reg.hleGsCstat (2 + r * 16)
  else if gsState e ≠ 0 && !namesSlot d (gsAuth e) (gsSlot e) fnVerifyIn .livery who then d.wn Reg.hleGsCstat 2
  else { d.wn Reg.hleGsCstat 0 with hle := { d.hle with pend := tput d.hle.pend i (takePad 0 32 e) } }

def gsCommit (i : Nat) (d : Dev) : Dev :=
  let w := (List.range 26).map (fun k => d.rn (Reg.hleGsStage k))
  let d := gsCommitW liveryWho i w d
  if d.bitR Reg.hleGsCstat 1 then d else journal 3 i w d

/-- Commits in force at a route boundary; an entry made FREE forgets its status. -/
def gsApply (d : Dev) : Dev :=
  let p := d.hle.pend
  let d := { d with hle := { d.hle with pend := [] } }
  p.foldl (fun d x =>
    let d := { d with hle := { d.hle with ents := tset gsZero d.hle.ents x.1 x.2 } }
    if gsState x.2 = 0 then
      (({ d with hle := { d.hle with alive := tdel d.hle.alive x.1 } }).wn (Reg.hleGsSt x.1) 0).wn (Reg.hleGsStnum x.1) 0
    else d) d

/-- Whether a map word lies in a LIVE subscription entry's map. -/
def gmapLive (d : Dev) (i : Nat) : Bool :=
  d.hle.ents.any (fun p => gsState p.2 == 1 && gsBase p.2 ≤ i && i < gsBase p.2 + gsNmap p.2)

/-- A write of HLE_GMAP_DATA: ignored with an Info event inside the map of a LIVE entry (R218). -/
def gmapWrite (i w : Nat) (d : Dev) : Dev :=
  if gmapLive d i then d.emit (.infoEvent 218) else { d with hle := { d.hle with gmap := tset 0 d.hle.gmap i w } }

/-- A map word written through registers; one that is taken enters the journal (11 R334). -/
def gmapCommit (i w : Nat) (d : Dev) : Dev := gmapWrite i w (if gmapLive d i then d else journal 7 i [w] d)

/-! Decoding (R220, R222). -/

/-- A word of a carriage's live input areas. -/
def liveW (d : Dev) (c a : Nat) : Nat := tget 0 (hcar d c).live a
def setLive (c a v : Nat) (d : Dev) : Dev := setHcar c { hcar d c with live := tset 0 (hcar d c).live a v } d

/-- A bit of the GOOSE bits. -/
def setGBit (c pos : Nat) (b : Bool) (d : Dev) : Dev :=
  setLive c (0x480 + pos / 32) (putFld (liveW d c (0x480 + pos / 32)) (pos % 32) 1 (b2n b)) d

/-- Bits from a position on. -/
def setGBits (c : Nat) : Nat → List Bool → Dev → Dev
  | _, [], d => d
  | p, b :: bs, d => setGBits c (p + 1) bs (setGBit c p b d)

/-- A double as a float: round to nearest even, keeping subnormals, infinities and NaNs (IEEE 754). -/
def f64to32 (w : Nat) : Nat :=
  let s := if bitOf w 63 then 2 ^ 31 else 0
  let e := fld w 52 11
  let m := fld w 0 52
  if e = 2047 then s + 255 * 2 ^ 23 + (if m = 0 then 0 else 2 ^ 22)
  else if e < 800 then s
  else
    let mant := 2 ^ 52 + m
    let k : Int := (e : Int) - 1023
    let drop := if k < -126 then (29 + (-126 - k)).toNat else 29
    let q := (rneDiv (mant : Nat) (2 ^ drop : Nat)).toNat
    let bits := if k < -126 then q else q + (k + 126).toNat * 2 ^ 23
    s + (if 255 * 2 ^ 23 ≤ bits then 255 * 2 ^ 23 else bits)

/-- What a leaf gives a map word's TYPE: bits, a word, or nothing where it does not match (R217). -/
def leafValue (typ : Nat) (l : Leaf) : Option (List Bool ⊕ Nat) :=
  match typ, l with
  | 0, .bool b => some (.inl [b])
  | 1, .bits bs => if bs.length = 2 then some (.inl bs) else none
  | 2, .int i => if -(2 ^ 63) ≤ i ∧ i < 2 ^ 63 then some (.inr (wrapN 32 (satS 32 i))) else none
  | 3, .uint n => if n < 2 ^ 64 then some (.inr (min 0xFFFFFFFF n)) else none
  | 4, .f32 w => some (.inr (w % 2 ^ 32))
  | 4, .f64 w => some (.inr (f64to32 w))
  | 5, .bits bs => if bs.length ≤ 32 then some (.inr (ofBits bs)) else none
  | _, _ => none

/-- One map word decoded; false where its leaf does not match. -/
def decodeOne (leaves : List Leaf) (w : Nat) (d : Dev) : Dev × Bool :=
  if gmType w = 6 then (d, true)
  else match leaves[gmMember w]? with
    | none => (d, false)
    | some l => match leafValue (gmType w) l with
      | some (.inl bs) => (setGBits (gmCar w) (gmDest w) bs d, true)
      | some (.inr v) => (setLive (gmCar w) (0x4C0 + gmDest w) v d, true)
      | none => (d, false)

/-- The five status flags of an entry. -/
def gsFlags (d : Dev) (i : Nat) : List Bool := (List.range 5).map (fun k => d.bitR (Reg.hleGsSt i) k)

/-- TYPE 6 destinations follow the entry's flags. -/
def gsFlagsOut (i : Nat) (d : Dev) : Dev :=
  ((gsMap d (gsEnt d i)).filter (fun w => gmType w == 6)).foldl (fun d w => setGBits (gmCar w) (gmDest w) (gsFlags d i) d) d

/-- The tick in which an entry's ALIVE clears after an acceptance now (R222). -/
def aliveUntil (now tal : Nat) : Nat := now + (tal * 768 + 9) / 10

/-- An accepted frame: copies to the entry's queues, decoding, status (R220). -/
def gsAccept (i port cls : Nat) (e : List Nat) (f : GooseFrame) (d : Dev) : Dev :=
  let qs := ((List.range 4).map (fun k => entW e (5 + k))).filter (fun w => bitOf w 31)
  let d := qs.foldl (fun d w => (queueRx (fld w 0 20) (rxFrame d port f.len f.off cls f.bytes) d).1) d
  let r := (gsMap d e).foldl (fun (r : Dev × Bool) w =>
    let o := decodeOne f.leaves w r.1
    (o.1, r.2 && o.2)) (d, true)
  let st := Reg.hleGsSt i
  let d := ((((r.1.putB st 0 true).putB st 1 f.test).putB st 2 false).putB st 3 false).putB st 4 (!r.2)
  let d := (d.wn (Reg.hleGsStnum i) f.stNum).bump (Reg.hleGsFrames i)
  gsFlagsOut i { d with hle := { d.hle with alive := tput d.hle.alive i (aliveUntil d.tim.absTick f.tal) } }

/-- Whether a stNum is older (R221). -/
def gsOlder (d : Dev) (i : Nat) (f : GooseFrame) : Bool :=
  d.bitR (Reg.hleGsSt i) 0 && !(f.stNum == 1 && f.sqNum ≤ 1) &&
    2 ^ 31 ≤ (f.stNum + 2 ^ 32 - d.rn (Reg.hleGsStnum i)) % 2 ^ 32

/-- Authentication of a frame against its entry. -/
def gsAuthOk (e : List Nat) (f : GooseFrame) (d : Dev) : Dev × Bool :=
  if gsAuth e = 0 then (d, true)
  else match f.auth with
    | none => (d, false)
    | some a =>
      let u := slotUse (gsSlot e) fnVerifyIn [gsAuth e] .livery a.slotBad d
      (u.2, u.1 && a.ok && a.alg == gsAuth e)

/-- The first check that fails, in R219's order, or 0. -/
def gsCause (d : Dev) (i port : Nat) (e : List Nat) (f : GooseFrame) (authOk : Bool) : Nat :=
  if !bitOf (gsGroups e) (portGroup port) then 1
  else if !authOk then 2
  else if f.confRev ≠ entW e 3 || f.ndsCom then 3
  else if f.sim && !bitOf (entW e 0) 3 then 4
  else if f.test && !bitOf (entW e 0) 2 then 5
  else if gsOlder d i f then 6 else 0

/-- A matching LIVE entry (R219). -/
def gsFrame (i port cls : Nat) (e : List Nat) (f : GooseFrame) (d : Dev) : Dev :=
  let a := if bitOf (gsGroups e) (portGroup port) then gsAuthOk e f d else (d, true)
  let d := a.1
  let cause := gsCause d i port e f a.2
  if cause = 0 then gsAccept i port cls e f d
  else
    let d := (d.bump (Reg.hleGsDrop i)).setF (Reg.hleGsSt i) 8 4 cause
    if cause = 3 then
      let d := if f.confRev ≠ entW e 3 then d.setB (Reg.hleGsSt i) 2 else d
      gsFlagsOut i (if f.ndsCom then d.setB (Reg.hleGsSt i) 3 else d)
    else d

/-- A frame at the decoder (R215, R223). -/
def gooseRx (port cls : Nat) (full : Bool) (f : GooseFrame) (d : Dev) : Dev :=
  if full then raise 252 none port 0 (d.bump Reg.hleGQfull)
  else
    let hit := d.hle.ents.find? (fun p => gsState p.2 != 0 && gsKey p.2 == gooseKey f)
    match (if 64 < f.gocbRef.length then none else hit) with
    | none => d.bump Reg.hleGNomatch
    | some (i, e) => if gsState e = 2 then d.bump (Reg.hleGsDrop i) else gsFrame i port cls e f d

/-- The destinations of TYPE 0 to 5 set to 0 (R222). -/
def gsClear (i : Nat) (d : Dev) : Dev :=
  ((gsMap d (gsEnt d i)).filter (fun w => gmType w != 6)).foldl (fun d w =>
    if gmBits w = 0 then setLive (gmCar w) (0x4C0 + gmDest w) 0 d
    else setGBits (gmCar w) (gmDest w) (List.replicate (gmBits w) false) d) d

/-- ALIVE runs out (R222). -/
def aliveExpiry (i : Nat) (d : Dev) : Dev :=
  match tfind d.hle.alive i with
  | none => d
  | some t =>
    if d.tim.absTick < t then d
    else
      let e := gsEnt d i
      let d := { d.clrB (Reg.hleGsSt i) 0 with hle := { d.hle with alive := tdel d.hle.alive i } }
      let d := if bitOf (entW e 0) 14 then gsClear i d else d
      raise 253 none i 0 (gsFlagsOut i d)

/-- GOOSE_FRAME_RX (R219): `full` says whether the decoder's queue of 16 is full; `cls` is the frame's class in the switch. -/
def execGooseFrameRx (port cls : Nat) (full : Bool) (f : GooseFrame) (s : State) : Outcome :=
  s.act (onlyIf (port < 11 && cls < 8) (gooseRx port cls full f))

/-- GOOSE_ALIVE_EXPIRY (R222). -/
def execGooseAliveExpiry (entry : Nat) (s : State) : Outcome := s.act (onlyIf (entry < 2048) (aliveExpiry entry))

/-- GSUB_ENTRY_READ (R218). -/
def execGsubEntryRead (entry : Nat) (s : State) : Outcome := s.act (onlyIf (entry < 2048) (gsRead entry))

/-- GSUB_ENTRY_COMMIT (R218). -/
def execGsubEntryCommit (entry : Nat) (s : State) : Outcome := s.act (onlyIf (entry < 2048) (gsCommit entry))

/-- GMAP_WRITE (R218): a write of HLE_GMAP_DATA at HLE_GMAP_IDX. -/
def execGmapWrite (v : Word) (s : State) : Outcome := s.act (fun d => gmapCommit (d.fldR Reg.hleGmapIdx 0 16) v.toNat d)

end Sys2Proof.Machine
end

