-- ==== Sys2Proof/Machine/Queues.lean ====
section
/-! DEFINITION. Queue contexts, doorbells, descriptors and vectors of a carriage's window (10 R298 to R305, R319). The
window of a FREE carriage ignores writes (R318). -/

namespace Sys2Proof.Machine

/-- CAR_QC_CMD OP 1. -/
def qcRead (c q : Nat) (d : Dev) : Dev := wnList (Reg.carQcRead c) 0 (qGet d (qNum c q)).words d

/-- Whether the staged words hold a field out of range (R298): TYPE 3, a vector that level 1 lacks, RING_LOG2, alignment,
BUF_SIZE of a receive queue, reserved bits, or a queue past the carriage's QUEUES. -/
def qcRange (d : Dev) (c q : Nat) (w : List Nat) : Bool :=
  let w0 := nth 0 w 0
  let w3 := nth 0 w 3
  fld w0 0 2 == 3 || w0 / 2 ^ 13 != 0 || w3 / 2 ^ 27 != 0 || carQueues d c ≤ q ||
    (carLevel d c == 1 && fld w0 4 5 != 0) ||
    (fld w0 0 2 != 0 && (fld w0 9 4 < 4 || nth 0 w 1 % 64 != 0 || nth 0 w 2 % 64 != 0)) ||
    (fld w0 0 2 == 1 && (fld w3 0 16 < 256 || 16384 < fld w3 0 16 || fld w3 0 16 % 64 != 0))

/-- The refusal REASON of a commit, the lowest that holds, or 0 (R298, R587). A queue switched off by TYPE 0 has no ring. -/
def qcReason (d : Dev) (c q : Nat) (w : List Nat) : Nat :=
  let x := qGet d (qNum c q)
  let w0 := nth 0 w 0
  let ring := 2 ^ fld w0 9 4 * 16
  if qcRange d c q w then 1
  else if fld w0 0 2 != 0 && (!inRegion d c (nth 0 w 1) ring || !inRegion d c (nth 0 w 2) ring) then 2
  else if fld w0 0 2 == 2 && clashBits11 (fld (nth 0 w 3) 16 11) (d.fldR (Reg.carPorts c) 0 11) then 3
  else if !carEnabled d c then 4
  else if x.en && (fld w0 0 2 != x.typ || fld w0 9 4 != x.log2 || nth 0 w 1 != x.w1 || nth 0 w 2 != x.w2) then 5
  else 0
where
  /-- Whether a port mask names a port outside a grant. -/
  clashBits11 (mask grant : Nat) : Bool := (List.range 11).any (fun i => bitOf mask i && !bitOf grant i)

/-- CAR_QC_CMD OP 2: the staged words take effect at once, or are refused with REASON. -/
def qcCommit (c q : Nat) (d : Dev) : Dev :=
  let w := (List.range 4).map (fun i => d.rn (Reg.carQcStage c i))
  let r := qcReason d c q w
  if r = 0 then
    (qSet (qNum c q) { qGet d (qNum c q) with w0 := nth 0 w 0, w1 := nth 0 w 1, w2 := nth 0 w 2, w3 := nth 0 w 3 } d).wn
      (Reg.carQcStatus c) 0
  else d.wn (Reg.carQcStatus c) (2 + r * 16)

/-- CAR_QC_CMD OP 3. -/
def qcReset (c q : Nat) (d : Dev) : Dev := (queueReset (qNum c q) d).wn (Reg.carQcStatus c) 0

/-- A doorbell sets PROD, or is ignored and counted (R319). Indices count modulo the ring size, so only a PROD past the ring
would place more than the ring holds (log 16). -/
def doorbell (c q prod : Nat) (d : Dev) : Dev :=
  let x := qGet d (qNum c q)
  let sz := 2 ^ x.log2
  if !carEnabled d c || !x.en || sz ≤ prod then
    d.bump (Reg.carDbIgnored c)
  else qSet (qNum c q) { x with prod := prod } d

/-- A fetched descriptor that is consumed without work: one completion with a status and the current generation (R305). -/
def descDone (c q idx : Nat) (dd : QDesc) (status : Nat) (d : Dev) : Dev :=
  completion (qNum c q) d.tc 0 (d.fldR (Reg.carGen c) 0 16) dd.tag idx status false dd.eop dd.irq 0 0 d

/-- The descriptor at an address of DRAM (R299). -/
def descRead (m : List Host.Cell) (a : Nat) : QDesc :=
  ⟨memWord m a, memWord m (a + 8) % 65536, memWord m (a + 8) / 65536, memWord m (a + 12) % 2 == 1, memWord m (a + 12) / 2 % 2 == 1,
    memWord m (a + 12) / 65536⟩

/-- The octets of a transmit frame in its buffers (R302). -/
def frameBytes (m : List Host.Cell) (base : Nat) (bufs : List QPost) : List Nat :=
  bufs.flatMap (fun b => (List.range b.desc.len).map (fun i => (memRead m (base + b.desc.addr + i)).toNat))

/-- The priority of a frame's VLAN tag; 0 without one (03 R80). -/
def bytesPrio (bs : List Nat) : Nat := if nth 0 bs 12 = 0x81 ∧ nth 0 bs 13 = 0 then nth 0 bs 14 / 32 else 0

/-- The transmit frame whose buffers are all fetched: queued on each of the queue's ports, both of a redundant pair, in the class of its
VLAN priority; without a port it completes with STATUS 3 (R302; 03 R75, R80). -/
def queueTx (m : List Host.Cell) (c q : Nat) (bufs : List QPost) (d : Dev) : Dev :=
  let g := qNum c q
  let x := qGet d g
  let ports := bothOfPair d (x.portMask &&& d.rn (Reg.carPorts c))
  let bs := frameBytes m (carBase d c) bufs
  let cls := fwdClass (bytesPrio bs)
  let ident := d.flyId
  let fly : QFly := ⟨ident, ports, bufs, d.fldR (Reg.carGen c) 0 16, cls, 0⟩
  let d := qSet g { x with posted := [], flying := x.flying ++ [fly] } { d with flyId := d.flyId + 1 }
  if ports = [] then txCopyDone g ident 0 3 d
  else enqueueCopies ports { kind := 6, src := g, cls := cls, len := bs.length, tag := ident, body := bs } d

/-- A transmit buffer joins its frame; the last one of the run sends it, or completes it with STATUS 3 where one of its buffers lies
outside the region (R302). -/
def txBuffer (m : List Host.Cell) (c q : Nat) (p : QPost) (d : Dev) : Dev :=
  let g := qNum c q
  let x := qGet d g
  let bufs := x.posted ++ [p]
  let bad := x.badRun || !inRegion d c p.desc.addr p.desc.len
  if !p.desc.eop then qSet g { x with posted := bufs, badRun := bad } d
  else if bad then
    completions g d.tc (d.fldR (Reg.carGen c) 0 16) 3 0 0 true (bufs.map (fun b => (b, b.desc.len)))
      (qSet g { x with posted := [], badRun := false } d)
  else queueTx m c q bufs (qSet g { x with posted := bufs } d)

/-- The descriptor at CONS is fetched from the ring: a stale one is consumed with its completion, a receive buffer is posted unless it lies
outside the region, and a transmit buffer joins its frame (R299, R302, R305). -/
def descFetch (m : List Host.Cell) (c q : Nat) (d : Dev) : Dev :=
  let g := qNum c q
  let x := qGet d g
  if !carEnabled d c || !x.en || x.prod = x.cons || x.typ = 0 || x.typ = 3 then d
  else
    let idx := x.cons % 2 ^ x.log2
    let dd := descRead m (carBase d c + x.w1 + idx * 16)
    let d := qSet g { x with cons := (x.cons + 1) % 2 ^ x.log2 } d
    if dd.gen ≠ d.fldR (Reg.carGen c) 0 16 then descDone c q idx dd 2 (d.bump (Reg.carStaleDesc c))
    else if x.typ = 2 then txBuffer m c q ⟨idx, dd⟩ d
    else if !inRegion d c dd.addr x.bufSize then descDone c q idx dd 3 d
    else qSet g { qGet d g with posted := x.posted ++ [⟨idx, dd⟩] } d

/-- Descriptors fetched one after another, from CONS on (R319). -/
def descFetches (m : List Host.Cell) (c q : Nat) : Nat → Dev → Dev
  | 0, d => d
  | n + 1, d => descFetches m c q n (descFetch m c q d)

/-- A write of CAR_VEC_CTRL: clearing MASK with PENDING set sends one write (R319). -/
def writeVecCtrl (c v val : Nat) (d : Dev) : Dev :=
  let r := Reg.carVecCtrl c v
  let pend := d.bitR r 1
  if bitOf val 0 then d.putB r 0 true
  else if pend then vecSignal c v ((d.putB r 0 false).putB r 1 false)
  else d.putB r 0 false

/-- An effect on the window of a carriage that exists. -/
def onCar (c : Nat) (ok : Bool) (f : Dev → Dev) (d : Dev) : Dev := if ok && carSt d c != 0 then f d else d

/-- QUEUE_CONTEXT_READ (R298). -/
def execQueueContextRead (c q : Nat) (s : State) : Outcome := s.act (onCar c (c < 512 && q < 2048) (qcRead c q))

/-- QUEUE_CONTEXT_COMMIT (R298). -/
def execQueueContextCommit (c q : Nat) (s : State) : Outcome := s.act (onCar c (c < 512 && q < 2048) (qcCommit c q))

/-- QUEUE_RESET (R298). -/
def execQueueReset (c q : Nat) (s : State) : Outcome := s.act (onCar c (c < 512 && q < 2048) (qcReset c q))

/-- QUEUE_DOORBELL (R319). -/
def execQueueDoorbell (c q prod : Nat) (s : State) : Outcome :=
  s.act (onCar c (c < 512 && q < 2048 && prod < 65536) (doorbell c q prod))

/-- DESCRIPTOR_FETCH (R305). -/
def execDescriptorFetch (c q n : Nat) (s : State) : Outcome :=
  s.actM (fun m => onCar c (c < 512 && q < 2048 && n < 32768) (descFetches m c q n))

/-- VEC_CTRL_WRITE (R319); at level 1 a vector other than 0 is a reserved offset (R318; 00_scope R7). -/
def execVecCtrlWrite (c v : Nat) (val : Word) (s : State) : Outcome :=
  s.act (onCar c (c < 512 && v < 32) (fun d =>
    if carLevel d c = 1 ∧ v ≠ 0 then raise 48 none (Reg.carVecCtrl c v) 1 d else writeVecCtrl c v val.toNat d))

end Sys2Proof.Machine
end

