-- ==== Sys2Proof/Machine/Pub.lean ====
section
/-! DEFINITION. Publication: entries and maps, hand-off, state changes, repetitions, safe images, trip seats, SV
republication and synchrophasor reports (09 R265 to R290). -/

namespace Sys2Proof.Machine

/-! When the module transmits (16 R484 to R486). -/

/-- GLB_MODE.BASE in Maintenance, else the mode. -/
def baseMode (d : Dev) : Nat := if d.mode = modeMaintenance then d.fldR Reg.glbMode 4 3 else d.mode

/-- Whether the rules of Active apply. -/
def isActive (d : Dev) : Bool := baseMode d == modeActive

def isFenced (d : Dev) : Bool := d.bitR Reg.glbStatus 4

/-- Whether publication transmits (00_scope R586; 09 R280; 16 R486). -/
def pubTx (d : Dev) : Bool := d.enabled Reg.pubCtrl && isActive d && !isFenced d

/-! GOOSE entries (R267). -/

def geZero : List Nat := List.replicate 58 0
def geEnt (d : Dev) (i : Nat) : List Nat := tget geZero d.pub.ge i
def geCommitted (d : Dev) (i : Nat) : List Nat := (tfind d.pub.gePend i).getD (geEnt d i)
def geState (e : List Nat) : Nat := fld (entW e 0) 0 2
def geTrip (e : List Nat) : Bool := bitOf (entW e 0) 2
def geAuth (e : List Nat) : Nat := fld (entW e 0) 3 2
def geSlot (e : List Nat) : Nat := fld (entW e 0) 5 8
def geSilent (e : List Nat) : Bool := bitOf (entW e 0) 13
def geCar (e : List Nat) : Nat := fld (entW e 0) 16 9
def gePorts (e : List Nat) : Nat := fld (entW e 3) 16 11
def geBase (e : List Nat) : Nat := fld (entW e 5) 0 15
def geNmap (e : List Nat) : Nat := fld (entW e 5) 16 7
def geTmin (e : List Nat) : Nat := fld (entW e 6) 0 16
def geTmax (e : List Nat) : Nat := fld (entW e 7) 0 23
def geMult (e : List Nat) : Nat := fld (entW e 8) 0 3
/-- The octets of GOCBREF, DATSET and GOID. -/
def geRef (e : List Nat) : List Nat := entOctets e 10 (fld (entW e 9) 0 7)
def geDatset (e : List Nat) : List Nat := entOctets e 26 (fld (entW e 9) 8 7)
def geGoid (e : List Nat) : List Nat := entOctets e 42 (fld (entW e 9) 16 7)

/-- Algorithm, slot and key identity of the authentication extension of a frame (R276). -/
def pubAuth (d : Dev) (auth slot : Nat) : Option (Nat × Nat × Nat) :=
  if auth = 0 then none else some (auth, slot, (tfind d.sbx.keys slot).getD 0)

/-- What the words of an entry put into each of its frames: words 0 to 4 (R267, R285). -/
def pubHead (d : Dev) (e : List Nat) (auth slot : Nat) (refs : List (List Nat)) : PubHead :=
  { da := entW e 1 + fld (entW e 2) 0 16 * 2 ^ 32, appid := fld (entW e 2) 16 16,
    vlan := if bitOf (entW e 3) 15 then some (fld (entW e 3) 12 3, fld (entW e 3) 0 12) else none,
    confRev := entW e 4, refs := refs, test := bitOf (entW e 0) 14, sim := bitOf (entW e 0) 15, auth := pubAuth d auth slot }

def geHead (d : Dev) (e : List Nat) : PubHead := pubHead d e (geAuth e) (geSlot e) [geRef e, geDatset e, geGoid e]

def pmapW (d : Dev) (i : Nat) : Nat := tget 0 d.pub.map i
def pmSrc (w : Nat) : Nat := fld w 0 11
def pmType (w : Nat) : Nat := fld w 11 3
def geMap (d : Dev) (e : List Nat) : List Nat := (List.range (geNmap e)).map (fun k => pmapW d (geBase e + k))

/-- Bytes of an entry's largest frame. -/
def geLen (d : Dev) (e : List Nat) : Nat := Config.gooseLen (e ++ geMap d e)

/-- Ports an entry sends on (R267). -/
def gePortList (d : Dev) (e : List Nat) : List Nat := bothOfPair d (gePorts e)

def GeRun.start : GeRun := ⟨none, 0, 0, 0, none, false, 0⟩
def geRun (d : Dev) (i : Nat) : GeRun := tget GeRun.start d.pub.run i
def setRun (i : Nat) (x : GeRun) (d : Dev) : Dev := { d with pub := { d.pub with run := tput d.pub.run i x } }

/-! Commits (R268). -/

def bitsIn (l : List Nat) (m : Nat) : Bool := l.any (bitOf m)

/-- Whether the staged words are in range; reserved bits count as a field of 0 (log 33). -/
def geRange (e : List Nat) : Bool :=
  let n := [fld (entW e 9) 0 7, fld (entW e 9) 8 7, fld (entW e 9) 16 7]
  geState e != 3 && geAuth e != 3 && fld (entW e 0) 25 7 == 0 && fld (entW e 3) 27 5 == 0 &&
    fld (entW e 5) 15 1 == 0 && fld (entW e 5) 23 9 == 0 && 1 ≤ geNmap e && geNmap e ≤ 64 && geBase e + geNmap e ≤ 32768 &&
    fld (entW e 6) 16 16 == 0 && 16 ≤ geTmin e && fld (entW e 7) 23 9 == 0 && geTmin e ≤ geTmax e && geTmax e ≤ 4608000 &&
    fld (entW e 8) 3 29 == 0 && 2 ≤ geMult e && geMult e ≤ 4 && n.all (fun k => 1 ≤ k && k ≤ 64) &&
    fld (entW e 9) 7 1 == 0 && fld (entW e 9) 15 1 == 0 && fld (entW e 9) 23 9 == 0

/-- Whether a publication map word names a source in the output area (R269). -/
def pmOk (w : Nat) : Bool :=
    (if pmType w = 0 || pmType w = 7 then true else if pmType w = 1 then pmSrc w ≤ 2046 else pmSrc w ≤ 127)

/-- GOOSE entries as committed, other than `i`, that are not FREE. -/
def geOthers (d : Dev) (i : Nat) : List (List Nat) :=
  ((dedup (tkeys d.pub.ge ++ tkeys d.pub.gePend)).filter (fun k => k != i && geState (geCommitted d k) != 0)).map (geCommitted d)

/-- Wire time of trip frames on a port, in hundredths of ns (01 R23). -/
def tripWire (d : Dev) (es : List (List Nat)) (p : Nat) : Nat :=
  ((es.filter (fun e => geTrip e && (gePortList d e).contains p)).map (fun e => (geLen d e + 20) * byteTime d p)).sum

/-- Cells of trip frames on a port (03 R82). -/
def tripCells (d : Dev) (es : List (List Nat)) (p : Nat) : Nat :=
  ((es.filter (fun e => geTrip e && (gePortList d e).contains p)).map (fun e => cellsOf (geLen d e))).sum

/-- Whether a set of entries keeps the egress tick of every port (R23, R82, R255). -/
def tripFits (d : Dev) (es : List (List Nat)) : Bool :=
  (List.range 11).all (fun p => tripWire d es p ≤ 1050000 && tripCells d es p ≤ qThrResv d p 7)

/-- The REASON of a GOOSE commit, or 0: the lowest that holds, whatever STATE the words have (00_scope R587). -/
def geReason (d : Dev) (who : Who) (i : Nat) (e : List Nat) : Nat :=
  let old := geEnt d i
  if !geRange e then 1
  else if (geMap d e).any (fun w => !pmOk w) then 2
  else if geTrip e && (carCls d (geCar e) == 2 || bitOf (gePorts e) 10) then 3
  else if (gePortList d e).any (fun p => d.fldR (Reg.ethMaxlen p) 0 14 < geLen d e) then 4
  else if (geOthers d i).any (fun o => geRef o == geRef e) then 5
  else if geState old = 1 && carEnabled d (geCar old) &&
      (geCar old != geCar e || geTrip old != geTrip e || gePorts old != gePorts e || geBase old != geBase e || geNmap old != geNmap e)
    then 6
  else if geState e != 0 && geTrip e && !tripFits d (e :: geOthers d i) then 7
  else if !namesSlot d (geAuth e) (geSlot e) fnSignOut (.carriage (geCar e)) who then 8 else 0

def geRead (i : Nat) (d : Dev) : Dev := wnList (fun w => Reg.pubGeStage w) 0 (takePad 0 58 (geCommitted d i)) d

def geCommitW (who : Who) (i : Nat) (e : List Nat) (d : Dev) : Dev :=
  let r := geReason d who i e
  if r ≠ 0 then d.wn Reg.pubGeCstat (2 + r * 16)
  else { d.wn Reg.pubGeCstat 0 with pub := { d.pub with gePend := tput d.pub.gePend i (takePad 0 58 e) } }

def geCommit (i : Nat) (d : Dev) : Dev :=
  let w := (List.range 58).map (fun k => d.rn (Reg.pubGeStage k))
  let d := geCommitW liveryWho i w d
  if d.bitR Reg.pubGeCstat 1 then d else journal 4 i w d

/-- PUB_STATUS follows the tables. -/
def pubStatusUpd (d : Dev) : Dev :=
  let n (t : Tbl (List Nat)) : Nat := (t.filter (fun p => geState p.2 == 1)).length
  ((d.setF Reg.pubStatus 0 12 (n d.pub.ge)).setF Reg.pubStatus 12 9 (n d.pub.sv)).setF Reg.pubStatus 21 6 (n d.pub.pmu)

/-- Whether a map word lies in a LIVE publication entry's map. -/
def pmapLive (d : Dev) (i : Nat) : Bool :=
  d.pub.ge.any (fun p => geState p.2 == 1 && geBase p.2 ≤ i && i < geBase p.2 + geNmap p.2)

/-- A map write inside the map of a LIVE entry is ignored with an Info event; reserved bits stay 0 (R269, R290; 00_scope R10). -/
def pmapWrite (i w : Nat) (d : Dev) : Dev :=
  if pmapLive d i then d.emit (.infoEvent 290)
  else { d with pub := { d.pub with map := tset 0 d.pub.map i (w &&& 0x1F3FFF) } }

/-- A map word written through registers; one that is taken enters the journal (11 R334). -/
def pmapCommit (i w : Nat) (d : Dev) : Dev := pmapWrite i w (if pmapLive d i then d else journal 8 i [w] d)

/-! SV entries (R285). -/

def svAuthOf (e : List Nat) : Nat := fld (entW e 0) 2 2
def svSlotOf (e : List Nat) : Nat := fld (entW e 0) 4 8
def svNchan (e : List Nat) : Nat := fld (entW e 5) 0 5
def svChans (e : List Nat) : List Nat := (List.range (svNchan e)).map (fun k => fld (entW e (6 + k / 2)) (k % 2 * 16) 15)
def svZero : List Nat := List.replicate 35 0
def svCommitted (d : Dev) (i : Nat) : List Nat := (tfind d.pub.svPend i).getD (tget svZero d.pub.sv i)

/-- The octets of an SV entry's svID. -/
def svRef (e : List Nat) : List Nat := entOctets e 19 (fld (entW e 18) 0 7)

def svHead (d : Dev) (e : List Nat) : PubHead := pubHead d e (svAuthOf e) (svSlotOf e) [svRef e]

/-- The REASON of an SV commit, or 0: the causes of R268 that its entries can meet, the lowest that holds. -/
def svReason (d : Dev) (who : Who) (i : Nat) (e : List Nat) : Nat :=
  let old := tget svZero d.pub.sv i
  if geState e = 3 || svAuthOf e = 3 || fld (entW e 0) 12 2 != 0 || fld (entW e 0) 25 7 != 0 || fld (entW e 3) 27 5 != 0 ||
      bitOf (gePorts e) 10 || svNchan e = 0 || 24 < svNchan e || fld (entW e 5) 5 27 != 0 || fld (entW e 18) 7 25 != 0 ||
      fld (entW e 18) 0 7 = 0 || 64 < fld (entW e 18) 0 7 then 1
  else if (svChans e).any (fun ch => !(chCar (fchCommitted d 0 ch) == geCar e && fchCommitted d 0 ch != [] &&
      chFmt (fchCommitted d 0 ch) != 1)) then 2
  else if (bothOfPair d (gePorts e)).any (fun p => d.fldR (Reg.ethMaxlen p) 0 14 < Config.svLen e) then 4
  else if geState old = 1 && carEnabled d (geCar old) && (geCar old != geCar e || gePorts old != gePorts e) then 6
  else if !namesSlot d (svAuthOf e) (svSlotOf e) fnSignOut (.carriage (geCar e)) who then 8 else 0

def svRead (i : Nat) (d : Dev) : Dev := wnList (fun w => Reg.pubSvStage w) 0 (takePad 0 35 (svCommitted d i)) d
def svCommitW (who : Who) (i : Nat) (e : List Nat) (d : Dev) : Dev :=
  let r := svReason d who i e
  if r ≠ 0 then d.wn Reg.pubSvCstat (2 + r * 16)
  else { d.wn Reg.pubSvCstat 0 with pub := { d.pub with svPend := tput d.pub.svPend i (takePad 0 35 e) } }
def svCommit (i : Nat) (d : Dev) : Dev :=
  let w := (List.range 35).map (fun k => d.rn (Reg.pubSvStage k))
  let d := svCommitW liveryWho i w d
  if d.bitR Reg.pubSvCstat 1 then d else journal 5 i w d

/-! Synchrophasor entries (R288). -/

def pmuZero : List Nat := List.replicate 16 0
def pmuCommitted (d : Dev) (i : Nat) : List Nat := (tfind d.pub.pmuPend i).getD (tget pmuZero d.pub.pmu i)
def pmuRates : List Nat := [10, 12, 15, 20, 25, 30, 50, 60, 100, 120]
def pmuRate (e : List Nat) : Nat := nth 10 pmuRates (fld (entW e 1) 16 4)
def pmuCount (e : List Nat) : Nat := fld (entW e 7) 0 4 + 1
def pmuRecs (e : List Nat) : List Nat := (List.range (pmuCount e)).map (fun j => fld (entW e (8 + j / 2)) (j % 2 * 16) 10)
def pmuFreq (e : List Nat) : Nat := fld (entW e 7) 4 10

/-- The REASON of a stream's commit, or 0: every record a PHASOR_DFT fundamental of one group. -/
def pmuReason (d : Dev) (e : List Nat) : Nat :=
  let ws := (pmuRecs e).map (fun r => (r, writerOf (committedView d) (geCar e) r))
  let g := (ws.head?).bind (fun p => p.2.map (fun w => kIn w 1))
  if geState e = 3 || 9 < fld (entW e 1) 16 4 || fld (entW e 0) 2 14 != 0 || fld (entW e 0) 25 7 != 0 ||
      fld (entW e 1) 20 12 != 0 || fld (entW e 6) 16 16 != 0 || fld (entW e 7) 14 18 != 0 ||
      !ws.all (fun p => match p.2 with
        | some w => kCode w == 1 && kResult w == p.1 && some (kIn w 1) == g
        | none => false) then 1 else 0

def pmuRead (i : Nat) (d : Dev) : Dev := wnList (fun w => Reg.pubPmuStage w) 0 (takePad 0 16 (pmuCommitted d i)) d
def pmuCommitW (i : Nat) (e : List Nat) (d : Dev) : Dev :=
  let r := pmuReason d e
  if r ≠ 0 then d.wn Reg.pubPmuCstat (2 + r * 16)
  else { d.wn Reg.pubPmuCstat 0 with pub := { d.pub with pmuPend := tput d.pub.pmuPend i (takePad 0 16 e) } }
def pmuCommit (i : Nat) (d : Dev) : Dev :=
  let w := (List.range 16).map (fun k => d.rn (Reg.pubPmuStage k))
  let d := pmuCommitW i w d
  if d.bitR Reg.pubPmuCstat 1 then d else journal 6 i w d

/-! Entries in force at a route boundary (R268, R270). -/

/-- An entry in force: one that leaves FREE starts with stNum 1 and sqNum 0, and one that becomes LIVE from SUSPENDED keeps its
counters (R267) and sends a first frame after its next hand-off, from which its schedule restarts. -/
def geInForce (i : Nat) (e : List Nat) (d : Dev) : Dev :=
  let was := geState (geEnt d i)
  let d := { d with pub := { d.pub with ge := tset geZero d.pub.ge i e } }
  let d := d.setF (Reg.pubGeSt i) 0 2 (geState e)
  let d := if was = 0 && geState e ≠ 0 then
      (setRun i GeRun.start (d.wn (Reg.pubGeStnum i) 1)).wn (Reg.pubGeSqnum i) 0
    else if was = 2 && geState e = 1 then setRun i { geRun d i with sent := none } d else d
  if geState e = 0 then { d with pub := { d.pub with run := tdel d.pub.run i, chg := d.pub.chg.filter (fun x => x != i) } } else d

/-- TRIP_WIN of every port from 0 to 9: set where a LIVE trip entry names the port (03 R85). -/
def tripWins (d : Dev) : Dev :=
  (List.range 10).foldl (fun d p =>
    setTripWin p (d.pub.ge.any (fun e => geState e.2 == 1 && geTrip e.2 && (gePortList d e.2).contains p)) d) d

/-- Every waiting commit in force. -/
def pubApply (d : Dev) : Dev :=
  let g := d.pub.gePend
  let s := d.pub.svPend
  let m := d.pub.pmuPend
  let d := { d with pub := { d.pub with gePend := [], svPend := [], pmuPend := [] } }
  let d := g.foldl (fun d p => geInForce p.1 p.2 d) d
  let d := s.foldl (fun d p => ({ d with pub := { d.pub with sv := tset svZero d.pub.sv p.1 p.2 } }).setF (Reg.pubSvSt p.1) 0 2
    (geState p.2)) d
  let d := m.foldl (fun d p =>
    let d := { d with pub := { d.pub with pmu := tset pmuZero d.pub.pmu p.1 p.2, pmuNext := tdel d.pub.pmuNext p.1 } }
    d.setF (Reg.pubPmuSt p.1) 0 2 (geState p.2)) d
  tripWins (pubStatusUpd d)

/-! Safe images (R277 to R279). -/

def safeBase (d : Dev) : Nat := d.rn Reg.pubSafeBaseLo + d.fldR Reg.pubSafeBaseHi 0 8 * 2 ^ 32

/-- The words of a carriage's safe image that are not 0, by their place in the output area. -/
def safeWords (m : List Host.Cell) (base c : Nat) : Tbl Nat :=
  ((List.range 192).map (fun i => (0x1000 + i, memWord m (base + c * 0x400 + i * 4)))).filter (fun p => p.2 != 0)

/-- Every safe image copied on die at a route boundary (R278): those of the carriages for which the table lists a byte, and zeros for the
others. -/
def safeCopy (m : List Host.Cell) (d : Dev) : Dev :=
  let b := safeBase d
  let cs := dedup ((m.filter (fun p => b ≤ p.1 && p.1 < b + 512 * 0x400)).map (fun p => (p.1 - b) / 0x400))
  { d with pub := { d.pub with safe := cs.foldl (fun t c => tset [] t c (safeWords m b c)) [] } }

/-- A carriage's outputs are to take their safe values (R277); the stamp is the present tick. -/
def askSafe (c : Nat) (d : Dev) : Dev := { d with pub := { d.pub with safeReq := tput d.pub.safeReq c d.tim.absTick } }

/-- Whether a carriage's safe image is in force; that of a destroyed carriage stays so (R277). -/
def isSafe (d : Dev) (c : Nat) : Bool := d.bitR (Reg.carState c) 7 || (tfind d.cars c).isNone

/-- The output word publication uses for a carriage. -/
def outWord (d : Dev) (c a : Nat) : Nat :=
  tget 0 (if isSafe d c then tget [] d.pub.safe c else tget [] d.pub.img c) a

def outBit (d : Dev) (c i : Nat) : Bool := bitOf (outWord d c (0x1000 + i / 32)) (i % 32)

/-! Encoding (R269, R270). -/

/-- The value of a member; that of TYPE 7, which is no part of a comparison, is put in when a frame is built. -/
def memberVal (d : Dev) (c w : Nat) : Nat :=
  let word := outWord d c (0x1040 + pmSrc w % 128)
  match pmType w with
  | 0 => b2n (outBit d c (pmSrc w))
  | 1 => b2n (outBit d c (pmSrc w)) + b2n (outBit d c (pmSrc w + 1)) * 2
  | 2 => word
  | 3 => word
  | 4 => word
  | 5 => fld word 0 (fld w 16 5 + 1)
  | 6 => fld word 0 13
  | _ => 0

/-- Clock quality bits of a UtcTime: LeapSecondsKnown, ClockFailure, ClockNotSynchronized. -/
def utcQual (d : Dev) : Nat :=
  b2n (d.bitR Reg.timUtcOffset 31) + b2n (timState d == tsFree) * 2 + b2n (timState d != tsLocked) * 4

/-- A UtcTime: the grid instant of leg `n` in seconds of TAI less TIM_UTC_OFFSET, modulo 2^32, and nanoseconds of the second in 30 bits, then
its quality bits (R269, R270). -/
def utcOf (d : Dev) (n : Nat) : Nat :=
  let sec := ((n / 4800 : Nat) : Int) - sx 16 (d.fldR Reg.timUtcOffset 0 16)
  (wrapN 32 sec * 2 ^ 30 + n % 4800 * 1000000000 / 4800) * 8 + utcQual d

/-- The leg whose image an entry of a carriage publishes at a hand-off of leg `n`: a safe image is of that leg. -/
def pubLeg (d : Dev) (c n : Nat) : Nat := if isSafe d c then n else (tfind d.pub.imgLeg c).getD n

/-- stNum or sqNum after one more: 0xFFFF_FFFF wraps to 1. -/
def nextNum (n : Nat) : Nat := if n = 0xFFFFFFFF then 1 else n + 1

/-- An entry encoded at a hand-off of leg `n` (R270, R279): whether it has a state change to send. -/
def geEncode (i n : Nat) (d : Dev) : Dev :=
  let e := geEnt d i
  let x := geRun d i
  let c := geCar e
  let quiet := isSafe d c && geSilent e
  let d := (d.putB (Reg.pubGeSt i) 2 (isSafe d c)).putB (Reg.pubGeSt i) 3 quiet
  if quiet then setRun i { x with quiet := true } d
  else
    let v := (geMap d e).map (memberVal d c)
    let l := pubLeg d c n
    let d' := setRun i { x with vals := some v, leg := l, quiet := false, enc := l } d
    let ask (d : Dev) : Dev := { d with pub := { d.pub with chg := d.pub.chg ++ [i] } }
    if x.vals.isNone && !x.quiet then ask d'
    else if x.vals = some v && !x.quiet then
      let d := setRun i { x with enc := l } d
      if x.sent.isNone && !d.pub.chg.contains i then ask d else d
    else ask ((d'.wn (Reg.pubGeStnum i) (nextNum (d.rn (Reg.pubGeStnum i)))).wn (Reg.pubGeSqnum i) 0)

/-- The LIVE entries of a carriage, ascending. -/
def carGe (d : Dev) (c : Nat) : List Nat :=
  (d.pub.ge.filter (fun p => geState p.2 == 1 && geCar p.2 == c)).map (fun p => p.1)

/-- A safe state begins at this hand-off. -/
def safeBegins (c : Nat) (d : Dev) : Dev :=
  let d := { d with pub := { d.pub with safeReq := tdel d.pub.safeReq c } }
  if isSafe d c then d else raise 282 (some c) c 0 (setSafe c true d)

/-- Whether a P2 carriage's outputs miss the end of the route that follows their leg's route (01 R29). -/
def tooLateP2 (c : Nat) (d : Dev) : Bool :=
  carCls d c == 2 && match (hcar d c).last with
    | some l => l / 240 + 1 < d.tim.absRoute
    | none => false

/-- The hand-off takes a newly committed image; a RESTORING carriage's is not taken (R265, R277, 10 R317), and a P2 image
that is too late is withheld and counted (01 R29). -/
def takeImage (c : Nat) (d : Dev) : Dev :=
  let x := hcar d c
  if !x.fresh || carSt d c == stRestoring then d
  else if tooLateP2 c d then (setHcar c { x with fresh := false } d).bump (Reg.hleCSkipped c)
  else
    let d := setHcar c { x with fresh := false } d
    let legs := match x.last with | some l => tput d.pub.imgLeg c l | none => d.pub.imgLeg
    setSafe c false { d with pub := { d.pub with img := tset [] d.pub.img c x.out, imgLeg := legs } }

/-! Field balls that publication drives (16 R492, R493). -/

/-- The code of ball group member `k` of RST_BALL_FUSE: 0 TRIP_EN, 1 LANTERN, 2 to 9 CONTACT_DRV, 10 PFAIL_ACK, 11 BRACE_ROLE. -/
def fuseCode (d : Dev) (k : Nat) : Nat := d.fldR Reg.rstBallFuse (2 * k) 2

/-- The level of a ball at its fuse state: driven, or pulled (R492). -/
def fuseLevel (d : Dev) (k : Nat) : Nat := fuseCode d k % 2

/-- The active level of a ball. -/
def activeLevel (d : Dev) (k : Nat) : Nat := 1 - fuseCode d k % 2

/-- The level of a CONTACT_DRV ball. -/
def contactLevel (d : Dev) (b : Nat) : Nat :=
  let w := d.rn (Reg.glbCdrvSel b)
  let lvl (on : Bool) : Nat := if on then activeLevel d (2 + b) else 1 - activeLevel d (2 + b)
  match fld w 0 2 with
  | 1 => lvl (d.bitR Reg.glbCdrvOut b)
  | 2 => if isActive d then lvl (outBit d (fld w 2 9) (fld w 11 11)) else fuseLevel d (2 + b)
  | _ => fuseLevel d (2 + b)

/-- The CONTACT_DRV balls that name a carriage output are driven. -/
def driveContacts (d : Dev) : Dev :=
  ((List.range 8).filter (fun b => d.fldR (Reg.glbCdrvSel b) 0 2 == 2)).foldl (fun d b =>
    d.emit (.ball "CONTACT_DRV" (b * 2 + contactLevel d b))) d

/-- The hand-off of leg `n` (R265, R266, R277): new images, safe images whose event is in the leg's frozen inputs, encoding. -/
def handOff (n : Nat) (d : Dev) : Dev :=
  let cs := dedup d.pub.commits
  let d := { d with pub := { d.pub with commits := [] } }
  let d := cs.foldl (fun d c => takeImage c d) d
  let ss := (d.pub.safeReq.filter (fun p => p.2 < d.tim.absTick)).map (fun p => p.1)
  let d := ss.foldl (fun d c => safeBegins c d) d
  let new := (d.pub.ge.filter (fun p => geState p.2 == 1 && ((geRun d p.1).vals.isNone || (geRun d p.1).sent.isNone))).map
    (fun p => geCar p.2)
  let d := (dedup (cs ++ ss ++ new)).foldl (fun d c => (carGe d c).foldl (fun d i => geEncode i n d) d) d
  driveContacts d

/-! Sending (R270 to R276). -/

/-- timeAllowedToLive in ms (R271). -/
def talOf (mult ivl : Nat) : Nat := (mult * ivl * 10 + 767) / 768

/-- Whether the Strongbox lets a slot sign for publication; a refusal drops the frame on every port (R276). No frame is built, and no slot
used, while publication transmits nothing (log 33). -/
def signFor (c i auth slot : Nat) (authBad : Dev → Dev) (d : Dev) : Bool × Dev :=
  if auth = 0 || !pubTx d then (true, d)
  else
    let u := slotUse slot fnSignOut [auth] (.carriage c) false d
    if u.1 then u
    else (false, raiseH 280 none i 0 (i * 65536) 0 (authBad (u.2.bump Reg.pubAuthFailCnt)))

/-- The members of allData as a frame carries them: a TYPE 7 member holds the instant of the leg encoded last (R269). -/
def geMembers (d : Dev) (e : List Nat) (x : GeRun) : List Nat :=
  ((geMap d e).zip (x.vals.getD [])).map (fun p => if pmType p.1 = 7 then utcOf d x.enc else p.2)

/-- One frame of an entry in a class, with the interval to its next scheduled frame; then sqNum advances. -/
def geSend (i cls ivl : Nat) (d : Dev) : Dev :=
  let e := geEnt d i
  let x := geRun d i
  let now := d.tim.absTick
  let u := signFor (geCar e) i (geAuth e) (geSlot e) (fun d => d.setB (Reg.pubGeSt i) 4) d
  let d := u.2
  let d := if u.1 then d.clrB (Reg.pubGeSt i) 4 else d
  let body := [d.rn (Reg.pubGeStnum i), d.rn (Reg.pubGeSqnum i), talOf (geMult e) ivl, utcOf d x.leg] ++ geMembers d e x
  let f : TxFrame := { kind := 1, src := i, cls := cls, len := geLen d e, tag := now, body := body, head := some (geHead d e) }
  let d := if u.1 && pubTx d then enqueueCopies (gePortList d e) f d else d
  let d := d.bump (Reg.pubGeTx i)
  let d := d.wn (Reg.pubGeSqnum i) (nextNum (d.rn (Reg.pubGeSqnum i)))
  setRun i { x with due := now + ivl, ivl := ivl, sent := some now } d

/-- Whether the next frame of an entry is the first since it became LIVE and no state change. -/
def geFirst (d : Dev) (i : Nat) : Bool :=
  (geRun d i).sent.isNone && (d.rn (Reg.pubGeStnum i) == 1 || d.rn (Reg.pubGeSqnum i) != 0)

/-- The state-change frame of an entry, or its first frame, at the egress tick (R271, R272). -/
def geChange (i : Nat) (d : Dev) : Dev :=
  let e := geEnt d i
  if geState e ≠ 1 then d else geSend i (if geTrip e && !geFirst d i then 7 else 6) (geTmin e) d

/-- Whether a LIVE entry owes a takeover frame: the module took over, or its carriage has just resumed from a restore and has
handed off since (R281; 10 R317). -/
def owesFirst (d : Dev) (c : Nat) : Bool :=
  carEnabled d c && (d.pub.takeover || (match tfind d.cars c with | some k => k.firstPub | none => false) && !isSafe d c)

/-- The frame of an entry at a takeover or a resume: its state change where it has one, and otherwise the next frame. A trip entry's
state change waits for its place in class 7 (R281). -/
def takeoverFrame (i : Nat) (d : Dev) : Dev :=
  if !d.pub.chg.contains i then geSend i 6 (geTmin (geEnt d i)) d
  else if geTrip (geEnt d i) && !geFirst d i then d
  else geChange i { d with pub := { d.pub with chg := d.pub.chg.filter (fun x => x != i) } }

/-- The frames of a takeover or a resume: every such LIVE entry, ascending, but those that are silent (R279, R281). -/
def takeoverFrames (d : Dev) : Dev :=
  let cs := (tkeys d.cars).filter (owesFirst d)
  let l := (d.pub.ge.filter (fun p => geState p.2 == 1 && cs.contains (geCar p.2) && !(isSafe d (geCar p.2) && geSilent p.2))).map
    (fun p => p.1)
  let d := l.foldl (fun d i => takeoverFrame i d) d
  let d := cs.foldl (fun d c => modCar c (fun k => { k with firstPub := false }) d) d
  if d.pub.takeover then { d with pub := { d.pub with takeover := false } }.clrB Reg.pubStatus 28 else d

/-- The start of an egress tick: takeover frames, then state changes in Harness output order (R271, R272, R281). -/
def egressTick (d : Dev) : Dev :=
  let d := takeoverFrames d
  let l := d.pub.chg
  l.foldl (fun d i => geChange i d) { d with pub := { d.pub with chg := [] } }

/-- A scheduled repetition (R271, R274). -/
def geRepeat (i : Nat) (d : Dev) : Dev :=
  let e := geEnt d i
  let x := geRun d i
  if geState e ≠ 1 || x.vals.isNone || x.sent.isNone || d.tim.absTick < x.due || x.sent = some d.tim.absTick ||
      (isSafe d (geCar e) && geSilent e) || d.pub.chg.contains i then d
  else geSend i 6 (min (2 * x.ivl) (geTmax e)) d

/-! Trip seats (R282 to R284). -/

def tsBank (d : Dev) : Nat := b2n (d.bitR Reg.pubTsmapCtrl 1)

/-- The command word of a trip slot in force. -/
def tripWord (d : Dev) (w0 w1 : Nat) : Nat :=
  let c := fld w0 0 9
  fld w1 9 5 + fld w1 14 8 * 256 + b2n (outBit d c (fld w0 9 11)) * 65536 + b2n (isSafe d c) * 131072 +
    b2n (hMode d c == hHold) * 262144

/-- Valid entries of a bank: index and words (unwritten entries read 0). -/
def tsEntries (d : Dev) (b : Nat) : List (Nat × Nat × Nat) :=
  d.regs.filterMap (fun p =>
    let i := (p.1 - Reg.pubTsmapW0 b 0) / 8
    if Reg.pubTsmapW0 b 0 ≤ p.1 && i < 4096 && p.1 == Reg.pubTsmapW0 b i && bitOf p.2.toNat 31 then
      some (i, p.2.toNat, d.rn (Reg.pubTsmapW1 b i))
    else none)

/-- The 512 command words of a trip seat: slots without a map entry hold 0xFFFF_FFFF. -/
def tripPayload (d : Dev) (seat : Nat) : List Nat :=
  let es := (tsEntries d (tsBank d)).filter (fun p => fld p.2.1 20 6 == seat)
  (List.range 512).map (fun k => match es.find? (fun p => fld p.2.2 0 9 == k) with
    | some p => tripWord d p.2.1 p.2.2
    | none => 0xFFFFFFFF)

/-- Whether a seat is named by a valid entry of the map in force. -/
def isTripSeat (d : Dev) (seat : Nat) : Bool := (tsEntries d (tsBank d)).any (fun p => fld p.2.1 20 6 == seat)

/-- Nodes that the map in force names for a seat. -/
def tripNodes (d : Dev) (seat : Nat) : List Nat :=
  dedup (((tsEntries d (tsBank d)).filter (fun p => fld p.2.1 20 6 == seat)).map (fun p => fld p.2.2 9 5))

/-- REASON and INDEX of a trip-seat bank, or (0, 0); `excl` says whether a seat is an exclusive seat of this module. -/
def tsReason (d : Dev) (b : Nat) (excl : Nat → Bool) : Nat × Nat :=
  let es := tsEntries d b
  let range (p : Nat × Nat × Nat) : Bool :=
    fld p.2.1 26 5 != 0 || fld p.2.1 20 6 == 0 || 47 < fld p.2.1 20 6 || 29 < fld p.2.2 9 5 || fld p.2.2 22 10 != 0
  let key (p : Nat × Nat × Nat) : Nat × Nat := (fld p.2.1 20 6, fld p.2.2 0 9)
  match es.find? range with
  | some p => (1, p.1)
  | none => match es.find? (fun p => es.any (fun q => q.1 != p.1 && key q == key p)) with
  | some p => (2, p.1)
  | none => match es.find? (fun p => !excl (fld p.2.1 20 6)) with
  | some p => (3, p.1)
  | none => match es.find? (fun p => carCls d (fld p.2.1 0 9) == 2) with
  | some p => (4, p.1)
  | none => (0, 0)

/-- The trip-seat map's swap at a route boundary. -/
def tsSwap (excl : Nat → Bool) (d : Dev) : Dev :=
  if !d.bitR Reg.pubTsmapCtrl 0 then d
  else
    let d := d.clrB Reg.pubTsmapCtrl 0
    let b := 1 - tsBank d
    let r := tsReason d b excl
    if r.1 ≠ 0 then (d.wn Reg.pubTsmapStatus (1 + r.1 * 16 + r.2 * 65536)).emit (.infoEvent 284)
    else (d.wn Reg.pubTsmapStatus 0).putB Reg.pubTsmapCtrl 1 (b == 1)

/-- A write of a trip-seat map entry: the active bank is not written (R284), and reserved bits stay 0 (00_scope R10). -/
def tsWrite (b i k v : Nat) (d : Dev) : Dev :=
  if b = tsBank d then d.emit (.infoEvent 284)
  else if k = 0 then d.wn (Reg.pubTsmapW0 b i) (v &&& 0x83FFFFFF) else d.wn (Reg.pubTsmapW1 b i) (v &&& 0x3FFFFF)

/-! SV republication (R286, R287). -/

/-- The quality word of an output's quality byte. -/
def svQual (test : Bool) (q : Nat) : Nat :=
  (if bitOf q 0 then 1 else if bitOf q 1 || bitOf q 6 then 3 else 0) + b2n (bitOf q 4) * 1024 +
    b2n (bitOf q 2 || test) * 2048 + b2n (bitOf q 3) * 4096 + 8192

/-- smpSynch of R286. -/
def smpSynchOut (d : Dev) : Nat :=
  if timState d = tsLocked && (timSrc d = 1 || timSrc d = 2) then 2
  else if timState d = tsSlewing || timState d = tsHoldover then 1 else 0

/-- smpCnt of the time-grid outputs of leg `n`: whole legs from the last whole second to the grid instant of leg n − 9, since a second of
local time begins with a leg whose count is a multiple of 4,800 (R286; 00_scope R12). -/
def svCnt (n : Nat) : Nat := (n + 4791) % 4800

/-- The frame of one SV entry for leg `n`. -/
def svSend (r n : Nat) (e : List Nat) (d : Dev) : Dev :=
  let u := signFor (geCar e) r (svAuthOf e) (svSlotOf e) (fun d => d.setB (Reg.pubSvSt r) 4) d
  let d := u.2
  let vals := (svChans e).flatMap (fun ch =>
    let g := (win 1 (fchan d ch).grid).headD (0, qInvalid)
    [wrapN 32 (satS 32 (raDiv g.1 65536)), svQual (bitOf (entW e 0) 14) g.2])
  let syn := smpSynchOut d
  let body := [svCnt n, syn] ++ vals
  let f : TxFrame :=
    { kind := 2, src := r, cls := 6, len := Config.svLen e, tag := d.tim.absTick, body := body, head := some (svHead d e) }
  let d := if u.1 && pubTx d then enqueueCopies (bothOfPair d (gePorts e)) f d else d
  (d.bump (Reg.pubSvTx r)).setF (Reg.pubSvSt r) 8 8 syn

/-- Every LIVE SV entry of a running carriage at relative filter tick 9 of leg `n`. -/
def svRepublish (n : Nat) (d : Dev) : Dev :=
  if !d.bitR Reg.pubCtrl 1 then d
  else (d.pub.sv.filter (fun p => geState p.2 == 1 && carRuns d (geCar p.2))).foldl (fun d p => svSend p.1 n p.2 d) d

/-! Synchrophasors (R289). Instants are counted in 2^-16 legs. -/

/-- An instant t* in 2^-16 legs from the epoch, its route extended to the one nearest the present. -/
def tstarAbs (d : Dev) (tc mu : Nat) : Int :=
  let now : Int := (d.tim.absRoute : Int)
  let r := now - sx 20 ((d.tim.absRoute + 2 ^ 20 - tc / 4096) % 2 ^ 20)
  (r * 240 + (tc / 16 % 256 : Nat)) * 65536 - mu

/-- Report spacing in 2^-16 legs. -/
def pmuStep (e : List Nat) : Nat := 4800 * 65536 / pmuRate e

/-- STAT of a report. -/
def pmuStat (d : Dev) (heads : List Nat) : Nat :=
  (if heads.any (fun h => bitOf h 17) then 1 else if heads.any (fun h => bitOf h 19) then 2 else 0) * 2 ^ 14 +
    b2n (timState d != tsLocked) * 2 ^ 13 + b2n (d.bitR Reg.pubPmuCtrl 0) * 2 ^ 10 + b2n (heads.any (fun h => bitOf h 18)) * 2 ^ 9

/-- A phasor of a record rotated to T, `dt` 2^-16 legs before its t*: by −2π f_est (t* − T) in float32 (R289). -/
def pmuPhasor (r : List Nat) (dt : Int) : List Nat :=
  let ang := fMul (fMul (fNeg f2Pi) (fIn (entW r 7))) (fRat dt (4800 * 65536))
  let z := cMul (fIn (entW r 1), fIn (entW r 2)) (fCos ang, fSin ang)
  [z.1.v, z.2.v]

/-- The instant t* that a phasor's record holds. -/
def pmuInstant (d : Dev) (r : List Nat) : Int := tstarAbs d (entW r 5) (fld (entW r 6) 0 16)

/-- The addresses and UDP ports of a stream's datagrams (R288). -/
def pmuHead (d : Dev) (e : List Nat) : PubHead :=
  { pubHead d (setNth (setNth (List.replicate 16 0) 1 (entW e 5)) 2 (fld (entW e 6) 0 16)) 0 0
      [[entW e 2, fld (entW e 3) 0 16, entW e 4, fld (entW e 3) 16 16]] with test := false }

/-- The report for instant number `nx`: IDCODE, SOC, FRACSEC with the time quality, STAT, phasors, FREQ and DFREQ (R289). -/
def pmuFrame (d : Dev) (k : Nat) (e : List Nat) (nx stat : Nat) (rs : List (List Nat)) (fr : List Nat) : TxFrame :=
  let tn : Int := (nx * pmuStep e : Nat)
  let tq := d.fldR Reg.pubPmuTq (timState d * 4) 4
  { kind := 3, src := k, cls := 6, len := Config.pmuLen e, tag := d.tim.absTick,
    body := [fld (entW e 1) 0 16, nx / pmuRate e, tq * 2 ^ 24 + nx % pmuRate e * 1000000 / pmuRate e, stat] ++
      rs.flatMap (fun r => pmuPhasor r (pmuInstant d r - tn)) ++ [entW fr 1, entW fr 2],
    head := some (pmuHead d e) }

/-- Reports up to `nx` whose instants the first record passed by more than 8 legs are skipped (R289). -/
def pmuSkipped (k n : Nat) (d : Dev) : Dev := if n = 0 then d else raise 286 none k n (d.bumpBy (Reg.pubPmuSkip k) n)

/-- One stream in an element tick: the report for T once the first record holds an instant at or after it, at most 8 legs after (R289). -/
def pmuLeg (m : List Host.Cell) (k : Nat) (e : List Nat) (d : Dev) : Dev :=
  let rs := (pmuRecs e).map (recWords m d (geCar e))
  let fr := recWords m d (geCar e) (pmuFreq e)
  let t := pmuInstant d (rs.headD [])
  let st := pmuStep e
  let first := (tfind d.pub.pmuNext k).getD ((t / (st : Int)).toNat + 1)
  let nx := max first ((t - 8 * 65536 + ((st : Int) - 1)) / (st : Int)).toNat
  let d := pmuSkipped k (nx - first) d
  let set (d : Dev) (n : Nat) : Dev := { d with pub := { d.pub with pmuNext := tput d.pub.pmuNext k n } }
  if t < ((nx * st : Nat) : Int) then set d nx
  else
    let stat := pmuStat d ((rs ++ [fr]).map (fun r => entW r 0))
    let d := set { d with pub := { d.pub with pmuOut := d.pub.pmuOut ++ [pmuFrame d k e nx stat rs fr] } } (nx + 1)
    (d.bump (Reg.pubPmuTx k)).setF (Reg.pubPmuSt k) 16 16 stat

/-- Whether a stream reports: LIVE, of an enabled carriage, with PMU_EN 1 (R288). -/
def pmuOn (d : Dev) (e : List Nat) : Bool := d.bitR Reg.pubCtrl 2 && geState e == 1 && carEnabled d (geCar e)

/-- Every stream at the end of an element tick. A stream that does not report starts anew. -/
def pmuForm (m : List Host.Cell) (d : Dev) : Dev :=
  let on := d.pub.pmu.filter (fun p => pmuOn d p.2)
  let d := { d with pub := { d.pub with pmuNext := d.pub.pmuNext.filter (fun p => (on.map (fun q => q.1)).contains p.1) } }
  on.foldl (fun d p => pmuLeg m p.1 p.2 d) d

/-- The frames formed in the element tick enter class 6 of the station pair in the following egress tick (R288, R289). -/
def pmuSend (d : Dev) : Dev :=
  let l := d.pub.pmuOut
  let d := { d with pub := { d.pub with pmuOut := [] } }
  if pubTx d then l.foldl (fun d f => enqueueCopies [8, 9] f d) d else d

/-! The rows. -/

/-- GOOSE_REPETITION (R271). -/
def execGooseRepetition (entry : Nat) (s : State) : Outcome := s.act (onlyIf (entry < 2048) (geRepeat entry))

/-- TRIP_FRAME_LATE (R273). -/
def execTripFrameLate (port : Nat) (s : State) : Outcome := s.act (onlyIf (port < 11) (tripLate port))

def execGpubEntryRead (entry : Nat) (s : State) : Outcome := s.act (onlyIf (entry < 2048) (geRead entry))
def execGpubEntryCommit (entry : Nat) (s : State) : Outcome := s.act (onlyIf (entry < 2048) (geCommit entry))

/-- PUB_MAP_WRITE (R269): a write of PUB_MAP_DATA at PUB_MAP_IDX. -/
def execPubMapWrite (v : Word) (s : State) : Outcome := s.act (fun d => pmapCommit (d.fldR Reg.pubMapIdx 0 15) v.toNat d)

def execSvpubEntryRead (entry : Nat) (s : State) : Outcome := s.act (onlyIf (entry < 256) (svRead entry))
def execSvpubEntryCommit (entry : Nat) (s : State) : Outcome := s.act (onlyIf (entry < 256) (svCommit entry))
def execPmuEntryRead (entry : Nat) (s : State) : Outcome := s.act (onlyIf (entry < 32) (pmuRead entry))
def execPmuEntryCommit (entry : Nat) (s : State) : Outcome := s.act (onlyIf (entry < 32) (pmuCommit entry))

/-- TSMAP_ENTRY_WRITE (R284). -/
def execTsmapEntryWrite (bank index word : Nat) (v : Word) (s : State) : Outcome :=
  s.act (onlyIf (bank < 2 && index < 4096 && word < 2) (tsWrite bank index word v.toNat))

/-- TSMAP_SWAP_REQUEST (R284). -/
def execTsmapSwapRequest (s : State) : Outcome := s.act (fun d => d.setB Reg.pubTsmapCtrl 0)

end Sys2Proof.Machine
end

