-- ==== Sys2Proof/Machine/Timetable.lean ====
section
/-! DEFINITION. The Timetable: units and columns, inspection, retirement and spares, seat banks, admission, shedding and
re-admission, arbitrating seats (08 R243 to R263; 05 R140; 06 R199 to R202; 07 R211; 18 R550 to R556). Kinds are 0 filter lane,
1 element engine, 2 Harness engine. -/

namespace Sys2Proof.Machine

/-! Units. -/

/-- Role of a unit: 0 active, 1 spare, 2 inspection, 3 retired. -/
def unitRole (d : Dev) (k u : Nat) : Nat :=
  if k = 0 then (if d.bitR (Reg.fchLStatus u) 2 then 3 else if d.bitR (Reg.fchLStatus u) 1 then 2 else 0)
  else if k = 1 then eRole d u else hRole d u

def setRole (k u r : Nat) (d : Dev) : Dev :=
  if k = 0 then d.wn (Reg.fchLStatus u) (if r = 3 then 4 else if r = 2 then 3 else 1)
  else if k = 1 then d.setF (Reg.eenEStatus u) 0 2 r else d.setF (Reg.hleEStatus u) 0 2 r

def setPower (k u : Nat) (on : Bool) (d : Dev) : Dev :=
  if k = 1 then d.putB (Reg.eenEStatus u) 8 on else if k = 2 then d.putB (Reg.hleEStatus u) 8 on else d

/-- Units of a kind with a role, ascending. -/
def unitsIn (d : Dev) (k r : Nat) : List Nat := (List.range (unitsOf k)).filter (fun u => unitRole d k u == r)

def setCol (k m u : Nat) (d : Dev) : Dev := d.wn (Reg.ttbColmap k m) (u + 2 ^ 31)

/-- Columns counted of a kind (TTB_COLS). -/
def colsOf (d : Dev) (k : Nat) : Nat :=
  if k = 0 then d.fldR Reg.ttbCols 0 7 else if k = 1 then d.fldR Reg.ttbCols 8 6 else d.fldR Reg.ttbCols 16 5

def setCols (k n : Nat) (d : Dev) : Dev :=
  if k = 0 then d.setF Reg.ttbCols 0 7 n else if k = 1 then d.setF Reg.ttbCols 8 6 n else d.setF Reg.ttbCols 16 5 n

/-- The unit in the inspection seat, by role, or the active unit without a column. -/
def inspUnit (d : Dev) (k : Nat) : Option Nat :=
  if d.bitR Reg.ttbInspState (24 + k) then none
  else match unitsIn d k 2 with
    | u :: _ => some u
    | [] => (unitsIn d k 0).find? (fun u => (unitCol d k u).isNone)

/-- The inspection seat's registers. -/
def showInsp (k u : Nat) (d : Dev) : Dev :=
  let d := if k = 0 then (d.setF Reg.ttbInspState 0 6 u).setF Reg.fchStatus 8 6 u
    else if k = 1 then (d.setF Reg.ttbInspState 8 6 u).setF Reg.eenStatus 16 6 u
    else (d.setF Reg.ttbInspState 16 5 u).setF Reg.hleStatus 16 5 u
  d.putB Reg.ttbInspState (24 + k) false

/-- Spares of a kind that no retirement has taken yet (06 R201). -/
def sparesLeft (d : Dev) (k : Nat) : Nat := (unitsIn d k 1).length - (d.ttb.spareIn.filter (fun x => x == k)).length

/-- Active and spare counts as the registers show them. -/
def showCounts (k : Nat) (d : Dev) : Dev :=
  let tr := match tfind d.ttb.trial k with | some (u, _) => if unitRole d k u = 2 then 1 else 0 | none => 0
  let a := (unitsIn d k 0).length + (unitsIn d k 2).length - tr
  let s := sparesLeft d k
  let d := if k = 0 then d.setF Reg.fchStatus 0 7 a
    else if k = 1 then (d.setF Reg.eenStatus 0 6 a).setF Reg.eenStatus 8 2 s
    else (d.setF Reg.hleStatus 0 5 a).setF Reg.hleStatus 8 2 s
  (d.wn (Reg.rprKActive k) a).wn (Reg.rprKSpares k) s

/-! Repair bookkeeping (18 R552 to R556). -/

/-- An entry of the repair log: kind and detail; a full log latches LOG_FULL, and entries beyond it are lost (R552). -/
def repairLog (e : List Nat) (d : Dev) : Dev :=
  let n := d.fldR Reg.rprLogCount 0 9
  if 256 ≤ n then setCond 399 0 (d.setB Reg.rprStatus 9)
  else
    let d := { d with rpr := { d.rpr with log := d.rpr.log ++ [e] } }.setF Reg.rprLogCount 0 9 (n + 1)
    if n + 1 = 256 then setCond 399 0 (d.setB Reg.rprStatus 9) else d

/-- SPARE_LOW of a kind set, with source 394 (R554). -/
def spareLow (k : Nat) (d : Dev) : Dev := setCond 394 k (d.setB Reg.rprStatus k)

/-- A retirement counted: RETIRED, the log, and SPARE_LOW once no spare of kinds 1 to 3 is left (R554, R555). -/
def retiredEvent (k u : Nat) (d : Dev) : Dev :=
  let d := raise 392 none k u ((d.bump (Reg.rprKRetired k)))
  let d := repairLog [k, u] d
  if 1 ≤ k && k ≤ 3 && d.rn (Reg.rprKSpares k) = 0 then spareLow k d else d

/-! Shedding (R258 to R260). -/

/-- TTB_STATUS.DEGRADED and P0_LOST follow the carriages. -/
def degradedUpd (d : Dev) : Dev :=
  let l := (tkeys d.cars).filter (fun c => isShed d c)
  (d.setF Reg.ttbStatus 8 10 l.length).putB Reg.ttbStatus 0 (l.any (fun c => carCls d c == 0))

/-- A P0 carriage is shed: P0_LOST, the request for replacement, and the request for a switch-over (R259, R556). -/
def p0Lost (c : Nat) (d : Dev) : Dev :=
  let d := raise 268 none c 0 d
  let d := setCond 396 0 (d.setB Reg.rprStatus 8)
  { d with ttb := { d.ttb with switchReq := true } }

/-- A carriage is shed (R258). -/
def shedCar (c : Nat) (d : Dev) : Dev :=
  if isShed d c then d
  else
    let d := (((dropWork c d).setF (Reg.ttbCState c) 0 2 3).wn (Reg.ttbCShedTc c) d.tc).bump Reg.ttbShedCnt
    let d := raise 266 (some c) c 0 (d.setB (Reg.carState c) 4)
    let d := carEvent c 2 (askSafe c (setHcar c { hcar d c with frz := [] } d))
    degradedUpd (if carCls d c = 0 then p0Lost c d else d)

/-- A carriage comes back from shedding (R261). -/
def unshedCar (c : Nat) (d : Dev) : Dev :=
  let d := (d.setF (Reg.ttbCState c) 0 2 2).clrB (Reg.carState c) 4
  let d := (carChans d c).foldl (fun d ch => restartChan ch d) (eenEnable c d)
  degradedUpd (carEvent c 3 (raise 267 (some c) c 0 d))

/-! Seat banks (R247 to R251). -/

/-- Whether an exclusive seat keeps its class's window (R244, R206). -/
def exclOk (w : List Nat) : Bool :=
  let t := stTick w
  let ok := match stKind w, stClass w with
    | 0, 0 => t ≤ 8
    | 0, 1 => 1 ≤ t && t ≤ 8
    | 1, 0 => t == 0 || 8 ≤ t
    | 1, 1 => 8 ≤ t
    | 2, 0 => t == 0
    | 2, 1 => t == 0
    | _, _ => false
  ok && stDiv w == 1 && (stKind w != 2 || (1000 ≤ stStart w && stStart w + stLen w ≤ 9800))

/-- Whether an arbitrating seat lies in the arbitrating window with CARRIAGE 0 and CLASS 3. -/
def arbOk (w : List Nat) : Bool :=
  let t := stTick w
  (match stKind w with | 0 => 9 ≤ t | 1 => 1 ≤ t && t ≤ 7 | _ => 1 ≤ t) && stCar w == 0 && stClass w == 3

/-- Whether two seats meet in a common leg (R250 cause 3). -/
def seatsMeet (a b : List Nat) : Bool :=
  stKind a == stKind b && stColumn a == stColumn b && stTick a == stTick b && stStart a < stStart b + stLen b &&
    stStart b < stStart a + stLen a && stBase a % Nat.gcd (stDiv a) (stDiv b) == stBase b % Nat.gcd (stDiv a) (stDiv b)

/-- State of a carriage in the Timetable: 0 NONE, 1 PENDING, 2 ADMITTED, 3 DEGRADED. -/
def ttbState (d : Dev) (c : Nat) : Nat := d.fldR (Reg.ttbCState c) 0 2
def ttbClass (d : Dev) (c : Nat) : Nat := d.fldR (Reg.ttbCState c) 2 2

/-- REASON and INDEX of a bank, or (0, 0) (R250). -/
def bankReason (d : Dev) (b : Nat) : Nat × Nat :=
  let ss := bankSeats d b
  let r1 (w : List Nat) : Bool :=
    stKind w == 3 || colsOf d (stKind w) ≤ stColumn w || stLen w == 0 || tickCycles (stKind w) < stStart w + stLen w
  let r2 (w : List Nat) : Bool := stDiv w == 0 || 240 % stDiv w != 0 || stDiv w ≤ stBase w
  let r6 (w : List Nat) : Bool :=
    !stArb w && (!(ttbState d (stCar w) == 1 || ttbState d (stCar w) == 2) || ttbClass d (stCar w) != stClass w)
  match ss.find? (fun p => r1 p.2) with
  | some p => (1, p.1)
  | none => match ss.find? (fun p => r2 p.2) with
  | some p => (2, p.1)
  | none => match ss.find? (fun p => ss.any (fun q => q.1 != p.1 && seatsMeet p.2 q.2)) with
  | some p => (3, p.1)
  | none => match ss.find? (fun p => !stArb p.2 && !exclOk p.2) with
  | some p => (4, p.1)
  | none => match ss.find? (fun p => stArb p.2 && !arbOk p.2) with
  | some p => (5, p.1)
  | none => match ss.find? (fun p => r6 p.2) with
  | some p => (6, p.1)
  | none => (0, 0)

/-- TTB_C_SEATS of every carriage from the active bank. -/
def seatCounts (d : Dev) : Dev :=
  let ss := bankSeats d (ttbBank d)
  (tkeys d.cars).foldl (fun d c => d.wn (Reg.ttbCSeats c) (ss.filter (fun p => !stArb p.2 && stCar p.2 == c)).length) d

/-- The banks' exchange at a route boundary, or its refusal (R247, R250). -/
def bankSwap (d : Dev) : Dev :=
  if !d.bitR Reg.ttbBankCtrl 0 then d
  else
    let d := d.clrB Reg.ttbBankCtrl 0
    let b := 1 - ttbBank d
    let r := bankReason d b
    if r.1 ≠ 0 then raise 265 none r.1 r.2 (d.wn Reg.ttbBankStatus (1 + r.1 * 16 + r.2 * 65536))
    else raise 264 none 0 0 (seatCounts ((d.wn Reg.ttbBankStatus 0).putB Reg.ttbBankCtrl 1 (b == 1)))

/-- The implemented bits of word `j` of a seat entry (R248). -/
def seatMask (j : Nat) : Nat := nth 0xFFFFFFFF [0x81FFFFFF, 0x3FFF3FFF, 0xFFFF] j

/-- A write of a seat entry (R247); its reserved bits stay 0 (00_scope R10). -/
def seatWrite (b i j v : Nat) (d : Dev) : Dev :=
  if b = ttbBank d then d.emit (.infoEvent 247) else d.wn (Reg.ttbSeat b i j) (v &&& seatMask j)

/-! Retirement (R140, R200 to R202, R211, R257, R260). -/

/-- Carriages that hold seats of a column in the active bank. -/
def colCars (d : Dev) (k m : Nat) : List Nat :=
  dedup (((bankSeats d (ttbBank d)).filter (fun p => !stArb p.2 && stKind p.2 == k && stColumn p.2 == m)).map (fun p => stCar p.2))

/-- The unit's own record of its retirement. -/
def markRetired (k u cause : Nat) (d : Dev) : Dev :=
  let d := setRole k u 3 d
  if k = 0 then
    raise 217 none u 0 (if u < 32 then d.setB Reg.fchLaneRetLo u else d.setB Reg.fchLaneRetHi (u - 32))
  else if k = 1 then
    raise 232 none u cause ((if u < 32 then d.setB Reg.eenRetLo u else d.setB Reg.eenRetHi (u - 32)).wn (Reg.eenECause u) cause)
  else
    raise 248 none u cause (scanLost u ((d.setB Reg.hleRetMap u).wn (Reg.hleECause u) cause))

/-- The inspection abandoned for the rest of the route (R200). -/
def abandon (k u : Nat) (d : Dev) : Dev :=
  let w := u + 2 ^ 9 + d.tim.absRoute % 2 ^ 20 * 2 ^ 12
  if k = 1 then d.wn Reg.eenInspectLast w else if k = 2 then d.wn Reg.hleInspectLast w else d

/-- The unit that can take a column from unit `u` at the next leg: the one in the inspection seat, if no column passes to it yet. -/
def inspFree (d : Dev) (k u : Nat) : Option Nat :=
  if d.ttb.colMove.any (fun x => x.1 == k) then none else (inspUnit d k).filter (fun a => a != u)

/-- A column whose unit retires passes to the unit in the inspection seat from the next leg (R200), or is orphaned: its carriages are shed
from the next leg and enter re-admission (R260). -/
def colFault (k u m : Nat) (d : Dev) : Dev :=
  match inspFree d k u with
  | some a => { abandon k a d with ttb := { d.ttb with colMove := d.ttb.colMove ++ [(k, m, a)] } }
  | none =>
    let d := raise 269 none k m (d.bump Reg.ttbOrphanCnt)
    { d with ttb := { d.ttb with shedNext := d.ttb.shedNext ++ colCars d k m, retry := true } }

/-- The columns of a retired unit, one that was to pass to it included, find another unit or are orphaned. -/
def passSeats (k u : Nat) (d : Dev) : Dev :=
  let due := (d.ttb.colMove.filter (fun x => x.1 == k && x.2.2 == u)).map (fun x => x.2.1)
  let own := match unitCol d k u with | some m => [m] | none => []
  let d := { d with ttb := { d.ttb with colMove := d.ttb.colMove.filter (fun x => !(x.1 == k && x.2.2 == u)) } }
  (own ++ due).foldl (fun d m => colFault k u m d) d

/-- A retirement that leaves no spare: capacity falls, and the kind runs without inspection from the next route boundary. -/
def capacityLost (k : Nat) (d : Dev) : Dev :=
  let d := raise 395 none k 0 (raise 270 none k 0 (d.setB Reg.ttbStatus 1))
  { d with ttb := { d.ttb with noInsp := k :: d.ttb.noInsp.filter (fun x => x != k), replan := none } }

/-- A unit retired with a cause: 1 inspection, 2 parity or ECC, 3 seat overrun, 4 command, 5 a spare's first inspection. -/
def retireUnit (k u cause : Nat) (d : Dev) : Dev :=
  if unitRole d k u = 3 then d
  else
    let wasTrial := match tfind d.ttb.trial k with | some (x, _) => x == u | none => false
    let wasSpare := unitRole d k u == 1
    let d := markRetired k u cause (passSeats k u d)
    let d := if wasTrial then { d with ttb := { d.ttb with trial := tdel d.ttb.trial k } } else d
    let taken := (d.ttb.spareIn.filter (fun x => x == k)).length
    if wasSpare then
      if taken ≤ (unitsIn d k 1).length then retiredEvent k u (showCounts k d)
      else capacityLost k (retiredEvent k u (showCounts k { d with ttb := { d.ttb with spareIn := d.ttb.spareIn.erase k } }))
    else if sparesLeft d k ≠ 0 then
      retiredEvent k u (showCounts k { d with ttb := { d.ttb with spareIn := k :: d.ttb.spareIn } })
    else capacityLost k (retiredEvent k u (showCounts k d))

/-! Inspection (R199, R201, R252, R262, R263). -/

/-- Whether a kind inspects in this route: a change of TTB_INSP_CTRL takes effect at the next route boundary (R263). -/
def inspOn (d : Dev) (k : Nat) : Bool := bitOf (d.effR Reg.ttbInspCtrl).toNat k

/-- The signature of the unit in the inspection seat, compared in leg 239. -/
def inspResult (k : Nat) (pass : Bool) (d : Dev) : Dev :=
  match inspUnit d k with
  | none => d
  | some u =>
    if d.tim.absLeg % 240 ≠ 239 || !inspOn d k then d
    else
      let w := u + b2n pass * 2 ^ 8 + d.tim.absRoute % 2 ^ 20 * 2 ^ 12
      let d := if k = 1 then d.wn Reg.eenInspectLast w else if k = 2 then d.wn Reg.hleInspectLast w else d
      let d := if pass then d else if k = 1 then raise 237 none u 0 d else if k = 2 then raise 254 none u 0 d else d
      match tfind d.ttb.trial k with
      | some (x, _) => { d with ttb := { d.ttb with trial := tput d.ttb.trial k (x, some pass) } }
      | none => if pass then d else { d with ttb := { d.ttb with retire := d.ttb.retire ++ [(k, u)] } }

/-- The next active unit of a kind after `a`, wrapping (R262). -/
def nextUnit (d : Dev) (k a : Nat) : Option Nat :=
  let act := (unitsIn d k 0).filter (fun u => u != a)
  match act.find? (fun u => a < u) with
  | some u => some u
  | none => act.head?

/-- The inspection seat passes from unit `a` to the next: the column of that one passes to `a` (R252). -/
def rotate (k : Nat) (d : Dev) : Dev :=
  match inspUnit d k with
  | none => d
  | some a => match nextUnit d k a with
    | none => d
    | some b =>
      let d := match unitCol d k b with | some m => setCol k m a d | none => d
      showInsp k b (setRole k b 2 (setRole k a 0 d))

/-- A spare takes the inspection seat for its first route (R201). -/
def spareEnters (k : Nat) (d : Dev) : Dev :=
  let d := { d with ttb := { d.ttb with spareIn := d.ttb.spareIn.erase k } }
  match unitsIn d k 1 with
  | [] => d
  | u :: _ =>
    let d := { d with ttb := { d.ttb with trial := tput d.ttb.trial k (u, none) } }
    showCounts k (showInsp k u (setRole k u 2 (setPower k u true d)))

/-- Whether a column's unit is retired: an orphaned column, which serves nothing until a spare takes it (R260). -/
def colDead (d : Dev) (k m : Nat) : Bool := match colUnit d k m with | some u => unitRole d k u == 3 | none => false

/-- The lowest orphaned column of a kind. -/
def deadCol (d : Dev) (k : Nat) : Option Nat := (List.range (colsOf d k)).find? (colDead d k)

/-- A spare that passed its first inspection joins the active units (R201). It takes an orphaned column where there is one, and leaves the
inspection seat to a spare that waits (log 34). -/
def spareJoins (k u : Nat) (d : Dev) : Dev :=
  let d := { d with ttb := { d.ttb with trial := tdel d.ttb.trial k } }
  let d := match deadCol d k with
    | some m => setRole k u 0 (setCol k m u { d with ttb := { d.ttb with retry := true } })
    | none => if d.ttb.spareIn.contains k then setRole k u 0 d else d
  let d := raise 393 none k u (if k = 1 then raise 233 none u 0 d else if k = 2 then raise 249 none u 0 d else d)
  showCounts k d

/-- One kind at a route boundary. -/
def kindRoute (k : Nat) (d : Dev) : Dev :=
  let d := match tfind d.ttb.trial k with
    | some (u, some true) => spareJoins k u d
    | some (u, some false) => retireUnit k u 5 d
    | _ => d
  if d.ttb.noInsp.contains k then
    let d := (d.setB Reg.ttbInspState (24 + k))
    (unitsIn d k 2).foldl (fun d u => setRole k u 0 d) { d with ttb := { d.ttb with noInsp := d.ttb.noInsp.filter (fun x => x != k) } }
  else if d.ttb.spareIn.contains k then spareEnters k d
  else if inspOn d k then rotate k d else d

/-- All kinds at a route boundary: mismatched units retire first (R262). -/
def unitsRoute (d : Dev) : Dev :=
  let r := d.ttb.retire
  let d := r.foldl (fun d p => retireUnit p.1 p.2 1 d) { d with ttb := { d.ttb with retire := [] } }
  kindRoute 2 (kindRoute 1 (kindRoute 0 d))

/-- A column passes to the unit that was in the inspection seat; a spare in its first inspection joins the active units with that (R200). -/
def colMoves (k m u : Nat) (d : Dev) : Dev :=
  let d := setRole k u 0 (setCol k m u d)
  match tfind d.ttb.trial k with
  | some (x, _) => if x = u then showCounts k { d with ttb := { d.ttb with trial := tdel d.ttb.trial k } } else d
  | none => d

/-- Columns and sheds that begin with a leg (R200, R260). -/
def ttbLeg (d : Dev) : Dev :=
  let mv := d.ttb.colMove
  let sh := d.ttb.shedNext
  let d := { d with ttb := { d.ttb with colMove := [], shedNext := [] } }
  let d := mv.foldl (fun d p => colMoves p.1 p.2.1 p.2.2 d) d
  sh.foldl (fun d c => shedCar c d) d

/-! Admission (R253, R254). -/

/-- A reservation that admission asks for: kind, cycles, and the items it serves. -/
abbrev Item := Nat × Nat × List Nat

/-- Groups, as committed, whose last reference is a channel; each group's cycles count with that channel (R138; log 34). -/
def chGroups (d : Dev) (ch : Nat) : Nat :=
  ((dedup (tkeys d.fch.desc ++ tkeys d.fch.pend)).filter (fun i => fchKey 2 0 ≤ i &&
    (let w := fchCommitted d 2 (i - fchKey 2 0); w != [] && (tgRefs w).getLast? == some ch))).length

/-- The worst-case cost of a channel for one leg: a tracked sample, an input and an output of its average, and a cycle end of each group
that counts with it (R138). -/
def chWorst (d : Dev) (ch : Nat) : Nat :=
  let w := fchCommitted d 0 ch
  chCost w (fchCommitted d 1 (chAvg w)) (entK (sauEnt d (chEntry w))) (chTrkEn w) 1 1 + 100 * chGroups d ch

/-- Committed channels of a carriage, in ascending index: its work list of filter lanes (R248). -/
def carChanList (d : Dev) (c : Nat) : List Nat :=
  isort (fun a b => a ≤ b) ((dedup (tkeys d.fch.desc ++ tkeys d.fch.pend)).filter (fun i => i < 32768 &&
    (let w := fchCommitted d 0 i; w != [] && chCar w == c)))

/-- Committed channels of a carriage: those with TRIP set, or clear. -/
def chansTrip (d : Dev) (c : Nat) (trip : Bool) : List Nat :=
  (carChanList d c).filter (fun i => chTrip (fchCommitted d 0 i) == trip)

/-- Committed enabled instances of a carriage with their descriptors, in ascending RESULT (R172). -/
def kernsOf (d : Dev) (c : Nat) : List (Nat × List Nat) :=
  isort (fun a b => kResult a.2 ≤ kResult b.2) ((dedup (tkeys d.een.desc ++ tkeys d.een.pend)).filterMap (fun i =>
    let w := kCommitted d i
    if w != [] && kEn w && kCar w == c then some (i, w) else none))

/-- The instances of a carriage in one window, in its work list's order: the stage window, or all others (R244, R248). -/
def kernList (d : Dev) (c : Nat) (stage : Bool) : List (Nat × List Nat) :=
  (kernsOf d c).filter (fun p => (carCls d c == 0 && !kBg p.2) == stage)

/-- Cycles of a carriage's scan. -/
def scanCost (d : Dev) (c : Nat) : Nat :=
  match (match (hcar d c).next with | some p => some p | none => (hcar d c).prog) with
  | some p => p.code.length + 24
  | none => 0

/-- Filter items: one channel's stages each. -/
def chanItems (d : Dev) (chs : List Nat) : List Item := chs.map (fun ch => (0, chWorst d ch, [ch]))

/-- Kernel runs packed in their order into seats of at most `cap` cycles, the seat cost of R168 counted in each. -/
def packRuns (d : Dev) (cap : Nat) : List (Nat × List Nat) → List Item
  | [] => []
  | p :: l =>
    match packRuns d cap l with
    | (_, n, is) :: rest =>
      if n + kCost d p.2 ≤ cap then (1, n + kCost d p.2, p.1 :: is) :: rest
      else (1, 40 + kCost d p.2, [p.1]) :: (1, n, is) :: rest
    | [] => [(1, 40 + kCost d p.2, [p.1])]

/-- The seat that holds all element-tick runs of a carriage, which must fit one engine in one tick (06 R168). -/
def stageRuns (d : Dev) (l : List (Nat × List Nat)) : List Item :=
  if l = [] then [] else [(1, 40 + (l.map (fun p => kCost d p.2)).sum, l.map (fun p => p.1))]

/-- The scan of a carriage that has a program. -/
def scanItem (d : Dev) (c : Nat) : List Item := if scanCost d c = 0 then [] else [(2, scanCost d c, [c])]

/-- Stage items of a carriage. -/
def stageItems (d : Dev) (c cls : Nat) : List Item :=
  if cls = 0 then chanItems d (chansTrip d c true) ++ stageRuns d (kernList d c true) ++ scanItem d c
  else if cls = 1 then scanItem d c else []

/-- Deferred items of a carriage. -/
def deferItems (d : Dev) (c cls : Nat) : List Item :=
  if cls = 0 then chanItems d (chansTrip d c false) ++ packRuns d 13333 (kernList d c false)
  else if cls = 1 then chanItems d (carChanList d c) ++ packRuns d 13333 (kernList d c false)
  else []

/-- The earliest cycle from which `len` cycles of a column's tick are free, between `lo` and `hi`. -/
def freeAt (plan : List PSeat) (k col tick len lo hi : Nat) : Option Nat :=
  let ss := plan.filter (fun s => s.kind == k && s.col == col && s.tick == tick)
  let ok (b : Nat) : Bool := lo ≤ b && b + len ≤ hi && ss.all (fun s => b + len ≤ s.start || s.start + s.len ≤ b)
  match (lo :: ss.map (fun s => s.start + s.len)).filter ok with
  | [] => none
  | x :: xs => some (xs.foldl min x)

/-- place() of R254, over the columns that have a unit. -/
def place (plan : List PSeat) (c : Nat) (it : Item) (ticks cols : List Nat) (lo hi : Nat) : Option (List PSeat) :=
  let spots := cols.flatMap (fun col => ticks.map (fun t => (col, t)))
  (spots.findSome? (fun s => (freeAt plan it.1 s.1 s.2 it.2.1 lo hi).map (fun b => ⟨it.1, s.1, s.2, b, it.2.1, c, it.2.2⟩))).map
    (fun s => plan ++ [s])

def deferTicks (k : Nat) : List Nat := if k = 0 then [1, 2, 3, 4, 5, 6, 7, 8] else [8, 9, 10, 11, 12, 13, 14, 15]

/-- The deferred ticks in which a carriage's next item may stand: a second seat of kernel runs comes in a later tick than the first, so that
runs keep the order of RESULT (R172). -/
def laterTicks (plan : List PSeat) (c k : Nat) : List Nat :=
  (deferTicks k).filter (fun t => k != 1 || plan.all (fun s => s.car != c || s.kind != 1 || s.tick < t))

/-- 240 times the cycles per leg of the arbitrating seats of a kind that are not BGRES and stand on one of its first `n` columns. -/
def arbCapacity (d : Dev) (k n : Nat) : Nat :=
  (((bankSeats d (ttbBank d)).filter (fun p => stArb p.2 && !stBgres p.2 && stKind p.2 == k && stColumn p.2 < n)).map
    (fun p => stLen p.2 * 240 / max 1 (stDiv p.2))).sum

/-- Cycles per leg that a P2 carriage needs of a kind. -/
def arbCost (d : Dev) (c k : Nat) : Nat :=
  if k = 0 then ((chanItems d (carChanList d c)).map (fun i => i.2.1)).sum
  else if k = 1 then ((stageRuns d (kernsOf d c)).map (fun i => i.2.1)).sum else scanCost d c

/-- Whether some item of a P2 carriage exceeds the tick of its kind: a channel, a kernel run with its seat, or the scan. -/
def arbTooLong (d : Dev) (c : Nat) : Bool :=
  (carChanList d c).any (fun ch => 13333 < chWorst d ch) || (kernsOf d c).any (fun p => 13333 < 40 + kCost d p.2) ||
    10000 < scanCost d c

/-- P2 carriages whose load the plan counts: admitted, pending, or accepted in a retry. -/
def p2Others (d : Dev) : List Nat :=
  (tkeys d.cars).filter (fun x => carCls d x == 2 && (ttbState d x == 1 || ttbState d x == 2 || d.ttb.back.contains x))

/-- A P0 instance with BG 0 that reads a measurand slot of a channel without TRIP (R246). -/
def readsSlow (dev : Dev) (c : Nat) : Bool :=
  let d := committedView dev
  (kernsOf d c).any (fun p => !kBg p.2 && kCode p.2 ≤ 2 && kCode p.2 != 0 &&
    (match trackedChan d c (kIn p.2 0) with | some ch => !chTrip (fchDesc d 0 ch) | none => false))

/-- Outcome of admission: a plan, BAD_PARAM, or no room. -/
inductive Adm where
  | ok (plan : List PSeat)
  | bad
  | full
deriving DecidableEq, Repr

/-- Items placed one after another in a window. -/
def placeAll (c : Nat) (stage : Bool) (cols : Nat → List Nat) : List Item → List PSeat → Adm
  | [], plan => .ok plan
  | it :: rest, plan =>
    let lo := if stage && it.1 = 2 then 1000 else 0
    let hi := if stage && it.1 = 2 then 9800 else 13333
    let budget := if it.1 = 2 then 8800 else 13333
    if budget < it.2.1 then .bad
    else match place plan c it (if stage then [0] else laterTicks plan c it.1) (cols it.1) lo hi with
      | some p => placeAll c stage cols rest p
      | none => .full

/-- The admission function of R254 over a plan, the P2 carriages it counts, and column counts. -/
def admission (d : Dev) (c : Nat) (plan : List PSeat) (p2s : List Nat) (cols : Nat → Nat) : Adm :=
  let cls := carCls d c
  let base := plan.filter (fun s => s.car != c)
  let on (k : Nat) : List Nat := (List.range (cols k)).filter (fun m => !colDead d k m)
  if cls = 2 then
    let p2 := c :: p2s.filter (fun x => x != c)
    if arbTooLong d c then .bad
    else if [0, 1, 2].any (fun k => arbCapacity d k (cols k) < 240 * (p2.map (fun x => arbCost d x k)).sum) then .full
    else .ok base
  else if cls = 0 && readsSlow d c then .bad
  else match placeAll c true on (stageItems d c cls) base with
    | .ok p => match placeAll c false on (deferItems d c cls) p with
      | .ok q => if tripFits d (geOthers d 4096) then .ok q else .full
      | r => r
    | r => r

/-- The bound of an admitted carriage in ticks (R254). -/
def boundOf (d : Dev) (c : Nat) : Nat :=
  if carCls d c = 0 then holdback d + 5 else if carCls d c = 1 then holdback d + 21 else 0

/-- Sum of a carriage's reservations by whether they lie in the stage tick. -/
def costOf (plan : List PSeat) (c k : Nat) (stage : Bool) : Nat :=
  min 0xFFFF (((plan.filter (fun s => s.car == c && s.kind == k && (s.tick == 0) == stage)).map (fun s => s.len)).sum)

def pct (a b : Nat) : Nat := if b = 0 then 0 else min 100 (a * 100 / b)

/-- TTB_USE of every kind from the plan: stage cycles on the fullest column and deferred occupancy (R264). -/
def showUse (d : Dev) : Dev :=
  let p := d.ttb.plan
  [0, 1, 2].foldl (fun d k =>
    let stage (m : Nat) : Nat := ((p.filter (fun s => s.kind == k && s.tick == 0 && s.col == m)).map (fun s => s.len)).sum
    let top := ((List.range (colsOf d k)).map stage).foldl max 0
    let dcap := colsOf d k * (deferTicks k).length * 13333
    let defer := ((p.filter (fun s => s.kind == k && s.tick != 0)).map (fun s => s.len)).sum
    (d.setF (Reg.ttbUse k) 0 16 (min 0xFFFF top)).setF (Reg.ttbUse k) 24 8 (pct defer dcap)) d

/-- The arbitrating occupancy of the route that ended: cycles used out of those the active bank's arbitrating seats offered (R264). -/
def arbRoute (d : Dev) : Dev :=
  let cap (k : Nat) : Nat := (((bankSeats d (ttbBank d)).filter (fun p => stArb p.2 && stKind p.2 == k)).map
    (fun p => stLen p.2 * (240 / max 1 (stDiv p.2)))).sum
  let u := d.ttb.arbUsed
  [0, 1, 2].foldl (fun d k => d.setF (Reg.ttbUse k) 16 8 (pct (tget 0 u k) (cap k))) { d with ttb := { d.ttb with arbUsed := [] } }

/-- TTB_C_COST of a carriage from a plan, and TTB_USE. -/
def showPlan (c : Nat) (plan : List PSeat) (d : Dev) : Dev :=
  showUse ([0, 1, 2].foldl (fun d k =>
    let other := if carCls d c = 2 then min 0xFFFF (arbCost d c k) else costOf plan c k false
    d.wn (Reg.ttbCCost c k) (costOf plan c k true + other * 65536)) d)

/-! Re-admission (R257, R261). -/

/-- Carriages with seats in the order of R257: class, then sequence number. -/
def readmitOrder (d : Dev) : List Nat :=
  let cs := (tkeys d.cars).filter (fun c => ttbState d c != 0)
  let key (c : Nat) : Nat := carCls d c * 2 ^ 32 + d.rn (Reg.ttbCSeq c)
  isort (fun a b => key a ≤ key b) cs

/-- The P2 carriages among a list. -/
def p2In (d : Dev) (l : List Nat) : List Nat := l.filter (fun c => carCls d c == 2)

/-- readmit(): the new plan, the carriages it holds, and those it does not. -/
def readmit (d : Dev) (cols : Nat → Nat) : List PSeat × List Nat × List Nat :=
  (readmitOrder d).foldl (fun r c => match admission d c r.1 (p2In d r.2.1) cols with
    | .ok p => (p, r.2.1 ++ [c], r.2.2)
    | _ => (r.1, r.2.1, r.2.2 ++ [c])) ([], [], [])

/-- The columns of a kind that re-admission counts: one fewer than its units. -/
def newCols (d : Dev) (k : Nat) : Nat :=
  (unitsIn d k 0).length + (unitsIn d k 2).length + (d.ttb.spareIn.filter (fun x => x == k)).length - 1

/-- The Livery recomputes the plan with one column fewer for each kind that runs without inspection (R257), once Phiash runs
(16 R474). -/
def readmission (d : Dev) : Dev :=
  if !d.bitR Reg.ttbStatus 1 || !d.bitR Reg.glbStatus 1 then d
  else
    let r := readmit d (newCols d)
    { d with ttb := { d.ttb with replan := some (r.1, r.2.2, [newCols d 0, newCols d 1, newCols d 2]) } }

/-- Whether some carriage of the same or a higher class is DEGRADED, or will be under the recomputed plan (R256). -/
def degradedAbove (d : Dev) (cls : Nat) : Bool :=
  let due := match d.ttb.replan with | some r => r.2.1 | none => []
  (tkeys d.cars).any (fun c => (isShed d c || due.contains c) && carCls d c ≤ cls)

/-- The plan against which a carriage is admitted, the P2 carriages it counts and its column counts: the recomputed plan while one waits
(R256), and the present plan otherwise. -/
def admitBase (d : Dev) : List PSeat × List Nat × (Nat → Nat) :=
  match d.ttb.replan with
  | some (p, deg, cols) => (p, (p2Others d).filter (fun c => !deg.contains c), fun k => nth 0 cols k)
  | none => (d.ttb.plan, p2Others d, colsOf d)

/-- A carriage's new seats in the plan against which it was admitted. -/
def setPlan (p : List PSeat) (d : Dev) : Dev :=
  match d.ttb.replan with
  | some (_, deg, cols) => { d with ttb := { d.ttb with replan := some (p, deg, cols) } }
  | none => { d with ttb := { d.ttb with plan := p, bankDue := true } }

/-- Admission of a carriage: 0 OK, 1 BAD_PARAM, 2 SCHEDULE_FULL, 3 SPARE_EXHAUSTED; on success it is PENDING, or keeps its state,
and has its sequence number (R253, R254). Re-admission after a loss of capacity is computed first (R256). -/
def runAdmission (c : Nat) (d : Dev) : Dev × Nat :=
  let d := if d.ttb.replan.isNone then readmission d else d
  if ttbState d c = 0 && degradedAbove d (carCls d c) then (d, 2)
  else
    let b := admitBase d
    match admission d c b.1 b.2.1 b.2.2 with
    | .bad => (d, 1)
    | .full =>
      match admission d c b.1 b.2.1 (fun k => if k = 0 then 63 else if k = 1 then 31 else 15) with
      | .ok _ => (d, 3)
      | _ => (d, 2)
    | .ok p =>
      let d := setPlan p d
      let d := if ttbState d c = 0 then
          let n := d.rn Reg.ttbSeqNext
          (((d.setF (Reg.ttbCState c) 0 2 1).setF (Reg.ttbCState c) 2 2 (carCls d c)).wn (Reg.ttbCSeq c) n).wn Reg.ttbSeqNext (n + 1)
        else d
      (showPlan c p (d.setF (Reg.ttbCState c) 8 8 (boundOf d c)), 0)

/-- A carriage's worst-case cycles: channels by whether TRIP is set, kernels by window, and the scan (R253). -/
def carCosts (d : Dev) (c : Nat) : List Nat :=
  let sum (l : List Item) : Nat := (l.map (fun i => i.2.1)).sum
  [sum (chanItems d (chansTrip d c true)), sum (chanItems d (chansTrip d c false)), sum (stageRuns d (kernList d c true)),
    sum (stageRuns d (kernList d c false)), scanCost d c]

/-- A carriage's work lists, by window (R248). -/
def carWork (d : Dev) (c : Nat) : List (List Nat) :=
  [chansTrip d c true, chansTrip d c false, (kernList d c true).map (fun p => p.1), (kernList d c false).map (fun p => p.1)]

/-- A commit for a carriage from `d` to `d'`: one that raises its worst-case cost is admitted first, and one that lowers it lets
DEGRADED carriages be retried (R253, R261). The answer is admission's; a refused commit is not made. One that changes a work list
alone has its seats planned again, or, where they find no room, written with their new positions. -/
def admitChange (c : Nat) (d d' : Dev) : Dev × Nat :=
  if ttbState d c = 0 then (d', 0)
  else
    let p := (carCosts d c).zip (carCosts d' c)
    let d' := if p.any (fun q => q.2 < q.1) then { d' with ttb := { d'.ttb with retry := true } } else d'
    if p.any (fun q => q.1 < q.2) then
      let r := runAdmission c d'
      if r.2 = 0 then r else (d, r.2)
    else if carWork d c = carWork d' c && carCosts d c = carCosts d' c then (d', 0)
    else
      let r := runAdmission c d'
      if r.2 = 0 then r else ({ d' with ttb := { d'.ttb with bankDue := true } }, 0)

/-- The carriages of the Timetable whose cost or work a commit changes. -/
def changedCars (d d' : Dev) : List Nat :=
  (tkeys d.cars).filter (fun c => ttbState d c != 0 && !(carCosts d c == carCosts d' c && carWork d c == carWork d' c))

/-- A commit that may change the cost of several carriages: each is admitted, and the commit is refused where one is not. -/
def admitChanges (d d' : Dev) : Dev × Nat :=
  (changedCars d d').foldl (fun r c =>
    if r.2 ≠ 0 then r
    else
      let a := admitChange c d r.1
      if a.2 = 0 then a else (d, a.2)) (d', 0)

/-- A carriage leaves the Timetable (R261). -/
def leaveTtb (c : Nat) (d : Dev) : Dev :=
  let stay (l : List PSeat) : List PSeat := l.filter (fun s => s.car != c)
  let d := { d with ttb := { d.ttb with
    plan := stay d.ttb.plan, retry := true, bankDue := true, back := d.ttb.back.filter (fun x => x != c),
    replan := d.ttb.replan.map (fun r => (stay r.1, r.2.1.filter (fun x => x != c), r.2.2)) } }
  let d := [Reg.ttbCState c, Reg.ttbCSeq c, Reg.ttbCCost c 0, Reg.ttbCCost c 1, Reg.ttbCCost c 2, Reg.ttbCSeats c].foldl
    (fun d r => d.wn r 0) d
  degradedUpd (showUse d)

/-- The columns of a kind after a re-plan: the remaining units but one, ascending; that one is in the inspection seat. -/
def remapCols (k n : Nat) (d : Dev) : Dev :=
  let us := unitsIn d k 0 ++ unitsIn d k 2
  let us := isort (fun a b => a ≤ b) us
  let d := (List.range (unitsOf k)).foldl (fun d m =>
    if m < n then setCol k m (nth 0 us m) d else d.wn (Reg.ttbColmap k m) 0) d
  let d := us.foldl (fun d u => setRole k u 0 d) d
  match us[n]? with
  | some u => showInsp k u (setRole k u 2 d)
  | none => d

/-- A recomputed plan in force at a route boundary (R257 to R259). -/
def replanApply (d : Dev) : Dev :=
  match d.ttb.replan with
  | none => d
  | some (p, deg, cols) =>
    let changed := [0, 1, 2].filter (fun k => nth 0 cols k != colsOf d k)
    let d := { d with ttb := { d.ttb with replan := none, plan := p, bankDue := true, back := [] } }
    let d := changed.foldl (fun d k => remapCols k (nth 0 cols k) (setCols k (nth 0 cols k) d)) d
    let d := deg.foldl (fun d c => shedCar c d) d
    let back := (tkeys d.cars).filter (fun c => isShed d c && !deg.contains c)
    let d := back.foldl (fun d c => unshedCar c d) d
    showUse (d.clrB Reg.ttbStatus 1)

/-- DEGRADED carriages retried at a route boundary after capacity came free, while Phiash runs; those that fit resume under the
bank of the next boundary (R261; 16 R474). -/
def degradedRetry (d : Dev) : Dev :=
  if !d.ttb.retry || !d.bitR Reg.glbStatus 1 then d
  else
    let d := { d with ttb := { d.ttb with retry := false } }
    ((readmitOrder d).filter (fun c => isShed d c && !d.ttb.back.contains c)).foldl (fun d c =>
      match admission d c d.ttb.plan (p2Others d) (colsOf d) with
      | .ok p => { d with ttb := { d.ttb with plan := p, bankDue := true, back := d.ttb.back ++ [c] } }
      | _ => d) d

/-- Retried carriages resume with the bank that holds their seats (R261). -/
def retriedBack (d : Dev) : Dev :=
  let l := d.ttb.back
  (l.filter (isShed d)).foldl (fun d c => unshedCar c d) { d with ttb := { d.ttb with back := [] } }

/-- PENDING carriages are ADMITTED when their seats take effect (R253): with the recomputed plan where one waits. -/
def pendingAdmitted (d : Dev) : Dev :=
  ((tkeys d.cars).filter (fun c => ttbState d c == 1)).foldl (fun d c => d.setF (Reg.ttbCState c) 0 2 2) d

/-! The Livery's own seat banks (R247, R248, R253): a changed plan is written into the inactive bank and exchanged. -/

/-- The place of a reservation's items in its carriage's work list: first and count (R248). -/
def seatItems (d : Dev) (s : PSeat) : Nat × Nat :=
  let l := if s.kind = 0 then carChanList d s.car
    else if s.kind = 1 then (kernList d s.car (s.tick == 0)).map (fun p => p.1) else [s.car]
  let here := (s.items.filter (fun i => l.contains i)).map (fun i => placeIn i l)
  match here with
  | [] => (0, 0)
  | x :: xs => (xs.foldl min x, here.length)

/-- The four words of the seat of a reservation (R248). -/
def planSeat (d : Dev) (s : PSeat) : List Nat :=
  let item := seatItems d s
  [s.kind + s.tick * 2 ^ 4 + s.col * 2 ^ 8 + carCls d s.car * 2 ^ 14 + s.car * 2 ^ 16 + 2 ^ 31, s.start + s.len * 2 ^ 16, 2 ^ 8,
    item.1 + item.2 * 2 ^ 16]

/-- The plan's seats: those of the carriages that are PENDING or ADMITTED. -/
def planWords (d : Dev) : List (List Nat) :=
  (d.ttb.plan.filter (fun s => ttbState d s.car == 1 || ttbState d s.car == 2)).map (planSeat d)

/-- The inactive bank written with the plan's seats and the arbitrating seats of the active one that still have a column, and SWAP set. -/
def planBank (d : Dev) : Dev :=
  let b := 1 - ttbBank d
  let arb := ((bankSeats d (ttbBank d)).filter (fun p => stArb p.2 && stColumn p.2 < colsOf d (stKind p.2))).map (fun p => p.2)
  let lo := Reg.ttbSeat b 0 0
  let d' := { d with regs := d.regs.filter (fun p => !(lo ≤ p.1 && p.1 < lo + 0x20000)) }
  let ws := (planWords d ++ arb).take 8192
  ((List.range ws.length).foldl (fun d i => (List.range 4).foldl (fun d j => d.wn (Reg.ttbSeat b i j) (entW (nth [] ws i) j)) d)
    d').setB Reg.ttbBankCtrl 0

/-- The exchange that makes a changed plan active, unless a bank the Livery wrote itself was exchanged at this boundary. -/
def planSwap (swapped : Bool) (d : Dev) : Dev :=
  if !d.ttb.bankDue then d
  else
    let d := { d with ttb := { d.ttb with bankDue := false } }
    if swapped then d else bankSwap (planBank d)

/-- The Timetable at a route boundary. -/
def ttbRoute (d : Dev) : Dev :=
  let d := retriedBack (pendingAdmitted (unitsRoute (arbRoute d)))
  let d' := bankSwap d
  degradedRetry (planSwap (ttbBank d' != ttbBank d) (replanApply d'))

/-! The rows. -/

/-- A commit of a kernel descriptor: one that admission refuses leaves REFUSED set with REASON 0 (log 17). -/
def eenCommitCmd (index : Nat) (d : Dev) : Dev :=
  let r := admitChanges d (eenDescCommit index d)
  if r.2 = 0 then r.1 else d.wn Reg.eenDescStatus 2

/-- A commit of a filter descriptor of any table, likewise. -/
def fchCommitCmd (table index : Nat) (d : Dev) : Dev :=
  let r := admitChanges d (fchDescCommit table index d)
  if r.2 = 0 then r.1 else d.wn Reg.fchDescStatus 2

/-- A load of a Harness program from HLE_LOAD_ADDR. A load that the carriage's state does not permit, or that admission refuses, leaves
REFUSED set with REASON 0 (07 R240, R241; log 17). -/
def hleLoadCmd (c : Nat) (swap : Bool) (m : List Host.Cell) (d : Dev) : Dev :=
  if carSt d c = 0 || (carEnabled d c && !swap) then d.wn Reg.hleLoadStatus 2
  else
    let d' := (loadProg (readImage m (d.rn Reg.hleLoadAddrLo + d.fldR Reg.hleLoadAddrHi 0 8 * 2 ^ 32)) c swap d).1
    let r := admitChanges d d'
    if r.2 = 0 then r.1 else d.wn Reg.hleLoadStatus 2

/-- EEN_DESC_COMMIT (06 R179, R253). -/
def execEenDescCommit (index : Nat) (s : State) : Outcome := s.act (onlyIf (index < 65536) (eenCommitCmd index))

/-- FCH_DESC_COMMIT (05 R165, R253): tables 0 channel, 1 average, 2 tracking group. -/
def execFchDescCommit (table index : Nat) (s : State) : Outcome :=
  s.act (onlyIf (table < 3 && index < 32768) (fchCommitCmd table index))

/-- HLE_LOAD (07 R240, R241, R253): HLE_LOAD_CMD with GO for a carriage; the image lies at HLE_LOAD_ADDR. -/
def execHleLoad (c : Nat) (swap : Bool) (s : State) : Outcome := s.actM (fun m => onlyIf (c < 512) (hleLoadCmd c swap m))

/-- SEAT_OVERRUN (06 R169, R200): the engine's kernel is stopped, the engine is faulted, and its runs of the leg are lost. -/
def execSeatOverrun (e : Nat) (s : State) : Outcome :=
  s.actM (fun m => onlyIf (e < 34) (fun d =>
    if eRole d e = 3 then d else retireUnit 1 e 3 (raise 234 none e 0 (runsLost m e (d.bump (Reg.eenEFaults e))))))

/-- ENGINE_FAULT (06 R200, 07 R211): parity or ECC failure in the local memory of an element or Harness engine. -/
def execEngineFault (harness : Bool) (e : Nat) (s : State) : Outcome :=
  s.actM (fun m => onlyIf (e < if harness then 17 else 34) (fun d =>
    if harness then retireUnit 2 e 2 d
    else if eRole d e = 3 then d else retireUnit 1 e 2 (runsLost m e (d.bump (Reg.eenEFaults e)))))

/-- INSPECTION_RESULT (R262). -/
def execInspectionResult (kind : Nat) (pass : Bool) (s : State) : Outcome := s.act (onlyIf (kind < 3) (inspResult kind pass))

/-- SEAT_ENTRY_WRITE (R247). -/
def execSeatEntryWrite (bank index word : Nat) (v : Word) (s : State) : Outcome :=
  s.act (onlyIf (bank < 2 && index < 8192 && word < 4) (seatWrite bank index word v.toNat))

/-- SEAT_BANK_SWAP_REQUEST (R247). -/
def execSeatBankSwapRequest (s : State) : Outcome := s.act (fun d => d.setB Reg.ttbBankCtrl 0)

/-- READMISSION (R257). -/
def execReadmission (s : State) : Outcome := s.act readmission

end Sys2Proof.Machine
end

