-- ==== Sys2Proof/Machine/Runs.lean ====
section
/-! DEFINITION. Which unit runs what and when: the seats of the present tick, the arbiter, and the rows that run filter stages, kernels and
scans (05 R136, R137; 06 R170, R182 to R195; 07 R208; 08 R243 to R251; 01 R20; 11 R333). -/

namespace Sys2Proof.Machine

/-! Ready items of P2 carriages, and of channels and kernels that catch up under a warm restore (R251; 10 R316). -/

/-- An item that the arbiter may start: pipeline leg, carriage, place in the carriage's order, descriptor index or carriage, cycles. -/
structure ArbItem where
  leg  : Nat
  car  : Nat
  rank : Nat
  item : Nat
  cost : Nat
deriving DecidableEq, Repr

/-- The arbiter's order: the oldest leg, then the lower carriage, then the carriage's own order. -/
def arbBefore (a b : ArbItem) : Bool :=
  a.leg < b.leg || (a.leg == b.leg && (a.car < b.car || (a.car == b.car && a.rank ≤ b.rank)))

/-- Whether a carriage's work is the arbiter's. -/
def isP2 (d : Dev) (c : Nat) : Bool := carCls d c == 2

/-- Whether the shadow may run a P2 item for a leg: one that the active's list names (11 R333). -/
def p2Named (d : Dev) (leg kind item : Nat) : Bool := !isShadow d || d.brc.p2.contains (leg, kind, item)

/-- Whether the inputs of an instance for leg `l` are complete: its channel, its group, or the instances that write its records. -/
def inputsReady (d : Dev) (w : List Nat) (l : Nat) : Bool :=
  let c := kCar w
  let chan : Bool := match trackedChan d c (kIn w 0) with
    | some ch => (match (fchan d ch).next with | some n => l < n | none => false)
    | none => true
  match kCode w with
  | 1 => chan
  | 2 => chan
  | 8 => true
  | 9 => true
  | 11 => grpState d (kIn w 1) == tIdle || l ≤ (fgrp d (kIn w 1)).leg
  | _ => (kInRecs w).all (fun r =>
      ((carKernels d c).filter (fun p => kResult p.2 ≤ r && r < kResult p.2 + kRecords p.2)).all (fun p => ranFor (kInst d p.1) l))

/-- The leg for which an engine that serves leg `n` may run an instance of a P2 carriage: of that leg and the one before it, the older whose
inputs are complete. -/
def p2Ready (d : Dev) (e i n : Nat) : Option Nat :=
  [n - 1, n].find? (fun l => kCan d e i l && inputsReady d (kDesc d i) l && p2Named d l 1 i)

/-- The leg for which the arbiter may run an instance: that of a catch-up, or of a P2 carriage. -/
def arbKern (d : Dev) (e i n : Nat) (w : List Nat) : Option Nat :=
  match kernBehind d i w with
  | some l => if l ≤ n && kCan d e i l && inputsReady d w l then some l else none
  | none => if isP2 d (kCar w) then p2Ready d e i n else none

/-- The filter items that are ready for a lane that serves leg `n`. -/
def chanReady (d : Dev) (lane n : Nat) : List ArbItem :=
  match d.sau.declared with
  | none => []
  | some now => (d.fch.desc.filter (fun p => p.1 < 32768 && laneCan d lane p.2 &&
      (chanBehind d p.1 p.2 || isP2 d (chCar p.2)))).filterMap (fun p =>
      let leg := (nextLeg d p.1 now p.2).1
      if leg ≤ min now n then some ⟨leg, chCar p.2, p.1, p.1, chWorst d p.1⟩ else none)

/-- The kernel runs that are ready for an engine that serves leg `n`. -/
def kernReady (d : Dev) (e n : Nat) : List ArbItem :=
  d.een.desc.filterMap (fun p =>
    (arbKern d e p.1 n p.2).map (fun l => ⟨l, kCar p.2, kResult p.2, p.1, kCost d p.2⟩))

/-- The scans that are ready for a Harness engine: those whose oldest inputs are frozen. -/
def scanReady (d : Dev) (e : Nat) : List ArbItem :=
  ((tkeys d.cars).filter (fun c => isP2 d c && scanCan d e c)).filterMap (fun c => match (hcar d c).frz with
    | (leg, _) :: _ => if p2Named d leg 2 c then some ⟨leg, c, 0, c, scanCost d c⟩ else none
    | [] => none)

/-- The items that are ready for a unit of a kind that serves leg `n`, in the arbiter's order. -/
def readyItems (d : Dev) (k u n : Nat) : List ArbItem :=
  isort arbBefore (if k = 0 then chanReady d u n else if k = 1 then kernReady d u n else scanReady d u)

/-! The arbiter (R251). No rule names a background item, so a BGRES seat takes P2 items too (log 34). -/

/-- Cycles of an item in a seat: an element engine loads a carriage's descriptors and state when its carriage changes (06 R168). -/
def arbNeed (k : Nat) (prev : Option Nat) (i : ArbItem) : Nat := i.cost + (if k = 1 && prev != some i.car then 40 else 0)

/-- An item starts on a unit that serves leg `n`. -/
def arbStart (m : List Host.Cell) (k u n : Nat) (i : ArbItem) (d : Dev) : Dev :=
  if k = 0 then filterRun m u i.item n d
  else if k = 1 then kRun m u i.item i.leg d else scanOn u i.item i.cost d

/-- Cycles that an arbitrating seat of a kind used. -/
def arbUse (k n : Nat) (d : Dev) : Dev :=
  { d with ttb := { d.ttb with arbUsed := tput d.ttb.arbUsed k (tget 0 d.ttb.arbUsed k + n) } }

/-- Items started one after another while the seat has cycles left; `f` bounds their number. -/
def arbRun (m : List Host.Cell) (k u n : Nat) : Nat → Nat → Option Nat → Dev → Dev
  | 0, _, _, d => d
  | f + 1, left, prev, d =>
    match (readyItems d k u n).find? (fun i => arbNeed k prev i ≤ left) with
    | none => d
    | some i =>
      let d' := arbStart (memWriteWords m d.dramW) k u n i d
      if d' = d then d else arbRun m k u n f (left - arbNeed k prev i) (some i.car) (arbUse k (arbNeed k prev i) d')

/-- The arbitrating seat of an index of the active bank begins, if this tick serves it. -/
def arbSeat (i : Nat) (m : List Host.Cell) (d : Dev) : Dev :=
  let w := (List.range 4).map (seatW d (ttbBank d) i)
  match colUnit d (stKind w) (stColumn w) with
  | none => d
  | some u => match (arbNow d (stKind w) u).find? (fun s => s.2 == w) with
    | none => d
    | some s => arbRun m (stKind w) u s.1 (stLen w) (stLen w) none d

/-- The leg for which a unit may run a P2 item by itself: one that an arbitrating seat of the present tick would start first. -/
def arbLeg (d : Dev) (k u item : Nat) : Option Nat :=
  (arbNow d k u).findSome? (fun s =>
    match (readyItems d k u s.1).find? (fun i => arbNeed k none i ≤ stLen s.2) with
    | some i => if i.item = item then some (if k = 0 then s.1 else i.leg) else none
    | none => none)

/-! The leg that a unit serves for an item. -/

/-- A channel's leg on a lane: its exclusive seat's, or the arbiter's. -/
def chanSeat (d : Dev) (lane ch : Nat) : Option Nat :=
  let w := fchDesc d 0 ch
  if chanBehind d ch w || isP2 d (chCar w) then arbLeg d 0 lane ch
  else seatLeg d 0 lane (chCar w) (placeIn ch (carChans d (chCar w))) (inStage d w)

/-- An instance's leg on an engine: its exclusive seat's, the arbiter's, or on the shadow the one that the active's list names. -/
def kernSeat (d : Dev) (e i : Nat) : Option Nat :=
  let w := kDesc d i
  if (kernBehind d i w).isSome then arbLeg d 1 e i
  else if isP2 d (kCar w) then (if isShadow d then p2Leg d 1 i else arbLeg d 1 e i)
  else seatLeg d 1 e (kCar w) (placeIn i ((kList d w).map (fun p => p.1))) (!isBg d w)

/-- Whether a Harness engine serves a carriage's scan now. -/
def scanSeatNow (d : Dev) (e c : Nat) : Bool :=
  if isP2 d c then isShadow d || (arbLeg d 2 e c).isSome else (seatLeg d 2 e c 0 true).isSome

/-! Stages passed over after a change of holdback (01 R20). -/

/-- The channels of an exclusive filter seat. -/
def seatChans (d : Dev) (w : List Nat) : List Nat := ((carChans d (stCar w)).drop (stFirst w)).take (stCount w)

/-- The filter stages whose seats find no room in this tick beside the older leg's are skips of their legs. -/
def passOver (d : Dev) : Dev :=
  if d.ttb.holdOld.isNone || (relLegs d 0).length ≤ 1 then d
  else (List.range (colsOf d 0)).foldl (fun d m =>
    (((seatsNow d 0 m).2).filter (fun s => !stArb s.2)).foldl (fun d s =>
      (seatChans d s.2).foldl (fun d ch => stagePassed ch s.1 d) d) d) d

/-! The rows. -/

/-- FILTER_STAGE_RUN (05 R137): a lane runs the stages of a channel that it serves now. -/
def filterStage (lane ch : Nat) (m : List Host.Cell) (d : Dev) : Dev :=
  match chanSeat d lane ch with
  | some l => filterRun m lane ch l d
  | none => d

def execFilterStageRun (lane ch : Nat) (s : State) : Outcome :=
  s.actM (fun m => onlyIf (lane < 64 && ch < 32768) (filterStage lane ch m))

/-- Ranges of an engine and an instance. -/
def kOk (e i : Nat) : Bool := e < 34 && i < 65536

/-- A kernel row: the engine runs an instance of the row's code that it serves now. -/
def kernelRun (code e i : Nat) (m : List Host.Cell) (d : Dev) : Dev :=
  match kernSeat d e i with
  | some n => if kCode (kDesc d i) = code && kCan d e i n then kRun m e i n d else d
  | none => d

/-- What every kernel row does. -/
def kernelRow (code e i : Nat) (s : State) : Outcome := s.actM (fun m => onlyIf (kOk e i) (kernelRun code e i m))

/-- PHASOR_DFT (06 R184). -/
def execKPhasorDft (e i : Nat) (s : State) : Outcome := kernelRow 1 e i s
/-- PHASOR_COS (06 R184). -/
def execKPhasorCos (e i : Nat) (s : State) : Outcome := kernelRow 2 e i s
/-- SEQ (06 R186). -/
def execKSeq (e i : Nat) (s : State) : Outcome := kernelRow 3 e i s
/-- IMPED (06 R187). -/
def execKImped (e i : Nat) (s : State) : Outcome := kernelRow 4 e i s
/-- MHO (06 R188). -/
def execKMho (e i : Nat) (s : State) : Outcome := kernelRow 5 e i s
/-- QUAD (06 R188). -/
def execKQuad (e i : Nat) (s : State) : Outcome := kernelRow 6 e i s
/-- DIFF (06 R189). -/
def execKDiff (e i : Nat) (s : State) : Outcome := kernelRow 7 e i s
/-- FAST_OC (06 R190). -/
def execKFastOc (e i : Nat) (s : State) : Outcome := kernelRow 8 e i s
/-- FAST_DIFF (06 R191). -/
def execKFastDiff (e i : Nat) (s : State) : Outcome := kernelRow 9 e i s
/-- IDMT (06 R192). -/
def execKIdmt (e i : Nat) (s : State) : Outcome := kernelRow 10 e i s
/-- FREQ (06 R193). -/
def execKFreq (e i : Nat) (s : State) : Outcome := kernelRow 11 e i s
/-- POWER (06 R194). -/
def execKPower (e i : Nat) (s : State) : Outcome := kernelRow 12 e i s
/-- SYNC (06 R195). -/
def execKSync (e i : Nat) (s : State) : Outcome := kernelRow 13 e i s

/-- HARNESS_SCAN (07 R208): an engine runs a scan that it serves now. -/
def harnessRow (e c steps : Nat) (d : Dev) : Dev := if scanSeatNow d e c then scanSeat e c steps d else d

def execHarnessScan (e c steps : Nat) (s : State) : Outcome := s.act (onlyIf (e < 17 && c < 512) (harnessRow e c steps))

/-- ARB_SEAT_START (08 R251). -/
def execArbSeatStart (index : Nat) (s : State) : Outcome := s.actM (fun m => onlyIf (index < 8192) (arbSeat index m))

end Sys2Proof.Machine
end

