-- ==== Sys2Proof/Machine/Session.lean ====
section
/-! DEFINITION. Command sessions: rings, taking an entry, the checks of 13 R402, replies and final replies, and the session
family (13 R388 to R411, R422; 16 R482, R483; 18 R536, R541). Ring indices count modulo the ring size (log 16). -/

namespace Sys2Proof.Machine

/-! Status codes (R401). -/

def cOk : Nat := 0
def cPending : Nat := 1
def cBadOpcode : Nat := 0x10
def cBadVersion : Nat := 0x11
def cBadParam : Nat := 0x12
def cNoResource : Nat := 0x20
def cBusyDraining : Nat := 0x21
def cScheduleFull : Nat := 0x22
def cDenied : Nat := 0x30
def cLocked : Nat := 0x31
def cWrongMode : Nat := 0x32
def cNotReady : Nat := 0x40
def cStaleGen : Nat := 0x50
def cFault : Nat := 0x60
def cSpareExhausted : Nat := 0x61

/-- What a command answers: status and detail words. -/
structure Ans where
  st : Nat
  ds : List Nat
deriving DecidableEq, Repr

def okA (ds : List Nat) : Ans := ⟨cOk, ds⟩
def pendA (ds : List Nat) : Ans := ⟨cPending, ds⟩

/-- A refusal with REASON, offending parameter word and INDEX (R395). -/
def refA (st reason par idx : Nat) : Ans := ⟨st, [reason + par * 256 + idx * 65536]⟩

/-- A refusal that names no parameter. -/
def noA (st : Nat) : Ans := refA st 0 0xFF 0

/-- BAD_PARAM for parameter word `k`. -/
def badP (k : Nat) : Ans := refA cBadParam 0 k 0

/-! Session registers. -/

def sesTransport (d : Dev) (s : Nat) : Nat := if d.mode = modeRecovery then 2 else d.fldR (Reg.cmdSCfg s) 0 2
def sesFamily (d : Dev) (s f : Nat) : Bool := d.mode == modeRecovery || d.bitR (Reg.cmdSCfg s) (4 + f)
def sesProto (d : Dev) (s : Nat) : Nat := d.fldR (Reg.cmdSState s) 0 4
def sesSize (d : Dev) (s : Nat) : Nat := 2 ^ d.fldR (Reg.cmdSRingCfg s) 0 4
def repSize (d : Dev) (s : Nat) : Nat := 2 ^ d.fldR (Reg.cmdSRingCfg s) 8 4
def sesCons (d : Dev) (s : Nat) : Nat := d.fldR (Reg.cmdSCons s) 0 16
def sesProd (d : Dev) (s : Nat) : Nat := tget 0 d.cmd.prod s
def setProd (s p : Nat) (d : Dev) : Dev := { d with cmd := { d.cmd with prod := tset 0 d.cmd.prod s p } }
def sesFinals (d : Dev) (s : Nat) : List (List Nat) := tget [] d.cmd.finals s
def setFinals (s : Nat) (l : List (List Nat)) (d : Dev) : Dev := { d with cmd := { d.cmd with finals := tset [] d.cmd.finals s l } }

/-- OPEN: transport bound and EN set; in Recovery, session 0 alone (R409, R422). No session is open in Boot (16 R483). -/
def sesOpen (d : Dev) (s : Nat) : Bool :=
  if d.mode = modeRecovery then s == 0
  else d.mode != modeBoot && d.mode != modeParked && sesTransport d s != 0 && d.bitR Reg.cmdCtrl 0

/-- Entries outstanding. -/
def sesOut (d : Dev) (s : Nat) : Nat := (sesProd d s + sesSize d s - sesCons d s % sesSize d s) % sesSize d s

/-- Commands that await a final reply, queued replies included (CMD_S_STATE.NONFINAL). -/
def sesNonfinal (d : Dev) (s : Nat) : Nat := (d.cmd.jobs.filter (fun j => j.ses == s && j.notify)).length + (sesFinals d s).length

/-- CMD_S_STATE as it reads. -/
def sesStateW (d : Dev) (s : Nat) : Nat :=
  sesProto d s + b2n (sesOpen d s) * 16 + b2n (d.bitR (Reg.cmdSState s) 5) * 32 + min 64 (sesNonfinal d s) * 256

/-- CMD_STATUS as it reads. -/
def cmdStatusW (d : Dev) : Nat := putFld (d.rn Reg.cmdStatus) 0 7 ((List.range 64).filter (sesOpen d)).length

/-- The highest protocol the device supports: 1 under G5MODE (R399). -/
def protoMax (d : Dev) : Nat := d.fldR Reg.cmdStatus 9 3

/-- Whether the reply ring has a free entry (R396; log 16). -/
def repSpace (d : Dev) (s : Nat) : Bool :=
  (d.fldR (Reg.cmdSRprod s) 0 16 + 1) % repSize d s != d.fldR (Reg.cmdSRcons s) 0 16 % repSize d s

/-- A session stalls (R396). -/
def sesStall (s : Nat) (d : Dev) : Dev :=
  if d.bitR (Reg.cmdSState s) 5 then d else raise 89 none s 0 (d.setB (Reg.cmdSState s) 5)

/-! Replies (R394, R396). -/

/-- The message write after a reply; address 0 disables it (R422, 18 R536). -/
def sesVec (s : Nat) (d : Dev) : Dev :=
  let a := d.rn (Reg.cmdSVecLo s) + d.rn (Reg.cmdSVecHi s) * 2 ^ 32
  if a = 0 then d
  else if inAperture a && outRefused d then raise 56 none (8 + s) 0 (raise 347 none (8 + s) 0 (d.bump Reg.hbrObRefused))
  else if inDram a then d.storeWords a [d.rd (Reg.cmdSVecData s)]
  else msgOut (8 + s) a (d.rd (Reg.cmdSVecData s)) d

/-- A reply [TAG, OPCODE, STATUS, APPLIED, D0 to D3, FINAL] written to the ring: the reply first, then the producer index. A
PCIe reply that ends with FAULT is kept and stalls the session until its next doorbell (18 R541). -/
def writeReply (s : Nat) (r : List Nat) (d : Dev) : Dev :=
  if sesTransport d s = 1 && outRefused d then
    sesStall s (setFinals s (r :: sesFinals d s) (raise 347 none s 0
      ({ d with cmd := { d.cmd with faulted := s :: d.cmd.faulted.filter (fun x => x != s) } }.bump Reg.hbrObRefused)))
  else
    let rp := Reg.cmdSRprod s
    let i := d.fldR rp 0 16
    let ph := b2n (d.bitR rp 16)
    let ws := [entW r 0, entW r 2 + entW r 1 * 65536, entW r 3, entW r 4, entW r 5, entW r 6, entW r 7, ph + entW r 8 * 2]
    let d := if sesTransport d s = 3 then
        d.storeWords (d.rn (Reg.cmdSRringLo s) + d.rn (Reg.cmdSRringHi s) * 2 ^ 32 + i * 32) (ws.map w32)
      else if sesTransport d s = 1 then d.outbound (8 + s) (d.rn (Reg.cmdSRringLo s) + d.rn (Reg.cmdSRringHi s) * 2 ^ 32 + i * 32)
      else d
    let d := d.emit (.reply s (if sesTransport d s = 2 then some (tget 0 d.cmd.froms s) else none) ws)
    let n := (i + 1) % repSize d s
    let d := d.wn rp (n + (if n = 0 then 1 - ph else ph) * 65536)
    let d := d.wn (Reg.cmdSLastTc s) (entW r 3)
    let d := if [cBadOpcode, cBadVersion, cBadParam].contains (entW r 2) then
        raise 88 none s (entW r 1) (d.bump (Reg.cmdSErr s)) else d
    sesVec s (if repSpace d s then d else sesStall s d)

/-- Waiting replies written while the ring has room. -/
def flushFinals (s : Nat) : Nat → Dev → Dev
  | 0, d => d
  | f + 1, d =>
    match sesFinals d s with
    | r :: rest =>
      if repSpace d s && !d.cmd.faulted.contains s then flushFinals s f (writeReply s r (setFinals s rest d)) else d
    | [] => d

/-- A session resumes once its ring has room. -/
def sesResume (s : Nat) (d : Dev) : Dev :=
  let d := flushFinals s 65 d
  if repSpace d s && !d.cmd.faulted.contains s then d.clrB (Reg.cmdSState s) 5 else d

/-- The end of a command: its final reply where one is owed (R403). -/
def finishJob (ident st : Nat) (ds : List Nat) (d : Dev) : Dev :=
  match d.cmd.jobs.find? (fun j => j.ident == ident) with
  | none => d
  | some j =>
    let d := { d with cmd := { d.cmd with jobs := d.cmd.jobs.filter (fun x => x.ident != ident) } }
    if j.notify then
      flushFinals j.ses 65 (setFinals j.ses (sesFinals d j.ses ++ [[j.tag, j.op, st, d.tc] ++ takePad 0 4 ds ++ [1]]) d)
    else d

/-- The end of every command of some opcodes on a carriage. -/
def finishJobs (c : Nat) (ops : List Nat) (st : Nat) (ds : List Nat) (d : Dev) : Dev :=
  (d.cmd.jobs.filter (fun j => j.car == c && ops.contains j.op)).foldl (fun d j => finishJob j.ident st ds d) d

/-! Taking an entry (R402 to R406). -/

/-- The master and world that a command acts for (17 R504, R517). -/
def cmdWho (d : Dev) (h : Cmd) : Who :=
  if sesTransport d h.session = 1 then ⟨8, if d.bitR Reg.tgtBridgeWorld 0 then .hypervisor else .livery⟩
  else if sesTransport d h.session = 2 then ⟨0, .livery⟩ else h.who

/-- What the catalogue says of an opcode: its number, whether it names a carriage, the mask of each parameter word, the first
words of its addresses, and the first parameter word out of range. -/
structure CmdSpec where
  op    : Nat
  named : Bool
  masks : List Nat
  addrs : List Nat
  range : List Nat → Option Nat

def mAll : Nat := 0xFFFFFFFF
def noRange : List Nat → Option Nat := fun _ => none

/-- An opcode with masks alone. -/
def spec0 (op : Nat) (masks : List Nat) : CmdSpec := ⟨op, false, masks, [], noRange⟩

/-- Parameter words as the protocol carries them (R393). -/
def cmdParams (h : Cmd) (proto : Nat) : List Nat :=
  takePad 0 13 ((if proto = 1 then h.p.take 6 else h.p).map (fun w => w.toNat))

/-- Two parameter words as an address. -/
def addrP (p : List Nat) (k : Nat) : Nat := entW p k + entW p (k + 1) * 2 ^ 32

/-- The first parameter word with a reserved bit set, an address out of its transport's range, or out of the opcode's own
ranges (R402 step 3; 18 R534). -/
def paramBad (c : CmdSpec) (tr : Nat) (p : List Nat) : Option Nat :=
  match (List.range 13).find? (fun k => entW p k &&& nth 0 c.masks k != entW p k) with
  | some k => some k
  | none => match c.addrs.find? (fun k => match tr with
      | 1 => 2 ^ 39 ≤ addrP p k
      | 2 => 65536 ≤ addrP p k
      | _ => !inDram (addrP p k)) with
    | some k => some (if tr = 1 then k + 1 else k)
    | none => c.range p

/-- Families whose commands are not configuration commands (R408). -/
def localFamily (f : Nat) : Bool := [0, 5, 6, 7, 9, 10].contains f

/-- The opcodes that Recovery accepts (R409). -/
def recoveryOps : List Nat := [0, 1, 2, 3, 0x904, 0x905, 0x906]

/-- Whether the mode and the role take an opcode (R408, R409, 16 R483). -/
def modeTakes (d : Dev) (op : Nat) : Bool :=
  if d.mode = modeRecovery then recoveryOps.contains op
  else (localFamily (op / 256) || brcRole d ≤ 1) &&
    !(d.mode == modeCommission && [0x702, 0x703, 0x900].contains op)

/-- Whether another session holds the carriage's lease (R406); a disable proceeds from any session. -/
def leased (d : Dev) (s c op : Nat) : Bool :=
  op != 0x103 && d.cmd.jobs.any (fun j => j.car == c && j.ses != s && [0x106, 0x107, 0x108].contains j.op)

/-- Steps 1 to 6 of R402 and the mode, then FAULT for poisoned data at the command's addresses (18 R546): the refusal, if any. -/
def cmdCheck (c : CmdSpec) (h : Cmd) (d : Dev) : Option Ans :=
  let s := h.session
  let proto := sesProto d s
  let p := cmdParams h proto
  let car := c.op / 256 = 1
  if h.version ≠ proto then some (noA cBadVersion)
  else if 4 ≤ h.flags || (proto = 1 && bitOf h.flags 1) || (proto ≠ 1 && h.resv ≠ 0) then some (noA cBadParam)
  else if c.named && 512 ≤ h.carriage && !(c.op = 0x100 && bitOf (entW p 0) 4) then some (noA cBadParam)
  else if !c.named && h.carriage ≠ 0xFFFF then some (noA cBadParam)
  else match paramBad c (sesTransport d s) p with
    | some k => some (badP k)
    | none =>
      let g := d.fldR (Reg.carGen h.carriage) 0 16
      if !sesFamily d s (c.op / 256) then some (noA cDenied)
      else if car && c.op ≠ 0x100 && fld (entW p 0) 0 16 ≠ 0 && fld (entW p 0) 0 16 ≠ g then some ⟨cStaleGen, [g]⟩
      else if car && c.op ≠ 0x100 && leased d s h.carriage c.op then some (noA cLocked)
      else if !modeTakes d c.op then some (noA cWrongMode)
      else if h.poison && c.addrs != [] then some (noA cFault)
      else none

/-- The stamp of the entry at a session's CONS: the tick of the doorbell that brought it. -/
def sesStamp (d : Dev) (s : Nat) : Nat := match tget [] d.cmd.stamps s with | (t, _) :: _ => t | [] => d.tim.absTick

/-- Whether Phiash could go on to a session's next entry (R396). -/
def sesLive (d : Dev) (s : Nat) : Bool :=
  sesOpen d s && sesOut d s != 0 && (tfind d.cmd.wait s).isNone && (sesFinals d s).length < 64 && repSpace d s

/-- No other session has an entry of an older doorbell, or of one of the same tick and a lower session number (R405). -/
def cmdFirst (d : Dev) (s : Nat) : Bool :=
  (tkeys d.cmd.stamps).all (fun x => x == s || !sesLive d x || sesStamp d s < sesStamp d x || (sesStamp d s == sesStamp d x && s < x))

/-- Whether Phiash takes an entry of a session now: its turn among the sessions, the session open, Phiash up, an entry outstanding, the first reply before it
written, its queue of final replies not full, and every earlier entry final where it carries FENCE (R396, R404, R405; 16 R474). -/
def cmdReady (h : Cmd) (d : Dev) : Bool :=
  let s := h.session
  s < 64 && cmdFirst d s && sesOpen d s && (d.mode == modeRecovery || d.bitR Reg.glbStatus 1) && sesOut d s != 0 &&
    (tfind d.cmd.wait s).isNone && (sesFinals d s).length < 64 && !(bitOf h.flags 0 && sesNonfinal d s != 0)

/-- The entry at CONS taken: the index advances. -/
def cmdAdvance (s : Nat) (d : Dev) : Dev :=
  let c := (sesCons d s + 1) % sesSize d s
  let l := if c = sesProd d s then [] else (tget [] d.cmd.stamps s).dropWhile (fun x => x.2 == c)
  { d with cmd := { d.cmd with stamps := tset [] d.cmd.stamps s l } }.wn (Reg.cmdSCons s) c

/-- The first reply of an entry, and the command kept where it is PENDING; a configuration command that is accepted enters the
journal (11 R334; R408). -/
def cmdReply (op : Nat) (h : Cmd) (a : Ans) (d : Dev) : Dev :=
  let s := h.session
  let proto := sesProto d s
  let tag := if proto = 1 then h.tag % 65536 else h.tag
  let notify := proto == 3 && bitOf h.flags 1
  let d := if a.st = cPending then
      { d with cmd := { d.cmd with jobs := d.cmd.jobs ++ [⟨d.cmd.nextJob, s, tag, op, notify, h.carriage⟩],
                                   nextJob := d.cmd.nextJob + 1 } }
    else d
  let d := writeReply s ([tag, op, a.st, d.tc] ++ takePad 0 4 a.ds ++ [b2n (!(a.st == cPending && notify))]) d
  let d := if a.st ≤ cPending && !localFamily (op / 256) && !([0x107, 0x108, 0x109, 0x206].contains op) then
      brcSend 7 ([16, op, h.carriage, h.flags] ++ cmdParams h proto) d
    else d
  if d.bitR Reg.evrCtrl 1 then
    logInput 7 s (if op / 256 = 1 && h.carriage < 512 then evCar (some h.carriage) else 0) op a.st d
  else d

/-- Phiash takes an entry: its fetch, R402's checks, its own conditions and effect, and its reply. The answer is what it
replied, or none where no entry is taken. A body that answers PENDING may name its command by `cmd.nextJob`. -/
def runCmd (c : CmdSpec) (body : List Nat → Dev → Dev × Ans) (h : Cmd) (d : Dev) : Dev × Option Ans :=
  let s := h.session
  let p := cmdParams h (sesProto d s)
  if !cmdReady h d then (d, none)
  else if sesTransport d s = 1 && outRefused d then (raise 347 none s 0 (d.bump Reg.hbrObRefused), none)
  else if !repSpace d s then (sesStall s d, none)
  else
    let d := cmdAdvance s d
    let r := if d.bitR Reg.glbStatus 5 then (d, noA cFault)
      else match cmdCheck c h d with
        | some a => (d, a)
        | none => body p d
    (cmdReply c.op h r.2 r.1, some r.2)

/-- The effect of taking an entry. -/
def runC (c : CmdSpec) (body : List Nat → Dev → Dev × Ans) (h : Cmd) (d : Dev) : Dev := (runCmd c body h d).1

/-! Session rows. -/

/-- Every index of a session 0, and protocol 1 (R391). -/
def sesClear (s : Nat) (d : Dev) : Dev :=
  let d := setFinals s [] (setProd s 0 (((d.wn (Reg.cmdSCons s) 0).wn (Reg.cmdSRprod s) 0).wn (Reg.cmdSRcons s) 0))
  let d := { d with cmd := { d.cmd with wait := tdel d.cmd.wait s, stamps := tdel d.cmd.stamps s, faulted := d.cmd.faulted.filter (fun x => x != s),
                                        jobs := d.cmd.jobs.map (fun (j : Job) => if j.ses = s then { j with notify := false } else j) } }
  d.wn (Reg.cmdSState s) 1

/-- The command producer index by a doorbell, with its stamp (R390, R405). -/
def ringTo (s prod : Nat) (d : Dev) : Dev :=
  let d := if prod = sesProd d s then d
    else { d with cmd := { d.cmd with stamps := tput d.cmd.stamps s (tget [] d.cmd.stamps s ++ [(d.tim.absTick, prod)]) } }
  setProd s prod d

/-- A doorbell (R390; 18 R541). -/
def cmdDoorbell (s prod : Nat) (d : Dev) : Dev :=
  if !sesOpen d s || sesSize d s ≤ prod then d.bump (Reg.cmdSErr s)
  else
    let d := { d with cmd := { d.cmd with faulted := d.cmd.faulted.filter (fun x => x != s) } }
    sesResume s (ringTo s prod d)

/-- Bytes written to a session's staging window. -/
def stageBytes (s : Nat) : Nat → List Nat → Dev → Dev
  | _, [], d => d
  | o, b :: bs, d =>
    stageBytes s (o + 1) bs { d with cmd := { d.cmd with staging := tset 0 d.cmd.staging (s * 65536 + o % 65536) (b % 256) } }

/-- The slot that authenticates datagrams in Recovery (R409): the lowest VALID slot of TYPE 2 with FUNC bit 19 and LOCK, permitted
to the management cores and the Livery world. -/
def recoverySlot (d : Dev) : Option Nat :=
  (List.range 256).find? (fun i =>
    let a := slotAttr d i
    slotState d i == 1 && fld a 0 4 == 2 && bitOf a fnSession && bitOf a 24 && bitOf a 4 && bitOf a 8)

/-- A management-port datagram from address `src` (R400, R409): `tagOk` is what its tag's check finds, `zeroTag` whether the tag is 16 zero bytes. -/
def mgmtDatagram (src s count seq ofs : Nat) (seg : List Nat) (tagOk zeroTag slotBad : Bool) (d : Dev) : Dev :=
  let auth : Bool × Dev :=
    if d.mode = modeRecovery then
      match recoverySlot d with
      | some _ => (tagOk, d)
      | none => (zeroTag, d)
    else
      let r := slotUse (d.fldR (Reg.cmdSCfg s) 16 8) fnSession [2] .livery slotBad d
      (r.1 && tagOk, r.2)
  let d := auth.2
  if !auth.1 || sesTransport d s ≠ 2 || !sesOpen d s || seq ≤ tget 0 d.cmd.seqs s then
    raise 90 none s 0 (d.bump (Reg.cmdSErr s))
  else
    let d := { d with cmd := { d.cmd with seqs := tset 0 d.cmd.seqs s seq, froms := tset 0 d.cmd.froms s src } }
    let d := stageBytes s ofs seg d
    if sesSize d s ≤ sesOut d s + count then d.bump (Reg.cmdSErr s)
    else sesResume s (ringTo s ((sesProd d s + count) % sesSize d s) d)

/-- Whether a session holds an entry that is outstanding or non-final (R391). -/
def sesBusy (d : Dev) (s : Nat) : Bool := sesOut d s != 0 || sesNonfinal d s != 0 || (tfind d.cmd.wait s).isSome

/-- A write of a session's ring registers: `reg` 0 to 3 the ring bases, 4 CMD_S_RING_CFG without RESET (R391, R422, 00_scope R585). -/
def ringWrite (s reg v : Nat) (d : Dev) : Dev :=
  let bad := reg == 4 && (fld v 0 4 < 4 || 12 < fld v 0 4 || fld v 8 4 < 4 || 12 < fld v 8 4)
  if bad then d
  else if sesBusy d s then d.emit (.infoEvent 391)
  else if reg = 0 then d.wn (Reg.cmdSCringLo s) v
  else if reg = 1 then d.wn (Reg.cmdSCringHi s) v
  else if reg = 2 then d.wn (Reg.cmdSRringLo s) v
  else if reg = 3 then d.wn (Reg.cmdSRringHi s) v
  else
    let d := d.wn (Reg.cmdSRingCfg s) (fld v 0 4 + fld v 8 4 * 256)
    let d := setProd s (sesProd d s % sesSize d s) (d.wn (Reg.cmdSCons s) (sesCons d s % sesSize d s))
    let ph := b2n (d.bitR (Reg.cmdSRprod s) 16)
    (d.wn (Reg.cmdSRprod s) (d.fldR (Reg.cmdSRprod s) 0 16 % repSize d s + ph * 65536))

/-- RESET with a session's ring sizes (R391): ignored, as every write of the register, while the session is busy. -/
def sesReset (s v : Nat) (d : Dev) : Dev :=
  if fld v 0 4 < 4 || 12 < fld v 0 4 || fld v 8 4 < 4 || 12 < fld v 8 4 then d
  else if sesBusy d s then d.emit (.infoEvent 391)
  else sesClear s (ringWrite s 4 v d)

/-- CMD_S_RCONS (R396). -/
def writeRcons (s v : Nat) (d : Dev) : Dev := sesResume s (d.wn (Reg.cmdSRcons s) (v % 65536))

/-- CMD_DOORBELL (R390). -/
def execCmdDoorbell (ses prod : Nat) (s : State) : Outcome := s.act (onlyIf (ses < 64 && prod < 65536) (cmdDoorbell ses prod))

/-- MGMT_DATAGRAM (R400): the address it came from and the session, entries, SEQ, segment and its offset. -/
def execMgmtDatagram (g : MgmtHead) (count seq ofs : Nat) (seg : List Nat) (tagOk zeroTag slotBad : Bool) (s : State) : Outcome :=
  s.act (onlyIf (g.ses < 64 && count ≤ 16 && seg.length ≤ 1024) (mgmtDatagram g.src g.ses count seq ofs seg tagOk zeroTag slotBad))

/-- SESSION_RING_CFG_WRITE (R391). -/
def execSessionRingCfgWrite (ses reg : Nat) (v : Word) (s : State) : Outcome :=
  s.act (onlyIf (ses < 64 && reg ≤ 4) (ringWrite ses reg v.toNat))

/-- SESSION_RESET (R391). -/
def execSessionReset (ses : Nat) (v : Word) (s : State) : Outcome := s.act (onlyIf (ses < 64) (sesReset ses v.toNat))

/-- REPLY_CONSUMER_WRITE (R396). -/
def execReplyConsumerWrite (ses : Nat) (v : Word) (s : State) : Outcome := s.act (onlyIf (ses < 64) (writeRcons ses v.toNat))

/-- Every opcode of the catalogue (R410). -/
def catalogue : List Nat :=
  [0, 1, 2, 3] ++ (List.range 11).map (fun k => 0x100 + k) ++ (List.range 8).map (fun k => 0x200 + k) ++
    (List.range 6).map (fun k => 0x300 + k) ++ (List.range 6).map (fun k => 0x400 + k) ++
    (List.range 5).map (fun k => 0x500 + k) ++ (List.range 6).map (fun k => 0x600 + k) ++
    (List.range 4).map (fun k => 0x700 + k) ++ (List.range 5).map (fun k => 0x800 + k) ++
    (List.range 7).map (fun k => 0x900 + k) ++ (List.range 5).map (fun k => 0xA00 + k)

/-- An entry whose VERSION or OPCODE is not valid (R402 steps 1 and 2). -/
def badOpcode (op : Nat) (h : Cmd) (d : Dev) : Dev :=
  let s := h.session
  if (h.version = sesProto d s && catalogue.contains op) || !cmdReady h d then d
  else if sesTransport d s = 1 && outRefused d then raise 347 none s 0 (d.bump Reg.hbrObRefused)
  else if !repSpace d s then sesStall s d
  else
    let d := cmdAdvance s d
    let st := if d.bitR Reg.glbStatus 5 then cFault else if h.version ≠ sesProto d s then cBadVersion else cBadOpcode
    cmdReply op h (noA st) d

/-- BAD_OPCODE (R402). -/
def execBadOpcode (op : Nat) (h : Cmd) (s : State) : Outcome := s.act (onlyIf (op < 65536) (badOpcode op h))

/-! The session family (R397, R399, R411). -/

/-- HELLO's own check: the sole outstanding entry of the session, and a protocol from MIN to MAX. -/
def helloBody (s : Nat) (p : List Nat) (d : Dev) : Dev × Ans :=
  let lo := fld (entW p 0) 0 8
  let hi := min (fld (entW p 0) 8 8) (protoMax d)
  if sesOut d s ≠ 0 then (d, noA cNotReady)
  else if hi < lo || hi = 0 then (d, ⟨cBadVersion, [protoMax d * 256]⟩)
  else
    let r := d.free
    (r.2, okA [hi + protoMax d * 256, r.1 % 2 ^ 32, d.rn Reg.eenKcatVer, d.rn Reg.hleIsaVer])

/-- HELLO: the new protocol applies from index 0 once the reply is written. -/
def hello (h : Cmd) (d : Dev) : Dev :=
  let r := runCmd (spec0 0 [0xFFFF, mAll]) (helloBody h.session) h d
  match r.2 with
  | some a => if a.st = cOk then
      setProd h.session 0 ((r.1.wn (Reg.cmdSCons h.session) 0).setF (Reg.cmdSState h.session) 0 4 (fld (entW a.ds 0) 0 8))
    else r.1
  | none => r.1

/-- BYE: the session closes to protocol 1 with every index 0. -/
def bye (h : Cmd) (d : Dev) : Dev :=
  let r := runCmd (spec0 1 []) (fun _ d => (d, if sesNonfinal d h.session = 0 then okA [] else noA cNotReady)) h d
  match r.2 with
  | some a => if a.st = cOk then sesClear h.session r.1 else r.1
  | none => r.1

/-- HELLO (R397). -/
def execCmdHello (h : Cmd) (s : State) : Outcome := s.act (hello h)

/-- BYE (R411). -/
def execCmdBye (h : Cmd) (s : State) : Outcome := s.act (bye h)

/-- ECHO (R411). -/
def execCmdEcho (h : Cmd) (s : State) : Outcome :=
  s.act (runC (spec0 2 [mAll, mAll, mAll, mAll]) (fun p d => (d, okA (p.take 4))) h)

/-- MODULE_STATUS (R411). -/
def execCmdModuleStatus (h : Cmd) (s : State) : Outcome :=
  s.act (runC (spec0 3 []) (fun _ d =>
    (d, okA [d.rn Reg.glbMode, d.rn Reg.brcStatus, d.rn Reg.ttbStatus, d.rn Reg.timStatus])) h)

end Sys2Proof.Machine
end

