-- ==== Sys2Proof/Machine/Recorder.lean ====
section
/-! DEFINITION. The disturbance recorder and the interval timers (14 R423 to R441; 13 R416), the event recorder's restart
(15 R460) and the GPIO inputs (02 R62). Times are local times in 2^-16 ns; TDC times are in taps, 320,000 to a tick. -/

namespace Sys2Proof.Machine

def Recdr.empty : Recdr := ⟨[], false, [], [], none, none, none, none, 0, 0, [], false, none, [], [], [], false, 0, []⟩

def recdr (d : Dev) (r : Nat) : Recdr := tget Recdr.empty d.drc.recs r
def setRecdr (r : Nat) (x : Recdr) (d : Dev) : Dev := { d with drc := { d.drc with recs := tput d.drc.recs r x } }

def rIdle : Nat := 0
def rArmed : Nat := 1
def rTriggered : Nat := 2
def rFull : Nat := 3

def recState (d : Dev) (r : Nat) : Nat := d.fldR (Reg.drcRState r) 0 2
def recSlot (d : Dev) (r : Nat) : Nat := d.fldR (Reg.drcRState r) 16 8
def setRecState (r st : Nat) (d : Dev) : Dev := d.setF (Reg.drcRState r) 0 2 st
def showHeld (r : Nat) (d : Dev) : Dev := d.setF (Reg.drcRState r) 8 8 (recdr d r).held.length

/-! The descriptor (R435). -/

def rdCar (w : List Nat) : Nat := fld (entW w 0) 0 9
def rdOver (w : List Nat) : Bool := bitOf (entW w 0) 9
def rdExtend (w : List Nat) : Bool := bitOf (entW w 0) 10
def rdNch (w : List Nat) : Nat := fld (entW w 0) 16 7
def rdDec (w : List Nat) : Nat := fld (entW w 0) 24 8 + 1
def rdPre (w : List Nat) : Nat := fld (entW w 1) 0 13
def rdPost (w : List Nat) : Nat := fld (entW w 1) 16 16
def rdMax (w : List Nat) : Nat := fld (entW w 2) 0 17
def rdNrec (w : List Nat) : Nat := fld (entW w 2) 24 8
def rdBuf (w : List Nat) : Nat := entW w 3 + fld (entW w 4) 0 8 * 2 ^ 32
def rdLen (w : List Nat) : Nat := entW w 5 * 64
def rdTerm (w : List Nat) (t : Nat) : Nat := entW w (6 + t)
def rtKind (x : Nat) : Nat := fld x 0 3
def rtEdge (x : Nat) : Nat := fld x 3 2
def rtAbs (x : Nat) : Bool := bitOf x 5
def rdLevel (w : List Nat) (t : Nat) : Int := sx 32 (entW w (14 + t))
def rdChan (w : List Nat) (c : Nat) : Nat := entW w (24 + c)
def rcEntry (x : Nat) : Nat := fld x 0 12
def rcChan (x : Nat) : Nat := fld x 12 5
def rcFdesc (x : Nat) : Nat := fld x 17 15
def rcUses (w : List Nat) (c : Nat) : Bool := bitOf (entW w (88 + c / 32)) (c % 32)

/-- Slots per leg of a recorded channel. -/
def rcK (d : Dev) (w : List Nat) (c : Nat) : Nat := entK (sauEnt d (rcEntry (rdChan w c)))

/-- B: bytes of a leg block (R436). -/
def blockBytes (d : Dev) (w : List Nat) : Nat :=
  8 + ((List.range (rdNch w)).map (fun c => 20 + 4 * rcK d w c + 4 * ((rcK d w c + 3) / 4))).sum

/-- Z: bytes of a slot. -/
def slotBytes (d : Dev) (w : List Nat) : Nat := (448 + rdMax w * blockBytes d w + 63) / 64 * 64

def slotAddr (d : Dev) (w : List Nat) (s : Nat) : Nat := rdBuf w + s * slotBytes d w

/-- Masks of the descriptor's defined bits. -/
def rdMask (i : Nat) : Nat :=
  if i = 0 then 0xFF7F07FF else if i = 1 then 0xFFFF1FFF else if i = 2 then 0xFF01FFFF else if i = 4 then 0xFF
  else if 6 ≤ i ∧ i ≤ 13 then 0xFFFFFF3F else if i = 22 ∨ i = 23 ∨ 90 ≤ i then 0 else 0xFFFFFFFF

def rdTerms : List Nat := [0, 1, 2, 3, 4, 5, 6, 7]

/-- REASON of a descriptor that REC_ARM refuses, or 0 (R435). -/
def recReason (d : Dev) (r : Nat) (w : List Nat) : Nat :=
  let chs := List.range (rdNch w)
  let r1 := (List.range 96).any (fun i => entW w i &&& rdMask i != entW w i) || rdNch w = 0 || 64 < rdNch w || 240 < rdDec w ||
    4800 < rdPre w || rdPost w = 0 || 48000 < rdPost w || rdMax w = 0 || 96000 < rdMax w || rdNrec w = 0 || rdBuf w % 64 != 0 ||
    rdTerms.any (fun t => 4 < rtKind (rdTerm w t) || (rtKind (rdTerm w t) != 0 && rtEdge (rdTerm w t) == 0)) ||
    rdMax w < rdPre w + rdPost w + 1 || rdMax w < rdPre w + 24
  let mine (f : Nat) : Bool := fchDesc d 0 f != [] && chCar (fchDesc d 0 f) == rdCar w
  let r2 := carSt d (rdCar w) = 0 || chs.any (fun c => !svGranted d (rdCar w) (rcEntry (rdChan w c)) ||
    (rcUses w c && !mine (rcFdesc (rdChan w c))))
  let r3 := rdTerms.any (fun t =>
    let x := rdTerm w t
    (rtKind x == 1 && !inSpace (x / 256 / 32)) || (rtKind x == 3 && rdNch w ≤ fld x 8 6) ||
      (rtKind x == 4 && !d.bitR (Reg.drcTrigCfg (fld x 8 3)) 8))
  let need := rdNrec w * slotBytes d w
  let r4 := rdLen w < need || !inDram (rdBuf w) || 0x5000000000 < rdBuf w + need ||
    (tkeys d.cars).any (fun c => rdBuf w < carBase d c + carSize d c && carBase d c < rdBuf w + need)
  if r1 then 1 else if r2 then 2 else if r3 then 3 else if r4 then 4
  else if recState d r = rArmed || recState d r = rTriggered then 5 else 0

/-- A slot opened for a record: its MAGIC is 0 and its descriptor copied (R436, R437). -/
def openSlot (r s : Nat) (d : Dev) : Dev :=
  let w := (recdr d r).desc
  let a := slotAddr d w s
  ((d.setF (Reg.drcRState r) 16 8 s).storeWords a [0]).storeWords (a + 64) (w.map w32)

/-- REC_ARM: descriptor loaded, every slot free, ARMED from the next leg boundary (R423, R424). -/
def recArm (r : Nat) (w : List Nat) (d : Dev) : Dev :=
  let d := setRecdr r { Recdr.empty with desc := takePad 0 96 w, armNext := true } d
  showHeld r (setRecState r rIdle d)

/-! Taking a leg (R425 to R434). -/

/-- The time of a fraction `num / den` of a leg count, in 2^-16 ns. -/
def legTime (num : Int) (den : Nat) : Int := raDiv (num * (65536 * 1000000000)) (4800 * den : Nat)

/-- G_n. -/
def gN (n : Nat) : Int := legTime n 1

/-- The leg whose interval (G_n - 1 leg, G_n] holds a time. -/
def legOf (p : Int) : Nat := (ceilDiv (p * 4800) (65536 * 1000000000)).toNat

/-- A time of the TDC, in taps, as local time (R428). -/
def tapTime (t : Int) : Int := raDiv (t * (65536 * 1000000)) 24576000

/-- The elements of a gather of a recorded channel's leg (R425). -/
def rawElems (d : Dev) (w : List Nat) (c n : Nat) : List GElem :=
  (List.range (rcK d w c)).map (fun j => (rcEntry (rdChan w c), rcChan (rdChan w c), n, j))

/-- Raw slots of a recorded channel's leg, oldest first, gathered for its carriage: value and quality. -/
def rawSlots (d : Dev) (w : List Nat) (c n : Nat) : List (Int × Nat) :=
  (rawElems d w c n).map (fun g => let r := gatherAt d (some (rdCar w)) g; (r.1, r.2.1))

/-- Model times of those slots as numerators over 65,536 times k (R118, R124). -/
def rawTimes (d : Dev) (w : List Nat) (c n : Nat) : List Int :=
  let k := rcK d w c
  (List.range k).map (fun j =>
    let lead := match gatherRow d (some (rdCar w)) (rcEntry (rdChan w c), rcChan (rdChan w c), n, j) with
      | none => 0
      | some _ => match slotHead d (sauEnt d (rcEntry (rdChan w c))) n j with | some x => x.lead | none => 0
    (((n * k + j + 1 : Nat) : Int) - (k : Int)) * 65536 - (lead : Int))

/-- A report: trigger point, term, QUEST. -/
abbrev Report := Int × Nat × Bool

/-- Whether a change of condition is an edge a term selects. -/
def edgeOn (edge : Nat) (old new : Bool) : Bool := (!old && new && bitOf edge 0) || (old && !new && bitOf edge 1)

/-- The operand-map bit of a carriage after its committed scan (R212). -/
def operandBit (d : Dev) (c b : Nat) : Bool :=
  let x := hcar d c
  let p : HProg := x.prog.getD ⟨[], [], []⟩
  hBit ⟨c, 0, false, false, 0, [], 0, x.inp, x.wr, x.tims, x.cnts, progTimers p, progCounters p⟩ b

/-- The crossings of a THRESH term over successive slots: the last slot, and reports (R429). -/
def crossings (den : Nat) (term : Nat) (edge : Nat) (lvl : Int) : Option (Int × Int × Nat) → List (Int × Int × Nat) → List Report
  | _, [] => []
  | none, b :: bs => crossings den term edge lvl (some b) bs
  | some a, b :: bs =>
    let up := bitOf edge 0 && decide (a.1 < lvl ∧ lvl ≤ b.1)
    let dn := bitOf edge 1 && decide (lvl < a.1 ∧ b.1 ≤ lvl)
    let rest := crossings den term edge lvl (some b) bs
    if bitOf a.2.2 0 || bitOf b.2.2 0 || !(up || dn) then rest
    else
      let dv := b.1 - a.1
      let num := a.2.1 * dv + (lvl - a.1) * (b.2.1 - a.2.1)
      let p := raDiv (num * sgn dv * (65536 * 1000000000)) (4800 * (den * 65536 * dv.natAbs) : Nat)
      (p, term, bitOf a.2.2 6 || bitOf b.2.2 6) :: rest
where
  /-- The sign of a number that is not 0. -/
  sgn (i : Int) : Int := if i < 0 then -1 else 1

/-- Slots of a THRESH term's channel with time numerators. -/
def thrSlots (d : Dev) (w : List Nat) (t n : Nat) : List (Int × Int × Nat) :=
  let x := rdTerm w t
  let c := fld x 8 6
  ((rawSlots d w c n).zip (rawTimes d w c n)).map (fun p => (if rtAbs x then absI p.1.1 else p.1.1, p.2, p.1.2))

/-- A term's condition at leg `n` (R427); that of a THRESH term follows its last slot without INVALID, and stays where there is none. -/
def termCond (d : Dev) (w : List Nat) (old : Bool) (t n : Nat) : Bool :=
  let x := rdTerm w t
  match rtKind x with
  | 1 => operandBit d (rdCar w) (x / 256)
  | 2 => bitOf (fchan d (fld x 8 15)).flags (fld x 23 2)
  | 3 => match ((thrSlots d w t n).filter (fun s => !bitOf s.2.2 0)).getLast? with | some s => decide (rdLevel w t ≤ s.1) | none => old
  | 4 => d.bitR (Reg.drcTrigLastSub (fld x 8 3)) 31
  | _ => false

/-- The conditions of a recorder's terms at leg `n`. -/
def termConds (d : Dev) (x : Recdr) (n : Nat) : Nat :=
  ofBits (rdTerms.map (fun t => termCond d x.desc (bitOf (x.conds.getD 0) t) t n))

/-- The trigger point of an edge of an OPERAND or DETECTOR term. -/
def termPoint (d : Dev) (w : List Nat) (t n : Nat) : Int :=
  let x := rdTerm w t
  if rtKind x = 2 then
    if fld x 23 2 = 2 then gN (n - 9)
    else
      let s := (fchan d (fld x 8 15)).tstar
      legTime (tstarAbs d s.1 s.2) 65536
  else gN n

/-- The reports that reach a recorder at leg `n`, earliest point first, then ascending term (R430). -/
def reports (d : Dev) (x : Recdr) (n : Nat) : List Report :=
  let w := x.desc
  let flips := match x.conds with
    | none => []
    | some old => rdTerms.filterMap (fun t =>
        let k := rtKind (rdTerm w t)
        if (k == 1 || k == 2) && edgeOn (rtEdge (rdTerm w t)) (bitOf old t) (bitOf (termConds d x n) t) then
          some (termPoint d w t n, t, false) else none)
  let thr := rdTerms.flatMap (fun t =>
    if rtKind (rdTerm w t) == 3 then
      crossings (rcK d w (fld (rdTerm w t) 8 6)) t (rtEdge (rdTerm w t)) (rdLevel w t) (tfind x.thr t) (thrSlots d w t n)
    else [])
  let trg := (x.edges.filter (fun e => tapTime e.2 ≤ gN n)).map (fun e => (tapTime e.2, e.1, false))
  isort (fun a b => a.1 < b.1 || (a.1 == b.1 && a.2.1 ≤ b.2.1)) (flips ++ thr ++ trg ++ (if x.force then [(gN n, 8, false)] else []))

/-- A channel's time-grid value of leg `n` for the decimated track. -/
def gridAt (d : Dev) (w : List Nat) (c n : Nat) : Int × Nat :=
  let fc := fchan d (rcFdesc (rdChan w c))
  if n < fc.next.getD 0 then nth (0, qInvalid) fc.grid ((fc.next.getD 0) - 1 - n) else (0, qInvalid)

/-- The mean of DEC values, rounded to INT32, with the OR of their quality bytes. -/
def decMean (l : List (Int × Nat)) : Int × Nat :=
  (satS 32 (raDiv (l.foldl (fun s y => s + y.1) 0) (65536 * l.length : Nat)), l.foldl (fun q y => orN q y.2) 0)

/-- The decimated track of a channel at leg `n` of a triggered record: inputs kept, and the output when DEC values are complete. -/
def recTrack (d : Dev) (x : Recdr) (c n : Nat) : List (Int × Nat) × Option (Int × Nat) :=
  let l := tget [] x.dec c ++ [gridAt d x.desc c n]
  if l.length < rdDec x.desc then (l, none) else ([], some (decMean l))

/-- Inputs from the record's first leg `n` on, taken as the track takes them: outputs with their legs, and the inputs left. -/
def decAll (dec n : Nat) : List (Int × Nat) → List (Int × Nat) → List (Nat × Int × Nat) × List (Int × Nat)
  | acc, [] => ([], acc)
  | acc, v :: l =>
    let a := acc ++ [v]
    if a.length < dec then decAll dec (n + 1) a l
    else
      let r := decAll dec (n + 1) [] l
      ((n, decMean a) :: r.1, r.2)

/-- Words of a block for a channel. -/
def chanBlock (gap : Bool) (sl : List (Int × Nat)) (trk : Option (Int × Nat)) : List Nat :=
  let bad := 0x80000000
  let vs := sl.map (fun s => if gap then bad else wrapN 32 s.1)
  let qs := sl.map (fun s => if gap then 1 else s.2)
  let ok := (sl.filter (fun s => !bitOf s.2 0)).map (fun s => s.1)
  let mn := match ok with | a :: l => wrapN 32 (l.foldl min a) | [] => bad
  let mx := match ok with | a :: l => wrapN 32 (l.foldl max a) | [] => bad
  let flags := qs.foldl orN 0 + 256 + (if gap then 1 else match trk with | some t => t.2 | none => 1) * 65536 +
    b2n (trk.isSome && !gap) * 2 ^ 25
  let bytes (i : Nat) : Nat := (List.range 4).foldl (fun s b => s + nth 0 qs (4 * i + b) * 256 ^ b) 0
  [flags, if gap then bad else mn, if gap then bad else mx, if gap then bad else 0,
    if gap then bad else match trk with | some t => wrapN 32 t.1 | none => 0] ++ vs ++ (List.range ((sl.length + 3) / 4)).map bytes

/-- The address of the block of a leg in a slot whose ring began with leg `l0`. -/
def blockOf (d : Dev) (w : List Nat) (s l0 n : Nat) : Nat := slotAddr d w s + 448 + (n - l0) % max 1 (rdMax w) * blockBytes d w

/-- The address of the block of a leg of the open record. -/
def blockAddr (d : Dev) (r n : Nat) : Nat :=
  let x := recdr d r
  blockOf d x.desc (recSlot d r) (x.leg0.getD n) n

/-- The place of a channel's words in a block. -/
def chanOff (d : Dev) (w : List Nat) (c : Nat) : Nat :=
  8 + ((List.range c).map (fun i => 20 + 4 * rcK d w i + 4 * ((rcK d w i + 3) / 4))).sum

/-- A word of DRAM with what this step has stored. -/
def nowWord (m : List Host.Cell) (d : Dev) (a : Nat) : Nat := memWord (memWriteWords m d.dramW) a

/-- A bit set in word 1 of the block of a leg. -/
def markBlock (m : List Host.Cell) (r leg bit : Nat) (d : Dev) : Dev :=
  let a := blockAddr d r leg + 4
  d.storeWords a [w32 (nowWord m d a ||| 2 ^ bit)]

/-- A field of a channel in the block at `b`: its word, and its quality with the NEW bit in the flags word; a block with GAP stays
(R426). -/
def patch (m : List Host.Cell) (w : List Nat) (c b word qAt newAt : Nat) (v q : Nat) (d : Dev) : Dev :=
  if bitOf (nowWord m d (b + 4)) 9 then d
  else
    let a := b + chanOff d w c
    (d.storeWords a [w32 (putFld (nowWord m d a) qAt 8 q ||| 2 ^ newAt)]).storeWords (a + word) [w32 v]

/-- The track of the legs already in the ring when a record is triggered: the decimation counts from its first leg (R425). -/
def trackBack (m : List Host.Cell) (r n first : Nat) (d : Dev) : Dev :=
  let x := recdr d r
  let w := x.desc
  let d := setRecdr r { x with dec := x.dec.map (fun p => (p.1, (decAll (rdDec w) 0 [] (p.2.drop (p.2.length - (n + 1 - first)))).2)) } d
  x.dec.foldl (fun d p =>
    let l := p.2.drop (p.2.length - (n + 1 - first))
    (decAll (rdDec w) (n + 1 - l.length) [] l).1.foldl (fun d o =>
      patch m w p.1 (blockAddr d r o.1) 16 16 25 (wrapN 32 o.2.1) o.2.2 d) d) d

/-- One report taken while ARMED or TRIGGERED (R430 to R432). -/
def takeReport (m : List Host.Cell) (r n : Nat) (p : Report) (d : Dev) : Dev :=
  let x := recdr d r
  let w := x.desc
  let leg := max (min n (legOf p.1)) (x.leg0.getD n)
  match x.trig with
  | none =>
    let t : RTrig := ⟨p.2.1 % 8, if p.2.1 = 8 then 0 else rtKind (rdTerm w p.2.1), p.2.1 == 8, p.2.2, timState d, p.1, leg, leg + rdPost w⟩
    let d := setRecState r rTriggered (setRecdr r { x with trig := some t } d)
    let d := trackBack m r n (leg - min (rdPre w) (leg - x.leg0.getD leg)) d
    raise 328 none r t.term (markBlock m r leg 8 (d.wn (Reg.drcRLastTc r) (tickCodeOf (leg * 16))))
  | some t =>
    let first := t.leg - min (rdPre w) (t.leg - x.leg0.getD t.leg)
    let want := leg + rdPost w
    let cap := first + rdMax w - 1
    let t' := if !rdExtend w then t else { t with last := max t.last (min want cap) }
    let d := setRecdr r { x with trig := some t', retrig := min 0xFFFF (x.retrig + 1),
                                 capped := x.capped || (rdExtend w && cap < want) } d
    markBlock m r leg 10 d

/-- Words of a record's header (R437). -/
def recHeader (d : Dev) (r : Nat) (t : RTrig) (last : Nat) (trunc : Bool) : List Nat :=
  let x := recdr d r
  let w := x.desc
  let l0 := x.leg0.getD last
  let pre := min (rdPre w) (t.leg - l0)
  let first := t.leg - pre
  let ns := (t.point / 65536).toNat
  let sec := ns / 1000000000
  let dead := match x.prevEnd with | some e => (l0 - e - 1) * 16 | none => 0xFFFFFFFF
  [0x43445244, 1 + r * 2 ^ 8 + rdCar w * 2 ^ 12 + recSlot d r * 2 ^ 24, d.rn (Reg.drcRSeq r),
    tickCodeOf (first * 16), tickCodeOf (t.leg * 16), sec % 2 ^ 32,
    sec / 2 ^ 32 % 65536 + (t.point % 65536).toNat * 65536, ns % 1000000000,
    t.term + t.kind * 8 + b2n t.forced * 64 + b2n t.quest * 128 + t.clock * 256,
    last + 1 - first, (first - l0) % max 1 (rdMax w), pre, dead, x.missed % 65536 + x.retrig * 65536,
    b2n (!trunc) + b2n trunc * 2 + b2n x.capped * 4 +
      b2n (x.gaps.any (fun g => first ≤ g && g ≤ last)) * 8, 0]

/-- The next free slot after the open one, ascending and wrapping. -/
def nextSlot (d : Dev) (r : Nat) : Option Nat :=
  let x := recdr d r
  let n := rdNrec x.desc
  ((List.range n).map (fun i => (recSlot d r + 1 + i) % n)).find? (fun s =>
    (tfind x.held s).isNone && !x.closing.any (fun c => c.slot == s))

/-- The slot of the oldest record. -/
def oldestSlot (x : Recdr) : Option Nat := (isort (fun a b : Nat × Nat => a.2 ≤ b.2) x.held).head?.map (fun p => p.1)

/-- Whether a recorded channel has a cycle RMS (R425). -/
def rcRms (d : Dev) (w : List Nat) (c : Nat) : Bool :=
  let fw := fchDesc d 0 (rcFdesc (rdChan w c))
  rcUses w c && bitOf (entW fw 1) 6 && chTrkEn fw

/-- The cycle RMS of the legs `lo` to `hi` of a ring that began with leg `l0`, each in the leg of its cycle end's t_n, which lies 17 legs
before the leg of the tracked sample (R425; 05 R155, R161). -/
def rmsInto (m : List Host.Cell) (w : List Nat) (s l0 lo hi : Nat) (d : Dev) : Dev :=
  (List.range (rdNch w)).foldl (fun d c =>
    if !rcRms d w c then d
    else
      let ch := rcFdesc (rdChan w c)
      let ends := (fgrp d (chGroup (fchDesc d 0 ch))).ends
      ((fchan d ch).rms.filter (fun e => ends.any (fun g => g.1 == e.1) && lo + 17 ≤ e.1 && e.1 ≤ hi + 17)).foldl (fun d e =>
        patch m w c (blockOf d w s l0 (e.1 - 17)) 12 8 24 (min 0xFFFFFFFF (raDiv (e.2.1 : Nat) 65536).toNat) e.2.2 d) d) d

/-- A record is complete: its header is written, and its slot holds it (R433). -/
def complete (r : Nat) (c : RClose) (d : Dev) : Dev :=
  let d := d.storeWords (slotAddr d (recdr d r).desc c.slot) (c.hdr.map w32)
  let x := recdr d r
  let d := setRecdr r { x with held := tput x.held c.slot c.seq, closing := x.closing.filter (fun y => y.seq != c.seq) } d
  showHeld r (raise 329 none r c.seq (d.bump (Reg.drcRRecords r)))

/-- Records whose last cycle RMS has come by leg `n` are completed; all of them where `all`. -/
def completeUpTo (r n : Nat) (all : Bool) (d : Dev) : Dev :=
  let x := recdr d r
  let plain := !(List.range (rdNch x.desc)).any (fun c => rcRms d x.desc c)
  (x.closing.filter (fun c => all || plain || c.last + 17 ≤ n)).foldl (fun d c => complete r c d) d

/-- The open record has taken its last leg `last`: its header is made, and it is completed with the cycle RMS of its last legs
(R426, R433). -/
def closeRecord (r n last : Nat) (trunc : Bool) (d : Dev) : Dev :=
  let x := recdr d r
  match x.trig with
  | none => d
  | some t =>
    let l0 := x.leg0.getD last
    let seq := d.rn (Reg.drcRSeq r)
    let c : RClose := ⟨recSlot d r, l0, t.leg - min (rdPre x.desc) (t.leg - l0), last, seq, recHeader d r t last trunc⟩
    let d := setRecdr r { x with closing := x.closing ++ [c], trig := none, prevEnd := some last, missed := 0, retrig := 0,
                                 gaps := [], capped := false, leg0 := none, dec := [] } d
    completeUpTo r n trunc (d.wn (Reg.drcRSeq r) (seq + 1))

/-- After a record: the next free slot, the oldest record's slot under OVERWRITE, or FULL (R433). -/
def afterRecord (r : Nat) (d : Dev) : Dev :=
  match nextSlot d r with
  | some s => setRecState r rArmed (openSlot r s d)
  | none =>
    if rdOver (recdr d r).desc then
      let d := if (recdr d r).held = [] then completeUpTo r 0 true d else d
      let x := recdr d r
      match oldestSlot x with
      | some s => setRecState r rArmed (openSlot r s (showHeld r (setRecdr r { x with held := tdel x.held s } d)))
      | none => raise 330 none r 0 (setRecState r rFull d)
    else raise 330 none r 0 (setRecState r rFull d)

/-- Conditions and last slots kept for the next leg. -/
def keepTerms (r n : Nat) (d : Dev) : Dev :=
  let x := recdr d r
  let w := x.desc
  let thr := (rdTerms.filter (fun t => rtKind (rdTerm w t) == 3)).filterMap (fun t =>
    (thrSlots d w t n).getLast?.map (fun s => (t, s)))
  setRecdr r { x with conds := some (termConds d x n), thr := thr, force := false, next := some (n + 1), seen := max x.seen (n + 1),
                      edges := x.edges.filter (fun e => gN n < tapTime e.2) } d

/-- The block of leg `n` written. Until a trigger the inputs of the track are kept for the legs of the pre-trigger ring. -/
def writeBlock (r n : Nat) (gap : Bool) (d : Dev) : Dev :=
  let x := recdr d r
  let w := x.desc
  let d := (List.range (rdNch w)).foldl (fun d c => gatherEcc (some (rdCar w)) (rawElems d w c n) d) d
  let x := { x with leg0 := some (x.leg0.getD n), gaps := if gap then n :: x.gaps else x.gaps }
  let chs := List.range (rdNch w)
  let track (c : Nat) : List (Int × Nat) × Option (Int × Nat) :=
    if !rcUses w c then ([], none)
    else if x.trig.isSome then recTrack d x c n
    else
      let l := tget [] x.dec c ++ [gridAt d w c n]
      (l.drop (l.length - (rdPre w + 25)), none)
  let tr := chs.map track
  let body := chs.flatMap (fun c => chanBlock gap (rawSlots d w c n) (nth ([], none) tr c).2)
  let d := setRecdr r { x with dec := (chs.map (fun c => (c, (nth ([], none) tr c).1))).filter (fun p => p.2 != []) } d
  d.storeWords (blockAddr d r n) (([tickCodeOf (n * 16), termConds d x n + b2n gap * 512] ++ body).map w32)

/-- The cycle RMS that has come by leg `n` goes into its legs, of the open record and of those that wait (R425). -/
def recRms (m : List Host.Cell) (r n : Nat) (d : Dev) : Dev :=
  let x := recdr d r
  let d := match x.leg0 with
    | some l0 => rmsInto m x.desc (recSlot d r) l0 (max l0 (n + 1 - rdMax x.desc)) n d
    | none => d
  x.closing.foldl (fun d c => rmsInto m x.desc c.slot c.leg0 c.first c.last d) d

/-- The legs of a record end with its last leg: later ones that the ring has taken are taken again into the next slot (R433, R434). -/
def recEnds (r n : Nat) (t : RTrig) (d : Dev) : Dev :=
  let d := afterRecord r (closeRecord r n t.last false d)
  if recState d r = rArmed then setRecdr r { recdr d r with next := some (t.last + 1) } d else d

/-- A recorder takes its next leg after the hand-off; `short` says that DRAM bandwidth kept it from finishing in time (R426). A leg that
is taken again brings no report. -/
def recTake (r : Nat) (short : Bool) (m : List Host.Cell) (d : Dev) : Dev :=
  let x := recdr d r
  match d.sau.declared with
  | none => d
  | some top =>
    let n := x.next.getD top
    let st := recState d r
    if st = rIdle || top < n then d
    else
      let rs := if n < x.seen then (if x.force then [(gN n, 8, false)] else []) else reports d x n
      if st = rFull then
        let d := d.bumpBy (Reg.drcRMissed r) rs.length
        let d := keepTerms r n (setRecdr r { x with missed := min 0xFFFF (x.missed + rs.length) } d)
        completeUpTo r n false (recRms m r n d)
      else
        let gap := short || decide (n + 48 < d.tim.absLeg)
        let d := if gap then raise 331 none r n (d.bump Reg.drcGapCnt) else d
        let d := writeBlock r n gap d
        let d := keepTerms r n (rs.foldl (fun d p => takeReport m r n p d) d)
        let d := completeUpTo r n false (recRms m r n d)
        match (recdr d r).trig with
        | some t => if t.last ≤ n then recEnds r n t d else d
        | none => d

/-- The end of an open record and IDLE (R433). -/
def recDisarm (r : Nat) (d : Dev) : Dev :=
  let x := recdr d r
  let n := (x.next.getD 1) - 1
  let d := if recState d r = rTriggered then closeRecord r n n true d else completeUpTo r n true d
  setRecState r rIdle (setRecdr r { recdr d r with armNext := false, leg0 := none, next := none, trig := none, conds := none,
                                                   thr := [], edges := [], dec := [], force := false, seen := 0 } d)

/-- The recorders of a destroyed carriage close and become IDLE (R433). -/
def recCarGone (c : Nat) (d : Dev) : Dev :=
  (List.range 16).foldl (fun d r =>
    if (recState d r != rIdle || (recdr d r).armNext) && rdCar (recdr d r).desc == c then recDisarm r d else d) d

/-! Interval timers (R438, R439). -/

def itState (d : Dev) (k : Nat) : Nat := d.fldR (Reg.drcItStatus k) 0 2
def itGet (d : Dev) (k : Nat) : Option Int × Option Int × Nat := tget (none, none, 0) d.drc.its k
def setIt (k : Nat) (x : Option Int × Option Int × Nat) (d : Dev) : Dev := { d with drc := { d.drc with its := tput d.drc.its k x } }

/-- ARM. -/
def itArm (k : Nat) (d : Dev) : Dev :=
  setIt k (none, none, 0) (((d.setF (Reg.drcItStatus k) 0 2 1).clrB (Reg.drcItStatus k) 8).clrB (Reg.drcItStatus k) 9)

/-- CANCEL. -/
def itCancel (k : Nat) (d : Dev) : Dev := setIt k (none, none, 0) (d.setF (Reg.drcItStatus k) 0 2 0)

/-- The result of a timer: VALUE, UNRESOLVED, ORDER, SAME, TIMEOUT. -/
def itResult (v : Nat) (unres order same tmo : Bool) (k : Nat) (d : Dev) : Dev :=
  let st := Reg.drcItStatus k
  let d := (d.wn (Reg.drcItValLo k) v).wn (Reg.drcItValHi k) (v / 2 ^ 32 % 65536)
  let d := (((d.putB st 4 unres).putB st 5 order).putB st 6 same).putB st 7 tmo
  raise 332 none k 0 (d.setF st 0 2 3)

/-- The result of two edges by their difference in taps. -/
def itDone (k : Nat) (delta : Int) (d : Dev) : Dev :=
  if delta = 0 then itResult 0 true false true false k d
  else if delta = 1 then itResult 0 true false false false k d
  else if delta < 0 then itResult 0 true true false false k d
  else itResult delta.toNat false false false false k d

/-- An edge reaches a timer. -/
def itEdge (k b : Nat) (level : Bool) (t : Int) (d : Dev) : Dev :=
  let cfg := d.rn (Reg.drcItCfg k)
  let hit (ball edge : Nat) : Bool := ball == b && bitOf edge (if level then 0 else 1)
  let start := hit (fld cfg 0 3) (fld cfg 3 2)
  let stop := hit (fld cfg 8 3) (fld cfg 11 2)
  let x := itGet d k
  let tc := tickCodeOf (t / 320000).toNat
  let sStart (d : Dev) : Dev := (d.setB (Reg.drcItStatus k) 8).wn (Reg.drcItStartTc k) tc
  let sStop (d : Dev) : Dev := (d.setB (Reg.drcItStatus k) 9).wn (Reg.drcItStopTc k) tc
  if itState d k = 1 then
    if start then setIt k (some t, none, d.tim.absLeg) (sStart (d.setF (Reg.drcItStatus k) 0 2 2))
    else if stop then setIt k (none, some t, d.tim.absLeg) (sStop (d.setF (Reg.drcItStatus k) 0 2 2))
    else d
  else if itState d k = 2 then
    match x with
    | (some a, _, _) => if stop then itDone k (t - a) (setIt k (some a, some t, x.2.2) (sStop d)) else d
    | (none, some z, _) => if start then itDone k (z - t) (setIt k (some t, some z, x.2.2) (sStart d)) else d
    | _ => d
  else d

/-- No second edge within TIMEOUT legs. -/
def itTimeout (k : Nat) (d : Dev) : Dev :=
  let x := itGet d k
  if itState d k ≠ 2 || d.tim.absLeg < x.2.2 + d.fldR (Reg.drcItCfg k) 16 16 then d
  else raise 333 none k 0 (itResult 0 false x.1.isNone false true k d)

/-- A filtered level change of a TRIG_IN ball; `tap` is the TDC time from the start of the present tick (R428). -/
def trigEdge (b : Nat) (level : Bool) (tap : Int) (d : Dev) : Dev :=
  if !d.bitR (Reg.drcTrigCfg b) 8 then d
  else
    let t := (d.tim.absTick : Int) * 320000 + tap - raDiv (sx 32 (d.rn (Reg.drcTrigLat b)) * 24576) 1000000
    let d := (d.wn (Reg.drcTrigLastTc b) (tickCodeOf (t / 320000).toNat)).wn (Reg.drcTrigLastSub b)
      ((t % 320000).toNat + b2n level * 2 ^ 31)
    let d := (List.range 16).foldl (fun d r =>
      let x := recdr d r
      if recState d r = rIdle then d
      else
        let es := (rdTerms.filter (fun i => rtKind (rdTerm x.desc i) == 4 && fld (rdTerm x.desc i) 8 3 == b &&
          bitOf (rtEdge (rdTerm x.desc i)) (if level then 0 else 1))).map (fun i => (i, t))
        if es = [] then d else setRecdr r { x with edges := x.edges ++ es } d) d
    [0, 1, 2, 3].foldl (fun d k => itEdge k b level t d) d

/-- The block at a leg boundary: arming, freed slots, timers armed again (R423, R437, R439). -/
def drcLeg (d : Dev) : Dev :=
  let d := (tkeys d.drc.recs).foldl (fun d r =>
    let x := recdr d r
    let d := if x.freeNext = [] then d
      else showHeld r (setRecdr r { x with held := x.held.filter (fun p => !(x.freeNext.contains p.1 || x.freeNext.contains 256)),
                                           freeNext := [] } d)
    let x := recdr d r
    if x.armNext then setRecState r rArmed (openSlot r 0 (setRecdr r { x with armNext := false } d))
    else if recState d r = rFull then
      match nextSlot d r with
      | some s => setRecState r rArmed (openSlot r s d)
      | none => d
    else d) d
  [0, 1, 2, 3].foldl (fun d k => if itState d k = 3 && d.bitR (Reg.drcItCfg k) 13 then itArm k d else d) d

/-! Rows. -/

/-- RECORDER_LEG_TAKE (R426). -/
def execRecorderLegTake (r : Nat) (short : Bool) (s : State) : Outcome := s.actM (fun m => onlyIf (r < 16) (recTake r short m))

/-- TRIG_IN_EDGE (R428). -/
def execTrigInEdge (b : Nat) (level : Bool) (tap : Int) (s : State) : Outcome := s.act (onlyIf (b < 8) (trigEdge b level tap))

/-- IT_ARM (R438). -/
def execItArm (k : Nat) (s : State) : Outcome := s.act (onlyIf (k < 4) (itArm k))

/-- IT_CANCEL (R439). -/
def execItCancel (k : Nat) (s : State) : Outcome := s.act (onlyIf (k < 4) (itCancel k))

/-- IT_TIMEOUT (R439). -/
def execItTimeout (k : Nat) (s : State) : Outcome := s.act (onlyIf (k < 4) (itTimeout k))

/-- A slot that is to become free, or all (R437). -/
def recFree (r v : Nat) (d : Dev) : Dev :=
  let x := recdr d r
  setRecdr r { x with freeNext := (if bitOf v 31 then 256 else fld v 0 8) :: x.freeNext } d

/-- RECORD_SLOT_FREE (R437): a slot, or ALL. -/
def execRecordSlotFree (r : Nat) (v : Word) (s : State) : Outcome := s.act (onlyIf (r < 16) (recFree r v.toNat))

/-- GPIO_INPUT_EDGE (02 R62): the level and the stamp of class 6, source 8 + n. -/
def execGpioInputEdge (n : Nat) (level : Bool) (s : State) : Outcome :=
  s.act (onlyIf (n < 16) (fun d => { d with drc := { d.drc with gpio := tput d.drc.gpio n (level, d.tc) } }))

/-- REC_ARM (R435): the descriptor's 96 words lie at A. -/
def execCmdRecArm (h : Cmd) (data : List Word) (s : State) : Outcome :=
  s.act (runC ⟨0x500, false, [0xF, mAll, 0xFF], [1], noRange⟩ (fun p d =>
    let w := takePad 0 96 (data.map (fun x => x.toNat))
    let r := recReason d (entW p 0) w
    if r = 0 then (recArm (entW p 0) w d, okA []) else (d, refA cBadParam r 1 0)) h)

/-- REC_DISARM (R433). -/
def execCmdRecDisarm (h : Cmd) (s : State) : Outcome :=
  s.act (runC (spec0 0x501 [0xF]) (fun p d => (recDisarm (entW p 0) d, okA [])) h)

/-- REC_FORCE (R430): D0 is the TickCode of the trigger. -/
def execCmdRecForce (h : Cmd) (s : State) : Outcome :=
  s.act (runC (spec0 0x502 [0xF]) (fun p d =>
    let r := entW p 0
    let x := recdr d r
    if recState d r = rArmed then
      (setRecdr r { x with force := true } d, okA [tickCodeOf (x.next.getD (d.sau.declared.getD d.tim.absLeg) * 16)])
    else (d, noA cNotReady)) h)

/-- REC_RENDER (R440): a record by its SEQ; Phiash's rendering ends with RENDER_DONE. -/
def execCmdRecRender (h : Cmd) (s : State) : Outcome :=
  s.act (runC ⟨0x503, false, [0xF, mAll, mAll, 0xFF, mAll], [2], noRange⟩ (fun p d =>
    match (recdr d (entW p 0)).held.find? (fun q => q.2 == entW p 1) with
    | some q => ({ d with drc := { d.drc with
        rend := tput d.drc.rend d.cmd.nextJob (h.session, addrP p 2, entW p 4, entW p 0, q.1) } }, pendA [])
    | none => (d, badP 1)) h)

/-- A 32-bit word's bytes, the lowest first. -/
def wordOctets (v : Nat) : List Nat := (List.range 4).map (fun i => v / 256 ^ i % 256)

/-- The words of a slot: its header, its descriptor and its blocks, as they lie in DRAM (R436, R437). -/
def slotWord (m : List Host.Cell) (d : Dev) (r s : Nat) (i : Nat) : Nat := nowWord m d (slotAddr d (recdr d r).desc s + 4 * i)

/-- The .dat data of the channels with `k` slots a leg (R440), in C37.111's BINARY32 layout (log 44): sample number, time in us from the
first sample, the analog values, and the term conditions of the leg in the low bits of one status word. -/
def datBytes (m : List Host.Cell) (d : Dev) (r s k : Nat) : List Nat :=
  let w := (recdr d r).desc
  let chs := (List.range (rdNch w)).filter (fun c => rcK d w c == k)
  let pos := slotWord m d r s 10
  (List.range (slotWord m d r s 9)).flatMap (fun i =>
    let b := slotAddr d w s + 448 + (pos + i) % max 1 (rdMax w) * blockBytes d w
    let conds := fld (nowWord m d (b + 4)) 0 8
    (List.range k).flatMap (fun j =>
      wordOctets (i * k + j + 1) ++ wordOctets (raDiv ((i * k + j) * 1000000 : Nat) (4800 * k)).toNat ++
        chs.flatMap (fun c => wordOctets (nowWord m d (b + chanOff d w c + 20 + 4 * j))) ++ [conds, 0]))

/-- The distinct slot counts of a record's channels, ascending. -/
def recRates (d : Dev) (w : List Nat) : List Nat := isort (fun a b => a ≤ b) (dedup ((List.range (rdNch w)).map (rcK d w)))

/-- A part of the rendering: the prefix (rate, .cfg length, .dat length, 0), the .cfg text and the .dat data. -/
def renderPart (m : List Host.Cell) (d : Dev) (r s k : Nat) (cfg : List Nat) : List Nat :=
  let dat := datBytes m d r s k
  wordOctets (4800 * k) ++ wordOctets cfg.length ++ wordOctets dat.length ++ wordOctets 0 ++ cfg ++ dat

/-- The parts that fit the output one after another, and whether all do. -/
def fitParts (len : Nat) : List (List Nat) → List Nat × Bool
  | [] => ([], true)
  | p :: ps => if len < p.length then ([], false) else let r := fitParts (len - p.length) ps; (p ++ r.1, r.2)

/-- RENDER_DONE (R440): `cfgs` are the .cfg texts of the parts, by ascending rate. The parts go to the output as far as they fit; one that
does not fit ends the render with NO_RESOURCE. -/
def renderDone (job : Nat) (cfgs : List (List Nat)) (m : List Host.Cell) (d : Dev) : Dev :=
  match tfind d.drc.rend job with
  | none => d
  | some (ses, a, len, r, s) =>
    let parts := ((recRates d (recdr d r).desc).zip (takePad [] 64 cfgs)).map (fun p => renderPart m d r s p.1 p.2)
    let o := fitParts len parts
    let d := { d with drc := { d.drc with rend := tdel d.drc.rend job } }
    let d := if sesTransport d ses = 3 then storeBytes a o.1 d
      else if sesTransport d ses = 2 then stageBytes ses a o.1 d
      else d.emit (.note 440 (a :: o.1))
    if o.2 then finishJob job cOk [o.1.length] d else finishJob job cNoResource [] d

/-- RENDER_DONE (R440). -/
def execRenderDone (job : Nat) (cfg : List Nat) (more : List (List Nat)) (s : State) : Outcome := s.actM (renderDone job (cfg :: more))

/-- EVR_RESTART (15 R460): the reply is written once the restart has taken effect, and until then the session takes no entry. -/
def evrRestart (h : Cmd) (d : Dev) : Dev :=
  let s := h.session
  let c := spec0 0x504 []
  if !cmdReady h d then d
  else if sesTransport d s = 1 && outRefused d then raise 347 none s 0 (d.bump Reg.hbrObRefused)
  else if !repSpace d s then sesStall s d
  else
    let d := cmdAdvance s d
    if d.bitR Reg.glbStatus 5 then cmdReply c.op h (noA cFault) d
    else match cmdCheck c h d with
      | some a => cmdReply c.op h a d
      | none =>
        let tag := if sesProto d s = 1 then h.tag % 65536 else h.tag
        { d with cmd := { d.cmd with wait := tput d.cmd.wait s tag }, sup := { d.sup with restart := true } }

/-- The restart takes effect at the start of a tick: the recorder is empty, source 54 is position 0, and waiting replies go. -/
def evrRestartTick (d : Dev) : Dev :=
  if !d.sup.restart then d
  else
    let n := d.sup.count
    let d := { d with sup := { d.sup with recs := [], count := 0, restart := false } }
    let d := clearCond 53 (((d.wn Reg.evrLost 0).clrB Reg.evrStatus 20).setF Reg.evrStatus 0 17 0)
    let d := raise 54 none 0 0 (d.wn Reg.evrRestartTc d.tc)
    let ws := d.cmd.wait
    ws.foldl (fun d p =>
      let d := writeReply p.1 [p.2, 0x504, cOk, d.tc, n, 0, 0, 0, 1] d
      if d.bitR Reg.evrCtrl 1 then logInput 7 p.1 0 0x504 cOk d else d) { d with cmd := { d.cmd with wait := [] } }

/-- EVR_RESTART (15 R460). -/
def execCmdEvrRestart (h : Cmd) (s : State) : Outcome := s.act (evrRestart h)

end Sys2Proof.Machine
end

