-- ==== Sys2Proof/Machine/Lifecycle.lean ====
section
/-! DEFINITION. A carriage's life: creation, destruction, disable, drain, enable, reset, images saved and restored, and the
carriage family of commands (10 R291 to R317; 13 R405 to R407, R412; 07 R237 to R241; 06 R180; 15 R449). -/

namespace Sys2Proof.Machine

/-! The pools (R291, R293). -/

/-- The members of a list with their places. -/
def enumNat (l : List Nat) : List (Nat × Nat) := (List.range l.length).map (fun k => (k, nth 0 l k))

/-- Grants in use: of the carriages, and of destroyed ones whose grants have not returned yet. -/
def grantsUsed (d : Dev) : List CoachImage :=
  d.cars.map (fun p => p.2.img) ++
    d.cmd.route.filterMap (fun a => match a with | .freed _ _ _ i => some i | _ => none)

/-- DRAM regions in use, as first and one past last 2 MiB unit. -/
def regionsUsed (d : Dev) : List (Nat × Nat) :=
  (tkeys d.cars).map (fun c => (carBase d c / 0x200000, carBase d c / 0x200000 + d.rn (Reg.carDramSize c))) ++
    d.cmd.route.filterMap (fun a => match a with | .freed _ b n _ => some (b, b + n) | _ => none)

/-- Whether a list of indices is within a pool, repeats none and shares none with those in use. -/
def poolOk (want : List Nat) (cap size : Nat) (used : List Nat) : Bool :=
  want.length ≤ cap && dedup want == want && want.all (fun i => i < size && !used.contains i)

/-- Channel indices of an image, then the others that the carriage holds. -/
def chanIdx (d : Dev) (c : Nat) (i : CoachImage) : List Nat := i.chans ++ (carChans d c).filter (fun k => !i.chans.contains k)

/-- Kernel indices of an image, then the others that the carriage holds. -/
def kernIdx (d : Dev) (c : Nat) (i : CoachImage) : List Nat := i.kernels ++ (kHeld d c).filter (fun k => !i.kernels.contains k)

/-- GOOSE publication entries of an image, then the others that name the carriage. -/
def pubIdx (d : Dev) (c : Nat) (i : CoachImage) : List Nat :=
  i.gpub ++ (tkeys (d.pub.ge.filter (fun p => geState p.2 != 0 && geCar p.2 == c))).filter (fun k => !i.gpub.contains k)

/-- Descriptor indices that the carriages there are hold. -/
def chansHeld (d : Dev) : List Nat := (tkeys d.cars).flatMap (carChans d)
def kernsHeld (d : Dev) : List Nat := (tkeys d.cars).flatMap (kHeld d)

/-- Whether every pool can supply an image's grants and the region's `base` and `size` in 2 MiB units. -/
def poolsSupply (d : Dev) (i : CoachImage) (base size : Nat) : Bool :=
  let us := grantsUsed d
  1 ≤ i.queues && i.queues ≤ 2048 && i.sv.length ≤ 64 && i.sv.all (fun k => k < 4096) &&
    poolOk i.chans 4096 32768 (chansHeld d ++ us.flatMap (fun u => u.chans)) &&
    poolOk i.kernels 1024 65536 (kernsHeld d ++ us.flatMap (fun u => u.kernels)) &&
    i.gmapWords ≤ 1024 && i.gmapWords + (us.map (fun u => u.gmapWords)).sum ≤ 65536 &&
    poolOk i.gpub 64 2048 (us.flatMap (fun u => u.gpub)) &&
    i.progWords ≤ 65536 && 2 * (i.progWords + (us.map (fun u => u.progWords)).sum) ≤ 2 ^ 20 && i.retWords ≤ 1024 &&
    poolOk i.slots 8 256 (us.flatMap (fun u => u.slots)) && i.ports < 2048 &&
    inDram (base * 0x200000) && inDram ((base + size) * 0x200000 - 1) &&
    (regionsUsed d).all (fun r => base + size ≤ r.1 || r.2 ≤ base)

/-- The carriage number a creation takes: one that is FREE and whose map region is the command's (17 R519). -/
def createNumber (d : Dev) (any : Bool) (named base size : Nat) : Option Nat :=
  let fits (c : Nat) : Bool :=
    c < 512 && carSt d c == stFree && d.fldR (Reg.tgtCBase c) 0 19 == base && d.fldR (Reg.tgtCSize c) 0 12 == size
  if any then (List.range 512).find? fits else if fits named then some named else none

/-- The window and record of a new carriage (R292, R318). -/
def newCar (c cls level base size : Nat) (i : CoachImage) (d : Dev) : Dev :=
  let d := { d with cars := tput d.cars c ⟨i, cls, level, i.sv, false, false, false, false⟩,
                    hle := { d.hle with cars := tdel d.hle.cars c },
                    brc := { d.brc with imgs := tdel d.brc.imgs c } }
  let g := nextGen (tget 0 d.carGen c)
  let d := { d with carGen := tput d.carGen c g }
  let d := d.wn (Reg.carId c) (c + cls * 2 ^ 9 + level * 2 ^ 12 + (i.queues - 1) * 2 ^ 16)
  let d := (d.wn (Reg.carGen c) g).wn (Reg.carDramBaseLo c) (base * 0x200000 % 2 ^ 32)
  let d := (d.wn (Reg.carDramBaseHi c) (base * 0x200000 / 2 ^ 32)).wn (Reg.carDramSize c) size
  let d := ((d.wn (Reg.carMeasOfs c) i.measOfs).wn (Reg.carEimgOfs c) i.eimgOfs).wn (Reg.carEstateOfs c) i.estateOfs
  let d := (d.wn (Reg.carPorts c) i.ports).wn (Reg.carRetWords c) i.retWords
  i.slots.foldl (fun d k => d.wn (Reg.sbxSOwner k) (c + 0x8000)) d

/-- A descriptor word with its CARRIAGE field, which the Livery sets at commit (R165, R178). -/
def withCar (c w : Nat) : Nat := w / 512 * 512 + c % 512

/-- A stream's effect at its route boundary. -/
def streamAct (op i : Nat) (w : List Nat) (d : Dev) : Dev :=
  match op with
  | 0 => goLive i w d
  | 1 => goSuspend i d
  | 2 => goResume i d
  | _ => goRetire i d

/-- The device as its streams will stand once every command accepted before has taken effect (13 R405). -/
def projStreams (d : Dev) : Dev :=
  d.cmd.route.foldl (fun d a => match a with | .stream op i w => streamAct op i w d | _ => d) d

/-- The image's channel descriptors committed for the next route boundary; none where one is refused. -/
def placeChans (c : Nat) (i : CoachImage) : List (Nat × Nat) → Dev → Option Dev
  | [], d => some d
  | (k, ch) :: rest, d =>
    match i.chanDesc[k]? with
    | none => placeChans c i rest d
    | some ws =>
      let w := (takePad 0 8 (ws.map (fun x => x.toNat))).modify 6 (withCar c)
      if fchReason (projStreams d) 0 ch w ≠ 0 then none
      else placeChans c i rest { d with fch := { d.fch with pend := tput d.fch.pend (fchKey 0 ch) w } }

/-- The image's kernel descriptors committed. -/
def placeKerns (c : Nat) (i : CoachImage) : List (Nat × Nat) → Dev → Option Dev
  | [], d => some d
  | (k, n) :: rest, d =>
    match i.kernDesc[k]? with
    | none => placeKerns c i rest d
    | some ws =>
      let w := (takePad 0 16 (ws.map (fun x => x.toNat))).modify 15 (withCar c)
      if kReason (projStreams d) n w ≠ 0 then none else placeKerns c i rest (eenPlace n w d)

/-- The image's program loaded, where it has one. -/
def placeImage (c : Nat) (i : CoachImage) (d : Dev) : Option Dev :=
  match placeChans c i (enumNat i.chans) d with
  | none => none
  | some d => match placeKerns c i (enumNat i.kernels) d with
    | none => none
    | some d =>
      if i.program = [] then some d
      else
        let r := loadProg (parseImage (i.program.map (fun x => x.toNat))) c false d
        if r.2.1 = 0 then some r.1 else none

/-- The status of an admission (R254). -/
def admStatus (r : Nat) : Nat := if r = 1 then cBadParam else if r = 2 then cScheduleFull else cSpareExhausted

/-- CREATE's own part (R291 to R293). -/
def createBody (h : Cmd) (i : CoachImage) (p : List Nat) (d : Dev) : Dev × Ans :=
  let base := addrP p 4 / 0x200000
  let size := entW p 3
  match createNumber d (bitOf (entW p 0) 4) h.carriage base size with
  | none => (d, noA cNoResource)
  | some c =>
    if !poolsSupply d i base size then (d, noA cNoResource)
    else match placeImage c i (newCar c (fld (entW p 0) 0 2) (fld (entW p 0) 2 2) base size i d) with
      | none => (d, refA cBadParam 0 1 0)
      | some d' =>
        let r := runAdmission c d'
        if r.2 ≠ 0 then (d, noA (admStatus r.2))
        else
          let d := askSafe c (setCarSt c stDisabled r.1)
          (d, okA [c, d.rn (Reg.carGen c), d.rn (Reg.ttbCSeq c)])

/-- Ranges of CREATE's parameters (R412). -/
def createRange (p : List Nat) : Option Nat :=
  if fld (entW p 0) 0 2 = 3 || fld (entW p 0) 2 2 = 0 || fld (entW p 0) 2 2 = 3 then some 0
  else if entW p 3 < 32 || 2048 < entW p 3 then some 3
  else if entW p 4 % 0x200000 ≠ 0 then some 4 else none

/-! Destruction (R311). -/

/-- A carriage that is not running work is gone: window, contexts and work at once, grants and seats at the next route boundary,
which also makes its descriptors and publication entries FREE. -/
def destroyNow (c : Nat) (d : Dev) : Dev :=
  match tfind d.cars c with
  | none => d
  | some k =>
    let d := bumpGen c (recCarGone c d)
    let freed := Act.freed c (carBase d c / 0x200000) (d.rn (Reg.carDramSize c)) k.img
    let gone (p : Nat × List Nat) : Bool := geState p.2 != 0 && geCar p.2 == c
    let d := ((tkeys d.queues).filter (fun g => g / 2048 == c)).foldl (fun d g => qSet g QCtx.empty d) d
    let d := { d with
      cars := tdel d.cars c,
      regs := d.regs.filter (fun p => !(Reg.carId c ≤ p.1 && p.1 < Reg.carId c + 0x10000)),
      hle := { d.hle with cars := tdel d.hle.cars c, home := d.hle.home.filter (fun p => p.1 / 1024 != c) },
      fch := { d.fch with pend := (chanIdx d c k.img).foldl (fun t i => tput t (fchKey 0 i) []) d.fch.pend,
                          meas := d.fch.meas.filter (fun p => p.1 / 65536 != c) },
      een := { d.een with pend := (kernIdx d c k.img).foldl (fun t i => tput t i []) d.een.pend,
                          bg := d.een.bg.filter (fun p => p.1 / 1024 != c) },
      pub := { d.pub with
        gePend := (d.pub.ge.filter gone).foldl (fun t p => tput t p.1 geZero) (d.pub.gePend.filter (fun p => !gone p)),
        svPend := (d.pub.sv.filter gone).foldl (fun t p => tput t p.1 svZero) (d.pub.svPend.filter (fun p => !gone p)),
        pmuPend := (d.pub.pmu.filter gone).foldl (fun t p => tput t p.1 pmuZero) (d.pub.pmuPend.filter (fun p => !gone p)),
        img := tdel d.pub.img c, imgLeg := tdel d.pub.imgLeg c, safeReq := tdel d.pub.safeReq c, commits := d.pub.commits.filter (fun x => x != c) },
      cmd := { d.cmd with route := d.cmd.route ++ [freed], legEn := d.cmd.legEn.filter (fun x => x != c) } }
    let d := [Reg.hleCMode c, Reg.hleCEngine c, Reg.hleCLen c, Reg.hleCLastTc c, Reg.hleCSkipped c, Reg.hleCRetStatus c].foldl
      (fun d r => d.wr r (regReset r)) d
    k.img.slots.foldl (fun d s => d.wn (Reg.sbxSOwner s) 0) d

/-- The grants and seats of a destroyed carriage return at a route boundary. -/
def freedNow (c : Nat) (d : Dev) : Dev := leaveTtb c d

/-! Disable, drain, enable (R307 to R310). -/

def enablePending (d : Dev) (c : Nat) : Bool := d.bitR (Reg.carState c) 3
def destroyWaits (d : Dev) (c : Nat) : Bool := match tfind d.cars c with | some k => k.destroyPend | none => false

/-- The state a carriage command is checked against: an enable that awaits the leg boundary has taken effect (13 R405). -/
def projSt (d : Dev) (c : Nat) : Nat := if d.cmd.legEn.contains c then stEnabled else carSt d c

/-- The saves and restores of a carriage end with STALE_GENERATION (13 R407). -/
def staleActs (c : Nat) (d : Dev) : Dev :=
  let d := { d with cmd := { d.cmd with route := d.cmd.route.filter (fun a => match a with
    | .save x .. => x != c
    | .resume x .. => x != c
    | _ => true) } }
  finishJobs c [0x107, 0x108] cStaleGen [d.fldR (Reg.carGen c) 0 16] d

/-- A carriage's work stops: nothing starts, scans and background records in progress are dropped, the Harness is in Stop, and
its outputs are to take their safe values (R306, R307; 07 R238; 09 R277). -/
def stopWork (c : Nat) (d : Dev) : Dev :=
  askSafe c ((setHcar c { hcar d c with frz := [], modeReq := none } (dropWork c d)).setF (Reg.hleCMode c) 0 2 hStop)

/-- A disable in the present tick of a carriage that runs work (R307). -/
def disableCar (c : Nat) (d : Dev) : Dev :=
  staleActs c (stopWork c (setCarSt c stDraining (bumpGen c (d.clrB (Reg.carState c) 8))))

/-- An enable that waits is cancelled; what its final reply carries is not in the spec. -/
def cancelEnable (c : Nat) (d : Dev) : Dev :=
  let d := modCar c (fun k => { k with enablePlan := false }) (d.clrB (Reg.carState c) 3)
  let d := { d with cmd := { d.cmd with legEn := d.cmd.legEn.filter (fun x => x != c) } }
  if d.cmd.jobs.any (fun j => j.car == c && [0x102, 0x104].contains j.op) then
    let f := d.free
    finishJobs c [0x102, 0x104] (f.1 % 65536) [] f.2
  else d

/-- The carriage becomes ENABLED at a boundary (R310): its histories, elements and Harness start. -/
def enableNow (retBad : Bool) (c : Nat) (d : Dev) : Dev :=
  if carSt d c ≠ stDisabled ∧ carSt d c ≠ stFrozen ∧ carSt d c ≠ stDraining then d
  else
    let req := (hcar d c).modeReq
    let d := modCar c (fun k => { k with enablePlan := false }) (d.clrB (Reg.carState c) 3)
    let d := if carSt d c = stFrozen then resetQueues c d else d
    let d := hStart retBad c (eenEnable c (fchEnable c (setCarSt c stEnabled d)))
    finishJobs c [0x102, 0x104] cOk [] (setHcar c { hcar d c with modeReq := req } d)

/-- An enable accepted of a DISABLED or FROZEN carriage: at the next leg boundary, or when its seats take effect. -/
def enableAsk (c : Nat) (d : Dev) : Dev × Ans :=
  if ttbState d c = 1 then (modCar c (fun k => { k with enablePlan := true }) d, pendA [])
  else ({ d with cmd := { d.cmd with legEn := d.cmd.legEn ++ [c] } }, okA [])

/-- ENABLE's own part (R309, R310). -/
def enableBody (c : Nat) (d : Dev) : Dev × Ans :=
  let st := projSt d c
  if st = stEnabled then (d, okA [])
  else if st = stDraining then
    if destroyWaits d c then (d, noA cWrongMode)
    else if enablePending d c then (d, noA cBusyDraining)
    else (d.setB (Reg.carState c) 3, pendA [])
  else if st = stDisabled || st = stFrozen then enableAsk c d
  else (d, noA cWrongMode)

/-- DISABLE's own part (R307, R309). -/
def disableBody (c : Nat) (d : Dev) : Dev × Ans :=
  let st := carSt d c
  if st = stFree then (d, noA cWrongMode)
  else
    let d := if st = stEnabled || st = stRestoring then disableCar c d
      else if st = stDraining then cancelEnable c d
      else bumpGen c (staleActs c (cancelEnable c d))
    (d, okA [d.fldR (Reg.carGen c) 0 16])

/-- RESET's own part: a disable followed by an enable, with one increment (R309, R310). -/
def resetBody (c : Nat) (d : Dev) : Dev × Ans :=
  let st := projSt d c
  let gen (r : Dev × Ans) : Dev × Ans :=
    (r.1, if r.2.st = cOk || r.2.st = cPending then { r.2 with ds := [r.1.fldR (Reg.carGen c) 0 16] } else r.2)
  if st = stFree then (d, noA cWrongMode)
  else if st = stDraining then gen (enableBody c d)
  else if carSt d c = stEnabled || st = stRestoring then gen ((disableCar c d).setB (Reg.carState c) 3, pendA [])
  else gen (enableAsk c (bumpGen c (staleActs c (cancelEnable c d))))

/-- DESTROY's own part (R309, R311). -/
def destroyBody (c : Nat) (d : Dev) : Dev × Ans :=
  let st := projSt d c
  if st = stFree then (d, noA cWrongMode)
  else if st = stEnabled || st = stRestoring then (d, noA cDenied)
  else if st = stDraining then (modCar c (fun k => { k with destroyPend := true }) (cancelEnable c d), pendA [])
  else (destroyNow c (staleActs c (cancelEnable c d)), okA [])

/-- Legs of a TickCode's cycle between two TickCodes. -/
def legsSince (tc since : Nat) : Nat :=
  let leg (t : Nat) : Nat := t / 4096 * 240 + t % 4096 / 16
  (leg tc + 2 ^ 20 * 240 - leg since) % (2 ^ 20 * 240)

/-- Work of a carriage in flight: a frame of a queue (R308). Scans are dropped at the disable. -/
def inFlight (d : Dev) (c : Nat) : Bool := d.queues.any (fun p => p.1 / 2048 == c && p.2.flying != [])

/-- The drain of a DRAINING or FROZEN carriage ends at a leg boundary with nothing in flight, at latest two legs after the disable
(R308, R312). -/
def drainEnd (c : Nat) (retBad : Bool) (d : Dev) : Dev :=
  let n := legsSince d.tc (d.rn (Reg.carLastTc c))
  if (carSt d c ≠ stDraining && carSt d c ≠ stFrozen) || d.tim.absTick % 16 ≠ 0 || n = 0 || (inFlight d c && n < 2) then d
  else
    let d := resetQueues c d
    if carSt d c = stFrozen then d
    else if destroyWaits d c then finishJobs c [0x101] cOk [] (destroyNow c (setCarSt c stDisabled d))
    else if enablePending d c then
      if ttbState d c = 1 then
        modCar c (fun k => { k with enablePlan := true }) (setCarSt c stDisabled (d.clrB (Reg.carState c) 3))
      else enableNow retBad c d
    else setCarSt c stDisabled d

/-! Images (R312 to R317). -/

/-- What a save of the carriage holds now. -/
def carBody (d : Dev) (c : Nat) (i : CoachImage) : CarBody :=
  let x := hcar d c
  { wr := x.wr, tims := x.tims, cnts := x.cnts, prog := x.prog, next := x.next, last := x.last,
    kern := (enumNat (kernIdx d c i)).map (fun p => (p.1, kInst d p.2)),
    chans := (enumNat (chanIdx d c i)).map (fun p => (p.1, tget FChan.empty d.fch.chans p.2)),
    grps := (carGroups d c).map (fun g => (g, fgrp d g, d.rn (Reg.fchTFreq g) + d.rn (Reg.fchTStatus g) * 2 ^ 32)),
    pubs := (enumNat (pubIdx d c i)).map (fun p =>
      (p.1, d.rn (Reg.pubGeStnum p.2), d.rn (Reg.pubGeSqnum p.2), (geRun d p.2).due - d.tim.absTick)),
    queues := (d.queues.filter (fun p => p.1 / 2048 == c)).map (fun p => (p.1 % 2048, p.2.words)),
    ret := (List.range i.retWords).map (fun k => (k, tget 0 d.hle.home (c * 1024 + k))) }

/-- The image's length in bytes: its header of 32 words, its body by what the carriage was granted (log 18), and its tag of 128 bits
(R313, R314). -/
def imageLen (i : CoachImage) : Nat :=
  144 + Config.imageLen ([i.queues, i.chans.length, i.kernels.length, i.gpub.length, i.progWords, i.retWords])

/-- The header of R314 at F; the nonce, the words of the ciphertext and the section offsets are free values. -/
def imageHdr (d : Dev) (c slot : Nat) (stop : Bool) (k : Car) (key : Nat) : List Nat :=
  let leg := d.tim.absLeg
  [0x43474D49, 1 + k.level * 2 ^ 8 + k.cls * 2 ^ 16 + b2n stop * 2 ^ 18, c + d.fldR (Reg.carGen c) 0 16 * 2 ^ 16,
    d.rn (Reg.ttbCSeq c), leg % 2 ^ 32, leg / 2 ^ 32] ++ (List.range 12).map (fun j => fld k.img.digest (32 * j) 32) ++
  [imageLen k.img - 144, slot] ++ (List.range 3).map (fun j => Config.imageWord key j % 2 ^ 32) ++ [0] ++
  (List.range 6).map (fun j => Config.imageWord key (3 + j) % 2 ^ 32) ++ [0, 0]

/-- A save at F: the image leaves, and with STOP the carriage is FROZEN (R304, R308, R312). -/
def saveNow (c job slot : Nat) (stop : Bool) (dest addr : Nat) (d : Dev) : Dev :=
  match tfind d.cars c with
  | none => d
  | some k =>
    let key := d.fresh
    let d := { d with fresh := d.fresh + 1 }
    let hdr := imageHdr d c slot stop k key
    let d := d.emit (.image dest (if dest = 0 then hostAddr d (0x8000000000 + addr) else addr) hdr (carBody d c k.img))
    let d := if dest = 1 then
        d.storeWords addr ((hdr ++ (List.range (imageLen k.img / 4 - 32)).map (fun j => Config.imageWord key (9 + j))).map w32)
      else d
    let d := finishJob job cOk [d.tim.absRoute % 2 ^ 20, imageLen k.img] d
    if stop then stopWork c (setCarSt c stFrozen (bumpGen c d)) else d

/-- A queue context from its words 0 to 7. -/
def qFromWords (w : List Nat) : QCtx :=
  { QCtx.empty with w0 := entW w 0, w1 := entW w 1, w2 := entW w 2, w3 := entW w 3, prod := fld (entW w 4) 0 16,
                    cons := fld (entW w 4) 16 16, cpl := fld (entW w 5) 0 16, phase := bitOf (entW w 5) 16,
                    drop := entW w 6, frames := entW w 7 }

/-- The Harness, publication, queue and retention state of an image loaded (R316). -/
def loadHarness (c : Nat) (i : CoachImage) (b : CarBody) (d : Dev) : Dev :=
  let x := hcar d c
  let d := setHcar c { x with prog := b.prog, next := b.next, wr := b.wr, tims := b.tims, cnts := b.cnts, last := b.last,
                              frz := [], skips := 0, out := outOf b.wr, fresh := false, modeReq := none, swapped := false } d
  let d := (d.setF (Reg.hleCMode c) 0 2 hRun).putB (Reg.hleCMode c) 2 b.next.isSome
  let d := d.wn (Reg.hleCLen c) (match b.prog with | some p => p.code.length | none => 0)
  let d := b.pubs.foldl (fun d p =>
    let e := nth 4096 (pubIdx d c i) p.1
    if e < 2048 then
      setRun e { geRun d e with due := d.tim.absTick + p.2.2.2 } ((d.wn (Reg.pubGeStnum e) p.2.1).wn (Reg.pubGeSqnum e) p.2.2.1)
    else d) d
  let d := b.queues.foldl (fun d p => if p.1 < i.queues then qSet (qNum c p.1) (qFromWords p.2) d else d) d
  { d with hle := { d.hle with home := b.ret.foldl (fun h p =>
      if p.1 < i.retWords then tset 0 h (c * 1024 + p.1) p.2 else h) d.hle.home } }

/-- Filter and element state of a warm restore, or the starts of a cold one (R316). -/
def loadFilters (warm : Bool) (c : Nat) (i : CoachImage) (b : CarBody) (d : Dev) : Dev :=
  let d := if warm then
      b.chans.foldl (fun d p => match (chanIdx d c i)[p.1]? with | some ch => setChan ch p.2 d | none => d) d
    else (carChans d c).foldl (fun d ch => restartChan ch d) d
  let d := b.kern.foldl (fun d p => match (kernIdx d c i)[p.1]? with
    | some n => setInst n (if warm then p.2 else if kCode (kDesc d n) = 10 then { KInst.empty with acc := p.2.acc } else KInst.empty) d
    | none => d) d
  b.grps.foldl (fun d p =>
    if !(carGroups d c).contains p.1 then d
    else if warm then (setGrp p.1 p.2.1 (d.wn (Reg.fchTStatus p.1) (p.2.2 / 2 ^ 32))).wn (Reg.fchTFreq p.1) (p.2.2 % 2 ^ 32)
    else (startGrp p.1 d).wn (Reg.fchTFreq p.1) (p.2.2 % 2 ^ 32)) d

/-- Whether a restore that has arrived now is warm (R316). -/
def isWarm (d : Dev) (c : Nat) (m : CarImage) : Bool :=
  (carEntries d c).all (fun i => entState (sauEnt d i) == esLive) &&
    d.tim.absLeg ≤ m.absLeg + 48

/-- Whether an image's header fits a target (R315). -/
def imageFits (d : Dev) (c : Nat) (m : CarImage) : Bool :=
  match tfind d.cars c with
  | some k => m.magicOk && m.digest == k.img.digest && m.cls == k.cls && m.level == k.level
  | none => false

/-- A restore begins: the target is RESTORING with the image's state and resumes at route count `r` (R304, R315 to R317). -/
def restoreNow (c job r : Nat) (m : CarImage) (d : Dev) : Dev :=
  match tfind d.cars c with
  | none => d
  | some k =>
    let warm := isWarm d c m
    let d := setCarSt c stRestoring (bumpGen c d)
    let d := (modCar c (fun k => { k with warm := warm }) d).putB (Reg.carState c) 8 warm
    let d := loadFilters warm c k.img m.body (loadHarness c k.img m.body d)
    let d := if m.partner then d.wn (Reg.ttbCSeq c) m.seq else d
    { d with cmd := { d.cmd with route := d.cmd.route ++ [.resume c job r] } }

/-- The resume boundary R (R317). -/
def resumeNow (c job : Nat) (d : Dev) : Dev :=
  if carSt d c ≠ stRestoring then d
  else
    let warm := b2n (d.bitR (Reg.carState c) 8)
    let d := modCar c (fun k => { k with firstPub := true }) (d.clrB (Reg.carState c) 8)
    let d := (carKernels d c).foldl (fun d p => setInst p.1 { kInst d p.1 with last := some (d.tim.absLeg - 1) } d) d
    finishJob job cOk [warm] (carEvent c 7 (setCarSt c stEnabled d))

/-- SAVE's own part (R309, R312; 13 R412). -/
def saveBody (h : Cmd) (p : List Nat) (d : Dev) : Dev × Ans :=
  let c := h.carriage
  let slot := fld (entW p 1) 0 8
  let brace := bitOf (entW p 1) 9
  if carSt d c = stFree then (d, noA cWrongMode)
  else if carSt d c = stDraining then (d, noA cBusyDraining)
  else if !trngReady d then (d, noA cNotReady)
  else
    let a := slotAskU slot fnImage [3] (.carriage c) (cmdWho d h) d
    let d := a.2
    if !a.1 then (d, noA cDenied)
    else if !brace && (match tfind d.cars c with | some k => entW p 4 < imageLen k.img | none => true) then
      (d, refA cNoResource 0 4 0)
    else
      let dest := if brace then 3 else match sesTransport d h.session with | 1 => 0 | 2 => 2 | _ => 1
      ({ d with cmd := { d.cmd with route := d.cmd.route ++
          [.save c d.cmd.nextJob slot (bitOf (entW p 1) 8) dest (addrP p 2)] } }, pendA [(d.tim.absRoute + 1) % 2 ^ 20])

/-- A route count as the count not reduced that is the next to come. -/
def routeAhead (d : Dev) (r : Nat) : Nat :=
  let now := d.tim.absRoute
  now + (r + 2 ^ 20 - now % 2 ^ 20) % 2 ^ 20

/-- RESTORE's own part (R315). -/
def restoreBody (h : Cmd) (m : CarImage) (p : List Nat) (d : Dev) : Dev × Ans :=
  let c := h.carriage
  if projSt d c ≠ stDisabled then (d, noA cWrongMode)
  else
    let d := if m.slotBad then slotGoesBad m.slot d else d
    let a := slotAskU m.slot fnImage [3] (.carriage c) (cmdWho d h) d
    let d := a.2
    let r := routeAhead d (entW p 3)
    if !a.1 || !m.tagOk then (d, noA cDenied)
    else if !imageFits d c m then (d, refA cBadParam 0 1 0)
    else if r ≤ d.tim.absRoute + 1 || d.tim.absRoute + 2 ^ 19 ≤ r then (d, refA cBadParam 0 3 0)
    else (restoreNow c d.cmd.nextJob r m d, pendA [])

/-! The other commands of the family. -/

/-- HARNESS_MODE's own part (07 R237, R238). -/
def harnessModeBody (c : Nat) (p : List Nat) (d : Dev) : Dev × Ans :=
  let req := entW p 1
  let on := projSt d c == stEnabled
  let cur := if !on then hStop else match (hcar d c).modeReq with
    | some m => m
    | none => if carSt d c == stEnabled then hMode d c else hRun
  if carSt d c = stFree || (req = hHold && d.mode ≠ modeMaintenance) || (req ≠ hStop && !on) || (req = hRun && cur = hHold) then
    (d, noA cWrongMode)
  else if req = cur then (d, okA [])
  else (setHcar c { hcar d c with modeReq := some req } d, okA [])

/-- PROGRAM_LOAD's own part (07 R240, R241; 08 R253). -/
def programLoadBody (c : Nat) (data : List Word) (p : List Nat) (d : Dev) : Dev × Ans :=
  let swap := bitOf (entW p 3) 0
  if carSt d c = stFree || (projSt d c = stEnabled && !swap) then (d, noA cWrongMode)
  else
    let r := loadProg (parseImage (data.map (fun w => w.toNat))) c swap d
    if r.2.1 ≠ 0 then (r.1, refA cBadParam r.2.1 0xFF (r.2.2 % 65536))
    else
      let a := admitChange c d r.1
      (a.1, if a.2 = 0 then okA [] else noA (admStatus a.2))

/-- PARAM_UPDATE's own part (06 R179, R180; 08 R253). -/
def paramUpdateBody (c : Nat) (data : List Word) (p : List Nat) (d : Dev) : Dev × Ans :=
  let i := entW p 1
  let old := kCommitted d i
  if carSt d c = stFree then (d, noA cWrongMode)
  else if old ≠ [] && kCar old ≠ c then (d, refA cBadParam 8 1 0)
  else
    let w := (takePad 0 3 old) ++ takePad 0 12 (data.map (fun w => w.toNat)) ++ [c]
    let r := kReason (projStreams d) i w
    if r ≠ 0 then (d, refA cBadParam r 1 0)
    else
      let a := admitChange c d (eenPlace i w d)
      (a.1, if a.2 = 0 then okA [] else noA (admStatus a.2))

/-- Carriages that a Carriage-fatal source named in an earlier tick are disabled (15 R449). -/
def fatalDisable (d : Dev) : Dev :=
  let due := d.sup.fatalDis.filter (fun p => p.2 < d.tim.absTick)
  let d := { d with sup := { d.sup with fatalDis := d.sup.fatalDis.filter (fun p => !(p.2 < d.tim.absTick)) } }
  due.foldl (fun d p =>
    if carRuns d p.1 then disableCar p.1 d
    else if carSt d p.1 = stFree then d else cancelEnable p.1 d) d

/-! The rows. -/

/-- CAR_STATE as it reads: HARNESS follows the mode (R318). -/
def carStateW (d : Dev) (c : Nat) : Nat := putFld (d.rn (Reg.carState c)) 5 2 (hMode d c)

/-- CREATE (R291); `img` is the Coachbuilder image at the address named. -/
def execCmdCreate (h : Cmd) (img : CoachImage) (s : State) : Outcome :=
  s.act (runC ⟨0x100, true, [0x1F, mAll, 0xFF, 0xFFF, mAll, 0xFF], [1], createRange⟩ (createBody h img) h)

/-- DESTROY (R311). -/
def execCmdDestroy (h : Cmd) (s : State) : Outcome :=
  s.act (runC ⟨0x101, true, [0xFFFF], [], noRange⟩ (fun _ d => destroyBody h.carriage d) h)

/-- ENABLE (R310). -/
def execCmdEnable (h : Cmd) (s : State) : Outcome :=
  s.act (runC ⟨0x102, true, [0xFFFF], [], noRange⟩ (fun _ d => enableBody h.carriage d) h)

/-- DISABLE (R307). -/
def execCmdDisable (h : Cmd) (s : State) : Outcome :=
  s.act (runC ⟨0x103, true, [0xFFFF], [], noRange⟩ (fun _ d => disableBody h.carriage d) h)

/-- RESET (R310). -/
def execCmdReset (h : Cmd) (s : State) : Outcome :=
  s.act (runC ⟨0x104, true, [0xFFFF], [], noRange⟩ (fun _ d => resetBody h.carriage d) h)

/-- HARNESS_MODE (07 R237). -/
def execCmdHarnessMode (h : Cmd) (s : State) : Outcome :=
  s.act (runC ⟨0x105, true, [0xFFFF, 3], [], fun p => if entW p 1 = 3 then some 1 else none⟩ (harnessModeBody h.carriage) h)

/-- PROGRAM_LOAD (07 R240); `data` is the program image at the address named. -/
def execCmdProgramLoad (h : Cmd) (data : List Word) (s : State) : Outcome :=
  s.act (runC ⟨0x106, true, [0xFFFF, mAll, 0xFF, 1], [1], noRange⟩ (programLoadBody h.carriage data) h)

/-- SAVE (R312). -/
def execCmdSave (h : Cmd) (s : State) : Outcome :=
  s.act (runC ⟨0x107, true, [0xFFFF, 0x3FF, mAll, 0xFF, mAll], [2], noRange⟩ (saveBody h) h)

/-- RESTORE (R315); `img` is the carriage image at the address named. -/
def execCmdRestore (h : Cmd) (img : CarImage) (s : State) : Outcome :=
  s.act (runC ⟨0x108, true, [0xFFFF, mAll, 0xFF, 0xFFFFF], [1], noRange⟩ (restoreBody h img) h)

/-- CARRIAGE_QUERY (13 R412). -/
def execCmdCarriageQuery (h : Cmd) (s : State) : Outcome :=
  s.act (runC ⟨0x109, true, [0xFFFF], [], noRange⟩ (fun _ d => let c := h.carriage
    (d, okA [if carSt d c = stFree then 0 else carStateW d c, d.rn (Reg.carGen c), d.rn (Reg.ttbCState c), d.rn (Reg.ttbCSeq c)])) h)

/-- PARAM_UPDATE (06 R180); `data` is the 12 words at the address named. -/
def execCmdParamUpdate (h : Cmd) (data : List Word) (s : State) : Outcome :=
  s.act (runC ⟨0x10A, true, [0xFFFF, 0xFFFF, mAll, 0xFF], [2], noRange⟩ (paramUpdateBody h.carriage data) h)

/-- DRAIN_END (R308); `retBad` says that the retention memory's home copy of the carriage fails its check (07 R236). -/
def execDrainEnd (c : Nat) (retBad : Bool) (s : State) : Outcome := s.act (onlyIf (c < 512) (drainEnd c retBad))

/-- CARRIAGE_FATAL_DISABLE (15 R449). -/
def execCarriageFatalDisable (s : State) : Outcome := s.act fatalDisable

end Sys2Proof.Machine
end

