-- ==== Sys2Proof/Machine/Commands.lean ====
section
/-! DEFINITION. The stream, publication and time families of commands (13 R413 to R415; 04 R99 to R104, R128; 09 R268, R285,
R288; 07 R218; 02 R46 to R51, R55, R66, R67; 01 R18). -/

namespace Sys2Proof.Machine

/-! Streams. -/

/-- The holdback as it will stand. -/
def projHold (d : Dev) : Nat := if d.bitR Reg.ttbHoldback 12 then d.fldR Reg.ttbHoldback 8 4 else holdback d

/-- The device with an effect that waits for the next route boundary. -/
def Dev.atRoute (d : Dev) (a : Act) : Dev := { d with cmd := { d.cmd with route := d.cmd.route ++ [a] } }

/-- Whether a stream breaks the multiple-ASDU rule under a holdback: (NOASDU - 1) * T + LAT exceeds H + 1 ticks (04 R128). -/
def asduBreaks (h : Nat) (e : List Nat) : Bool :=
  1 < entNoasdu e &&
    (h + 1) * 1000000000 * (entK e * 4800) < ((entNoasdu e - 1) * 1000000000 + entLat e * (entK e * 4800)) * 76800

/-- The entry a make-live names or supplies breaks a row of 04 R103 that gives BAD_PARAM. -/
def liveBad (d : Dev) (supplied : Bool) (i : Nat) (w : List Nat) : Bool :=
  let st := entState (sauEnt d i)
  2 ≤ st || (st == esFree && !supplied) || keyHolders d (entKey w) i != [] || (rateK (entRate w)).isNone ||
    entNchan w == 0 || 24 < entNchan w || entNoasdu w == 0 || 8 < entNoasdu w || entMod w == 0 ||
    entK w * 4800 % entMod w != 0 || asduBreaks (projHold d) w

/-- The parameter word a BAD_PARAM of STREAM_LIVE names: the supplied entry's address, or the entry number (13 R395). -/
def liveParam (d : Dev) (supplied : Bool) (i : Nat) : Nat := if supplied && entState (sauEnt d i) < 2 then 1 else 0

/-- STREAM_LIVE's own part. -/
def streamLiveBody (h : Cmd) (data : List Word) (p : List Nat) (d : Dev) : Dev × Ans :=
  let i := fld (entW p 0) 0 12
  let sup := bitOf (entW p 0) 31
  let q := projStreams d
  let w := if sup then takePad 0 24 (data.map (fun x => x.toNat)) else sauEnt q i
  if liveBad q sup i w then (d, badP (liveParam q sup i))
  else match lowestRun (rowRuns (tdel q.sau.entries i)) (entCost w) with
    | none => (d, noA cNoResource)
    | some b =>
      if 4096 < unitsUsed (tdel q.sau.entries i) + entCost w then (d, noA cNoResource)
      else if !namesSlot d (entAuth w) (entSlot w) fnVerifyIn .livery (cmdWho d h) then (d, noA cDenied)
      else (d.atRoute (.stream 0 i w), okA [b + entCost w * 4096])

/-- STREAM_SUSPEND, STREAM_RESUME: the state the entry must have. -/
def streamChange (op st : Nat) (p : List Nat) (d : Dev) : Dev × Ans :=
  let i := fld (entW p 0) 0 12
  if entState (sauEnt (projStreams d) i) ≠ st then (d, badP 0) else (d.atRoute (.stream op i []), okA [])

/-- Carriages granted an entry. -/
def grantees (d : Dev) (i : Nat) : List Nat := (d.cars.filter (fun p => p.2.sv.contains i)).map (fun p => p.1)

/-- STREAM_RETIRE's own part (04 R104). -/
def streamRetire (p : List Nat) (d : Dev) : Dev × Ans :=
  let i := fld (entW p 0) 0 12
  if entState (sauEnt (projStreams d) i) = esFree then (d, badP 0)
  else if (grantees d i).any (fun c => projSt d c == stEnabled) then (d, noA cDenied)
  else (d.atRoute (.stream 3 i []), okA [])

/-- STREAM_GRANT's own part. -/
def streamGrant (c : Nat) (p : List Nat) (d : Dev) : Dev × Ans :=
  let i := fld (entW p 0) 0 12
  match tfind d.cars c with
  | none => (d, noA cWrongMode)
  | some k =>
    if k.sv.contains i then (d, okA [])
    else if 64 ≤ k.sv.length then (d, noA cNoResource)
    else (modCar c (fun k => { k with sv := k.sv ++ [i] }) d, okA [])

/-- STREAM_REVOKE's own part. -/
def streamRevoke (c : Nat) (p : List Nat) (d : Dev) : Dev × Ans :=
  let i := fld (entW p 0) 0 12
  if projSt d c = stEnabled || carSt d c = stRestoring then (d, noA cDenied)
  else (modCar c (fun k => { k with sv := k.sv.filter (fun x => x != i) }) d, okA [])

/-- LEARN_LIST's answer: the next four LEARNED entries. -/
def learnList (p : List Nat) (d : Dev) : Dev × Ans :=
  (d, okA (takePad 0xFFFFFFFF 4 ((inState d esLearned).filter (fun i => entW p 0 ≤ i))))

/-! Entries with maps. -/

/-- Map words written one after another. -/
def writeMap (f : Nat → Nat → Dev → Dev) : Nat → List Nat → Dev → Dev
  | _, [], d => d
  | i, w :: ws, d => writeMap f (i + 1) ws (f i w d)

/-- GSUB_COMMIT's own part (07 R218). -/
def gsubCommitBody (h : Cmd) (ent map : List Word) (p : List Nat) (d : Dev) : Dev × Ans :=
  let i := entW p 0
  let e := takePad 0 26 (ent.map (fun w => w.toNat))
  let d' := writeMap gmapWrite (gsBase e) (takePad 0 (entW p 5) (map.map (fun w => w.toNat))) d
  let r := gsReason d' i e
  if r ≠ 0 then (d, refA cBadParam r 0xFF 0)
  else if gsState e ≠ 0 && !namesSlot d (gsAuth e) (gsSlot e) fnVerifyIn .livery (cmdWho d h) then (d, noA cDenied)
  else (gsCommitW (cmdWho d h) i e d', okA [])

/-- The status of a refusal of R268. -/
def pubStatus (r : Nat) : Nat := if r = 7 then cScheduleFull else if r = 8 then cDenied else cBadParam

/-- GPUB_COMMIT's own part. -/
def gpubCommitBody (h : Cmd) (ent map : List Word) (p : List Nat) (d : Dev) : Dev × Ans :=
  let i := entW p 0
  let e := takePad 0 58 (ent.map (fun w => w.toNat))
  let d' := writeMap pmapWrite (geBase e) (takePad 0 (entW p 5) (map.map (fun w => w.toNat))) d
  let r := geReason d' (cmdWho d h) i e
  if r ≠ 0 then (d, refA (pubStatus r) r 0xFF 0) else (geCommitW (cmdWho d h) i e d', okA [])

/-- GPUB_STATE's own part: the committed words with another STATE. -/
def gpubStateBody (h : Cmd) (p : List Nat) (d : Dev) : Dev × Ans :=
  let i := entW p 0
  let st := entW p 1
  let e := geCommitted d i
  let e' := setNth e 0 (putFld (entW e 0) 0 2 st)
  let r := geReason d (cmdWho d h) i e'
  if st = 0 && geState e ≠ 0 && projSt d (geCar e) = stEnabled then (d, badP 1)
  else if r ≠ 0 then (d, refA (pubStatus r) r 0xFF 0)
  else (geCommitW (cmdWho d h) i e' d, okA [])

/-- SVPUB_COMMIT's own part. -/
def svpubCommitBody (h : Cmd) (ent : List Word) (p : List Nat) (d : Dev) : Dev × Ans :=
  let e := takePad 0 35 (ent.map (fun w => w.toNat))
  let r := svReason d (cmdWho d h) (entW p 0) e
  if r ≠ 0 then (d, refA (pubStatus r) r 0xFF 0) else (svCommitW (cmdWho d h) (entW p 0) e d, okA [])

/-- PMU_COMMIT's own part. -/
def pmuCommitBody (ent : List Word) (p : List Nat) (d : Dev) : Dev × Ans :=
  let e := takePad 0 16 (ent.map (fun w => w.toNat))
  let r := pmuReason d e
  if r ≠ 0 then (d, refA cBadParam r 0xFF 0) else (pmuCommitW (entW p 0) e d, okA [])

/-- A parameter word above a limit. -/
def above (k n : Nat) (p : List Nat) : Option Nat := if n < entW p k then some k else none

/-! Time. -/

def stepSpent (d : Dev) : Bool := d.bitR Reg.timStatus 3

/-- TIME_STEP's own part (02 R51). -/
def timeStepBody (p : List Nat) (d : Dev) : Dev × Ans :=
  if d.mode ≠ modeMaintenance then (d, noA cWrongMode)
  else if anyEnabled d then (d, noA cDenied)
  else
    let sec := entW p 0 + entW p 1 * 2 ^ 32
    let diff : Int := ((sec * 1000000000 + entW p 2 : Nat) : Int) - ((d.tim.sec * 1000000000 + d.tim.ns : Nat) : Int)
    (stepTo sec (entW p 2) d, okA [wrapN 32 (satS 32 diff)])

/-- TIME_LIMITS' ranges: 0 leaves a value unchanged (02 R66). -/
def limitsBad (p : List Nat) : Option Nat :=
  let out (k lo hi : Nat) : Bool := entW p k != 0 && (entW p k < lo || hi < entW p k)
  if out 0 100 200000 then some 0 else if out 1 10 1000000 then some 1 else if out 2 1 72000 then some 2 else none

/-- TIME_LIMITS' effect. -/
def timeLimits (p : List Nat) (d : Dev) : Dev :=
  let put (k r : Nat) (d : Dev) : Dev := if entW p k = 0 then d else d.wn r (entW p k)
  put 2 Reg.timHoldLimit (put 1 Reg.timOfsWarn (put 0 Reg.timSlewMax d))

/-- PORT_PTP's own part (02 R55, R67): a role that conflicts is refused. -/
def portPtpBody (p : List Nat) (d : Dev) : Dev × Ans :=
  let n := entW p 0
  let role := fld (entW p 1) 0 2
  if role = 1 && portsOfRole d n 2 ≠ [] then (d.emit (.infoEvent 55), badP 1)
  else
    let d := writePtpCfg n (entW p 1) d
    let d := (d.wrLagR (Reg.timPRxLat n) (w32 (entW p 2))).wrLagR (Reg.timPTxLat n) (w32 (entW p 3))
    ((d.wrLagR (Reg.timPRxAsym n) (w32 (entW p 4))).wrLagR (Reg.timPTxAsym n) (w32 (entW p 5)), okA [])

/-- Carriages with seats, all of which admission must accept again (01 R18). -/
def allAdmitted (d : Dev) : Bool :=
  ((tkeys d.cars).filter (fun c => ttbState d c == 1 || ttbState d c == 2)).all (fun c =>
    match admission d c d.ttb.plan (p2Others d) (colsOf d) with | .ok _ => true | _ => false)

/-- A holdback accepted for the next route boundary. -/
def holdbackNext (h : Nat) (d : Dev) : Dev := ((d.setF Reg.ttbHoldback 8 4 h).setB Reg.ttbHoldback 12).atRoute (.holdback h)

/-- HOLDBACK's own part (01 R18, 04 R128). -/
def holdbackBody (p : List Nat) (d : Dev) : Dev × Ans :=
  let h := entW p 0
  let q := projStreams d
  if d.mode ≠ modeMaintenance then (d, noA cWrongMode)
  else if q.sau.entries.any (fun x => entState x.2 == esLive && asduBreaks h x.2) then (d, badP 0)
  else if !allAdmitted (d.setF Reg.ttbHoldback 0 4 h) then (d, noA cScheduleFull)
  else (holdbackNext h d, okA [(d.tim.absRoute + 1) % 2 ^ 20])

/-- A holdback in force from this route boundary (01 R18, R20): the bounds of admitted carriages follow. -/
def holdApply (h : Nat) (d : Dev) : Dev :=
  let old := holdback d
  let d := { d with ttb := { d.ttb with holdOld := some (d.tim.absLeg, old) } }
  let d := (d.setF Reg.ttbHoldback 0 4 h)
  let d := if d.fldR Reg.ttbHoldback 8 4 = h then (d.setF Reg.ttbHoldback 8 4 0).clrB Reg.ttbHoldback 12 else d
  ((tkeys d.cars).filter (fun c => ttbState d c != 0)).foldl (fun d c => d.setF (Reg.ttbCState c) 8 8 (boundOf d c)) d

/-! The rows. -/

/-- STREAM_LIVE (04 R103); `data` is the 24 entry words at the address named. -/
def execCmdStreamLive (h : Cmd) (data : List Word) (s : State) : Outcome :=
  s.act (runC ⟨0x200, false, [0x80000FFF, mAll, 0xFF], [1], noRange⟩ (streamLiveBody h data) h)

/-- STREAM_SUSPEND (04 R100). -/
def execCmdStreamSuspend (h : Cmd) (s : State) : Outcome := s.act (runC (spec0 0x201 [0xFFF]) (streamChange 1 esLive) h)

/-- STREAM_RESUME (04 R100). -/
def execCmdStreamResume (h : Cmd) (s : State) : Outcome := s.act (runC (spec0 0x202 [0xFFF]) (streamChange 2 esSuspended) h)

/-- STREAM_RETIRE (04 R104). -/
def execCmdStreamRetire (h : Cmd) (s : State) : Outcome := s.act (runC (spec0 0x203 [0xFFF]) streamRetire h)

/-- STREAM_GRANT (13 R413). -/
def execCmdStreamGrant (h : Cmd) (s : State) : Outcome :=
  s.act (runC ⟨0x204, true, [0xFFF], [], noRange⟩ (streamGrant h.carriage) h)

/-- STREAM_REVOKE (13 R413). -/
def execCmdStreamRevoke (h : Cmd) (s : State) : Outcome :=
  s.act (runC ⟨0x205, true, [0xFFF], [], noRange⟩ (streamRevoke h.carriage) h)

/-- LEARN_LIST (13 R413). -/
def execCmdLearnList (h : Cmd) (s : State) : Outcome := s.act (runC (spec0 0x206 [0xFFF]) learnList h)

/-- GSUB_COMMIT (07 R218); `ent` and `map` are the words at the two addresses. -/
def execCmdGsubCommit (h : Cmd) (ent map : List Word) (s : State) : Outcome :=
  s.act (runC ⟨0x207, false, [0x7FF, mAll, 0xFF, mAll, 0xFF, 0x7F], [1, 3], above 5 64⟩ (gsubCommitBody h ent map) h)

/-- GPUB_COMMIT (09 R268); `ent` and `map` are the words at the two addresses. -/
def execCmdGpubCommit (h : Cmd) (ent map : List Word) (s : State) : Outcome :=
  s.act (runC ⟨0x300, false, [0x7FF, mAll, 0xFF, mAll, 0xFF, 0x7F], [1, 3], above 5 64⟩ (gpubCommitBody h ent map) h)

/-- GPUB_STATE (13 R414). -/
def execCmdGpubState (h : Cmd) (s : State) : Outcome :=
  s.act (runC ⟨0x301, false, [0x7FF, 3], [], above 1 2⟩ (gpubStateBody h) h)

/-- SVPUB_COMMIT (09 R285); `ent` is the 35 words at the address. -/
def execCmdSvpubCommit (h : Cmd) (ent : List Word) (s : State) : Outcome :=
  s.act (runC ⟨0x302, false, [0xFF, mAll, 0xFF], [1], noRange⟩ (svpubCommitBody h ent) h)

/-- PMU_COMMIT (09 R288); `ent` is the 16 words at the address. -/
def execCmdPmuCommit (h : Cmd) (ent : List Word) (s : State) : Outcome :=
  s.act (runC ⟨0x303, false, [0x1F, mAll, 0xFF], [1], noRange⟩ (pmuCommitBody ent) h)

/-- PMU_CTRL (13 R414). -/
def execCmdPmuCtrl (h : Cmd) (s : State) : Outcome :=
  s.act (runC (spec0 0x304 [3]) (fun p d =>
    ((d.putB Reg.pubCtrl 2 (bitOf (entW p 0) 0)).putB Reg.pubPmuCtrl 0 (bitOf (entW p 0) 1), okA [])) h)

/-- TIME_SOURCE (02 R46). -/
def execCmdTimeSource (h : Cmd) (s : State) : Outcome :=
  s.act (runC ⟨0x400, false, [7], [], fun p => if fld (entW p 0) 0 2 = 3 then some 0 else none⟩ (fun p d =>
    if paired d then (d, noA cDenied) else (writeTimCtrl (entW p 0) d, okA [])) h)

/-- FREE_RUN_ACCEPT (02 R49). -/
def execCmdFreeRunAccept (h : Cmd) (s : State) : Outcome :=
  s.act (runC (spec0 0x401 []) (fun _ d => if stepSpent d then (d, noA cDenied) else (d.setB Reg.timStatus 3, okA [])) h)

/-- TIME_STEP (02 R51). -/
def execCmdTimeStep (h : Cmd) (s : State) : Outcome :=
  s.act (runC ⟨0x402, false, [mAll, 0xFFFF, 0x3FFFFFFF], [], above 2 999999999⟩ timeStepBody h)

/-- TIME_LIMITS (13 R415). -/
def execCmdTimeLimits (h : Cmd) (s : State) : Outcome :=
  s.act (runC ⟨0x403, false, [mAll, mAll, mAll], [], limitsBad⟩ (fun p d => (timeLimits p d, okA [])) h)

/-- PORT_PTP (02 R55). -/
def execCmdPortPtp (h : Cmd) (s : State) : Outcome :=
  s.act (runC ⟨0x404, false, [0xF, 7, mAll, mAll, mAll, mAll], [], above 0 10⟩ portPtpBody h)

/-- HOLDBACK (01 R18). -/
def execCmdHoldback (h : Cmd) (s : State) : Outcome :=
  s.act (runC ⟨0x405, false, [0xF], [], fun p => if entW p 0 = 0 then some 0 else none⟩ holdbackBody h)

end Sys2Proof.Machine
end

