-- ==== Sys2Proof/Machine/Mode.lean ====
section
/-! DEFINITION. Operating modes, the field balls they govern, Brace roles, fencing, triggers and the change to ACTIVE
(16 R483 to R486, R492, R493; 11 R324 to R329, R336, R338, R342 to R347). -/

namespace Sys2Proof.Machine

/-! Modes and balls. -/

/-- TRIP_EN is active (R493). -/
def tripEnOn (d : Dev) : Bool := isActive d && brcRole d ≤ 1 && !isFenced d && d.bitR Reg.glbTripEn 0

/-- TRIP_EN follows its conditions; GLB_STATUS.TRIP_EN_ACTIVE shows it. -/
def tripEnUpd (d : Dev) : Dev :=
  let on := tripEnOn d
  if d.bitR Reg.glbStatus 6 = on then d
  else (d.putB Reg.glbStatus 6 on).emit (.ball "TRIP_EN" (if on then activeLevel d 0 else fuseLevel d 0))

/-- The module comes into Active: publication takes over in its next egress tick (09 R281). -/
def activeBegins (d : Dev) : Dev :=
  raise 285 none 0 0 ({ d with pub := { d.pub with takeover := true } }.setB Reg.pubStatus 28)

/-- The mode changes (R483). The balls follow. Standby with PAIR_EN set begins the wait for a partner (11 R327). -/
def setMode (m : Nat) (d : Dev) : Dev :=
  if d.mode = m then d
  else
    let base := if m = modeMaintenance then d.mode else 0
    let was := isActive d
    let d := ((d.setF Reg.glbMode 0 3 m).setF Reg.glbMode 4 3 base).wn Reg.glbModeTc d.tc
    let d := raise 40 none m 0 d
    let d := if m = modeStandby && d.bitR Reg.brcCtrl 1 && brcRole d == roleNone && d.brc.waitFrom.isNone then
        { d with brc := { d.brc with waitFrom := some d.tim.absRoute } }
      else d
    let d := if isActive d && !was then activeBegins d else d
    driveContacts (tripEnUpd d)

/-- The base mode changes within Maintenance (R485). -/
def setBase (m : Nat) (d : Dev) : Dev :=
  if d.mode ≠ modeMaintenance then setMode m d
  else
    let was := isActive d
    let d := d.setF Reg.glbMode 4 3 m
    let d := if isActive d && !was then activeBegins d else d
    driveContacts (tripEnUpd d)

/-- The level of BRACE_ROLE (11 R329). -/
def roleLevel (d : Dev) (act : Bool) : Nat := b2n (act != d.bitR Reg.brcCfg 1)

/-- The role changes; the mode and the balls follow (R484, R485; 11 R325, R329). A standby whose egress path no proof exchange has shown since
the last pairing is UNPROVEN (11 R348). -/
def setBrcRole (r : Nat) (d : Dev) : Dev :=
  let old := brcRole d
  if old = r then tripEnUpd d
  else
    let d := d.setF Reg.brcStatus 0 3 r
    let d := if r = roleStandby || r = roleResync then d.putB Reg.brcStatus 7 (!d.brc.proven) else d
    let d := if old = roleActive || r = roleActive then d.emit (.ball "BRACE_ROLE" (roleLevel d (r == roleActive))) else d
    let d := if r = roleActive then (if baseMode d = modeStandby then setBase modeActive d else d)
      else if isActive d then setBase modeStandby d else d
    tripEnUpd d

/-- Every route boundary: the changes that commands asked for, and Active for a module that does not pair (R483, R484). `sb` says
whether the module was in Standby before the boundary. -/
def modeRoute (sb : Bool) (d : Dev) : Dev :=
  if sb && d.mode = modeStandby && !d.bitR Reg.brcCtrl 1 && brcRole d = roleNone && !isFenced d then setMode modeActive d else d

/-! Role changes (11). -/

/-- Whether the partner is known in a role. -/
def peerIn (d : Dev) (r : Nat) : Bool := match d.brc.peer with | some p => p.role == r | none => false

/-- A state transfer is asked of the active (R338). -/
def askTransfer (d : Dev) : Dev :=
  let d := { d with brc := { d.brc with xferDone := false, imgGen := [], okLegs := 0 } }
  (d.wn Reg.brcXferStatus (2 ^ 29)).braceMsg 10 []

/-- The module enters RESYNC (R336, R338, R341): its proof is gone, the active's time steers it (02 R46), and a transfer is asked for
under AUTO_RESYNC. -/
def enterResync (d : Dev) : Dev :=
  let d := setSrc 2 (raise 302 none 0 0 (setBrcRole roleResync d))
  let d := { d with brc := { d.brc with okLegs := 0, orphanAt := none } }.clrB Reg.brcStatus 9
  if d.bitR Reg.brcCtrl 2 && paired d && peerIn d roleActive then askTransfer d else { d with brc := { d.brc with xferDone := false } }

/-- The fence of R344: frames of classes 6 and 7 flushed, and nothing published while it lasts. -/
def fenceNow (cause : Nat) (d : Dev) : Dev :=
  if isFenced d then d
  else
    let d := raise 306 none cause 0 (d.setB Reg.glbStatus 4)
    (List.range 11).foldl (fun d p => flushQueue p 7 (flushQueue p 6 d)) d

/-- A lost term comparison: the fence and RESYNC, or role NONE after a clash, come in the next tick (R326, R328, R344). -/
def termLost (role : Nat) (d : Dev) : Dev :=
  if brcRole d ≠ roleActive || d.brc.fenceDue.isSome then d
  else ({ d with brc := { d.brc with fenceDue := some (d.tim.absTick, role) } }.setF Reg.brcSwitchCause 0 3 6).emit (.infoEvent 326)

/-- Whether a claim of ACTIVE from the partner wins over this module's (R326). -/
def claimWins (d : Dev) (unit term : Nat) : Bool :=
  d.rn Reg.brcTerm < term || (d.rn Reg.brcTerm == term && unit == 0)

/-- The larger of two terms, raised by one (R326). -/
def nextTerm (d : Dev) : Nat :=
  (max (d.rn Reg.brcTerm) (match d.brc.peer with | some p => p.term | none => 0) + 1) % 2 ^ 32

/-- The adopted models in place of the module's own, its own L kept (R345). -/
def adoptModels (d : Dev) : Dev :=
  d.brc.models.foldl (fun d p =>
    let x := strm d p.1
    setStrm p.1 { x with nA := p.2.nA, a := p.2.a, dr := p.2.d, aSet := true, acq := p.2.kind == 3,
                         place := if p.2.kind = 1 then 1 else 2 } d) d

/-- The store from the first leg not yet declared on holds the module's own frames (R345). -/
def ownStore (d : Dev) : Dev :=
  let later (c : SauCell) : Bool := match d.sau.declared with | some n => n < c.leg | none => true
  let kept := d.sau.store.filter (fun p => !later p.2)
  let mine := d.brc.check.filter (fun p => later p.2)
  { d with sau := { d.sau with store := mine.foldl (fun t p => tput t p.1 p.2) kept },
           brc := { d.brc with check := [], models := [], got := [], decl := none, p2 := [], mirror := none } }

/-- The module becomes ACTIVE (R326, R345): term, role, PTP as time source, without a step after Brace (02 R46, R47), fence ended. -/
def becomeActive (d : Dev) : Dev :=
  let d := d.wn Reg.brcTerm (nextTerm d)
  let d := { d with brc := { d.brc with trig := none, orphanAt := none, waitFrom := none, fromLeg := d.tim.absLeg + 1,
                                        grace := none } }.clrB Reg.brcStatus 9
  let d := if isShadow d then ownStore (adoptModels d) else d
  let d := setBrcRole roleActive (d.clrB Reg.glbStatus 4)
  setSrc 1 (if timSrc d = 2 then { d with tim := { d.tim with firstLock := true } } else d)

/-- The takeover of a STANDBY (R345): cause and T recorded. -/
def takeover (cause t : Nat) (d : Dev) : Dev :=
  let d := (d.wn Reg.brcSwitchTc (tickCodeOf t)).setF Reg.brcSwitchCause 0 3 cause
  raise 304 none cause 0 (becomeActive d)

/-- A trigger of R342 is taken: a STANDBY acts in the next tick; in RESYNC it is refused (R347). -/
def takeTrigger (cause : Nat) (d : Dev) : Dev :=
  if brcRole d = roleStandby then
    if d.brc.trig.isSome then d else { d with brc := { d.brc with trig := some (cause, d.tim.absTick) } }
  else if brcRole d = roleResync then raise 305 none cause 0 d
  else d

/-- A mismatch or another loss of proof of a STANDBY: RESYNC, and a trigger taken in the same tick gives no takeover (R336, R347). -/
def proofLost (d : Dev) : Dev :=
  let t := d.brc.trig
  let d := enterResync { d with brc := { d.brc with trig := none } }
  match t with
  | some (cause, k) => if k = d.tim.absTick then raise 305 none cause 0 d else { d with brc := { d.brc with trig := some (cause, k) } }
  | none => d

/-- The first leg boundary at least 2 legs ahead (R346). -/
def agreedLeg (d : Dev) : Nat := (d.tim.absTick + 47) / 16

/-- A switch-over agreed on for leg `b` (R346). -/
def switchAgreed (b cause : Nat) (d : Dev) : Dev := { d with brc := { d.brc with switchAt := some (b, cause) } }

/-- A request of the Timetable for a switch-over (08 R259; R347): agreed when the partner is a STANDBY with no P0 carriage shed. -/
def p0Request (d : Dev) : Dev :=
  if !d.ttb.switchReq then d
  else
    let d := { d with ttb := { d.ttb with switchReq := false } }
    if brcRole d ≠ roleActive then d
    else match d.brc.peer with
      | some p =>
        if p.role = roleStandby && paired d && !p.st.p0Shed then
          let b := agreedLeg d
          switchAgreed b 4 (d.braceMsg 11 [b, 4])
        else raise 305 none 4 0 d
      | none => raise 305 none 4 0 d

end Sys2Proof.Machine
end

