-- ==== Sys2Proof/Machine/Stl.lean ====
section
/-! DEFINITION. Stageline: the node's timing and integration, the time master, seats, claims, versions and tables, the hosted Guard,
and the input map (12 R351 to R387; 19 R581; 13 R419; 09 R284). A frame of the bus is one command for each channel it is seen on. -/

namespace Sys2Proof.Machine

def StlNode.empty : StlNode := ⟨none, 0, 0, 0, none, none, false, false, none, none, [], false, none⟩
def stlN (d : Dev) (ch : Nat) : StlNode := tget StlNode.empty d.stl.node ch
def setStlN (ch : Nat) (x : StlNode) (d : Dev) : Dev := { d with stl := { d.stl with node := tput d.stl.node ch x } }

/-- This module's node and its Guard's channel (R351). -/
def selfNode (d : Dev) : Nat := d.fldR Reg.brcCfg 0 1

def nOff : Nat := 0
def nListen : Nat := 1
def nCold : Nat := 2
def nIntegrating : Nat := 3
def nSync : Nat := 4

def stlOn (d : Dev) : Bool := d.bitR Reg.stlCtrl 0
def nState (d : Dev) (ch : Nat) : Nat := d.fldR (Reg.stlNStatus ch) 0 3
def setNState (ch st : Nat) (d : Dev) : Dev := d.setF (Reg.stlNStatus ch) 0 3 st
def loopOk (d : Dev) (ch : Nat) : Bool := d.bitR (Reg.stlNStatus ch) 3

/-- The modes in which a Gulric may send a Waybill (R368). -/
def stlMode (d : Dev) : Bool := d.mode == modeStandby || d.mode == modeActive || d.mode == modeMaintenance

def stlVersion (d : Dev) : Nat := d.fldR Reg.stlStatus 8 4
def stlVmaxOwn (d : Dev) : Nat := d.fldR Reg.stlVmax 0 4

/-! Entries and tables (R362, R363). -/

def seSeat (e : Nat) : Nat := fld e 0 6
def seBase (e : Nat) : Nat := fld e 6 8
def seOwner (e : Nat) : Nat := fld e 19 5
def seKind (e : Nat) : Nat := fld e 24 2
def seChan (e ch : Nat) : Bool := bitOf e (26 + ch)
def seGroup (e : Nat) : Nat := fld e 28 4

def divCodes : List Nat := [1, 2, 3, 4, 5, 6, 8, 10, 12, 15, 16, 20, 24, 30, 40, 48, 60, 80, 120, 240]
def seDiv (e : Nat) : Nat := nth 0 divCodes (fld e 14 5)

/-- Whether an entry is a seat of a leg of the route on a channel. -/
def seApplies (e leg seat ch : Nat) : Bool := seSeat e == seat && seDiv e != 0 && leg % seDiv e == seBase e && seChan e ch

def stlBank (d : Dev) : Nat := b2n (d.bitR Reg.stlTblCtrl 1)

/-- The first `n` entries of a bank. -/
def bankEntries (d : Dev) (b n : Nat) : List Nat := (List.range n).map (fun i => d.rn (Reg.stlTblEntry b i))

/-- The table in force. -/
def ownTable (d : Dev) : List Nat := bankEntries d (stlBank d) d.stl.count

/-- The table that waits in the other bank. -/
def nextTable (d : Dev) : List Nat := bankEntries d (1 - stlBank d) (d.fldR Reg.stlTblCount 0 9)

def seRange (e : Nat) : Bool :=
  seSeat e == 0 || 47 < seSeat e || seDiv e == 0 || seDiv e ≤ seBase e || seKind e == 3 || seOwner e == 30 ||
    fld e 26 2 == 0 || (seKind e != 2 && seGroup e != 0)

/-- Two entries that meet in a leg on a channel. -/
def seMeet (a b : Nat) : Bool :=
  seSeat a == seSeat b && (fld a 26 2 &&& fld b 26 2) != 0 &&
    seBase a % Nat.gcd (seDiv a) (seDiv b) == seBase b % Nat.gcd (seDiv a) (seDiv b)

/-- REASON and INDEX of a table for a switch at route count `r` of the cycle, or (0, 0) (R363). -/
def tblReason (d : Dev) (t : List Nat) (r : Nat) : Nat × Nat :=
  let es := (List.range t.length).map (fun i => (i, nth 0 t i))
  match es.find? (fun p => seRange p.2) with
  | some p => (1, p.1)
  | none => match es.find? (fun p => es.any (fun q => q.1 != p.1 && seMeet p.2 q.2)) with
  | some p => (2, p.1)
  | none => match es.find? (fun p => (seKind p.2 == 0) == (seOwner p.2 == 31)) with
  | some p => (3, p.1)
  | none =>
    if 488 < t.length then (4, 488)
    else
      let ahead := (r + 2 ^ 20 - d.tim.absRoute % 2 ^ 20) % 2 ^ 20
      if ahead < 2 || 2 ^ 19 ≤ ahead || d.stl.verRoute.isSome then (5, 0) else (0, 0)

/-- A request for a switch to a table: announced, or refused (R363). The answer is REASON and INDEX. -/
def tblAskOf (t : List Nat) (r : Nat) (d : Dev) : Dev × (Nat × Nat) :=
  let x := tblReason d t r
  if x.1 ≠ 0 then ((d.wn Reg.stlTblStatus (1 + x.1 * 16 + x.2 * 65536)).emit (.infoEvent 363), x)
  else (((d.wn Reg.stlTblStatus 0).setF Reg.stlTblCtrl 8 20 r |>.setB Reg.stlTblCtrl 0).setB Reg.stlStatus 31, x)

/-- A request for a switch to the table of the inactive bank. -/
def tblAsk (r : Nat) (d : Dev) : Dev × (Nat × Nat) := tblAskOf (nextTable d) r d

/-- The owner that a jump seat's entry carries in a leg (R375). -/
def carriedOwner (d : Dev) (i leg : Nat) : Nat :=
  match tfind d.stl.owners i with
  | some (a, b, l) => if leg < l then a else b
  | none => 31

/-- A table as this module's Waybill carries it (R374). -/
def carryTable (d : Dev) (t : List Nat) (leg : Nat) : List Nat :=
  (List.range t.length).map (fun i =>
    let e := nth 0 t i
    if seKind e = 2 then putFld e 19 5 (carriedOwner d i leg) else e)

/-! Waybills at the node (R358, R360, R367). -/

/-- A Waybill's place in the cycle of legs. -/
def wbPos (w : Waybill) : Nat := w.route * 240 + w.leg
def legCycle : Nat := 2 ^ 20 * 240

/-- Whether a second Waybill is consistent with a first, `n` legs later. -/
def wbFollows (a b : Waybill) (n : Nat) : Bool := wbPos b == (wbPos a + n) % legCycle
def wbConsistent (a b : Waybill) : Bool := b.dev.natAbs ≤ 200 && wbFollows a b 1 && b.activeEpoch == a.activeEpoch

/-- The rank of this module as a master (R360). -/
def myRank (d : Dev) : Nat := if brcRole d = roleActive then 3 else 2

/-- STL_STATUS.MASTER. -/
def masterUpd (d : Dev) : Dev := d.putB Reg.stlStatus 2 ((stlN d 0).master || (stlN d 1).master)

/-- The module sees a channel again, or loses sight of it (R353). -/
def chanSeen (ch : Nat) (seen : Bool) (d : Dev) : Dev :=
  let n := stlN d ch
  if n.down = !seen then d
  else
    let d := setStlN ch { n with down := !seen } d
    if seen then
      let d := raise 313 none ch 0 d
      if (stlN d (1 - ch)).down then d else clearCond 312 d
    else setCond 312 ch d

/-- The state that a valid Waybill leads to. -/
def wbState (d : Dev) (ch : Nat) (w : Waybill) : Nat :=
  let st := nState d ch
  if st = nListen then nIntegrating
  else if st = nCold then (if w.node = selfNode d then nSync else nIntegrating)
  else if st = nIntegrating then
    (match (stlN d ch).last with | some l => if wbConsistent l w then nSync else nIntegrating | none => nIntegrating)
  else if 200 < w.dev.natAbs then nIntegrating else nSync

/-- What a node in SYNC discards: a Waybill on time whose LEG or ROUTE is not the leg's (R358). -/
def wbAstray (d : Dev) (ch : Nat) (w : Waybill) : Bool :=
  nState d ch == nSync && w.dev.natAbs ≤ 200 && (match (stlN d ch).last with
    | some l => !wbFollows l w (d.tim.absLeg - (stlN d ch).lastLeg)
    | none => false)

/-- The owners of jump seats that a Waybill of another master carries. -/
def ownersOf (t : List Nat) : Tbl (Nat × Nat × Nat) :=
  ((List.range t.length).filter (fun i => seKind (nth 0 t i) == 2 && seOwner (nth 0 t i) != 31)).map (fun i =>
    (i, seOwner (nth 0 t i), seOwner (nth 0 t i), 0))

/-- What a valid Waybill leaves in the node. -/
def wbTake (ch : Nat) (w : Waybill) (d : Dev) : Dev :=
  let n := stlN d ch
  let me := selfNode d
  let leg := d.tim.absLeg
  let es := w.entries.map (fun x => x.toNat)
  let n := { n with last := some w, lastLeg := leg, missed := 0, master := w.node == me,
                    takeFrom := if w.handover then (if w.nextMaster = me then some (leg + 1) else none) else n.takeFrom }
  let n := if n.master then n else { n with backup := false, hand := none }
  let n := if w.short then n
    else if w.pendTable then { n with pend := some (w.tableEpoch, es, w.switchRoute.getD 0) }
    else { n with table := some (w.tableEpoch, es) }
  let d := setStlN ch n d
  let d := if w.node ≠ me && !w.short && !w.pendTable then { d with stl := { d.stl with owners := ownersOf es } } else d
  -- R372: a master that hears a better one on the other channel hands over its own
  let o := stlN d (1 - ch)
  if o.master && w.node ≠ me && o.hand.isNone && (myRank d < w.rank || (w.rank == myRank d && w.node < me)) then
    setStlN (1 - ch) { o with hand := some (leg + 1, w.node) } d
  else d

/-- The registers that follow a Waybill. -/
def wbShow (ch : Nat) (w : Waybill) (d : Dev) : Dev :=
  let d := (d.setF (Reg.stlNStatus ch) 4 5 w.node).setF (Reg.stlNStatus ch) 16 8 w.leg
  let d := if d.fldR Reg.stlStatus 16 5 = w.node then d
    else raise 316 none w.node 0 (d.setF Reg.stlStatus 16 5 w.node)
  let d := d.setF Reg.stlStatus 8 4 w.version
  let ver := w.switchRoute.isSome && w.nextVersion != w.version
  let d := if ver then { d.setF Reg.stlStatus 12 4 w.nextVersion with stl := { d.stl with verRoute := w.switchRoute } } else d
  masterUpd (d.putB Reg.stlStatus 31 (w.switchRoute.isSome || d.bitR Reg.stlTblCtrl 0))

/-- A Waybill reaches the node in seat 0 (R326, R355, R358, R367). A Waybill of a version above the node's own gives it its timing, so that
it may integrate and report VMAX (R382; log 41). -/
def waybillRx (ch : Nat) (w : Waybill) (d : Dev) : Dev :=
  if !stlOn d || nState d ch = nOff then d
  else if !w.crcOk then d.bump (Reg.stlNCrcErr ch)
  else if w.seat ≠ 0 || wbAstray d ch w then d
  else
    let d := if w.active && w.node ≤ 1 && w.node ≠ selfNode d && claimWins d w.node w.term then termLost roleResync d else d
    let st := wbState d ch w
    let d := if nState d ch = nSync && st = nIntegrating then d.bump (Reg.stlNReint ch) else d
    chanSeen ch true (wbShow ch w (wbTake ch w (setNState ch st d)))

/-- After 8 legs without a valid Waybill (R353, R367). -/
def waybillLoss (ch : Nat) (d : Dev) : Dev :=
  let n := stlN d ch
  if !stlOn d || n.missed < 8 || nState d ch < nIntegrating then d
  else
    let d := setStlN ch { n with master := false, backup := false, hand := none, takeFrom := none, since := d.tim.absTick } d
    masterUpd (chanSeen ch false (setNState ch nListen d))

/-! Sending Waybills (R361, R368 to R372). -/

/-- The Waybill that this module sends now: type, header, fixed part, entries. -/
def waybillWords (ch : Nat) (short : Bool) (offset : Nat) (d : Dev) : List Nat :=
  let n := stlN d ch
  let leg := d.tim.absLeg
  let r := d.tim.absRoute % 2 ^ 20
  let sw := d.fldR Reg.stlTblCtrl 8 20
  let ann := d.bitR Reg.stlTblCtrl 0
  let pend := ann && leg % 2 == 1 && (r + 1) % 2 ^ 20 == sw && !n.backup
  let es := if short then []
    else if pend then carryTable d (nextTable d) leg
    else if n.backup then (match n.table with | some t => carryTable d t.2 leg | none => [])
    else carryTable d (ownTable d) leg
  let epoch := d.rn Reg.stlTblEpoch
  let ep := match n.backup, n.table with | true, some t => t.1 | _, _ => epoch
  let act := brcRole d == roleActive
  let (ho, nm) := match n.hand with | some (l, x) => if l = leg then (true, x) else (false, 31) | none => (false, 31)
  [if short then 2 else 1, stlVersion d, selfNode d, 0, leg % 240, 0, 96 + 4 * es.length, r, d.rn Reg.brcTerm,
    b2n (d.mode == modeMaintenance) + 2 * b2n act, tickCodeOf (leg * 16), d.tim.sec, myRank d,
    b2n (timState d == tsLocked) + 2 * b2n ho + 4 * b2n pend, nm, d.fldR Reg.stlStatus 12 4,
    (match d.stl.verRoute with | some v => v + 2 ^ 23 | none => if ann then sw + 2 ^ 23 else 0),
    d.rn Reg.stlBackup, es.length, if pend then (epoch + 1) % 2 ^ 32 else ep, ep, offset] ++ es

/-- Whether the module may send seat 0 at all. -/
def mayMaster (d : Dev) : Bool := stlOn d && stlMode d && !isFenced d

/-- Rule 1 of R370: a module that has become ACTIVE takes seat 0 from a master of a lower term, in the first leg that begins after
(11 R345). -/
def claimsSeat0 (d : Dev) (ch : Nat) : Bool :=
  brcRole d == roleActive && d.brc.fromLeg ≤ d.tim.absLeg && (match (stlN d ch).last with
    | some l => 2 ≤ l.rank && l.node != selfNode d && l.term < d.rn Reg.brcTerm
    | none => false)

/-- A Waybill leaves. -/
def sendWaybill (ch : Nat) (short : Bool) (offset : Nat) (d : Dev) : Dev :=
  let w := waybillWords ch short offset d
  setStlN ch { stlN d ch with txLeg := some d.tim.absLeg } (d.emit (.stl ch 0 w))

/-- The master's Waybill of the leg (R361, R370, R372); with none due nothing is sent. -/
def waybillTx (ch : Nat) (d : Dev) : Dev :=
  let n := stlN d ch
  let leg := d.tim.absLeg
  let late : Bool := match n.hand with | some (l, _) => decide (l < leg) | none => false
  let due := n.master || nState d ch == nCold || claimsSeat0 d ch || (match n.takeFrom with | some l => decide (l ≤ leg) | none => false)
  if !mayMaster d || n.txLeg = some leg then d
  else if late then masterUpd (setStlN ch { n with master := false, hand := none } d)
  else if !due then d
  else
    let n' := if nState d ch = nCold then n else { n with master := true, takeFrom := none }
    masterUpd (sendWaybill ch false 0 (setStlN ch n' d))

/-- The first Waybill of a cold start (R368). -/
def coldStart (ch : Nat) (d : Dev) : Dev :=
  let wait := if selfNode d = 0 then 32 else 64
  if !mayMaster d || !d.bitR Reg.stlCtrl 2 || nState d ch ≠ nListen || d.tim.absLeg * 16 < (stlN d ch).since + wait then d
  else sendWaybill ch false 0 (raise 317 none ch 0 (setNState ch nCold d))

/-- The place of this node among the backup positions, from 1. -/
def backupPos (l : List Nat) (me : Nat) : Option Nat := ((List.range 4).find? (fun k => nth 31 l k == me)).map (fun k => k + 1)

/-- A backup position sends a short Waybill and is master from the next leg (R341, R371). -/
def backupWaybill (ch : Nat) (heard : Bool) (d : Dev) : Dev :=
  let n := stlN d ch
  match n.last with
  | none => d
  | some l => match backupPos l.backup (selfNode d) with
    | none => d
    | some k =>
      if !mayMaster d || !d.bitR Reg.stlCtrl 3 || nState d ch ≠ nSync || heard || n.missed = 0 || n.lastLeg = d.tim.absLeg ||
          (brcRole d ≠ roleActive && brcRole d ≠ roleStandby) || n.txLeg = some d.tim.absLeg then d
      else masterUpd (sendWaybill ch true (k * 2560) (setStlN ch { n with master := true, backup := true } d))

/-! Seats (R364, R366, R282, R352, R383). -/

/-- The bus's leg of the route on a channel, by the last Waybill. -/
def busPos (d : Dev) (ch : Nat) : Nat :=
  match (stlN d ch).last with
  | some l => (wbPos l + (d.tim.absLeg - (stlN d ch).lastLeg)) % legCycle
  | none => d.tim.absLeg % legCycle

/-- The entry of the received table in force for a seat of this leg (R362, R364). -/
def seatEntry (d : Dev) (ch seat : Nat) : Option Nat :=
  match (stlN d ch).table, (stlN d ch).last with
  | some (ep, es), some l => if ep = l.activeEpoch then es.find? (fun e => seApplies e (busPos d ch % 240) seat ch) else none
  | _, _ => none

/-- Whether this module may send in an entry's seat. -/
def ownsSeat (d : Dev) (e : Nat) : Bool :=
  (seKind e == 0 && seOwner e == selfNode d) || (seKind e == 2 && seOwner e == selfNode d && stlVersion d == 2) || seKind e == 1

/-- Whether this module's trip seats of the present leg are sent: on the active from the first leg after it became so, and on the old active
of a planned switch-over in the leg it still serves (11 R344 to R346). -/
def tripTx (d : Dev) : Bool :=
  (pubTx d && (brcRole d != roleActive || d.brc.fromLeg ≤ d.tim.absLeg)) || (d.enabled Reg.pubCtrl && d.brc.grace == some d.tim.absLeg)

/-- The module's frame in a seat (R282, R366): the output image in a trip seat, the Livery's payload in another; none while the version in
use is above the module's own (R382). -/
def seatTx (ch seat prio : Nat) (payload : List Nat) (d : Dev) : Dev :=
  match seatEntry d ch seat with
  | none => d
  | some e =>
    let trip := isTripSeat d seat
    if !stlOn d || nState d ch ≠ nSync || !loopOk d ch || !ownsSeat d e || stlVmaxOwn d < stlVersion d || (trip && !tripTx d) then d
    else
      let pay := if trip then tripPayload d seat else payload
      let hdr := [3, stlVersion d, selfNode d, seat, busPos d ch % 240, if seKind e = 1 then prio else 0,
        if trip then 2048 else payload.length, busPos d ch / 240, d.rn Reg.brcTerm,
        b2n (d.mode == modeMaintenance) + 2 * b2n (brcRole d == roleActive)]
      let d := d.emit (.stl ch seat (hdr ++ pay))
      if trip && !d.stl.tripSent.contains seat then { d with stl := { d.stl with tripSent := seat :: d.stl.tripSent } } else d

/-- A seat frame reaches the node: its first valid copy is taken (R352, R355, R358). -/
def seatRx (ch : Nat) (f : SeatFrame) (d : Dev) : Dev :=
  if !stlOn d || nState d ch < nIntegrating then d
  else if !f.crcOk then d.bump (Reg.stlNCrcErr ch)
  else if stlVmaxOwn d < f.version || f.seat = 0 || 47 < f.seat || f.route * 240 + f.leg ≠ busPos d ch then d
  else
    let n := stlN d ch
    let d := setStlN ch { n with acks := f.seat :: n.acks.filter (fun s => s != f.seat) } d
    if d.stl.got.contains f.seat then d
    else
      let d := { d with stl := { d.stl with rx := tput d.stl.rx f.seat f.payload, got := f.seat :: d.stl.got,
                                            fresh := f.seat :: d.stl.fresh.filter (fun s => s != f.seat) } }
      match seatEntry d ch f.seat with
      | some e => if seKind e = 1 then d.emit (.note 373 (f.node :: f.prio :: f.payload)) else d
      | none => d

/-- Bit `i` of a payload. -/
def payBit (p : List Nat) (i : Nat) : Bool := bitOf (nth 0 p (i / 8)) (i % 8)

/-- A bit of a carriage's Stageline inputs (07 R212). -/
def setSBit (c pos : Nat) (b : Bool) (d : Dev) : Dev :=
  setLive c (0x540 + pos / 32) (putFld (liveW d c (0x540 + pos / 32)) (pos % 32) 1 (b2n b)) d

def setSBits (c : Nat) : Nat → List Bool → Dev → Dev
  | _, [], d => d
  | p, b :: bs, d => setSBits c (p + 1) bs (setSBit c p b d)

def imBank (d : Dev) : Nat := b2n (d.bitR Reg.stlImapCtrl 1)

/-- Valid entries of a bank of the input map: index and words. -/
def imEntries (d : Dev) (b : Nat) : List (Nat × Nat × Nat) :=
  d.regs.filterMap (fun p =>
    let i := (p.1 - Reg.stlImapW0 b 0) / 8
    if Reg.stlImapW0 b 0 ≤ p.1 && i < 4096 && p.1 == Reg.stlImapW0 b i && bitOf p.2.toNat 31 then
      some (i, p.2.toNat, d.rn (Reg.stlImapW1 b i))
    else none)

def imN (w : Nat) : Nat := fld w 21 5 + 1

/-- One entry at a freeze. -/
def imFill (w0 w1 : Nat) (d : Dev) : Dev :=
  let c := fld w1 0 9
  let seat := fld w0 0 6
  let new := d.stl.fresh.contains seat
  if bitOf w0 6 then setSBits c (fld w1 9 12) (List.replicate (imN w0) new) d
  else if new then
    let p := tget [] d.stl.rx seat
    setSBits c (fld w1 9 12) ((List.range (imN w0)).map (fun k => payBit p (fld w0 7 14 + k))) d
  else d

/-- The Stageline inputs at the start of a Harness tick, before the freeze (R383). -/
def stlFreeze (d : Dev) : Dev :=
  let d := (imEntries d (imBank d)).foldl (fun d p =>
    if (tfind d.cars (fld p.2.2 0 9)).isSome then imFill p.2.1 p.2.2 d else d) d
  { d with stl := { d.stl with fresh := [] } }

/-- REASON and INDEX of a bank of the input map (R383). -/
def imReason (d : Dev) (b : Nat) : Nat × Nat :=
  let es := imEntries d b
  let r1 (p : Nat × Nat × Nat) : Bool :=
    fld p.2.1 0 6 == 0 || 47 < fld p.2.1 0 6 || 16384 < fld p.2.1 7 14 + imN p.2.1 || 4096 < fld p.2.2 9 12 + imN p.2.1
  let r2 (p : Nat × Nat × Nat) : Bool := match tfind d.cars (fld p.2.2 0 9) with
    | some k => !k.img.seats.contains (fld p.2.1 0 6)
    | none => true
  let meet (p q : Nat × Nat × Nat) : Bool :=
    fld p.2.2 0 9 == fld q.2.2 0 9 && fld p.2.2 9 12 < fld q.2.2 9 12 + imN q.2.1 && fld q.2.2 9 12 < fld p.2.2 9 12 + imN p.2.1
  let bench (s : Nat) : Bool := (ownTable d).any (fun e => seSeat e == s && seKind e == 1)
  match es.find? r1 with
  | some p => (1, p.1)
  | none => match es.find? r2 with
  | some p => (2, p.1)
  | none => match es.find? (fun p => es.any (fun q => q.1 != p.1 && meet p q)) with
  | some p => (3, p.1)
  | none => match es.find? (fun p => bench (fld p.2.1 0 6)) with
  | some p => (4, p.1)
  | none => (0, 0)

/-- The exchange of input-map banks at a route boundary. -/
def imSwap (d : Dev) : Dev :=
  if !d.bitR Reg.stlImapCtrl 0 then d
  else
    let d := d.clrB Reg.stlImapCtrl 0
    let b := 1 - imBank d
    let r := imReason d b
    if r.1 ≠ 0 then d.wn Reg.stlImapStatus (1 + r.1 * 16 + r.2 * 65536)
    else (d.wn Reg.stlImapStatus 0).putB Reg.stlImapCtrl 1 (b == 1)

/-- Whether a seat is an exclusive seat of this module in the table in force (09 R284). -/
def exclSeat (d : Dev) (s : Nat) : Bool := (ownTable d).any (fun e => seSeat e == s && seKind e == 0 && seOwner e == selfNode d)

/-! Status frames and claims (R359, R365, R366, R372, R375, R376). -/

/-- Whether the ACTIVE module asks a master of RANK 1 for the channel (R372). -/
def asksMaster (d : Dev) (ch : Nat) : Bool :=
  brcRole d == roleActive && (match (stlN d ch).last with | some l => l.rank == 1 | none => false)

/-- The seats received in the leg, one bit each. -/
def ackBits (n : StlNode) : Nat := ((List.range 48).map (fun s => if n.acks.contains s then 2 ^ s else 0)).sum

/-- The module's status frame (R366). -/
def statusTx (ch : Nat) (d : Dev) : Dev :=
  if !stlOn d || nState d ch ≠ nSync then d
  else
    let st := nSync + 8 * b2n (loopOk d ch) + 16 * brcRole d + 128 * b2n (asksMaster d ch)
    d.emit (.stl ch 48 [4, selfNode d, st, stlVmaxOwn d, 0, 0, 0, ackBits (stlN d ch), d.rn Reg.brcTerm])

/-- A status frame's echo reaches the node. -/
def statusRx (ch : Nat) (f : StatusFrame) (d : Dev) : Dev :=
  if !stlOn d || nState d ch < nIntegrating then d
  else if !f.crcOk then d.bump (Reg.stlNCrcErr ch)
  else
    let d := if f.node = selfNode d then
        let loop : Int := (d.rn (Reg.stlNLoop ch) : Int) + f.arrival * 1000
        (d.wn (Reg.stlNLoop ch) (wrapN 32 loop)).putB (Reg.stlNStatus ch) 3 (f.arrival.natAbs ≤ 20)
      else d
    let q := (f.claimOp, f.node, f.claimIdx)
    let d := { d with stl := { d.stl with
      vmax := tput d.stl.vmax f.node (f.vmax, d.tim.absRoute), heard := tput d.stl.heard f.node d.tim.absLeg,
      acked := d.stl.acked ++ f.acks.map (fun s => (s, f.node)),
      claimQ := if f.claimOp = 0 || d.stl.claimQ.contains q then d.stl.claimQ else d.stl.claimQ ++ [q] } }
    let n := stlN d ch
    if f.masterReq && n.master && f.node ≠ selfNode d && n.hand.isNone then
      setStlN ch { n with hand := some (d.tim.absLeg + 1, f.node) } d
    else d

/-- The owner an entry will have once every claim taken has taken effect. -/
def ownerNext (d : Dev) (i : Nat) : Nat := match tfind d.stl.owners i with | some (_, b, _) => b | none => 31

def setOwner (i o : Nat) (d : Dev) : Dev :=
  let leg := d.tim.absLeg
  { d with stl := { d.stl with owners := tput d.stl.owners i (carriedOwner d i (leg + 1), o, leg + 2) } }

/-- A release of a jump seat. -/
def claimRelease (node i : Nat) (d : Dev) : Dev :=
  if ownerNext d i = node then raise 319 none node i (setOwner i 31 d) else d

/-- A claim against a table. -/
def claimTake (t : List Nat) (node i : Nat) (d : Dev) : Dev :=
  let held := ((tkeys d.stl.owners).filter (fun k => ownerNext d k == node)).length
  if seKind (nth 0 t i) = 2 && i < t.length && ownerNext d i == 31 && held < 4 then raise 318 none node i (setOwner i node d) else d

/-- The master takes the releases and then the claims of a leg, and releases the seats of absent nodes (R375, R376). -/
def claimProcess (d : Dev) : Dev :=
  let q := d.stl.claimQ
  let d := { d with stl := { d.stl with claimQ := [] } }
  if !((stlN d 0).master || (stlN d 1).master) || stlVersion d ≠ 2 then d
  else
    let last := d.tim.absLeg % 240 == 239 && d.bitR Reg.stlTblCtrl 0 && (d.tim.absRoute + 1) % 2 ^ 20 == d.fldR Reg.stlTblCtrl 8 20
    let t := if last then nextTable d else ownTable d
    let d := (q.filter (fun x => x.1 == 2)).foldl (fun d x => claimRelease x.2.1 x.2.2 d) d
    let gone (n : Nat) : Bool := n != 31 && tget 0 d.stl.heard n + 8 ≤ d.tim.absLeg
    let d := (tkeys d.stl.owners).foldl (fun d i => if gone (ownerNext d i) then claimRelease (ownerNext d i) i d else d) d
    (isort (fun a b : Nat × Nat × Nat => a.2.1 ≤ b.2.1) (q.filter (fun x => x.1 == 1))).foldl
      (fun d x => claimTake t x.2.1 x.2.2 d) d

/-! The Guard (R365, R369, R370, R373, R378 to R381; 19 R581). -/

def gOff : Nat := 0
def gCold : Nat := 1
def gRun : Nat := 2
def gState (d : Dev) : Nat := if stlOn d && d.bitR Reg.stlCtrl 1 then d.fldR Reg.stlStatus 0 2 else gOff
def portSt (d : Dev) (p : Nat) : Nat := d.fldR (Reg.stlGPstat p) 0 2
def modGuard (f : StlGuard → StlGuard) (d : Dev) : Dev := { d with stl := { d.stl with guard := f d.stl.guard } }

/-- A violation of a port; the third of a route isolates it (R379). -/
def guardViol (p cause : Nat) (d : Dev) : Dev :=
  let n := min 3 (d.fldR (Reg.stlGPstat p) 2 2 + 1)
  let d := ((d.bump (Reg.stlGPviol p)).setF (Reg.stlGPstat p) 2 2 n).setF (Reg.stlGPstat p) 4 4 cause
  let d := raiseH 314 none p cause (p * 256) 0 d
  if n = 3 && portSt d p = 1 then raiseH 315 none p 0 (p * 256) 0 (d.setF (Reg.stlGPstat p) 0 2 2) else d

/-- The role that a port's status frame of the previous leg reported. -/
def roleSaid (d : Dev) (p : Nat) : Option Nat :=
  match tfind d.stl.guard.roles p with
  | some (l, r) => if l + 1 = d.tim.absLeg then some r else none
  | none => none

/-- Whether the role that a Gulric port reported bars it from seat 0 (R341, R370). -/
def barred (d : Dev) (p : Nat) : Bool :=
  p ≤ 1 && (match roleSaid d p with | some r => [roleNone, roleResync, roleFenced].contains r | none => false)

/-- The precedence of a source of seat 0 in RUN: class, and place within it; none where the Guard admits it under no class (R370). -/
def seat0Class (d : Dev) (p : Nat) (w : Waybill) : Option (Nat × Nat) :=
  match d.stl.guard.fwd with
  | none => none
  | some l =>
    let leg := d.tim.absLeg
    if barred d p then none
    else if p ≤ 1 && w.active && 2 ≤ l.rank && l.term < w.term then some (1, 2 ^ 32 - w.term)
    else if l.handover && d.stl.guard.fwdLeg + 1 = leg && l.nextMaster = p then some (2, 0)
    else if l.node = p && !w.short then some (3, 0)
    else if d.stl.guard.fwdLeg + 1 < leg && w.short && (1 < p || roleSaid d p = some roleStandby) then
      (backupPos l.backup p).map (fun k => (4, k))
    else none

/-- Whether source `a` of seat 0 stands above source `b`. -/
def stands (a b : Nat × Nat × Nat) : Bool :=
  a.1 < b.1 || (a.1 == b.1 && (a.2.1 < b.2.1 || (a.2.1 == b.2.1 && a.2.2 < b.2.2)))

/-- What the Guard forwards of a Waybill, a data frame and a status frame: header and payload (R358 to R360). -/
def fwdWaybill (w : Waybill) : List Nat :=
  [if w.short then 2 else 1, w.version, w.node, w.seat, w.leg, 0, 96 + 4 * w.entries.length, w.route, w.term, 2 * b2n w.active, w.rank,
    b2n w.locked + 2 * b2n w.handover + 4 * b2n w.pendTable, w.nextMaster, w.nextVersion,
    (match w.switchRoute with | some r => r + 2 ^ 23 | none => 0)] ++ w.backup ++
  [w.entries.length, w.tableEpoch, w.activeEpoch, w.offset] ++ w.entries.map (fun x => x.toNat)
def fwdSeat (f : SeatFrame) : List Nat :=
  [3, f.version, f.node, f.seat, f.leg, f.prio, f.payload.length, f.route, f.term, 2 * b2n f.active] ++ f.payload
def fwdStatus (f : StatusFrame) (arrival : Int) : List Nat :=
  [4, f.node, f.state + 8 * b2n f.loopOk + 16 * f.role + 128 * b2n f.masterReq, f.vmax, f.claimOp, f.claimIdx, wrapN 8 arrival,
    (f.acks.map (fun s => 2 ^ s)).sum, f.term]

/-- A Waybill forwarded: the Guard takes leg, table and master from it; two consistent ones from one node end COLD (R369, R378). -/
def guardForward (w : Waybill) (d : Dev) : Dev :=
  let ch := selfNode d
  let d := if gState d = gCold then
      (match d.stl.guard.fwd with
      | some l => if l.node = w.node && wbConsistent l w then d.setF Reg.stlStatus 0 2 gRun else d
      | none => d)
    else d
  let es := w.entries.map (fun x => x.toNat)
  let d := modGuard (fun g => { g with fwd := some w, fwdLeg := d.tim.absLeg, table := if w.short || w.pendTable then g.table else es }) d
  d.emit (.stl ch 0 (fwdWaybill w))

/-- The first of a list of conditions that holds, as its code (00_scope R587). -/
def firstCause : List (Bool × Nat) → Option Nat
  | [] => none
  | (b, c) :: l => if b then some c else firstCause l

/-- The leg of the route by the Guard's own count. -/
def guardLeg (d : Dev) : Nat := match d.stl.guard.fwd with
  | some l => (l.leg + (d.tim.absLeg - d.stl.guard.fwdLeg)) % 240
  | none => d.tim.absLeg % 240

/-- A Waybill at a port; `rivals` are the other starts that contend with it. Once a Waybill of a leg has been forwarded the others of the leg
are discarded without a violation (R370). -/
def guardWaybill (p slot : Nat) (off : Int) (inTime : Bool) (w : Waybill) (rivals : List (Nat × GuardPart)) (d : Dev) : Dev :=
  let others := rivals.filterMap (fun r => match r.2 with | .waybill x => some (r.1, x) | _ => none)
  if gState d = gCold then
    if bitOf (d.rn Reg.stlColdPorts) p && inTime && !others.any (fun r => r.1 < p && bitOf (d.rn Reg.stlColdPorts) r.1) then
      guardForward w d
    else d
  else
    let cls := seat0Class d p w
    let own := match cls with | some c => c.1 == 2 | none => false
    match firstCause [(slot ≠ 0 || (cls.isNone && 1 < p), 1), (!inTime, 2), (w.node != p, 3),
        (w.seat != 0 || (!own && w.leg != guardLeg d), 4), (!own && 40 < off.natAbs, 5), (cls.isNone, 7)] with
    | some c => guardViol p c d
    | none => match cls with
      | none => d
      | some c =>
        if d.stl.guard.fwdLeg = d.tim.absLeg || others.any (fun r => match seat0Class d r.1 r.2 with
          | some k => stands (k.1, k.2, r.1) (c.1, c.2, p)
          | none => false) then d
        else guardForward w d

/-- A data frame at a port (R373, R378). -/
def guardData (p slot : Nat) (off : Int) (inTime : Bool) (f : SeatFrame) (rivals : List (Nat × GuardPart)) (d : Dev) : Dev :=
  let ch := selfNode d
  if gState d ≠ gRun then d
  else
    let e := d.stl.guard.table.find? (fun e => seApplies e (guardLeg d) slot ch)
    let kind := match e with | some e => seKind e | none => 3
    let open' := match e with
      | some e => (kind == 1) || (kind == 0 && seOwner e == p) || (kind == 2 && seOwner e == p && stlVersion d == 2)
      | none => false
    let refused := p ≤ 1 && kind == 0 && (match roleSaid d p with | some r => r != roleActive && r != roleStandby | none => false)
    match firstCause [(!open', 1), (!inTime, 2), (f.node != p, 3), (f.seat != slot || f.leg != guardLeg d, 4), (40 < off.natAbs, 5),
        (kind == 1 && f.prio < d.fldR (Reg.stlGPcfg p) 8 8, 6), (refused, 7)] with
    | some c => guardViol p c d
    | none =>
      let beats (r : Nat × GuardPart) : Bool := match r.2 with
        | .data g => d.fldR (Reg.stlGPcfg r.1) 8 8 ≤ g.prio && (g.prio < f.prio || (g.prio == f.prio && g.node < f.node))
        | _ => false
      if kind = 1 && rivals.any beats then d
      else d.emit (.stl ch slot (fwdSeat f))

/-- A status frame at a port (R365). -/
def guardStatus (p slot : Nat) (off : Int) (inTime : Bool) (f : StatusFrame) (d : Dev) : Dev :=
  if gState d ≠ gRun then d
  else match firstCause [(slot != 48 + p, 1), (!inTime, 2), (f.node != p, 3), (100 < off.natAbs, 5)] with
    | some c => guardViol p c d
    | none =>
      let st := Reg.stlGPstat p
      let d := ((d.setF st 8 4 f.vmax).setF st 12 3 f.state).putB st 15 f.loopOk
      let d := modGuard (fun g => { g with roles := tput g.roles p (d.tim.absLeg, f.role) }) d
      d.emit (.stl (selfNode d) (48 + p) (fwdStatus f (clampMag 127 off)))

/-- A frame, or noise, at a port of the Guard: a port that is not UP and enabled forwards nothing and violates nothing
(R378, R379; 19 R581). `slot` is the part of the leg in which it starts: a seat, or 48 and the status slot. -/
def guardFrame (p slot : Nat) (off : Int) (inTime : Bool) (part : GuardPart) (rivals : List (Nat × GuardPart)) (d : Dev) : Dev :=
  if gState d = gOff || portSt d p ≠ 1 || !d.bitR (Reg.stlGPcfg p) 0 then d
  else match part with
    | .babble => if gState d = gRun then guardViol p 1 d else d
    | .waybill w => guardWaybill p slot off inTime w rivals d
    | .data f => guardData p slot off inTime f rivals d
    | .status f => guardStatus p slot off inTime f d

/-- After 8 legs without a forwarded Waybill (R369). -/
def guardCold (d : Dev) : Dev :=
  if gState d ≠ gRun || d.tim.absLeg < d.stl.guard.fwdLeg + 8 then d
  else modGuard (fun g => { g with fwd := none }) (d.setF Reg.stlStatus 0 2 gCold)

/-- An isolated port may speak again from the next leg (R380). -/
def askReadmit (p : Nat) (d : Dev) : Dev := modGuard (fun g => { g with readmit := g.readmit ++ [p] }) d

/-- Whether the Guard refuses a node-reset order for a port (R381). -/
def orderRefused (d : Dev) (p : Nat) : Bool := p ≤ 1 && (match tfind d.stl.guard.roles p with | some (_, r) => r == roleActive | none => false)

def askOrder (p : Nat) (d : Dev) : Dev := modGuard (fun g => { g with orders := g.orders ++ [p] }) d

/-! Boundaries. -/

/-- A check of Stageline fails in a proof exchange of the module that has become active (11 R349): 3 a trip seat not acknowledged, 4 a
Waybill missed. -/
def proofFail (bit : Nat) (d : Dev) : Dev :=
  match d.brc.proof with
  | some p => if p.begun && brcRole d = roleActive then
      { d with brc := { d.brc with proof := some { p with causes := putFld p.causes bit 1 1 } } } else d
  | none => d

/-- Trip seats of the leg that ends that a named node did not acknowledge (R385). -/
def ackCheck (d : Dev) : Dev :=
  d.stl.tripSent.foldl (fun d s =>
    if (tripNodes d s).all (fun n => d.stl.acked.contains (s, n)) then d
    else proofFail 3 (raise 322 none s 0 (d.bump Reg.stlAckMiss))) d

/-- A leg of the active in which no Waybill of its own went out (11 R349). -/
def waybillCheck (leg : Nat) (d : Dev) : Dev :=
  if leg < d.brc.fromLeg || [0, 1].any (fun ch => (stlN d ch).txLeg == some leg) then d else proofFail 4 d

/-- A node-reset order: sixteen control blocks of type 0x4B, O-code 0xF and three data octets, in status slots 30 and 31 (R381). -/
def nodeResetOrder : List Nat := (List.replicate 16 [0x4B, 0xF, 0x52, 0x53, 0x54]).flatten

/-- The Guard's work at the start of a leg: re-admissions and node-reset orders (R380, R381). -/
def guardLegWork (d : Dev) : Dev :=
  let g := d.stl.guard
  let d := modGuard (fun g => { g with readmit := [], orders := [] }) d
  let d := g.readmit.foldl (fun d p =>
    let d := d.setF (Reg.stlGPstat p) 2 2 0
    histPush 26 (3 + p * 256) 0 (if portSt d p = 2 then d.setF (Reg.stlGPstat p) 0 2 1 else d)) d
  g.orders.foldl (fun d p => histPush 26 (6 + p * 256) 0 (d.emit (.stl (selfNode d) 78 (p :: nodeResetOrder)))) d

/-- The start of a leg. -/
def stlLeg (d : Dev) : Dev :=
  let prev := d.tim.absLeg - 1
  let d := waybillCheck prev (ackCheck d)
  let d := [0, 1].foldl (fun d ch =>
    let n := stlN d ch
    let d := setStlN ch { n with acks := [], missed := if n.lastLeg = prev then 0 else n.missed + 1 } d
    if stlOn d && n.lastLeg ≠ prev then d.bump (Reg.stlNWbMiss ch) else d) d
  guardLegWork { d with stl := { d.stl with acked := [], tripSent := [], got := [] } }

/-- Claims that a new table keeps (R377). -/
def keepClaims (old new : List Nat) (o : Tbl (Nat × Nat × Nat)) : Tbl (Nat × Nat × Nat) :=
  o.filter (fun p =>
    let a := nth 0 old p.1
    let b := nth 0 new p.1
    p.1 < new.length && seKind b == 2 && seSeat a == seSeat b && seBase a == seBase b && seDiv a == seDiv b &&
      fld a 26 2 == fld b 26 2 && seGroup a == seGroup b)

/-- The announced table takes force (R363, R377). -/
def tblSwitch (d : Dev) : Dev :=
  if !d.bitR Reg.stlTblCtrl 0 || d.fldR Reg.stlTblCtrl 8 20 ≠ d.tim.absRoute % 2 ^ 20 then d
  else
    let old := ownTable d
    let new := nextTable d
    let b := 1 - stlBank d
    let d := ((d.clrB Reg.stlTblCtrl 0).putB Reg.stlTblCtrl 1 (b == 1)).clrB Reg.stlStatus 31
    let d := { d with stl := { d.stl with count := new.length, owners := keepClaims old new d.stl.owners } }
    raise 321 none 0 0 (d.wn Reg.stlTblEpoch (d.rn Reg.stlTblEpoch + 1))

/-- What the nodes do at the route of a table switch: a node without the pending table loses the one it held (R364). -/
def nodeSwitch (ch : Nat) (d : Dev) : Dev :=
  let n := stlN d ch
  let r := d.tim.absRoute % 2 ^ 20
  match n.pend with
  | some (ep, es, sw) => if sw = r then setStlN ch { n with table := some (ep, es), pend := none } d else d
  | none => match n.last with
    | some l => if l.switchRoute = some r && l.nextVersion = l.version then setStlN ch { n with table := none } d else d
    | none => d

/-- The version that an announcement brings, and the target that a master sets (R382). -/
def verRoute (d : Dev) : Dev :=
  let r := d.tim.absRoute % 2 ^ 20
  let d := if d.stl.verRoute = some r then
      let v := d.fldR Reg.stlStatus 12 4
      let d := (d.setF Reg.stlStatus 8 4 v).putB Reg.stlStatus 31 (d.bitR Reg.stlTblCtrl 0)
      let d := { d with stl := { d.stl with verRoute := none, owners := if v = 1 then [] else d.stl.owners } }
      raise 320 none v 0 d
    else d
  if !((stlN d 0).master || (stlN d 1).master) || d.bitR Reg.stlTblCtrl 0 || d.stl.verRoute.isSome then d
  else
    let vs := (d.stl.vmax.filter (fun p => d.tim.absRoute ≤ p.2.2 + 8)).map (fun p => p.2.1)
    let v := vs.foldl min (stlVmaxOwn d)
    if v = stlVersion d then d
    else ({ d with stl := { d.stl with verRoute := some ((r + 2) % 2 ^ 20) } }.setF Reg.stlStatus 12 4 v).setB Reg.stlStatus 31

/-- The route boundary: table and version switches, input-map banks, trip-seat map, and the Guard's counts (R379, R382, R383). -/
def stlRoute (d : Dev) : Dev :=
  let d := nodeSwitch 1 (nodeSwitch 0 (tblSwitch d))
  let d := (List.range 30).foldl (fun d p => d.setF (Reg.stlGPstat p) 2 2 0) d
  tsSwap (exclSeat d) (imSwap (verRoute d))

/-! The rows. -/

/-- WAYBILL_RX (R367) on a channel (0 A, 1 B). -/
def execWaybillRx (ch : Nat) (w : Waybill) (s : State) : Outcome := s.act (onlyIf (ch < 2) (waybillRx ch w))

/-- WAYBILL_TX (R361). -/
def execWaybillTx (ch : Nat) (s : State) : Outcome := s.act (onlyIf (ch < 2) (waybillTx ch))

/-- WAYBILL_LOSS (R367). -/
def execWaybillLoss (ch : Nat) (s : State) : Outcome := s.act (onlyIf (ch < 2) (waybillLoss ch))

/-- COLD_START_TIMEOUT (R368). -/
def execColdStartTimeout (ch : Nat) (s : State) : Outcome := s.act (onlyIf (ch < 2) (coldStart ch))

/-- BACKUP_WAYBILL (R371); `heard` says that a Waybill start has reached the node in this seat 0. -/
def execBackupWaybill (ch : Nat) (heard : Bool) (s : State) : Outcome := s.act (onlyIf (ch < 2) (backupWaybill ch heard))

/-- SEAT_TX (R366); `payload` and `prio` are the Livery's in a seat that is no trip seat. -/
def execSeatTx (ch seat prio : Nat) (payload : List Nat) (s : State) : Outcome :=
  s.act (onlyIf (ch < 2 && seat < 48 && prio < 256) (seatTx ch seat prio payload))

/-- SEAT_FRAME_RX (R352). -/
def execSeatFrameRx (ch : Nat) (f : SeatFrame) (s : State) : Outcome := s.act (onlyIf (ch < 2) (seatRx ch f))

/-- STATUS_FRAME_TX (R366). -/
def execStatusFrameTx (ch : Nat) (s : State) : Outcome := s.act (onlyIf (ch < 2) (statusTx ch))

/-- STATUS_FRAME_RX (R366). -/
def execStatusFrameRx (ch : Nat) (f : StatusFrame) (s : State) : Outcome := s.act (onlyIf (ch < 2) (statusRx ch f))

/-- CLAIM_PROCESS (R375). -/
def execClaimProcess (s : State) : Outcome := s.act claimProcess

/-- GUARD_FRAME (R378, R379). -/
def execGuardFrame (port slot : Nat) (off : Int) (inTime : Bool) (part : GuardPart) (rivals : List (Nat × GuardPart))
    (s : State) : Outcome := s.act (onlyIf (port < 30) (guardFrame port slot off inTime part rivals))

/-- GUARD_COLD_ENTRY (R369). -/
def execGuardColdEntry (s : State) : Outcome := s.act guardCold

/-- GUARD_PORT_UP (19 R581). -/
def execGuardPortUp (port : Nat) (s : State) : Outcome :=
  s.act (onlyIf (port < 30) (fun d => if portSt d port = 0 then d.setF (Reg.stlGPstat port) 0 2 1 else d))

/-- GUARD_PORT_DOWN (19 R581). -/
def execGuardPortDown (port : Nat) (s : State) : Outcome :=
  s.act (onlyIf (port < 30) (fun d => d.setF (Reg.stlGPstat port) 0 2 0))

/-- GUARD_READMIT (R380). -/
def execGuardReadmit (port : Nat) (s : State) : Outcome := s.act (onlyIf (port < 30) (askReadmit port))

/-- GUARD_NODE_RESET (R381). -/
def execGuardNodeReset (port : Nat) (s : State) : Outcome :=
  s.act (onlyIf (port < 30) (fun d => if orderRefused d port then d.emit (.infoEvent 381) else askOrder port d))

/-- STL_TABLE_ENTRY_WRITE (R387). -/
def execStlTableEntryWrite (bank index : Nat) (v : Word) (s : State) : Outcome :=
  s.act (onlyIf (bank < 2 && index < 488) (fun d =>
    if bank = stlBank d then d.emit (.infoEvent 387) else d.wr (Reg.stlTblEntry bank index) v))

/-- STL_TABLE_SWAP_REQUEST (R363). -/
def execStlTableSwapRequest (route : Nat) (s : State) : Outcome := s.act (onlyIf (route < 2 ^ 20) (fun d => (tblAsk route d).1))

/-- IMAP_SWAP_REQUEST (R383). -/
def execImapSwapRequest (s : State) : Outcome := s.act (fun d => d.setB Reg.stlImapCtrl 0)

/-- SYNC_EVENT (R386). -/
def execSyncEvent (k : Nat) (s : State) : Outcome :=
  s.act (onlyIf (k < 16) (fun d =>
    let w := d.rn (Reg.stlSyncCfg k)
    if bitOf w 31 && (fld w 0 8 == 255 || fld w 0 8 == d.tim.absLeg % 240) then raise 327 none k 0 (d.setB Reg.stlSyncEvt k) else d))

/-! Commands (13 R414, R419). -/

/-- Words written to consecutive registers. -/
def writeRegs (reg : Nat → Nat) : Nat → List Nat → Dev → Dev
  | _, [], d => d
  | i, w :: ws, d => writeRegs reg (i + 1) ws (d.wn (reg i) w)

/-- The first word of every entry past `n` of a map bank, so that none is VALID. -/
def mapClear (w0 : Nat → Nat) (n : Nat) (d : Dev) : Dev :=
  { d with regs := d.regs.filter (fun p => !(w0 n ≤ p.1 && p.1 < w0 4096)) }

/-- TRIPMAP's own part (09 R284). -/
def tripmapBody (data : List Word) (p : List Nat) (d : Dev) : Dev × Ans :=
  let n := entW p 3
  let b := 1 - tsBank d
  let d' := mapClear (Reg.pubTsmapW0 b) n (writeRegs (fun i => Reg.pubTsmapW0 b 0 + 4 * i) 0 (takePad 0 (2 * n) (data.map (fun w => w.toNat))) d)
  let r := tsReason d' b (exclSeat d')
  if r.1 ≠ 0 then (d, refA cBadParam r.1 0xFF r.2) else (d'.setB Reg.pubTsmapCtrl 0, okA [])

/-- STL_TABLE's own part (R363): the entries named are judged in the order of the REASONs, the count with them (00_scope R587); the bank holds
488. -/
def stlTableBody (data : List Word) (p : List Nat) (d : Dev) : Dev × Ans :=
  let n := entW p 3
  let t := takePad 0 n (data.map (fun w => w.toNat))
  let d := writeRegs (Reg.stlTblEntry (1 - stlBank d)) 0 (t.take 488) d
  let r := tblAskOf t (entW p 0) (if n ≤ 488 then d.setF Reg.stlTblCount 0 9 n else d)
  if r.2.1 ≠ 0 then (r.1, refA cBadParam r.2.1 (if r.2.1 = 4 then 3 else 0xFF) r.2.2) else (r.1, okA [])

/-- STL_IMAP's own part (R383). -/
def stlImapBody (data : List Word) (p : List Nat) (d : Dev) : Dev × Ans :=
  let n := entW p 3
  let b := 1 - imBank d
  let d' := mapClear (Reg.stlImapW0 b) n (writeRegs (fun i => Reg.stlImapW0 b 0 + 4 * i) 0 (takePad 0 (2 * n) (data.map (fun w => w.toNat))) d)
  let r := imReason d' b
  if r.1 ≠ 0 then (d, refA cBadParam r.1 0xFF r.2) else (d'.setB Reg.stlImapCtrl 0, okA [])

/-- A node number that a backup position may hold. -/
def backupBad (p : List Nat) : Option Nat :=
  if [0, 8, 16, 24].any (fun k => 29 < fld (entW p 0) k 5 && fld (entW p 0) k 5 != 31) then some 0 else none

/-- A command on a port of a Guard: on this module's channel it acts here, on the partner's it is forwarded (R419). -/
def portCmd (f : Nat → Dev → Dev × Ans) (kind : Nat) (p : List Nat) (d : Dev) : Dev × Ans :=
  let ch := selfNode d
  let port := entW p 0
  let r := if bitOf (entW p 1) ch then f port d else (d, okA [])
  if bitOf (entW p 1) (1 - ch) then
    if paired r.1 then (r.1.braceMsg 14 [kind, port], r.2) else (r.1, if r.2.st = cOk then noA cNotReady else r.2)
  else r

/-- A port and a channel. -/
def portRange (p : List Nat) : Option Nat := if 29 < entW p 0 then some 0 else if fld (entW p 1) 0 2 = 0 then some 1 else none

def nodeResetBody (port : Nat) (d : Dev) : Dev × Ans := if orderRefused d port then (d, noA cDenied) else (askOrder port d, okA [])

/-- TRIPMAP (09 R284); `data` is the entries at the address named, two words each. -/
def execCmdTripmap (h : Cmd) (data : List Word) (s : State) : Outcome :=
  s.act (runC ⟨0x305, false, [0, mAll, 0xFF, 0x1FFF], [1], above 3 4096⟩ (tripmapBody data) h)

/-- STL_TABLE (R363); `data` is the entries at the address named. -/
def execCmdStlTable (h : Cmd) (data : List Word) (s : State) : Outcome :=
  s.act (runC ⟨0x800, false, [0xFFFFF, mAll, 0xFF, 0x1FF], [1], noRange⟩ (stlTableBody data) h)

/-- STL_IMAP (R383); `data` is the entries at the address named, two words each. -/
def execCmdStlImap (h : Cmd) (data : List Word) (s : State) : Outcome :=
  s.act (runC ⟨0x801, false, [0, mAll, 0xFF, 0x1FFF], [1], above 3 4096⟩ (stlImapBody data) h)

/-- STL_BACKUP_SET (R371). -/
def execCmdStlBackupSet (h : Cmd) (s : State) : Outcome :=
  s.act (runC ⟨0x802, false, [0x1F1F1F1F], [], backupBad⟩ (fun p d => (d.wn Reg.stlBackup (entW p 0), okA [])) h)

/-- STL_READMIT (R380). -/
def execCmdStlReadmit (h : Cmd) (s : State) : Outcome :=
  s.act (runC ⟨0x803, false, [0x1F, 3], [], portRange⟩ (portCmd (fun p d => (askReadmit p d, okA [])) 0) h)

/-- STL_NODE_RESET (R381). -/
def execCmdStlNodeReset (h : Cmd) (s : State) : Outcome :=
  s.act (runC ⟨0x804, false, [0x1F, 3], [], portRange⟩ (portCmd nodeResetBody 1) h)

end Sys2Proof.Machine
end

