-- ==== Sys2Proof/Machine/Brace.lean ====
section
/-! DEFINITION. The Brace pair: the links, messages, what the standby receives, digests, state transfer, switch-over and the proof
exchange, with the Brace family of commands (11 R321 to R350; 09 R280, R281; 13 R418). -/

namespace Sys2Proof.Machine

def brcOn (d : Dev) : Bool := d.bitR Reg.brcCtrl 0
def orphan (d : Dev) : Bool := d.bitR Reg.brcStatus 9

/-! Links and lanes (R321, R323, R324). -/

def brcLinkUp (d : Dev) (l : Nat) : Bool := d.bitR (Reg.brcLStatus l) 0

/-- UP of a link, with LINKS_UP. -/
def setLink (l : Nat) (up : Bool) (d : Dev) : Dev := (d.putB (Reg.brcLStatus l) 0 up).putB Reg.brcStatus (4 + l) up

/-- The links are back while ORPHAN: the standby resynchronises at once (R324). -/
def orphanReturn (d : Dev) : Dev := if orphan d then enterResync d else d

/-- A link trains: a partner of another major version is not paired (R321). -/
def linkTraining (l version : Nat) (d : Dev) : Dev :=
  if !brcOn d then d
  else
    let lanes := 5 - (tget [] d.brc.lanes l).length
    let d := (setLink l true d).setF (Reg.brcLStatus l) 1 3 lanes
    if version / 65536 = d.rn Reg.brcVersion / 65536 then orphanReturn { d with brc := { d.brc with badVer := false } }
    else raise 307 none l version ({ d with brc := { d.brc with badVer := true } }.clrB Reg.brcStatus 3)

/-- A link goes down (R324). -/
def linkGone (l : Nat) (d : Dev) : Dev := if brcLinkUp d l then raise 298 none l 0 (setLink l false d) else d

/-- The spare lane that a link may still use. -/
def spareLane (d : Dev) (l : Nat) : Nat := d.fldR (Reg.brcLLanemap l) 12 3

/-- A lane is retired: the spare replaces it after retraining at the next leg boundary; without a spare the link runs on while two
lanes remain (R323; 18 R554, R555). -/
def laneRetire (l lane errs : Nat) (lost : Bool) (d : Dev) : Dev :=
  let d := d.bumpBy (Reg.brcLErr l) errs
  let gone := tget [] d.brc.lanes l
  if gone.contains lane || !(lost || d.fldR (Reg.brcLErrLim l) 0 16 < errs) then d
  else
    let d := { d with brc := { d.brc with lanes := tput d.brc.lanes l (lane :: gone) } }
    let left := 4 - gone.length
    let d := d.setF (Reg.brcLStatus l) 1 3 left
    let d := retiredEvent 4 (l * 5 + lane) (raise 299 none l lane d)
    let sp := spareLane d l
    if sp = lane then d.setF (Reg.brcLLanemap l) 12 3 7
    else if sp ≠ 7 && (tfind d.brc.retrain l).isNone then { d with brc := { d.brc with retrain := tput d.brc.retrain l lane } }
    else
      let d := raise 395 none 4 l d
      if left < 2 then linkGone l d else d

/-- Retraining begins at a leg boundary. -/
def retrainLeg (d : Dev) : Dev :=
  (tkeys d.brc.retrain).foldl (fun d l => (setLink l false d).setB (Reg.brcLStatus l) 5) d

/-- Retraining is complete: the spare carries the retired lane's data, and the kind has used its spare (R323; 18 R554). -/
def retrainDone (l : Nat) (d : Dev) : Dev :=
  match tfind d.brc.retrain l with
  | none => d
  | some lane =>
    if !d.bitR (Reg.brcLStatus l) 5 then d
    else
      let m := d.rn (Reg.brcLLanemap l)
      let sp := spareLane d l
      let d := [0, 1, 2, 3].foldl (fun d i =>
        if fld m (3 * i) 3 = lane then d.setF (Reg.brcLLanemap l) (3 * i) 3 sp else d) d
      let d := { d with brc := { d.brc with retrain := tdel d.brc.retrain l } }.setF (Reg.brcLLanemap l) 12 3 7
      let d := ((setLink l true d).clrB (Reg.brcLStatus l) 5).setB (Reg.brcLStatus l) 4
      let d := d.wn (Reg.rprKSpares 4) (d.rn (Reg.rprKSpares 4) - 1)
      orphanReturn (spareLow 4 (raise 393 none 4 (l * 5 + lane) d))

/-! Taking a message (R322, R326, R328). -/

def PeerStat.none : PeerStat := ⟨0, 0, 0, false, false, false, 0, 0, 0, []⟩

/-- A message that carries this module's own UNIT (R328). -/
def unitClash (h : BrcHdr) (d : Dev) : Dev :=
  let d := if d.brc.clash then d
    else raise 309 none h.unit 0 ({ d with brc := { d.brc with clash := true } }.clrB Reg.brcStatus 3)
  if brcRole d = roleActive then
    if h.role ≠ roleActive then d
    else if h.term = d.rn Reg.brcTerm then (if h.serial < Config.deviceSerial then termLost roleNone d else d)
    else if d.rn Reg.brcTerm < h.term then termLost roleResync d
    else d
  else if brcRole d = roleFenced then d
  else setBrcRole roleNone d

/-- What the partner last said of itself. -/
def peerSt (d : Dev) : PeerStat := match d.brc.peer with | some p => p.st | none => PeerStat.none

/-- The partner is present and paired (R324, R348). -/
def pairNow (d : Dev) : Dev :=
  if paired d || d.brc.badVer || d.brc.clash || !d.bitR Reg.brcCtrl 1 then d
  else
    let d := raise 296 none 0 0 ({ d with brc := { d.brc with proven := false } }.setB Reg.brcStatus 3)
    if brcRole d = roleStandby || brcRole d = roleResync then d.setB Reg.brcStatus 7 else d

/-- A Brace message: the first intact copy is taken, its header compared, and `f` is what its content does. -/
def brcTake (h : BrcHdr) (f : Dev → Dev) (d : Dev) : Dev :=
  if !brcOn d || 2 ≤ h.link || !brcLinkUp d h.link then d
  else if !h.crcOk then d.bump (Reg.brcLCrcErr h.link)
  else if d.brc.seq.contains h.seq then d.bump (Reg.brcLDup h.link)
  else
    let d := { d with brc := { d.brc with seq := (h.seq :: d.brc.seq).take 256, lastMsg := some d.tim.absTick } }
    if h.unit = selfNode d then unitClash h d
    else if d.brc.badVer then d
    else
      let d := { d with brc := { d.brc with peer := some ⟨h.role, h.term, h.serial, peerSt d⟩ } }
      let d := if h.role = roleActive && brcRole d = roleActive && claimWins d h.unit h.term then termLost roleResync d else d
      f (orphanReturn (pairNow d))

/-! Losing the partner (R324). -/

/-- No intact message for 2 legs. -/
def partnerLost (d : Dev) : Dev :=
  match d.brc.lastMsg with
  | none => d
  | some t =>
    if !brcOn d || d.tim.absTick < t + 32 then d
    else
      let d := raise 297 none 0 0 (d.clrB Reg.brcStatus 3)
      let d := { d with brc := { d.brc with lastMsg := none } }
      if brcRole d = roleStandby then { d with brc := { d.brc with orphanAt := some d.tim.absTick } }.setB Reg.brcStatus 9 else d

/-- ORPHAN ends without a Lantern timeout. -/
def orphanTimeout (d : Dev) : Dev :=
  match d.brc.orphanAt with
  | some t => if orphan d && t + d.fldR Reg.brcLtnTimeout 0 10 + 32 ≤ d.tim.absTick then enterResync d else d
  | none => d

/-! The standby's samples (R330 to R332). -/

/-- Models of the active in place of the module's own while `f` runs; the module's own fit is kept (04 R123). -/
def withModels (f : Dev → Dev) (d : Dev) : Dev :=
  let own := d.brc.models.map (fun p => (p.1, strm d p.1))
  let d := d.brc.models.foldl (fun d p =>
    let x := strm d p.1
    setStrm p.1 { x with nA := p.2.nA, a := p.2.a, dr := p.2.d, l := p.2.l, aSet := true, acq := p.2.kind == 3,
                         place := if p.2.kind = 1 then 1 else 2 } d) d
  own.foldl (fun d p => setStrm p.1 { strm d p.1 with
    nA := p.2.nA, a := p.2.a, dr := p.2.dr, l := p.2.l, aSet := p.2.aSet, acq := p.2.acq, place := p.2.place } d) (f d)

/-- Whether two cells differ in what the mirror carries. -/
def cellsDiffer (a b : SauCell) : Bool :=
  a.leg == b.leg && !(a.vals == b.vals && a.quals == b.quals && a.lead == b.lead && a.resid == b.resid && a.cnt == b.cnt &&
    a.flags % 8 == b.flags % 8)

/-- A cell without LATE_SEEN, which each module sets from its own late frames (04 R131). -/
def noLate (c : SauCell) : SauCell := { c with flags := putFld c.flags flLate 1 0 }

/-- The cells with a present sample of a store that differ from those of another in what the mirror carries. -/
def changedCells (new old : Tbl SauCell) : Tbl SauCell :=
  new.filter (fun p => bitOf p.2.flags flPresent && (tfind old p.1).map noLate != some (noLate p.2))

/-- LATE_SEEN of another store's cells taken over; a mark in a slot that holds nothing too. -/
def lateMerge (from' store : Tbl SauCell) : Tbl SauCell :=
  from'.foldl (fun t p =>
    if !bitOf p.2.flags flLate then t
    else match tfind t p.1 with
      | some c => if c.leg = p.2.leg then tput t p.1 { c with flags := putFld c.flags flLate 1 1 }
          else if bitOf p.2.flags flPresent then t else tput t p.1 p.2
      | none => if bitOf p.2.flags flPresent then t else tput t p.1 p.2) store

/-- A frame at the shadow: the module's own fit goes on, and the samples enter the check copy under the active's models (R331). Late
samples set LATE_SEEN in the store's slots, and the slips of the check copy count (04 R125, R130, R131). -/
def shadowFrame (port : Nat) (f : SvFrame) (d : Dev) : Dev :=
  let a := svFrame' port f { d with sau := { d.sau with store := [] } }
  let b := withModels (svFrame' port f) { d with sau := { d.sau with store := d.brc.check } }
  let c := withModels (svFrame' port f) d
  let who := if f.svid.length ≤ 64 && port < 10 then (svLookup (portGroup port) (svKey f) d).2 else none
  let a := match who with
    | some (i, _) => (a.wn (Reg.sauSSlips i) (b.rn (Reg.sauSSlips i))).wn (Reg.sauSLate i) (b.rn (Reg.sauSLate i))
    | none => a
  let n := ((changedCells b.sau.store d.brc.check).filter (fun p => match tfind d.sau.store p.1 with
    | some c => cellsDiffer p.2 c
    | none => false)).length
  { a with sau := { a.sau with store := lateMerge c.sau.store d.sau.store },
           brc := { a.brc with check := b.sau.store } }.bumpBy Reg.brcSampleDiff n

/-- A cell as a Brace message carries it. -/
def cellWords (key : Nat) (c : SauCell) : List Nat :=
  [key % 4096, c.leg, c.lead, wrapN 32 c.resid, c.cnt, c.flags % 8] ++ c.vals.map (wrapN 32) ++ c.quals

/-- An SV frame: on the active its accepted cells are mirrored; on the shadow it enters the check copy (R330, R331). -/
def svFrameAny (port : Nat) (f : SvFrame) (d : Dev) : Dev :=
  if isShadow d then shadowFrame port f d
  else if sendsMirror d then
    let d' := svFrame' port f d
    (changedCells d'.sau.store d.sau.store).foldl (fun d p => brcSend 0 (cellWords p.1 p.2) d) d'
  else svFrame' port f d

/-- The shadow declares a leg with the active's models. -/
def shadowDeclare (leg : Nat) (d : Dev) : Dev :=
  let d := withModels (declareLeg leg) d
  { d with brc := { d.brc with decl := none, got := d.brc.got.filter (fun p => leg < p.1),
                               check := d.brc.check.filter (fun p => leg ≤ p.2.leg + 2) } }

/-- The shadow declares a leg once its record and every cell that the record counts are there (R331). -/
def mirrorTry (d : Dev) : Dev :=
  match d.brc.decl with
  | some (leg, n) => if nextDeclare d = some leg && n ≤ tget 0 d.brc.got leg then shadowDeclare leg d else d
  | none => d

/-- One mirrored cell into the store, while its leg is open (04 R131); the module's own LATE_SEEN stays. -/
def mirrorCell (c : MirrorCell) (d : Dev) : Dev :=
  if isDeclared d c.leg then d
  else
  let k := cellKey c.leg c.row
  let held := match tfind d.sau.store k with | some y => if y.leg = c.leg then some y else none | none => none
  let late := match held with | some y => b2n (bitOf y.flags flLate) * 2 ^ flLate | none => 0
  let x : SauCell := ⟨c.leg, c.vals, c.quals, c.lead, c.resid, c.cnt, 1 + b2n c.slip * 2 ^ flSlip + late, 0⟩
  let new := match held with | some y => !bitOf y.flags flPresent | none => true
  let d := match tfind d.brc.check k with
    | some y => if cellsDiffer y x then d.bump Reg.brcSampleDiff else d
    | none => d
  let d := if new then { d with brc := { d.brc with got := tput d.brc.got c.leg (tget 0 d.brc.got c.leg + 1) } } else d
  setCell c.leg c.row x d

/-- MIRROR_CELLS at the shadow. -/
def mirrorCells (l : List MirrorCell) (d : Dev) : Dev :=
  if !isShadow d then d else mirrorTry (l.foldl (fun d c => mirrorCell c d) d)

/-- The declaration record at the shadow. -/
def declRecord (leg cells : Nat) (models : List ModelRec) (d : Dev) : Dev :=
  if !isShadow d then d
  else mirrorTry { d with brc := { d.brc with decl := some (leg, cells),
                                              models := models.foldl (fun t m => tput t m.entry m) [] } }

/-- The declaration record of the active for a leg (R330). -/
def sendDecl (leg : Nat) (d : Dev) : Dev :=
  let l := ((d.sau.entries).filter (fun p => 2 ≤ entState p.2)).map (fun p => p.1)
  let cells := (d.sau.store.filter (fun p => p.2.leg == leg && bitOf p.2.flags flPresent)).length
  brcSend 1 ([leg, l.length, cells] ++ l.flatMap (fun i =>
    let x := strm d i
    [i, wrapN 64 x.nA, wrapN 64 x.a, wrapN 64 x.dr, wrapN 64 x.l, modelCode x])) d

/-- LEG_DECLARE: the shadow declares by its record alone. -/
def legDeclare (d : Dev) : Dev :=
  if isShadow d then mirrorTry d
  else match nextDeclare d with
    | some leg => declareLeg leg (sendDecl leg d)
    | none => d

/-- A leg not mirrored in time is declared from the standby's own frames (R324, R332). -/
def unmirroredLeg (d : Dev) : Dev :=
  if !isShadow d then d
  else match nextDeclare d with
    | none => d
    | some leg =>
      let kept := d.sau.store.filter (fun p => p.2.leg != leg)
      let mine := d.brc.check.filter (fun p => p.2.leg == leg)
      let own := lateMerge (d.sau.store.filter (fun p => p.2.leg == leg)) (mine.foldl (fun t p => tput t p.1 p.2) kept)
      let d := { d with sau := { d.sau with store := own } }
      let d := raise 301 none leg 0 ((shadowDeclare leg d).bump Reg.brcUnmirroredCnt)
      if orphan d then d else if brcRole d = roleStandby then proofLost d else { d with brc := { d.brc with okLegs := 0 } }

/-! Hand-off, publication mirror, digests (R330, R333, R335, R336; 09 R280). -/

/-- The active's mirror after a hand-off of leg `n`. -/
def sendHandOff (n : Nat) (d : Dev) : Dev :=
  if !sendsMirror d then d
  else
    let d := brcSend 2 (n :: d.brc.done.flatMap (fun p => [p.1, p.2.1, p.2.2])) d
    let d := { d with brc := { d.brc with done := [] } }
    let live := (d.pub.ge.filter (fun p => geState p.2 == 1)).map (fun p => p.1)
    let d := brcSend 3 (n :: live.flatMap (fun i => [i, d.rn (Reg.pubGeStnum i), d.rn (Reg.pubGeSqnum i), (geRun d i).due - d.tim.absTick])) d
    let d := (dedup ((tsEntries d (tsBank d)).map (fun p => fld p.2.1 20 6))).foldl (fun d s => brcSend 4 (s :: tripPayload d s) d) d
    match d.brc.own with
    | some (leg, t) => brcSend 6 (leg :: t) d
    | none => d

/-- One entry of the mirror adopted; a difference counts (09 R280). -/
def adoptEntry (m : PubMirror) (d : Dev) : Dev :=
  let x := geRun d m.entry
  let due := d.tim.absTick + m.next
  if d.rn (Reg.pubGeStnum m.entry) = m.stNum && d.rn (Reg.pubGeSqnum m.entry) = m.sqNum && x.due = due then d
  else
    let d := raiseH 284 none m.entry 0 (m.entry * 65536) 0 (d.bump Reg.pubMirrorFix)
    setRun m.entry { x with due := due } ((d.wn (Reg.pubGeStnum m.entry) m.stNum).wn (Reg.pubGeSqnum m.entry) m.sqNum)

/-- The mirror of a leg adopted. -/
def adoptMirror (l : List PubMirror) (d : Dev) : Dev :=
  let d := (l.filter (fun m => m.entry < 2048)).foldl (fun d m => adoptEntry m d) d
  { d with pub := { d.pub with mirrored := true }, brc := { d.brc with mirror := none } }

/-- P2 items listed for legs up to `n` that have not been completed (R333). -/
def p2Missed (n : Nat) (d : Dev) : Dev :=
  let l := d.brc.p2.filter (fun p => p.1 ≤ n)
  { d with brc := { d.brc with p2 := d.brc.p2.filter (fun p => !(p.1 ≤ n)) } }.bumpBy Reg.brcP2Miss l.length

/-- The shadow after its own hand-off of leg `n`. -/
def shadowHandOff (n : Nat) (d : Dev) : Dev :=
  let d := if d.brc.handed.isSome && !d.pub.mirrored then raise 283 none 0 0 (d.bump Reg.pubMirrorMiss) else d
  let d := p2Missed (n - 2) { d with pub := { d.pub with mirrored := false } }
  match d.brc.mirror with
  | some (leg, l) => if leg = n then adoptMirror l d else d
  | none => d

/-- The leg of the hand-off of now: the one whose egress tick begins next, or whose Harness window it is (01 R15, R20). -/
def handLeg (d : Dev) : Nat :=
  match stageLeg d 3 with
  | some n => n
  | none => match (relLegs d 2).getLast? with
    | some (n, _) => n
    | none => d.sau.declared.getD d.tim.absLeg

/-- The hand-off of a leg, with the digest of leg n − 2 final and the mirror sent or adopted. -/
def handOffAll (d : Dev) : Dev :=
  let n := handLeg d
  let d := digFinal (n - 2) (noteOn n (handOff n d))
  let d := if isShadow d then shadowHandOff n d else sendHandOff n d
  { d with brc := { d.brc with handed := if isShadow d then some n else none } }

/-- PUBLICATION_MIRROR at the shadow. -/
def pubMirrorRx (leg : Nat) (l : List PubMirror) (d : Dev) : Dev :=
  if !isShadow d then d
  else if d.brc.handed = some leg then adoptMirror l d
  else { d with brc := { d.brc with mirror := some (leg, l) } }

/-- The first place at which two tables differ. -/
def firstDiff : Nat → List Nat → List Nat → Option Nat
  | _, [], [] => none
  | i, a :: l, b :: m => if a = b then firstDiff (i + 1) l m else some i
  | i, _, _ => some i

/-- The active's digests against the standby's own (R336); while ORPHAN nothing is compared (R324). -/
def digestRx (leg : Nat) (t : List Nat) (d : Dev) : Dev :=
  match d.brc.own with
  | none => d
  | some (l, mine) =>
    if !isShadow d || l ≠ leg || orphan d then d
    else match firstDiff 0 mine (takePad 0 512 t) with
      | none => ({ d with brc := { d.brc with okLegs := d.brc.okLegs + 1 } }).bump Reg.brcMatchRun
      | some c =>
        let d := (d.wn Reg.brcMismatchInfo (c + leg % 65536 * 65536)).bump Reg.brcMismatchCnt
        let d := raise 300 none c leg (d.wn Reg.brcMatchRun 0)
        if brcRole d = roleStandby then proofLost d else { d with brc := { d.brc with okLegs := 0 } }

/-! The configuration journal (R334). -/

/-- Parameter words of a forwarded command. -/
def fwdP (h : Cmd) : List Nat := takePad 0 13 (h.p.map (fun w => w.toNat))

/-- A forwarded command's effect. -/
def journalCmd (op : Nat) (h : Cmd) (data map : List Word) (img : Option CoachImage) (d : Dev) : Dev :=
  let p := fwdP h
  let c := h.carriage
  let r : Dev × Ans := match op with
    | 0x100 => (match img with | some i => createBody h i p d | none => (d, okA []))
    | 0x101 => destroyBody c d
    | 0x102 => enableBody c d
    | 0x103 => disableBody c d
    | 0x104 => resetBody c d
    | 0x105 => harnessModeBody c p d
    | 0x106 => programLoadBody c data p d
    | 0x10A => paramUpdateBody c data p d
    | 0x200 => streamLiveBody h data p d
    | 0x201 => streamChange 1 esLive p d
    | 0x202 => streamChange 2 esSuspended p d
    | 0x203 => streamRetire p d
    | 0x204 => streamGrant c p d
    | 0x205 => streamRevoke c p d
    | 0x207 => gsubCommitBody h data map p d
    | 0x300 => gpubCommitBody h data map p d
    | 0x301 => gpubStateBody h p d
    | 0x302 => svpubCommitBody h data p d
    | 0x303 => pmuCommitBody data p d
    | 0x304 => ((d.putB Reg.pubCtrl 2 (bitOf (entW p 0) 0)).putB Reg.pubPmuCtrl 0 (bitOf (entW p 0) 1), okA [])
    | 0x305 => tripmapBody data p d
    | 0x403 => (timeLimits p d, okA [])
    | 0x404 => portPtpBody p d
    | 0x405 => (holdbackNext (entW p 0) d, okA [])
    | 0x800 => stlTableBody data p d
    | 0x801 => stlImapBody data p d
    | 0x802 => (d.wn Reg.stlBackup (entW p 0), okA [])
    | _ => (d, okA [])
  r.1

/-- A forwarded commit through registers. -/
def journalWords (kind i : Nat) (w : List Nat) (d : Dev) : Dev :=
  match kind with
  | 0 => if sauCommitBad d liveryWho i w then d else sauEntPut i w d
  | 1 => { d with fch := { d.fch with pend := tput d.fch.pend i (fchWords (i / 32768) w) } }
  | 2 => eenPlace i w d
  | 3 => gsCommitW liveryWho i w d
  | 4 => geCommitW liveryWho i w d
  | 5 => svCommitW liveryWho i w d
  | 6 => pmuCommitW i w d
  | 7 => gmapWrite i (entW w 0) d
  | _ => pmapWrite i (entW w 0) d

/-- CONFIG_JOURNAL at the shadow. -/
def journalRx (e : JEntry) (d : Dev) : Dev :=
  if !isShadow d then d
  else match e with
    | .cmd op h data map img => journalCmd op h data map img d
    | .words kind i w => journalWords kind i w d

/-- Whether a commit waits for the coming route boundary, which then begins a new epoch (R334). -/
def commitsWait (d : Dev) : Bool :=
  d.fch.pend != [] || d.een.pend != [] || d.hle.pend != [] || d.pub.gePend != [] || d.pub.svPend != [] || d.pub.pmuPend != [] ||
    d.cmd.route.any (fun a => match a with | .stream .. => true | .holdback _ => true | .freed .. => true | _ => false) ||
    d.ttb.bankDue || d.ttb.replan.isSome || (tkeys d.cars).any (fun c => (hcar d c).next.isSome) ||
    d.bitR Reg.fchCoefCtrl 0 || d.bitR Reg.ttbBankCtrl 0 || d.bitR Reg.pubTsmapCtrl 0 || d.bitR Reg.stlImapCtrl 0 ||
    (List.range 11).any (fun p => d.bitR (Reg.swcGclCtrl p) 2) ||
    (d.bitR Reg.stlTblCtrl 0 && d.fldR Reg.stlTblCtrl 8 20 == d.tim.absRoute % 2 ^ 20)

/-! Roles (R326, R327). -/

/-- A module in Standby whose role is open, and which may take one. -/
def roleOpen (d : Dev) : Bool :=
  brcOn d && brcRole d == roleNone && d.bitR Reg.brcCtrl 1 && d.brc.waitFrom.isSome && !d.brc.clash && baseMode d == modeStandby

/-- The module enters RESYNC as a new standby. -/
def joinStandby (d : Dev) : Dev :=
  enterResync { d with brc := { d.brc with waitFrom := none } }

/-- The role that a partner's status decides (R327). -/
def decideRole (role : Nat) (d : Dev) : Dev :=
  if !roleOpen d || !paired d then d
  else if role = roleActive then joinStandby d
  else if role = roleFenced then d
  else if selfNode d = 0 then becomeActive d else joinStandby d

/-- BRC_PAIR_WAIT routes have passed without a partner: ACTIVE, with PAIRED clear (R327). -/
def pairWaitOver (d : Dev) : Dev :=
  match d.brc.waitFrom with
  | some r => if roleOpen d && r + d.fldR Reg.brcPairWait 0 11 ≤ d.tim.absRoute && !paired d then becomeActive d else d
  | none => d

/-- The partner's status (R326, R327, R334, R336). -/
def statusMsg (h : BrcHdr) (was : Option Peer) (st : PeerStat) (d : Dev) : Dev :=
  let old := match was with | some p => p.role | none => roleNone
  let d := { d with brc := { d.brc with peer := some ⟨h.role, h.term, h.serial, st⟩ } }.wn Reg.brcPartnerEpoch st.epoch
  let d := if brcRole d = roleActive && old = roleStandby && h.role = roleResync then d.emit (.infoEvent 336) else d
  let d := decideRole h.role d
  let differs := st.route == d.tim.absRoute % 2 ^ 20 && h.role == roleActive && st.epoch != d.rn Reg.brcEpoch
  if brcRole d = roleStandby then (if differs then proofLost d else d)
  else if brcRole d = roleResync then
    if h.role = roleActive && old ≠ roleActive && d.bitR Reg.brcCtrl 2 && paired d && !d.bitR Reg.brcXferStatus 29 then askTransfer d
    else d
  else d

/-! State transfer (R338 to R340). -/

/-- Registers of tables and banks that a configuration image holds. -/
def confReg (off : Nat) : Bool :=
  ((0x200000 ≤ off && off < 0x800000) || (0x920000 ≤ off && off < 0x940000)) &&
    (match regRow? off with | some r => r.acc == .rw || r.acc == .rwm | none => false)

/-- The configuration image at the current epoch (R338). -/
def confImage (d : Dev) : ConfImage :=
  { epoch := d.rn Reg.brcEpoch,
    seqNext := d.rn Reg.ttbSeqNext,
    regs := d.regs.filter (fun p => confReg p.1 && p.1 != Reg.ttbHoldback),
    sau := d.sau.entries, fch := d.fch.desc, een := d.een.desc, gsub := d.hle.ents, ge := d.pub.ge, sv := d.pub.sv, pmu := d.pub.pmu,
    gmap := d.hle.gmap, pmap := d.pub.map, coef := d.fch.coefA,
    cars := d.cars.map (fun p => ⟨p.1, p.2.cls, p.2.level, carBase d p.1 / 0x200000, d.rn (Reg.carDramSize p.1), p.2.img, p.2.sv,
      d.rn (Reg.ttbCSeq p.1)⟩),
    plan := d.ttb.plan.map (fun s => [s.kind, s.col, s.tick, s.start, s.len, s.car] ++ s.items) }

/-- A carriage of the image comes to exist on the standby. -/
def confCar (k : ConfCar) (d : Dev) : Dev :=
  let d := if carSt d k.car = stFree then setCarSt k.car stDisabled (newCar k.car k.cls k.level k.base k.size k.img d) else d
  let d := modCar k.car (fun x => { x with cls := k.cls, level := k.level, img := k.img, sv := k.sv }) d
  ((d.setF (Reg.ttbCState k.car) 0 2 2).setF (Reg.ttbCState k.car) 2 2 k.cls).wn (Reg.ttbCSeq k.car) k.seq

/-- The configuration image takes effect at a route boundary. -/
def confApply (d : Dev) : Dev :=
  match d.brc.conf with
  | none => d
  | some i =>
    let have' := i.cars.map (fun k => k.car)
    let d := ((tkeys d.cars).filter (fun c => !have'.contains c)).foldl (fun d c => leaveTtb c (destroyNow c d)) d
    let d := i.regs.foldl (fun d p => if confReg p.1 then d.wr p.1 p.2 else d) d
    let d := i.cars.foldl (fun d k => if k.car < 512 then confCar k d else d) d
    let fresh := i.sau.filter (fun p => entState (sauEnt d p.1) == 0)
    let d := { d with sau := { d.sau with entries := i.sau },
                      fch := { d.fch with desc := i.fch, coefA := i.coef },
                      een := { d.een with desc := i.een },
                      hle := { d.hle with ents := i.gsub, gmap := i.gmap },
                      pub := { d.pub with ge := i.ge, sv := i.sv, pmu := i.pmu, map := i.pmap },
                      ttb := { d.ttb with plan := i.plan.map (fun l => ⟨entW l 0, entW l 1, entW l 2, entW l 3, entW l 4, entW l 5, l.drop 6⟩),
                                           bankDue := true },
                      brc := { d.brc with conf := none } }
    let d := fresh.foldl (fun d p => setStrm p.1 (Strm.fresh (entLat p.2) (firstOpen d)) d) d
    let d := i.cars.foldl (fun d k => showPlan k.car d.ttb.plan d) (sauStatusUpd (pubStatusUpd d))
    (((coefCrc d).wn Reg.brcEpoch i.epoch).wn Reg.ttbSeqNext i.seqNext).setB Reg.brcXferStatus 28

/-- The configuration image arrives. -/
def confRx (i : ConfImage) (d : Dev) : Dev :=
  if brcRole d ≠ roleResync || !d.bitR Reg.brcXferStatus 29 then d
  else { d with brc := { d.brc with conf := some i } }.setF Reg.brcXferStatus 16 10 i.cars.length

/-- A transfer ends: its commands end with it. -/
def transferEnds (st : Nat) (ds : List Nat) (d : Dev) : Dev :=
  let d := d.clrB Reg.brcXferStatus 29
  (d.cmd.jobs.filter (fun j => j.op == 0x701)).foldl (fun d j => finishJob j.ident st ds d) d

/-- A whole carriage image has arrived: it is restored into the same number, to resume at the next route boundary (R338, R339). -/
def imageRx (c : Nat) (m : CarImage) (d : Dev) : Dev :=
  if brcRole d ≠ roleResync || !d.bitR Reg.brcXferStatus 29 || (tfind d.cars c).isNone then d
  else
    let slot := d.fldR Reg.brcXferSlot 0 8
    let d := if m.slotBad then slotGoesBad slot d else d
    let a := slotUse slot fnImage [3] (.carriage c) false d
    let d := a.2
    if !a.1 || !m.tagOk || m.slot ≠ slot || !imageFits d c m then
      transferEnds cDenied [] ((d.setB Reg.brcXferStatus 30).emit (.infoEvent 339))
    else
      let again := (tfind d.brc.imgGen c).isSome
      let d := restoreNow c 0 (d.tim.absRoute + 1) { m with partner := true } d
      let d := { d with brc := { d.brc with imgGen := tput d.brc.imgGen c m.gen } }
      let n := d.fldR Reg.brcXferStatus 0 10 + b2n (!again)
      let d := d.setF Reg.brcXferStatus 0 10 n
      if d.fldR Reg.brcXferStatus 16 10 ≤ n then transferEnds cOk [n] { d with brc := { d.brc with xferDone := true } } else d

/-- The active answers the request for a transfer: its configuration image, and a save of every carriage that is not FREE at the next
route boundary, in ascending number (R338). -/
def transferAsked (d : Dev) : Dev :=
  if brcRole d ≠ roleActive then d
  else
    let cs := (tkeys d.cars).filter (fun c => carSt d c != stFree)
    let d := (d.wn Reg.brcXferStatus (2 ^ 29 + cs.length * 65536)).emit (.conf (confImage d))
    let d := { d with brc := { d.brc with sent := [] } }
    cs.foldl (fun d c => d.atRoute (.save c 0 (d.fldR Reg.brcXferSlot 0 8) false 3 0)) d

/-- At a route boundary of the active: the generation each image was taken under, and the carriages to be saved again because theirs
has changed (R338). -/
def resendRoute (d : Dev) : Dev :=
  if !d.bitR Reg.brcXferStatus 29 || brcRole d ≠ roleActive then d
  else if peerIn d roleStandby then { d with brc := { d.brc with sent := [] } }.clrB Reg.brcXferStatus 29
  else
    let stale := (d.brc.sent.filter (fun p => carSt d p.1 != stFree && d.fldR (Reg.carGen p.1) 0 16 != p.2)).map (fun p => p.1)
    stale.foldl (fun d c => { d with brc := { d.brc with sent := tdel d.brc.sent c } }.atRoute
      (.save c 0 (d.fldR Reg.brcXferSlot 0 8) false 3 0)) d

/-- A save at F for the link notes the generation of its image. -/
def saveNoted (c dest : Nat) (d : Dev) : Dev :=
  if dest = 3 && d.bitR Reg.brcXferStatus 29 && brcRole d = roleActive && (tfind d.cars c).isSome then
    let d := { d with brc := { d.brc with sent := tput d.brc.sent c (d.fldR (Reg.carGen c) 0 16) } }
    d.setF Reg.brcXferStatus 0 10 d.brc.sent.length
  else d

/-- The conditions of R340 but the two legs. -/
def resyncReady (d : Dev) : Bool :=
  match d.brc.peer with
  | none => false
  | some p => p.role == roleActive && d.brc.xferDone && p.st.epoch == d.rn Reg.brcEpoch && p.st.holdback == holdback d &&
      p.st.coefCrc == d.rn Reg.fchCoefCrc && p.st.kcat == d.rn Reg.eenKcatVer && p.st.isa == d.rn Reg.hleIsaVer &&
      p.st.gens.all (fun g => tfind d.brc.imgGen g.1 == some g.2)

/-- RESYNC ends for a standby that meets every condition; a failed condition clears the count of legs (R340). -/
def resyncComplete (wbEqual : Bool) (d : Dev) : Dev :=
  if brcRole d ≠ roleResync then d
  else if !resyncReady d || !wbEqual then { d with brc := { d.brc with okLegs := 0 } }
  else if d.brc.okLegs < 2 then d
  else raise 303 none 0 0 (setBrcRole roleStandby d)

/-! Switch-over (R342 to R347). -/

/-- An edge on PARTNER_LANTERN (R343). -/
def lanternEdge (d : Dev) : Dev := { d with brc := { d.brc with ltn := d.tim.absTick, ltnRun := true } }.setB Reg.brcStatus 6

/-- The count of BRC_LTN_TIMEOUT expires. -/
def lanternTimeout (d : Dev) : Dev :=
  if !d.brc.ltnRun || d.tim.absTick < d.brc.ltn + d.fldR Reg.brcLtnTimeout 0 10 then d
  else takeTrigger 2 ({ d with brc := { d.brc with ltnRun := false } }.clrB Reg.brcStatus 6)

/-- The fence of the tick after its cause (R326, R328, R344). -/
def fenceRow (d : Dev) : Dev :=
  match d.sup.fence with
  | some n => if brcRole d = roleFenced then fenceNow n d else setBrcRole roleFenced (fenceNow n d)
  | none => match d.brc.fenceDue with
    | some (t, r) =>
      if d.tim.absTick ≤ t then d
      else
        let d := fenceNow 6 { d with brc := { d.brc with fenceDue := none } }
        if r = roleResync then enterResync d else setBrcRole r d
    | none => d

/-- A STANDBY that took a trigger becomes ACTIVE in the tick after T (R345, R347). -/
def takeoverRow (d : Dev) : Dev :=
  match d.brc.trig with
  | some (cause, t) =>
    if d.tim.absTick ≤ t then d
    else if brcRole d = roleStandby then takeover cause t d
    else raise 305 none cause 0 { d with brc := { d.brc with trig := none } }
  | none => d

/-- The proof exchange begins with the switch-over at its start route (R349). -/
def proofBegins (d : Dev) : Dev :=
  match d.brc.proof with
  | some p =>
    let d := { d with brc := { d.brc with
        proof := some { p with begun := true, mine := brcRole d == roleActive, at' := d.tim.absTick, causes := 0 } },
                      swc := { d.swc with dropped := [] } }
    ((d.wn Reg.brcProofStatus (1 + p.len * 65536)).wn Reg.brcProofRoute (p.start % 2 ^ 20)).setB Reg.brcStatus 8
  | none => d

/-- The end of the egress tick after the hand-off of leg B − 1 (R346). -/
def plannedSwitch (d : Dev) : Dev :=
  match d.brc.switchAt with
  | none => d
  | some (b, cause) =>
    let t := (b - 1) * 16 + holdFor d (b - 1) + 4
    if d.tim.absTick < t then d
    else
      let d := { d with brc := { d.brc with switchAt := none } }
      let d := if cause = 5 then proofBegins d else d
      let d := (d.cmd.jobs.filter (fun j => j.op == 0x702)).foldl (fun d j => finishJob j.ident cOk [tickCodeOf (b * 16)] d) d
      if brcRole d = roleActive then
        let d := (d.wn Reg.brcSwitchTc (tickCodeOf t)).setF Reg.brcSwitchCause 0 3 cause
        let d := { d with brc := { d.brc with grace := if d.tim.absTick / 16 = b then some b else none } }
        setSrc 2 (raise 304 none cause 0 (setBrcRole roleStandby (fenceNow cause d)))
      else takeTrigger cause d

/-- The ports of a set that a predicate holds for. -/
def anyPort (m : Nat) (f : Nat → Bool) : Bool := (List.range 11).any (fun p => bitOf m p && f p)

/-- The checks of R349 on the module that became active, as CAUSE numbers them: a LIVE entry of an enabled carriage without its takeover
frame in the first egress tick, or without a frame for T_MAX; a drop at a port of such an entry; a trip-window port whose gate list is
bad; and those that Stageline noted. A leg is left for the egress tick to come (log 38). -/
def proofCauses (p : Proof) (d : Dev) : Nat :=
  let now := d.tim.absTick
  let live := d.pub.ge.filter (fun q => geState q.2 == 1 && carEnabled d (geCar q.2))
  let late (i : Nat) (e : List Nat) : Bool := match (geRun d i).sent with
    | none => true
    | some t => t ≤ p.at' || t + geTmax e + 16 < now
  let goose := p.at' + 33 ≤ now && live.any (fun q => late q.1 q.2)
  let drop := live.any (fun q => anyPort (gePorts q.2) (fun n => d.swc.dropped.contains n))
  let gates := (List.range 11).any (fun n => d.bitR (Reg.swcGclCtrl n) 3 && d.bitR (Reg.swcGclStatus n) 0)
  b2n goose ||| b2n drop * 2 ||| b2n gates * 4 ||| p.causes

/-- The end of a proof exchange on either module: its result in the status, and the command's completion. -/
def proofOver (w : Nat) (d : Dev) : Dev :=
  let d := ({ d with brc := { d.brc with proof := none } }.wn Reg.brcProofStatus w).clrB Reg.brcStatus 8
  let d := raise 308 none (fld w 4 5) 0 d
  let d := if bitOf w 1 then d else d.emit (.infoEvent 349)
  (d.cmd.jobs.filter (fun j => j.op == 0x703)).foldl (fun d j => finishJob j.ident cOk [w] d) d

/-- A proof exchange ends on a failed check, or after its routes; the module that became active judges and tells its partner. The role goes
back at once on a failure, and under RETURN after a pass (R348, R349). `seen` are failed checks that the state does not show (log 38). -/
def proofEnds (seen : Nat) (d : Dev) : Dev :=
  match d.brc.proof with
  | none => d
  | some p =>
    let left := d.fldR Reg.brcProofStatus 16 11
    let causes := proofCauses p d ||| seen
    if !p.begun || p.mine || brcRole d ≠ roleActive || (causes = 0 && left ≠ 0) then d
    else
      let pass := causes == 0
      let w := (if pass then 2 else 4) + causes * 16 + left * 65536
      let d := if pass then { d with brc := { d.brc with proven := true } }.clrB Reg.brcStatus 7 else d
      let d := proofOver w (d.braceMsg 12 [w])
      if pass && !p.ret then d
      else
        let b := agreedLeg d
        switchAgreed b 5 (d.braceMsg 11 [b, 5])

/-- The result of a proof exchange at the module that was active before it (R349). -/
def proofResult (w : Nat) (d : Dev) : Dev :=
  match d.brc.proof with
  | some p => if p.begun && p.mine then proofOver w d else d
  | none => d

/-! Leg and route boundaries. -/

/-- What the module sends of itself every leg (R330). -/
def brcLeg (d : Dev) : Dev :=
  let d := retrainLeg d
  if !brcOn d then d
  else
    let gens := (tkeys d.cars).flatMap (fun c => [c, d.fldR (Reg.carGen c) 0 16])
    let d := d.braceMsg 8 (([brcRole d, d.rn Reg.brcTerm, selfNode d, d.tim.absRoute % 2 ^ 20, d.rn Reg.brcEpoch, holdback d,
      b2n (d.sup.lantern == .toggling), b2n (d.mode == modeMaintenance), b2n (d.bitR Reg.ttbStatus 0), d.rn Reg.fchCoefCrc,
      d.rn Reg.eenKcatVer, d.rn Reg.hleIsaVer] ++ gens))
    brcSend 15 [d.tim.sec, d.tim.ns, d.tim.frac] d

/-- The route boundary: a transferred configuration, a new epoch where a commit takes effect, the proof's count, and images to be sent
again. `commits` is what `commitsWait` found before the boundary's effects. -/
def brcRoute (commits : Bool) (d : Dev) : Dev :=
  let d := if commits then d.wn Reg.brcEpoch (d.rn Reg.brcEpoch + 1) else d
  let d := confApply d
  let d := match d.brc.proof with
    | some p => if p.begun && p.start < d.tim.absRoute then d.setF Reg.brcProofStatus 16 11 (d.fldR Reg.brcProofStatus 16 11 - 1) else d
    | none => d
  resendRoute d

/-- Brace work of every tick: a request of the Timetable (08 R259). -/
def brcTick (d : Dev) : Dev := p0Request d

/-! Commands and forwarded requests (R338, R346, R347, R349; 13 R418, R419). -/

/-- The switch-over command on the active (R346). -/
def switchBody (d : Dev) : Dev × Ans :=
  let b := agreedLeg d
  if brcRole d = roleActive then
    if !paired d || !peerIn d roleStandby then (d, noA cNotReady)
    else (switchAgreed b 3 (d.braceMsg 11 [b, 3]), pendA [tickCodeOf (b * 16)])
  else if brcRole d = roleStandby && paired d && peerIn d roleActive then (d.braceMsg 13 [0x702], pendA [tickCodeOf (b * 16)])
  else (d, noA cNotReady)

/-- BRACE_PROOF's own part (R349). -/
def proofBody (p : List Nat) (d : Dev) : Dev × Ans :=
  let b := routeAhead d (entW p 0)
  let peerMaint := match d.brc.peer with | some q => q.st.maint | none => false
  if d.mode ≠ modeMaintenance || !peerMaint then (d, noA cWrongMode)
  else if brcRole d ≠ roleActive || !paired d || !peerIn d roleStandby then (d, noA cNotReady)
  else if b < d.tim.absRoute + 2 || d.tim.absRoute + 2 ^ 19 ≤ b then (d, badP 0)
  else
    let d := { d with brc := { d.brc with proof := some ⟨b, entW p 1, bitOf (entW p 2) 0, true, false, 0, 0⟩ } }
    (switchAgreed (b * 240) 5 (d.braceMsg 11 [b * 240, 5, b, entW p 1, entW p 2]), pendA [])

/-- BRACE_RESYNC's own part (R338). -/
def resyncBody (d : Dev) : Dev × Ans :=
  if !isShadow d || !paired d || !peerIn d roleActive then (d, noA cNotReady)
  else (askTransfer (if brcRole d = roleStandby then raise 302 none 0 0 (setBrcRole roleResync d) else d), pendA [])

/-- A forwarded request. -/
def forwarded (r : FwdReq) (d : Dev) : Dev :=
  match r with
  | .agree leg cause => if brcRole d = roleStandby then switchAgreed leg cause d
      else if brcRole d = roleResync then raise 305 none cause 0 d else d
  | .proof start len ret => if brcRole d = roleStandby then
      switchAgreed (start * 240) 5 { d with brc := { d.brc with proof := some ⟨start, len, ret, false, false, 0, 0⟩ } } else d
  | .switchCmd => (switchBody d).1
  | .transfer => transferAsked d
  | .readmit port => if port < 30 then askReadmit port d else d
  | .nodeReset port => if port < 30 && !orderRefused d port then askOrder port d else d
  | .proofResult w => proofResult w d

/-! The rows. -/

/-- SV_FRAME (04 R130; 11 R331). -/
def execSvFrame (port : Nat) (f : SvFrame) (s : State) : Outcome := s.act (onlyIf (port < 11) (svFrameAny port f))

/-- LEG_DECLARE (04 R129; 11 R331): the next leg is declared once its filter tick has begun. -/
def execLegDeclare (s : State) : Outcome := s.act legDeclare

/-- HAND_OFF (09 R265) of the latest declared leg. -/
def execHandOff (s : State) : Outcome := s.act handOffAll

/-- BRACE_LINK_TRAINING (R321); `version` is the partner's BRC_VERSION. -/
def execBraceLinkTraining (link version : Nat) (s : State) : Outcome := s.act (onlyIf (link < 2) (linkTraining link version))

/-- BRACE_LANE_RETIRE (R323): a lane with its block errors of the route, and whether it lost block lock. -/
def execBraceLaneRetire (link lane errs : Nat) (lost : Bool) (s : State) : Outcome :=
  s.act (onlyIf (link < 2 && lane < 5) (laneRetire link lane errs lost))

/-- BRACE_RETRAIN_DONE (R323). -/
def execBraceRetrainDone (link : Nat) (s : State) : Outcome := s.act (onlyIf (link < 2) (retrainDone link))

/-- BRACE_LINK_DOWN (R324). -/
def execBraceLinkDown (link : Nat) (s : State) : Outcome := s.act (onlyIf (link < 2) (linkGone link))

/-- PARTNER_LOST (R324). -/
def execPartnerLost (s : State) : Outcome := s.act partnerLost

/-- ORPHAN_TIMEOUT (R324). -/
def execOrphanTimeout (s : State) : Outcome := s.act orphanTimeout

/-- MIRROR_CELLS (R331). -/
def execMirrorCells (h : BrcHdr) (cells : List MirrorCell) (s : State) : Outcome := s.act (brcTake h (mirrorCells cells))

/-- DECLARATION_RECORD (R331): the leg, how many cells it has, and the models. -/
def execDeclarationRecord (h : BrcHdr) (leg cells : Nat) (models : List ModelRec) (s : State) : Outcome :=
  s.act (brcTake h (declRecord leg cells models))

/-- UNMIRRORED_LEG (R332). -/
def execUnmirroredLeg (s : State) : Outcome := s.act unmirroredLeg

/-- P2_COMPLETION_LIST (R333): leg, kind (1 a kernel, 2 a scan) and item. -/
def execP2CompletionList (h : BrcHdr) (items : List (Nat × Nat × Nat)) (s : State) : Outcome :=
  s.act (brcTake h (fun d => if isShadow d then
    { d with brc := { d.brc with p2 := d.brc.p2 ++ items.filter (fun i => !d.brc.p2.contains i) } } else d))

/-- PUBLICATION_MIRROR (09 R280). -/
def execPublicationMirror (h : BrcHdr) (leg : Nat) (entries : List PubMirror) (s : State) : Outcome :=
  s.act (brcTake h (pubMirrorRx leg entries))

/-- TRIP_SEAT_IMAGES (R330). -/
def execTripSeatImages (h : BrcHdr) (seats : List (Nat × List Nat)) (s : State) : Outcome :=
  s.act (brcTake h (fun d => if isShadow d then
    { d with brc := { d.brc with trips := seats.foldl (fun t p => tput t p.1 p.2) d.brc.trips } } else d))

/-- DIGEST_TABLE (R336). -/
def execDigestTable (h : BrcHdr) (leg : Nat) (digests : List Nat) (s : State) : Outcome := s.act (brcTake h (digestRx leg digests))

/-- CONFIG_JOURNAL (R334). -/
def execConfigJournal (h : BrcHdr) (e : JEntry) (s : State) : Outcome := s.act (brcTake h (journalRx e))

/-- BRACE_STATUS (R326). -/
def execBraceStatus (h : BrcHdr) (st : PeerStat) (s : State) : Outcome :=
  s.act (fun d => brcTake h (statusMsg h d.brc.peer st) d)

/-- FAIL_MESSAGE (R342). -/
def execFailMessage (h : BrcHdr) (s : State) : Outcome := s.act (brcTake h (takeTrigger 1))

/-- PARTNER_LANTERN_EDGE (R343). -/
def execPartnerLanternEdge (s : State) : Outcome := s.act lanternEdge

/-- LANTERN_TIMEOUT (R342). -/
def execLanternTimeout (s : State) : Outcome := s.act lanternTimeout

/-- PAIR_WAIT_EXPIRY (R327). -/
def execPairWaitExpiry (s : State) : Outcome := s.act pairWaitOver

/-- FENCE (R344). -/
def execFence (s : State) : Outcome := s.act fenceRow

/-- TAKEOVER (R345). -/
def execTakeover (s : State) : Outcome := s.act takeoverRow

/-- PLANNED_SWITCH (R346). -/
def execPlannedSwitch (s : State) : Outcome := s.act plannedSwitch

/-- RESYNC_COMPLETE (R340); `wbEqual` says whether each Waybill received in the two legs equals the mirror's. -/
def execResyncComplete (wbEqual : Bool) (s : State) : Outcome := s.act (resyncComplete wbEqual)

/-- PROOF_EXCHANGE_END (R349). -/
def execProofExchangeEnd (seen : Nat) (s : State) : Outcome := s.act (onlyIf (seen < 32) (proofEnds seen))

/-- CARRIAGE_IMAGE_ARRIVAL (R338). -/
def execCarriageImageArrival (h : BrcHdr) (c : Nat) (img : CarImage) (s : State) : Outcome :=
  s.act (onlyIf (c < 512) (brcTake h (imageRx c img)))

/-- CONFIGURATION_IMAGE (R338). -/
def execConfigurationImage (h : BrcHdr) (img : ConfImage) (s : State) : Outcome := s.act (brcTake h (confRx img))

/-- FORWARDED_REQUEST (R347). -/
def execForwardedRequest (h : BrcHdr) (r : FwdReq) (s : State) : Outcome := s.act (brcTake h (forwarded r))

/-- BRACE_PAIR (13 R418). -/
def execCmdBracePair (h : Cmd) (s : State) : Outcome :=
  s.act (runC (spec0 0x700 [3]) (fun p d =>
    ((d.putB Reg.brcCtrl 1 (bitOf (entW p 0) 0)).putB Reg.brcCtrl 2 (bitOf (entW p 0) 1), okA [])) h)

/-- BRACE_RESYNC (R338). -/
def execCmdBraceResync (h : Cmd) (s : State) : Outcome := s.act (runC (spec0 0x701 []) (fun _ d => resyncBody d) h)

/-- BRACE_SWITCH (R346). -/
def execCmdBraceSwitch (h : Cmd) (s : State) : Outcome := s.act (runC (spec0 0x702 []) (fun _ d => switchBody d) h)

/-- BRACE_PROOF (R349). -/
def execCmdBraceProof (h : Cmd) (s : State) : Outcome :=
  s.act (runC ⟨0x703, false, [0xFFFFF, 0x7FF, 1], [], fun p => if entW p 1 = 0 || 1200 < entW p 1 then some 1 else none⟩ proofBody h)

end Sys2Proof.Machine
end

