-- ==== Sys2Proof/Machine/Repair.lean ====
section
/-! DEFINITION. Spares and remap entries: application cores, SRAM rows, DRAM rows, and what boot code applies from the fuse records
and the repair log (18 R547 to R556; 16 R472). A log entry is [kind, unit] for kinds 0 to 4 (a Brace lane as link times 5 plus lane),
[5, group, row] for an SRAM row and [7, channel, place] for a DRAM row. -/

namespace Sys2Proof.Machine

/-- Entries with no repeats, in the order they first stood. -/
def dedupE : List (List Nat) → List (List Nat)
  | [] => []
  | a :: l => a :: (dedupE l).filter (fun x => x != a)

/-! Application cores (R551). -/

/-- The hart position that a physical core holds. -/
def posOf (d : Dev) (c : Nat) : Option Nat :=
  (List.range 48).find? (fun p => d.bitR (Reg.rprCorePos p) 31 && d.fldR (Reg.rprCorePos p) 0 6 == c)

/-- Physical cores that are neither retired nor in a position. -/
def freeCores (d : Dev) : List Nat :=
  (List.range 50).filter (fun x => !d.rpr.cores.contains x && (posOf d x).isNone)

def showCores (d : Dev) : Dev :=
  let a := ((List.range 48).filter (fun p => d.bitR (Reg.rprCorePos p) 31)).length
  (d.wn (Reg.rprKActive 3) a).wn (Reg.rprKSpares 3) (freeCores d).length

/-- A core leaves service: the lowest spare takes its position, or the position reads VALID 0. -/
def coreOut (c : Nat) (d : Dev) : Dev :=
  let pos := posOf d c
  let d := { d with rpr := { d.rpr with cores := c :: d.rpr.cores } }
  showCores (match pos, freeCores d with
    | some p, sp :: _ => d.wn (Reg.rprCorePos p) (sp + 2 ^ 31)
    | some p, [] => d.clrB (Reg.rprCorePos p) 31
    | none, _ => d)

/-- A core retired in service; none where no spare is left and FORCE is 0. -/
def coreRetire (force : Bool) (c : Nat) (d : Dev) : Option Dev :=
  if d.rpr.cores.contains c then some d
  else
    let placed := (posOf d c).isSome
    let spare := freeCores d != []
    if placed && !spare && !force then none
    else
      let d := retiredEvent 3 c (coreOut c d)
      some (if placed then (if spare then raise 393 none 3 c d else raise 395 none 3 c d) else d)

/-! SRAM rows (R549). -/

/-- Soft spare rows a group has left. -/
def sramLeft (d : Dev) (g : Nat) : Nat := d.fldR (Reg.rprSram g) 0 16

/-- A soft spare row of a group is used; SPARE_LOW once a group has none left (R554). -/
def sramUse (g : Nat) (d : Dev) : Dev :=
  let n := sramLeft d g
  let d := (d.setF (Reg.rprSram g) 0 16 (n - 1)).setF (Reg.rprSram g) 16 16 (d.fldR (Reg.rprSram g) 16 16 + 1)
  let d := (d.wn (Reg.rprKSpares 5) (d.rn (Reg.rprKSpares 5) - 1)).bump (Reg.rprKRetired 5)
  if n ≤ 1 then spareLow 5 d else d

/-! DRAM remap entries (R547). -/

/-- The lowest remap entry of a channel that is not in use. -/
def rmapFree (d : Dev) (m : Nat) : Option Nat := (List.range 16).find? (fun e => !d.bitR (Reg.memCRmap m e) 31)

/-- The remap entry that holds a row. -/
def rmapOf (d : Dev) (m loc : Nat) : Option Nat :=
  (List.range 16).find? (fun e => d.bitR (Reg.memCRmap m e) 31 && d.fldR (Reg.memCRmap m e) 0 27 == loc)

/-- Entries of a channel in use. -/
def rmapUsed (d : Dev) (m : Nat) : Nat := ((List.range 16).filter (fun e => d.bitR (Reg.memCRmap m e) 31)).length

/-- The counts of remap entries; SPARE_LOW of kind 7 is present while a channel has every entry in use (R554). -/
def showRemap (d : Dev) : Dev :=
  let d := [0, 1, 2, 3].foldl (fun d m => d.setF (Reg.memCRemap m) 0 5 (rmapUsed d m)) d
  let d := d.wn (Reg.rprKSpares 7) (64 - (rmapUsed d 0 + rmapUsed d 1 + rmapUsed d 2 + rmapUsed d 3))
  if [0, 1, 2, 3].any (fun m => rmapUsed d m == 16) then spareLow 7 d
  else
    let d := d.clrB Reg.rprStatus 7
    if d.fldR Reg.rprStatus 0 8 = 0 then clearCond 394 d else d

/-- A row takes a remap entry; `copying` while its copy runs. -/
def rmapPut (m loc : Nat) (copying : Bool) (d : Dev) : Dev :=
  match rmapFree d m with
  | none => d
  | some e => showRemap (d.wn (Reg.memCRmap m e) (loc % 2 ^ 27 + b2n copying * 2 ^ 30 + 2 ^ 31))

/-! DRAM repair resources (R548, R554). -/

/-- Ranks of a channel. -/
def ranksOf (d : Dev) (m : Nat) : Nat := if d.bitR (Reg.memCCfg m) 1 then 2 else 1

/-- The bank groups of a channel: subchannel, rank and group. -/
def bankGroups (d : Dev) (m : Nat) : List Nat := (List.range 32).filter (fun i => i / 8 % 2 < ranksOf d m)

/-- RPR_K_SPARES of kind 6, the resources of every bank group together; SPARE_LOW once a bank group has none left. -/
def showPpr (d : Dev) : Dev :=
  let left (m i : Nat) : Nat := d.fldR (Reg.memCPpr m i) 0 4
  let n := ([0, 1, 2, 3].map (fun m => ((bankGroups d m).map (left m)).foldl (· + ·) 0)).foldl (· + ·) 0
  let none' := [0, 1, 2, 3].any (fun m => (bankGroups d m).any (fun i => left m i == 0))
  let d := d.wn (Reg.rprKSpares 6) n
  if none' then spareLow 6 d else d

/-! What boot code applies before it releases the engines (16 R472; 18 R552). -/

/-- Active units of a kind as shipped (R550). -/
def unitsShipped (k : Nat) : Nat := if k = 0 then 64 else if k = 1 then 32 else 16

/-- A unit shown as retired. -/
def showRetired (k u : Nat) (d : Dev) : Dev :=
  let d := (setRole k u 3 d).bump (Reg.rprKRetired k)
  if k = 0 then (if u < 32 then d.setB Reg.fchLaneRetLo u else d.setB Reg.fchLaneRetHi (u - 32))
  else if k = 1 then (if u < 32 then d.setB Reg.eenRetLo u else d.setB Reg.eenRetHi (u - 32))
  else d.setB Reg.hleRetMap u

/-- Units of a kind that are active or in inspection. -/
def unitsOn (d : Dev) (k : Nat) : Nat := (unitsIn d k 0).length + (unitsIn d k 2).length

/-- The retirements of a kind of engine: spares take their places, and the columns are rewritten. -/
def bootUnits (k : Nat) (us : List Nat) (d : Dev) : Dev :=
  if us = [] then d
  else
    let d := us.foldl (fun d u => showRetired k u d) d
    let sp := (unitsIn d k 1).take (unitsShipped k - unitsOn d k)
    let d := sp.foldl (fun d u => setRole k u 0 (setPower k u true d)) d
    let n := unitsOn d k - 1
    let d := showCounts k (remapCols k n (setCols k n d))
    if 1 ≤ k && d.rn (Reg.rprKSpares k) = 0 then spareLow k d else d

/-- The data position of a Brace lane moved to the spare. -/
def laneMove (l lane sp : Nat) (d : Dev) : Dev :=
  let m := d.rn (Reg.brcLLanemap l)
  let d := [0, 1, 2, 3].foldl (fun d i => if fld m (3 * i) 3 = lane then d.setF (Reg.brcLLanemap l) (3 * i) 3 sp else d) d
  (d.setF (Reg.brcLLanemap l) 12 3 7).setB (Reg.brcLStatus l) 4

/-- The retirement of a Brace lane (11 R323). -/
def bootLane (x : Nat) (d : Dev) : Dev :=
  let l := x / 5
  let lane := x % 5
  let gone := tget [] d.brc.lanes l
  if 2 ≤ l || gone.contains lane then d
  else
    let sp := spareLane d l
    let d := { d with brc := { d.brc with lanes := tput d.brc.lanes l (lane :: gone) } }.bump (Reg.rprKRetired 4)
    if sp = lane then d.setF (Reg.brcLLanemap l) 12 3 7
    else if sp = 7 then d
    else spareLow 4 ((laneMove l lane sp d).wn (Reg.rprKSpares 4) (d.rn (Reg.rprKSpares 4) - 1))

/-- One entry of kinds 3 to 7. -/
def bootEntry (e : List Nat) (d : Dev) : Dev :=
  match e with
  | [3, c] => if c < 50 && !d.rpr.cores.contains c then
      let d := (coreOut c d).bump (Reg.rprKRetired 3)
      if d.rn (Reg.rprKSpares 3) = 0 then spareLow 3 d else d
    else d
  | [4, x] => bootLane x d
  | [5, g, _] => if g < 8 then sramUse g d else d
  | [7, m, loc] => if m < 4 then (rmapPut m loc false d).bump (Reg.rprKRetired 7) else d
  | _ => d

/-- The units of a kind that entries name. -/
def entriesOf (k : Nat) (es : List (List Nat)) : List Nat :=
  dedup (es.filterMap (fun e => match e with | [k', u] => if k' = k && u < unitsOf k then some u else none | _ => none))

/-- The fuse records, then the log (R552). -/
def bootRepairs (d : Dev) : Dev :=
  let es := dedupE (d.rpr.fused ++ d.rpr.log)
  let d := [0, 1, 2].foldl (fun d k => bootUnits k (entriesOf k es) d) d
  let d := showPpr (es.foldl (fun d e => bootEntry e d) d)
  if 256 ≤ d.fldR Reg.rprLogCount 0 9 then setCond 399 0 (d.setB Reg.rprStatus 9) else d

end Sys2Proof.Machine
end

