-- ==== Sys2Proof/Machine/Reset.lean ====
section
/-! DEFINITION. Reset, release, the watchdog and the start timer, power-fail, operating modes by command and register, Parked and
Recovery (16 R464 to R496; 13 R409, R420; 02 R45; 03 R96; 12 R381). A reset is asked for by its source, and acts with the row
SYSTEM_RESET or CORE_RESET; a power-on or system reset is then held until RESET_RELEASE. -/

namespace Sys2Proof.Machine

/-! Asking for a reset (R465 to R468). Levels: 0 power-on, 1 system, 2 core. -/

/-- A reset absorbed: the reset that acts shows ABSORBED (R466). -/
def resetAbsorbed (d : Dev) : Dev :=
  let d := raise 36 none 0 0 d
  match d.rst.pend with
  | some r => { d with rst := { d.rst with pend := some { r with flags := r.flags ||| 0x100 } } }
  | none => d.setB Reg.rstCause 8

/-- A reset waits to act; a system reset of an ACTIVE module sends FAIL and fences in the tick of its stamp (R468). -/
def placeReset (level cause flags : Nat) (d : Dev) : Dev :=
  let fence := level == 1 && brcRole d == roleActive
  let d := if fence then setBrcRole roleFenced (fenceNow 0 (d.braceMsg 9 [])) else d
  { d with rst := { d.rst with pend := some ⟨level, cause, flags + b2n fence * 0x200, d.tim.absTick, d.tc⟩ } }

/-- A system or core reset is asked for: the higher level acts, then the lower cause of one tick; a later one of the same or a lower
level is absorbed (R466). -/
def askReset (level cause flags : Nat) (d : Dev) : Dev :=
  if d.rst.held.isSome then resetAbsorbed d
  else match d.rst.pend with
    | none => placeReset level cause flags d
    | some r =>
      if level < r.level || (r.tick = d.tim.absTick && level = r.level && cause < r.cause) then placeReset level cause flags d
      else if r.tick = d.tim.absTick then d
      else resetAbsorbed d

/-! What a reset spares (R464). -/

/-- Registers that a power-on (0) or system (1) reset leaves: fuses, the battery-backed domain and the retention memory; after a
system reset also the debug logic and the cause; in Parked also the wake detector and the addresses it compares (R489, 03 R96). -/
def sparedReg (level : Nat) (park : Bool) (off : Nat) : Bool :=
  [Reg.rstCause, Reg.rstCauseTc, Reg.rstFailCnt, Reg.rstBallFuse, Reg.rstStraps, Reg.sbxLc, Reg.sbxRollback, Reg.sbxTamperCfg,
   Reg.sbxTlogCount, Reg.rprLogCount, Reg.rprFuseLeft].contains off ||
  (Reg.sbxTlogSecLo 0 ≤ off && off < Reg.sbxTlogSecLo 8) ||
  (level == 1 && (off == Reg.tgtDbgStatus || (Reg.tgtDbgChal 0 ≤ off && off < Reg.tgtDbgChal 12))) ||
  (park && ((Reg.swcWakeCtrl ≤ off && off < Reg.swcWakeCtrl + 0x1000) ||
    [8, 9, 10].any (fun n => off == Reg.ethMacLo n || off == Reg.ethMacHi n)))

/-- Slots as the retention memory seals them (17 R507). -/
def sealSlots (d : Dev) : Tbl (List Nat) :=
  ((List.range 256).filter (fun i => slotState d i != 0)).map (fun i => (i, [slotAttr d i, tget 0 d.sbx.keys i]))

/-- The device with a power-on or system reset held: every block at its reset values but for what the reset spares. -/
def resetDev (level : Nat) (park : Bool) (d : Dev) : Dev :=
  let seals := if d.rst.held.isSome then d.sbx.seals else sealSlots d
  { Dev.reset with
    regs := (d.regs.filter (fun p => sparedReg level park p.1)),
    hle := { Dev.reset.hle with home := d.hle.home },
    rst := { Rst.reset with held := some level, park := park, refLost := d.rst.refLost, pfailPin := d.rst.pfailPin,
                            flash := d.rst.flash, bootImg := d.rst.bootImg },
    sbx := { Dev.reset.sbx with root := d.sbx.root, seals := seals, backup := d.sbx.backup, bkNew := d.sbx.bkNew,
                                halted := if level = 0 then [] else d.sbx.halted },
    rpr := { Dev.reset.rpr with log := d.rpr.log, fused := d.rpr.fused },
    out := d.out, fresh := d.fresh }.putB Reg.sbxStatus 2 (d.bitR Reg.sbxStatus 2)

/-- Field balls at their fuse states (R492, R493). -/
def ballsFuse (d : Dev) : Dev :=
  let d := (d.emit (.ball "TRIP_EN" (fuseLevel d 0))).emit (.ball "LANTERN" (fuseLevel d 1))
  let d := (List.range 8).foldl (fun d b => d.emit (.ball "CONTACT_DRV" (b * 2 + fuseLevel d (2 + b)))) d
  (d.emit (.ball "PFAIL_ACK" (fuseLevel d 10))).emit (.ball "BRACE_ROLE" (fuseLevel d 11))

/-- A power-on reset holds: every field ball at high impedance, RESET_OUT_N low (R467, R469, R493). -/
def porHold (d : Dev) : Dev :=
  let d := ((resetDev 0 false d).wn Reg.rstCause 1).wn Reg.rstCauseTc 0
  (d.emit (.ball "RESET_OUT_N" 0)).emit (.ball "FIELD_BALLS_HIZ" 1)

/-- A system reset holds, in Parked with PARKED set (R467, R489). -/
def sysHold (r : ResetReq) (d : Dev) : Dev :=
  let park := bitOf r.flags 7
  let d := ((resetDev 1 park d).wn Reg.rstCause (r.cause + 16 + r.flags)).wn Reg.rstCauseTc r.tc
  let d := if park then d.setF Reg.glbMode 0 3 modeParked else d
  ballsFuse (d.emit (.ball "RESET_OUT_N" 0))

/-- The state in which a reset holds: DRAM contents are gone (log 3). -/
def State.hold (s : State) (d : Dev) : Outcome := .next { s with dev := { d with dramW := [] }, mem := [] }

/-- Whether a waiting system reset acts now: a fencing one at the start of the tick after its stamp (R468). -/
def sysDue (d : Dev) : Option ResetReq :=
  match d.rst.pend with
  | some r => if r.level = 1 && (!bitOf r.flags 9 || r.tick < d.tim.absTick) then some r else none
  | none => none

/-- The watchdog restarts; the boot ROM sets EN (R477). -/
def wdtStart (d : Dev) : Dev := { d with rst := { d.rst with wdtTicks := 0, warned := false } }.setB Reg.rstWdtCfg 16

/-- Commands whose effect waits on Phiash: saves, restores, program loads, renders, state transfers (R475). -/
def phiashOps : List Nat := [0x106, 0x107, 0x108, 0x503, 0x701]

/-- The failed-start count as it reads: 0 with a failed backup cell (R480). -/
def failCount (d : Dev) : Nat := if d.rst.cellBad then 0 else d.fldR Reg.rstFailCnt 0 3

/-- The boot ROM restarts after a core reset taken in Boot: the count is read and incremented, and 4 or more sends the module to
Recovery through a system reset (R480). -/
def bootRestart (d : Dev) : Dev :=
  let n := failCount d
  if d.mode ≠ modeBoot then d
  else if 4 ≤ n then askReset 1 3 0 d
  else
    let d := d.setF Reg.rstFailCnt 0 3 (min 7 (n + 1))
    if n = 0 then d else raise 34 none n 0 d

/-- A core reset (R464, R473 to R475): the cores restart and Phiash's work is abandoned; every other block goes on. -/
def coreReset (r : ResetReq) (d : Dev) : Dev :=
  let d := { d with rst := { d.rst with pend := none, coreGone := true } }
  let d := (d.wn Reg.rstCause (r.cause + 32 + r.flags)).wn Reg.rstCauseTc r.tc
  let d := logInput 1 r.cause 0 0 0 (d.clrB Reg.glbStatus 1)
  let d := { d with
    cmd := { d.cmd with
      jobs := d.cmd.jobs.filter (fun j => !phiashOps.contains j.op),
      route := d.cmd.route.filter (fun a => match a with | .save .. => false | .resume .. => false | _ => true) },
    drc := { d.drc with rend := [] },
    brc := { d.brc with sent := [], conf := none, xferDone := false, imgGen := [] } }
  let d := d.clrB Reg.brcXferStatus 29
  let d := (List.range 64).foldl (fun d i => sesClear i d) d
  bootRestart (wdtStart d)

/-! Release (R471, R472, R480, R481). -/

/-- Step 1 and 2: clocks, straps, field balls; G5MODE is sampled (R470; 12 R382; 13 R399; 15 R461). -/
def relClocks (r : Release) (d : Dev) : Dev :=
  let d := d.wn Reg.clkStatus (3 + b2n r.ethOk * 4 + b2n r.pcieOk * 8)
  let d := ({ d with rst := { d.rst with startTicks := 0, cellBad := !r.cellOk } }).wn Reg.rstStraps (b2n r.g5)
  let d := (d.wn Reg.cmdStatus (if r.g5 then 0x300 else 0x600)).setF Reg.evrStatus 24 4 (if r.g5 then 1 else 2)
  let d := d.setF Reg.stlVmax 0 4 (if r.g5 then 1 else 2)
  (ballsFuse (d.emit (.ball "CLK_FAIL" 0))).emit (.ball "RESET_OUT_N" 1)

/-- Local time from the battery-backed counter, or from 0 with RTC_BAD when the backup cell has failed or the counter holds no time
(02 R45). -/
def relTime (r : Release) (d : Dev) : Dev :=
  let rtc := if r.cellOk then r.rtc else none
  let t := { Tim.reset with sec := (rtc.getD 0) % 2 ^ 48 }
  { d with tim := { t with toEdge := t.cyclesToEdge } }.putB Reg.timStatus 6 rtc.isNone

/-- The root as the domain kept it, and the slots that unseal under it; the TRNG starts (17 R507, R510, R513, R516). -/
def relKeys (r : Release) (d : Dev) : Dev :=
  let d := if r.cellOk then d else { d with sbx := { d.sbx with root := 0 } }
  let ok := d.sbx.root != 0
  let seals := if ok then d.sbx.seals.filter (fun p => !r.sealBad.contains p.1) else []
  let d := seals.foldl (fun d p => slotInstall p.1 (nth 0 p.2 0) (nth 0 p.2 1) d) (d.putB Reg.sbxStatus 0 ok)
  { d with sbx := { d.sbx with seals := seals, trngTicks := 0 } }.wn Reg.sbxTrngStatus 2

/-- The failed-start count read at step 3: Recovery, or one more start (R480). True for Recovery. -/
def relCount (r : Release) (d : Dev) : Bool × Dev :=
  let d := if r.cellOk then d else d.setF Reg.rstFailCnt 0 3 0
  let n := d.fldR Reg.rstFailCnt 0 3
  if 4 ≤ n || lifeCycle d = 4 then (true, d.setB Reg.rstFailCnt 8)
  else (false, (d.setF Reg.rstFailCnt 0 3 (n + 1)).clrB Reg.rstFailCnt 8)

/-- The four channels trained and populated alike (18 R542). -/
def memTrained (r : Release) : Bool :=
  let c := nth 0 r.memCfg 0
  r.trained && bitOf c 0 && 1 ≤ fld c 8 8 && fld c 8 8 ≤ 64 &&
    [1, 2, 3].all (fun m => nth 0 r.memCfg m &&& 0xFF07 == c &&& 0xFF07)

/-- Step 5: the channels' configuration, the size without the remap targets, and the repair resources read from the DRAM
(18 R542, R547, R548). -/
def relMem (r : Release) (d : Dev) : Dev :=
  let d := [0, 1, 2, 3].foldl (fun d m => d.wn (Reg.memCCfg m) (nth 0 r.memCfg m &&& 0xFF07)) d
  let d := (List.range 128).foldl (fun d k => d.wn (Reg.memCPpr (k / 32) (k % 32)) (fld (nth 0 r.ppr k) 0 4)) d
  d.wn Reg.memSize (4 * (fld (nth 0 r.memCfg 0) 8 8 * 1024 - 2))

/-- Whether the boot ROM accepts a copy whose key and signature verify (17 R523). -/
def imgOk (d : Dev) : Option Nat → Bool
  | some v => d.fldR Reg.sbxRollback 0 6 ≤ v
  | none => false

/-- Step 6: the boot ROM tries copy A, then B (17 R523). The copy booted: 0, 1, or 2 for neither. -/
def relImage (r : Release) (d : Dev) : Nat × Dev :=
  let k := if imgOk d r.imgA then 0 else if imgOk d r.imgB then 1 else 2
  let v := if k = 0 then r.imgA.getD 0 else if k = 1 then r.imgB.getD 0 else 0
  (k, { d with rst := { d.rst with bootImg := k, imgVer := v } })

/-- SBX_BOOT_STATUS with the keys of the fuses. -/
def showBoot (r : Release) (k : Nat) (d : Dev) : Dev := d.wn Reg.sbxBootStatus (putFld (r.bootWord % 2 ^ 32) 0 2 k)

/-- The end of a release: the hold is over, and supervision reports what the start found. -/
def relDone (r : Release) (bk : Bool) (n : Nat) (d : Dev) : Dev :=
  let d := wdtStart { d with rst := { d.rst with held := none, partway := false } }
  let d := if bk then raise 77 none 0 0 d else d
  let d := if n = 0 then d else raise 34 none n 0 d
  let d := ((List.range 11).filter (txNotReady d)).foldl (fun d p => setCond (98 + 8 * p) p d) d
  let d := if r.ethOk then d else setCond 2 0 d
  if r.pcieOk then d else setCond 3 0 d

/-- The module in Recovery: the boot ROM serves the management port (R481). -/
def relRecovery (r : Release) (bk : Bool) (n : Nat) (d : Dev) : Dev :=
  relDone r bk n (showBoot r 2 (d.setF Reg.glbMode 0 3 modeRecovery))

/-- Steps 4 to 6 of a start: the Guard in COLD, the memory, the boot ROM and boot code's repairs. -/
def relBoot (r : Release) (bk : Bool) (n : Nat) (d : Dev) : Dev :=
  let d := [0, 1].foldl (fun d ch => setStlN ch { StlNode.empty with since := d.tim.absTick } d) (d.setF Reg.stlStatus 0 2 gCold)
  if !memTrained r then { d with rst := { d.rst with partway := true }, sbx := { d.sbx with bkNew := bk } }
  else
    let i := relImage r (relMem r d)
    if i.1 = 2 then raise 76 none 0 0 (relRecovery r bk n i.2)
    else
      let d := bootRepairs (relDone r bk n (showBoot r i.1 (i.2.setF Reg.glbMode 0 3 modeBoot)))
      if imgOk d r.imgA then d else raise 76 none 0 0 d

/-- A release from step 1 (R471). No step begins while PFAIL_N is asserted or REFCLK is absent, and Parked waits for a wake. -/
def release (r : Release) (d : Dev) : Dev :=
  if d.up || d.rst.park || d.rst.partway || d.rst.pfailPin || d.rst.refLost then d
  else
    let bk := d.sbx.bkNew
    let n := if r.cellOk then d.fldR Reg.rstFailCnt 0 3 else 0
    let d := relKeys r (relTime r (relClocks r { d with sbx := { d.sbx with bkNew := false } }))
    let c := relCount r d
    if c.1 then relRecovery r bk n c.2 else relBoot r bk n c.2

/-- Phiash runs: after a start, and again after a core reset, where a state transfer that the reset ended is asked for anew under
AUTO_RESYNC (R472 to R474). -/
def liveryUp (d : Dev) : Dev :=
  if d.mode = modeRecovery || d.bitR Reg.glbStatus 1 then d
  else
    let d := d.setB Reg.glbStatus 1
    if !d.rst.coreGone then d
    else
      let d := raise 35 none 0 0 { d with rst := { d.rst with coreGone := false } }
      if brcRole d = roleResync && d.bitR Reg.brcCtrl 2 && paired d && peerIn d roleActive then askTransfer d else d

/-! The watchdog and the start timer (R477, R478). A millisecond is 76.8 ticks. -/

def wdtTimeout (d : Dev) : Nat := d.fldR Reg.rstWdtCfg 0 16

/-- Whether the watchdog counts: EN, and no debug halt of the management cores (17 R529). -/
def wdtRuns (d : Dev) : Bool := d.bitR Reg.rstWdtCfg 16 && !d.bitR Reg.tgtDbgStatus 3

def wdtKick (v : Nat) (d : Dev) : Dev :=
  if bitOf v 0 then { d with rst := { d.rst with wdtTicks := 0, warned := false } } else d

/-- Half the timeout is reached. -/
def wdtWarn (d : Dev) : Dev :=
  if wdtRuns d && !d.rst.warned && wdtTimeout d * 768 ≤ d.rst.wdtTicks * 20 then
    raise 33 none 0 0 { d with rst := { d.rst with warned := true } }
  else d

/-- The timeout is reached. -/
def wdtExpiry (d : Dev) : Dev :=
  if wdtRuns d && wdtTimeout d * 768 ≤ d.rst.wdtTicks * 10 then
    askReset 2 3 0 { d with rst := { d.rst with wdtTicks := 0, warned := false } }
  else d

/-- Whether the start timer runs: from release step 1 until Commission. -/
def startRuns (d : Dev) : Bool := if d.up then d.mode ≤ modeBoot else d.rst.partway

/-- RST_START_TIMER and RST_WDT_REMAIN as they read. -/
def startMs (d : Dev) : Nat := min 0x7FFF (d.rst.startTicks * 10 / 768)
def wdtRemain (d : Dev) : Nat := wdtTimeout d - d.rst.wdtTicks * 10 / 768

/-- The start timer reaches 30 s: a system reset even where the release waits in step 5 (R478; 18 R542). -/
def startTimeout (d : Dev) : Dev :=
  if startRuns d && 2304000 ≤ d.rst.startTicks then
    if d.up then askReset 1 3 0x40 d else if d.rst.pend.isNone then placeReset 1 3 0x40 d else d
  else d

/-! Power-fail (R482). -/

/-- PFAIL_N asserts. -/
def powerFail (d : Dev) : Dev :=
  let d := { d with rst := { d.rst with pfailPin := true } }
  if !d.up then d
  else if d.bitR Reg.glbStatus 5 then setCond 32 0 (logInput 1 0 0 0 0 d)
  else
    let d := { d with rst := { d.rst with pfailLeg := some d.tim.absLeg } }.setB Reg.glbStatus 5
    setCond 32 0 (logInput 1 0 0 0 0 d)

/-- PFAIL_N deasserts: the cause of source 32 goes, and the reaction stays in force (R471, R482). -/
def powerFailEnd (d : Dev) : Dev := clearCond 32 { d with rst := { d.rst with pfailPin := false } }

/-- Whether the retention writes of a leg that has ended may still go home: none but those of the leg in which power failed. -/
def retOpen (d : Dev) : Bool := match d.rst.pfailLeg with | some l => d.tim.absLeg ≤ l + 1 | none => true

/-- The writes of the leg are sealed, and PFAIL_ACK is driven active. -/
def pfailAck (d : Dev) : Dev :=
  match d.rst.pfailLeg with
  | some l =>
    if d.rst.acked || d.tim.absLeg ≤ l then d
    else { d with rst := { d.rst with acked := true } }.emit (.ball "PFAIL_ACK" (activeLevel d 10))
  | none => d

/-! Modes (R483 to R489). -/

/-- The mode as the commands accepted so far will have it (13 R405). -/
def projMode (d : Dev) : Nat :=
  d.cmd.route.foldl (fun m a => match a with | .mode x => if x = 0 then d.fldR Reg.glbMode 4 3 else x | _ => m) d.mode

/-- Boot is left for Commission (R472, R480; 17 R522, R524). -/
def leaveBoot (d : Dev) : Dev :=
  let d := ((d.setB Reg.glbStatus 3).setB Reg.tgtStatus 0).setF Reg.rstFailCnt 0 3 0
  setMode modeCommission (d.setF Reg.sbxRollback 0 6 (max (d.fldR Reg.sbxRollback 0 6) d.rst.imgVer))

/-- A mode change asked for takes effect at a route boundary (R483, R489). -/
def modeAct (m : Nat) (d : Dev) : Dev :=
  if m = modeCommission then (if d.mode = modeBoot then leaveBoot d else d)
  else if m = modeStandby then (if d.mode = modeCommission then setMode modeStandby d else d)
  else if m = modeMaintenance then (if d.mode = modeStandby || d.mode = modeActive then setMode modeMaintenance d else d)
  else if m = modeParked then askReset 1 4 0x80 d
  else if d.mode = modeMaintenance then setMode (d.fldR Reg.glbMode 4 3) d else d

/-- A write of GLB_MODE_REQ (R472, R487). -/
def modeRequest (v : Nat) (d : Dev) : Dev :=
  let m := fld v 0 3
  let d := d.wn Reg.glbModeReq m
  if m = modeCommission && d.mode = modeBoot then (d.setB Reg.glbStatus 0).atRoute (.mode modeCommission)
  else if m = modeStandby && d.mode = modeCommission then d.atRoute (.mode modeStandby)
  else raise 41 none m 0 d

/-- Whether a carriage is in Hold, or will be (07 R238). -/
def anyHold (d : Dev) : Bool :=
  (tkeys d.cars).any (fun c => (match (hcar d c).modeReq with | some m => m == hHold | none => hMode d c == hHold))

/-- Whether a carriage keeps a module out of Parked (R489). -/
def anyRuns (d : Dev) : Bool :=
  (tkeys d.cars).any (fun c => projSt d c == stEnabled || carSt d c == stDraining || carSt d c == stRestoring)

/-- MODE_SET's own part (R485, R489; 13 R420). -/
def modeSetBody (p : List Nat) (d : Dev) : Dev × Ans :=
  let m := projMode d
  let base := if m = modeMaintenance then (if d.mode = modeMaintenance then d.fldR Reg.glbMode 4 3 else d.mode) else m
  match entW p 0 with
  | 0 => if m ≠ modeMaintenance then (d, noA cWrongMode) else if anyHold d then (d, noA cDenied) else (d.atRoute (.mode 0), okA [])
  | 1 => if m = modeStandby || m = modeActive then (d.atRoute (.mode modeMaintenance), okA []) else (d, noA cWrongMode)
  | _ =>
    if m ≠ modeMaintenance || base ≠ modeStandby || brcRole d = roleActive || anyRuns d then (d, noA cWrongMode)
    else (d.atRoute (.mode modeParked), okA [])

/-- A command after whose reply something more happens, once it is accepted. -/
def runThen (c : CmdSpec) (body : List Nat → Dev → Dev × Ans) (after : List Nat → Dev → Dev) (h : Cmd) (d : Dev) : Dev :=
  let p := cmdParams h (sesProto d h.session)
  let r := runCmd c body h d
  match r.2 with
  | some a => if a.st = cOk then after p r.1 else r.1
  | none => r.1

/-- MODULE_RESET's own part (13 R420). -/
def moduleResetBody (d : Dev) : Dev × Ans :=
  if [modeRecovery, modeCommission, modeMaintenance].contains d.mode then (d, okA []) else (d, noA cWrongMode)

/-! Recovery (R481; 13 R409, R420). -/

/-- A copy or the staging area of the flash. -/
def flashArea (d : Dev) (k : Nat) : Tbl Nat := tget [] d.rst.flash k

/-- Bytes written to the staging area. -/
def stageFlash : Nat → List Nat → Tbl Nat → Tbl Nat
  | _, [], t => t
  | o, b :: bs, t => stageFlash (o + 1) bs (tset 0 t o (b % 256))

/-- RECOVERY_WRITE's own part; `fits` says whether the staging area holds the range. -/
def recoveryWriteBody (fits : Bool) (data : List Nat) (p : List Nat) (d : Dev) : Dev × Ans :=
  if d.mode ≠ modeRecovery then (d, noA cWrongMode)
  else if !fits then (d, badP 0)
  else
    let t := stageFlash (entW p 0) (takePad 0 (entW p 1) data) (flashArea d 2)
    ({ d with rst := { d.rst with flash := tset [] d.rst.flash 2 t } }, okA [])

/-- RECOVERY_COMMIT's own part: the staged image, verified under 17 R523, goes over the copy that the boot ROM did not accept. -/
def recoveryCommitBody (img : Option Nat) (p : List Nat) (d : Dev) : Dev × Ans :=
  if lifeCycle d = 4 || !imgOk d img then (d, noA cDenied)
  else
    let k := if d.rst.bootImg = 0 then 1 else 0
    let t := (flashArea d 2).filter (fun x => x.1 < entW p 0)
    ({ d with rst := { d.rst with flash := tset [] d.rst.flash k t } }.setF Reg.rstFailCnt 0 3 0, okA [])

/-! Contacts (R496). -/

def driveContact (b : Nat) (d : Dev) : Dev := d.emit (.ball "CONTACT_DRV" (b * 2 + contactLevel d b))

/-- A write of GLB_CDRV_SEL: SRC 3 is ignored, and a carriage named that is FREE or of class P2 leaves the register. -/
def cdrvSel (b v : Nat) (d : Dev) : Dev :=
  let v := v % 2 ^ 22
  let c := fld v 2 9
  rwm d (fun d =>
    if fld v 0 2 = 3 then d
    else if fld v 0 2 = 2 && (carSt d c = stFree || carCls d c = 2) then d.emit (.infoEvent 496)
    else driveContact b (d.wn (Reg.glbCdrvSel b) v))

/-! The rows. -/

/-- POWER_ON_RESET (R465, R466; 19 R574): during another power-on reset it is absorbed. -/
def execPowerOnReset (s : State) : Outcome :=
  if s.dev.rst.held = some 0 then s.actR resetAbsorbed else s.hold (porHold s.dev)

/-- RESET_IN (R469, R490); `ns` is how long RESET_IN_N was low. What lies between 100 ns and 1 µs may be taken or not (log 5). -/
def execResetIn (ns : Nat) (s : State) : Outcome :=
  s.actR (fun d =>
    let f := d.free
    let take := 1000 ≤ ns || (100 ≤ ns && f.1 % 2 == 1)
    let d := if 100 ≤ ns && ns < 1000 then f.2 else d
    if !take then d
    else if d.rst.park then ({ d with rst := { d.rst with park := false } }.wn Reg.rstCause (2 + 16)).wn Reg.rstCauseTc d.tc
    else askReset 1 2 0 d)

/-- SYSTEM_RESET (R464, R468): the system reset that waits acts. -/
def execSystemReset (s : State) : Outcome :=
  match sysDue s.dev with
  | some r => s.hold (sysHold r s.dev)
  | none => .next s

/-- CORE_RESET (R473): the core reset that waits acts. -/
def execCoreReset (s : State) : Outcome :=
  s.act (fun d => match d.rst.pend with | some r => if r.level = 2 then coreReset r d else d | none => d)

/-- RESET_RELEASE (R471). -/
def execResetRelease (r : Release) (s : State) : Outcome := s.actR (release r)

/-- LIVERY_UP (R473). -/
def execLiveryUp (s : State) : Outcome := s.act liveryUp

/-- WATCHDOG_KICK (R477). -/
def execWatchdogKick (v : Word) (s : State) : Outcome := s.act (wdtKick v.toNat)

/-- WATCHDOG_WARN (R477). -/
def execWatchdogWarn (s : State) : Outcome := s.act wdtWarn

/-- WATCHDOG_EXPIRY (R477). -/
def execWatchdogExpiry (s : State) : Outcome := s.act wdtExpiry

/-- START_TIMEOUT (R478). -/
def execStartTimeout (s : State) : Outcome := s.actR startTimeout

/-- RST_CMD_CORE (R495). -/
def execRstCmdCore (s : State) : Outcome := s.act (askReset 2 4 0)

/-- RST_CMD_SYSTEM (R495). -/
def execRstCmdSystem (s : State) : Outcome := s.act (askReset 1 4 0)

/-- RST_CMD_PARK (R489, R495). -/
def execRstCmdPark (s : State) : Outcome := s.act (askReset 1 4 0x80)

/-- NODE_RESET_ORDER_RX (12 R381). -/
def execNodeResetOrderRx (s : State) : Outcome := s.act (askReset 1 5 0)

/-- POWER_FAIL (R482). -/
def execPowerFail (s : State) : Outcome := s.actR powerFail

/-- PFAIL_ACK (R482). -/
def execPfailAck (s : State) : Outcome := s.act pfailAck

/-- POWER_FAIL_DEASSERT (R471, R482): the reaction stays in force. -/
def execPowerFailDeassert (s : State) : Outcome := s.actR powerFailEnd

/-- MODE_REQUEST (R487). -/
def execModeRequest (v : Word) (s : State) : Outcome := s.act (modeRequest v.toNat)

/-- CDRV_SEL_WRITE (R496). -/
def execCdrvSelWrite (b : Nat) (v : Word) (s : State) : Outcome := s.act (onlyIf (b < 8) (cdrvSel b v.toNat))

/-- WAKE_FRAME (03 R96; R490). -/
def execWakeFrame (port : Nat) (f : Frame) (s : State) : Outcome :=
  s.actR (fun d =>
    let hits := wakeHits d port f
    if !d.rst.park || hits = [] then d
    else hits.foldl (fun d b => d.setB Reg.swcWakeStatus b) { d with rst := { d.rst with park := false } })

/-- MODE_SET (R483; 13 R420). -/
def execCmdModeSet (h : Cmd) (s : State) : Outcome :=
  s.act (runC ⟨0x900, false, [3], [], fun p => if entW p 0 = 3 then some 0 else none⟩ modeSetBody h)

/-- MODULE_RESET (13 R420). -/
def execCmdModuleReset (h : Cmd) (s : State) : Outcome :=
  s.act (runThen (spec0 0x904 [1]) (fun _ d => moduleResetBody d) (fun p d => askReset (2 - entW p 0) 4 0 d) h)

/-- RECOVERY_WRITE (13 R409). -/
def execCmdRecoveryWrite (h : Cmd) (fits : Bool) (data : List Nat) (s : State) : Outcome :=
  s.act (runC ⟨0x905, false, [mAll, mAll, mAll, 0xFF], [2], fun p => if entW p 1 = 0 || 65536 < entW p 1 then some 1 else none⟩
    (recoveryWriteBody fits data) h)

/-- RECOVERY_COMMIT (R481). -/
def execCmdRecoveryCommit (h : Cmd) (img : Option Nat) (s : State) : Outcome :=
  s.act (runThen (spec0 0x906 [mAll]) (recoveryCommitBody img) (fun _ d => askReset 1 4 0 d) h)

end Sys2Proof.Machine
end

