-- ==== Sys2Proof/Machine/Strongbox.lean ====
section
/-! DEFINITION. Keys by command, the life cycle, tamper, the locked sequences, the random source and debug access
(17 R497 to R532; 13 R417; 19 R568, R570). -/

namespace Sys2Proof.Machine

/-! Keys (R501, R504, R506). -/

/-- The bits of an attribute word that are not reserved. -/
def attrMask : Nat := 0x017F7FFF

/-- Whether the caller may name a slot that holds a key (R504); a slot without one has no attributes to check. -/
def slotCaller (s : Nat) (who : Who) (d : Dev) : Bool × Dev :=
  if slotState d s = 0 || callerOk d s who then (true, d)
  else (false, raiseH 73 none s 0 (s * 16) 0 (d.bump (Reg.sbxSRefused s)))

/-- LOCK of a slot that holds a key. -/
def slotLocked (d : Dev) (s : Nat) : Bool := slotState d s != 0 && bitOf (slotAttr d s) 24

/-- An installation in slot `s` with attributes `a`: LOCK, the caller, and a TYPE that R501 lists and the way allows. -/
def keyInstall (h : Cmd) (s a : Nat) (types : List Nat) (k : Dev → Dev × Ans) (d : Dev) : Dev × Ans :=
  if slotLocked d s then (d, noA cLocked)
  else
    let r := slotCaller s (cmdWho d h) d
    if !r.1 || !types.contains (fld a 0 4) then (r.2, noA cDenied) else k r.2

/-- KEY_GENERATE's own part. -/
def keyGenerateBody (h : Cmd) (p : List Nat) (d : Dev) : Dev × Ans :=
  let s := entW p 0
  if entW p 2 ≠ fld (entW p 1) 0 4 then (d, badP 2)
  else keyInstall h s (entW p 1) [1, 2, 3, 4] (fun d =>
    if !trngReady d then (d, noA cNotReady)
    else
      let f := d.free
      (slotInstall s (entW p 1) f.1 f.2, okA [])) d

/-- KEY_UNWRAP's own part: what the blob's tag check finds, whether the wrapping slot's own tag fails, and the key it holds. -/
def keyUnwrapBody (h : Cmd) (tagOk slotBad : Bool) (key : Nat) (p : List Nat) (d : Dev) : Dev × Ans :=
  keyInstall h (entW p 0) (entW p 5) [1, 2, 3, 4, 5] (fun d =>
    let d := if slotBad then slotGoesBad (entW p 1) d else d
    let who := cmdWho d h
    let a := slotAskU (entW p 1) fnWrap [1] who.world who d
    if !a.1 || !tagOk then (a.2, noA cDenied) else (slotInstall (entW p 0) (entW p 5) key a.2, okA [])) d

/-- KEY_DERIVE's own part (R515). -/
def keyDeriveBody (h : Cmd) (ctx : List Nat) (slotBad : Bool) (p : List Nat) (d : Dev) : Dev × Ans :=
  keyInstall h (entW p 0) (entW p 5) [1, 2, 3] (fun d =>
    let d := if slotBad then slotGoesBad (entW p 1) d else d
    let who := cmdWho d h
    let a := slotAskU (entW p 1) fnDerive [3] who.world who d
    if !a.1 then (a.2, noA cDenied)
    else
      let key := Config.kdf (tget 0 a.2.sbx.keys (entW p 1)) (takePad 0 (entW p 4) ctx) (if fld (entW p 5) 0 4 = 3 then 384 else 256)
      (slotInstall (entW p 0) (entW p 5) key a.2, okA [])) d

/-- KEY_DESTROY's own part: a BAD slot may go even when LOCK is set. -/
def keyDestroyBody (h : Cmd) (p : List Nat) (d : Dev) : Dev × Ans :=
  let s := entW p 0
  if slotLocked d s && slotState d s ≠ 2 then (d, noA cLocked)
  else
    let r := slotCaller s (cmdWho d h) d
    if r.1 then (slotEmpty s r.2, okA []) else (r.2, noA cDenied)

/-- KEY_INFO's own part. -/
def keyInfoBody (h : Cmd) (p : List Nat) (d : Dev) : Dev × Ans :=
  let r := slotCaller (entW p 0) (cmdWho d h) d
  if r.1 then (r.2, okA [slotAttr d (entW p 0), slotState d (entW p 0)]) else (r.2, noA cDenied)

/-! The life cycle (R497 to R499). -/

/-- The root zeroed, with the sealed copies that it opens. -/
def rootZero (d : Dev) : Dev := { d with sbx := { d.sbx with root := 0, seals := [] } }.clrB Reg.sbxStatus 0

/-- The tamper log cleared. -/
def tlogClear (d : Dev) : Dev :=
  (List.range 8).foldl (fun d e => ((d.wn (Reg.sbxTlogSecLo e) 0).wn (Reg.sbxTlogSecHi e) 0).wn (Reg.sbxTlogCause e) 0)
    (d.wn Reg.sbxTlogCount 0)

/-- The debug session ends (R526). -/
def debugEnd (d : Dev) : Dev :=
  if d.bitR Reg.tgtDbgStatus 2 then raise 84 none 0 0 (d.setF Reg.tgtDbgStatus 0 3 0) else d

/-- Whether R498 permits a transition now. -/
def lcPermits (d : Dev) (t : Nat) : Bool :=
  let c := lifeCycle d
  let com := d.mode == modeCommission
  let mnt := d.mode == modeMaintenance
  let idle := brcRole d != roleActive
  if c = 0 && t = 1 then com && d.sbx.root != 0
  else if c = 1 && t = 2 then com || mnt
  else if c = 2 && t = 3 then mnt && idle
  else c ≤ 3 && t = 4 && (com || mnt) && idle

/-- LIFECYCLE's own part. -/
def lifeCycleBody (p : List Nat) (d : Dev) : Dev × Ans :=
  let t := entW p 0
  if !lcPermits d t then (d, noA cDenied)
  else
    let d := raiseH 75 none t 0 0 0 (debugEnd (d.setF Reg.sbxLc 0 3 t))
    (if t = 3 || t = 4 then tlogClear (slotsZero (rootZero d)) else d, okA [t])

/-! Tamper (R510 to R514). -/

/-- A tamper log entry, which replaces the oldest of 8. -/
def tlogPut (sensor sec frac : Nat) (backup : Bool) (d : Dev) : Dev :=
  let w := d.rn Reg.sbxTlogCount
  let held := fld w 16 4
  let e := if held = 0 then 0 else (fld w 20 3 + 1) % 8
  let d := d.wn Reg.sbxTlogCount (min 0xFFFF (fld w 0 16 + 1) + min 8 (held + 1) * 2 ^ 16 + e * 2 ^ 20)
  let d := (d.wn (Reg.sbxTlogSecLo e) sec).wn (Reg.sbxTlogSecHi e) (sec / 2 ^ 32 % 2 ^ 16)
  d.wn (Reg.sbxTlogCause e) (frac % 2 ^ 15 + sensor * 2 ^ 16 + b2n backup * 2 ^ 24 + 2 ^ 31)

/-- Whether a sensor is enabled. -/
def sensorOn (d : Dev) (sensor : Nat) : Bool := sensor < 5 && d.bitR Reg.sbxTamperCfg sensor

/-- An alarm on main power (R512): the keys are gone whatever reset is in progress. -/
def tamperAlarm (sensor sec frac : Nat) (d : Dev) : Dev :=
  if d.sbx.backup || !sensorOn d sensor then d
  else
    let up := d.up
    let d := (slotsZero (rootZero d)).setB Reg.sbxTamperStatus sensor
    let d := d.setB Reg.sbxStatus 4
    let d := if up then raiseH (64 + sensor) none sensor 0 (sensor * 16) 0 (logInput 2 sensor 0 0 0 d) else d
    askReset 1 7 0 (debugEnd (tlogPut sensor sec frac false d))

/-- An alarm while the always-on domain runs from its cell (R513): sensor 3 does not run then. -/
def tamperBackup (sensor sec frac : Nat) (d : Dev) : Dev :=
  if !d.sbx.backup || sensor = 3 || !sensorOn d sensor then d
  else
    let d := tlogPut sensor sec frac true (rootZero d)
    { d with sbx := { d.sbx with bkNew := true } }

/-! Locked sequences (R525). -/

def unlockSlots : Nat := 0x24
def unlockLog : Nat := 0x28

/-- Any other write of the master that armed a sequence disarms it. -/
def disarm (m : Nat) (d : Dev) : Dev :=
  match d.sbx.armed with
  | some (x, _, _) => if x = m then { d with sbx := { d.sbx with armed := none } } else d
  | none => d

/-- A write of SBX_UNLOCK. -/
def unlockWrite (m v : Nat) (d : Dev) : Dev :=
  let d := disarm m d
  if v = 0xC0DE0000 + unlockSlots || v = 0xC0DE0000 + unlockLog then
    { d with sbx := { d.sbx with armed := some (m, v - 0xC0DE0000, d.tim.absTick) } }
  else d

/-- Whether master `m` has armed a target. 256 FCLK cycles are a fortieth of a tick, so that a sequence armed two ticks ago has
expired whether or not its row came. -/
def armedFor (d : Dev) (m target : Nat) : Bool :=
  match d.sbx.armed with
  | some (x, t, k) => x == m && t == target && d.tim.absTick ≤ k + 1
  | none => false

/-- A write of a locked target by master `m`. -/
def lockedWrite (m target : Nat) (ok : Bool) (f : Dev → Dev) (d : Dev) : Dev :=
  if armedFor d m target && ok then f (disarm m d) else disarm m d

/-- A write of SBX_ZERO. -/
def zeroWrite (m v : Nat) (d : Dev) : Dev := lockedWrite m unlockSlots (v == 0x5A) slotsZero d

/-- A write of SBX_TLOG_CLR. -/
def tlogWrite (m v : Nat) (d : Dev) : Dev := lockedWrite m unlockLog (v == 1) tlogClear d

/-! Random numbers (R516). -/

/-- Start-up of the TRNG from its beginning. -/
def trngStart (d : Dev) : Dev :=
  ({ d with sbx := { d.sbx with trngTicks := 0 } }.setF Reg.sbxTrngStatus 8 8 0).setB Reg.sbxTrngStatus 1

/-- A new challenge from the TRNG. -/
def debugChallenge (d : Dev) : Dev :=
  (List.range 12).foldl (fun d j => let f := d.free; f.2.wn (Reg.tgtDbgChal j) f.1) d

/-- The first challenge since power came, once the TRNG releases output; a system reset leaves the one that stands (R526, R532). -/
def firstChallenge (d : Dev) : Dev :=
  if (List.range 12).all (fun j => d.rn (Reg.tgtDbgChal j) == 0) then debugChallenge d else d

/-- The start-up tests pass; in Boot a module without a root takes a new one (R510). -/
def trngPass (d : Dev) : Dev :=
  if !d.bitR Reg.sbxTrngStatus 1 then d
  else
    let d := (d.setF Reg.sbxTrngStatus 0 3 1).setF Reg.sbxTrngStatus 8 8 128
    let d := firstChallenge (d.setB Reg.glbStatus 2)
    if d.sbx.root = 0 && d.mode = modeBoot then
      let f := d.free
      let d := slotsZero { f.2 with sbx := { f.2.sbx with root := f.1 + 1 } }
      raiseH 69 none 0 0 0 0 ((d.setB Reg.sbxStatus 0).setB Reg.sbxStatus 1)
    else d

/-- 200 ms without the end of start-up. -/
def trngSlow (d : Dev) : Dev :=
  if d.bitR Reg.sbxTrngStatus 1 && 153600 ≤ d.sbx.trngTicks * 10 then trngStart (raise 72 none 0 0 d) else d

/-- A continuous test fails in service. -/
def trngFail (d : Dev) : Dev :=
  if !trngReady d then d
  else
    let d := ((d.clrB Reg.sbxTrngStatus 0).setB Reg.sbxTrngStatus 2).clrB Reg.glbStatus 2
    raise 71 none 0 0 (trngStart d)

/-- SBX_TRNG_STATUS as it reads: milliseconds since start-up began, while it runs. -/
def trngW (d : Dev) : Nat := putFld (d.rn Reg.sbxTrngStatus) 16 16 (min 0xFFFF (d.sbx.trngTicks * 10 / 768))

/-! Debug (R497, R526 to R529). -/

/-- The highest level that authentication may grant. -/
def debugMax (d : Dev) : Nat := nth 0 [3, 3, 2, 3, 0] (lifeCycle d)

/-- The level without authentication. -/
def debugOpen (d : Dev) : Nat := nth 0 [3, 0, 0, 1, 0] (lifeCycle d)

/-- The level in force. -/
def debugLevel (d : Dev) : Nat := max (debugOpen d) (if d.bitR Reg.tgtDbgStatus 2 then d.fldR Reg.tgtDbgStatus 0 2 else 0)

/-- A signed response (R526). -/
def debugAuth (level : Nat) (sigOk : Bool) (d : Dev) : Dev :=
  let ok := sigOk && 1 ≤ level && level ≤ debugMax d
  let d := if trngReady d then debugChallenge d else d
  if ok then raise 84 none level 0 (d.setF Reg.tgtDbgStatus 0 3 (level + 4))
  else raiseH 83 none level 0 (9 * 16) 0 d

/-- A request that is refused (R528, R529). -/
def debugRefused (d : Dev) : Dev := raiseH 85 none 0 0 (9 * 16) 0 (d.setB Reg.tgtDbgStatus 24)

/-- A request that acts. -/
def debugTaken (d : Dev) : Dev := d.clrB Reg.tgtDbgStatus 24

/-- A halt of the master between the two writes of a locked sequence aborts it (R525). -/
def lockAbort (halted : Nat → Bool) (d : Dev) : Dev :=
  match d.sbx.armed with
  | some (m, t, _) =>
    if halted m && armedFor d m t then raise 74 none m 0 ({ d with sbx := { d.sbx with armed := none } }.setB Reg.sbxStatus 3) else d
  | none => d

/-- A halt (R529). -/
def debugHalt (t : HaltTarget) (d : Dev) : Dev :=
  if d.mode ≠ modeMaintenance || debugLevel d < 2 then debugRefused d
  else
    let d := debugTaken d
    match t with
    | .mgmt => lockAbort (fun m => m ≤ 1) (d.setB Reg.tgtDbgStatus 3)
    | .carriage c =>
      let d := (d.setB Reg.tgtDbgStatus 4).setF Reg.tgtDbgStatus 8 9 c
      if carSt d c = stFree then d else setHcar c { hcar d c with modeReq := some hHold } d
    | .other k =>
      lockAbort (fun m => m == k) { d with sbx := { d.sbx with halted := k :: d.sbx.halted.filter (fun x => x != k) } }

/-- A resume: the harts run again; a carriage's Harness stays in Hold. -/
def debugResume (t : HaltTarget) (d : Dev) : Dev :=
  let d := debugTaken d
  match t with
  | .mgmt => d.clrB Reg.tgtDbgStatus 3
  | .carriage c => if d.fldR Reg.tgtDbgStatus 8 9 = c then (d.clrB Reg.tgtDbgStatus 4).setF Reg.tgtDbgStatus 8 9 0 else d
  | .other k => { d with sbx := { d.sbx with halted := d.sbx.halted.filter (fun x => x != k) } }

/-- A debug reset request (R528). -/
def debugReset (sys : Bool) (d : Dev) : Dev :=
  if 2 ≤ debugLevel d && [modeRecovery, modeCommission, modeMaintenance].contains d.mode then
    askReset (if sys then 1 else 2) 6 0 (debugTaken d)
  else debugRefused d

/-- The field balls in the order of RST_BALL_FUSE. -/
def fieldBall (k : Nat) : String :=
  if k = 0 then "TRIP_EN" else if k = 1 then "LANTERN" else if k < 10 then "CONTACT_DRV" else if k = 10 then "PFAIL_ACK" else "BRACE_ROLE"

/-- EXTEST drives the field balls, in Recovery at level 3 (R526, R529). -/
def extest (levels : List Nat) (d : Dev) : Dev :=
  if d.mode = modeRecovery && debugLevel d = 3 then
    (List.range 12).foldl (fun d k =>
      let v := nth 0 levels k % 2
      d.emit (.ball (fieldBall k) (if 2 ≤ k && k < 10 then (k - 2) * 2 + v else v))) (debugTaken d)
  else debugRefused d

/-! The rows. -/

/-- KEY_GENERATE (R506). -/
def execCmdKeyGenerate (h : Cmd) (s : State) : Outcome := s.act (runC (spec0 0x600 [0xFF, attrMask, 0xF]) (keyGenerateBody h) h)

/-- KEY_UNWRAP (R506). -/
def execCmdKeyUnwrap (h : Cmd) (tagOk slotBad : Bool) (key : Nat) (s : State) : Outcome :=
  s.act (runC ⟨0x601, false, [0xFF, 0xFF, mAll, 0xFF, mAll, attrMask], [2], noRange⟩ (keyUnwrapBody h tagOk slotBad key) h)

/-- KEY_DERIVE (R515); `ctx` is the context at the address named. -/
def execCmdKeyDerive (h : Cmd) (ctx : List Nat) (slotBad : Bool) (s : State) : Outcome :=
  s.act (runC ⟨0x602, false, [0xFF, 0xFF, mAll, 0xFF, mAll, attrMask], [2],
    fun p => if entW p 4 = 0 || 256 < entW p 4 then some 4 else none⟩ (keyDeriveBody h ctx slotBad) h)

/-- KEY_DESTROY (R506). -/
def execCmdKeyDestroy (h : Cmd) (s : State) : Outcome := s.act (runC (spec0 0x603 [0xFF]) (keyDestroyBody h) h)

/-- KEY_INFO (R504). -/
def execCmdKeyInfo (h : Cmd) (s : State) : Outcome := s.act (runC (spec0 0x604 [0xFF]) (keyInfoBody h) h)

/-- LIFECYCLE (R498, R499). -/
def execCmdLifecycle (h : Cmd) (s : State) : Outcome :=
  s.act (runThen (spec0 0x605 [7]) lifeCycleBody (fun p d => if entW p 0 = 3 || entW p 0 = 4 then askReset 1 4 0 d else d) h)

/-- TAMPER_ALARM (R512); the battery-backed counter's seconds and 1/32,768 s. -/
def execTamperAlarm (sensor sec frac : Nat) (s : State) : Outcome := s.actR (tamperAlarm sensor sec frac)

/-- TAMPER_ALARM_BACKUP (R513). -/
def execTamperAlarmBackup (sensor sec frac : Nat) (s : State) : Outcome := s.actR (tamperBackup sensor sec frac)

/-- BACKUP_POWER_CHANGEOVER (19 R568): the always-on domain runs from VBAT, or from main power again. -/
def execBackupPowerChangeover (backup : Bool) (s : State) : Outcome :=
  s.actR (fun d => { d with sbx := { d.sbx with backup := backup } })

/-- UNLOCK_WRITE (R525). -/
def execUnlockWrite (who : Who) (v : Word) (s : State) : Outcome := s.act (unlockWrite who.master v.toNat)

/-- UNLOCK_EXPIRY (R525). -/
def execUnlockExpiry (s : State) : Outcome := s.act (fun d => { d with sbx := { d.sbx with armed := none } })

/-- SLOT_ZERO (R525). -/
def execSlotZero (who : Who) (v : Word) (s : State) : Outcome := s.act (zeroWrite who.master v.toNat)

/-- TAMPER_LOG_CLEAR (R525). -/
def execTamperLogClear (who : Who) (v : Word) (s : State) : Outcome := s.act (tlogWrite who.master v.toNat)

/-- TRNG_READY (R516). -/
def execTrngReady (s : State) : Outcome := s.act trngPass

/-- TRNG_STARTUP_TIMEOUT (R516). -/
def execTrngStartupTimeout (s : State) : Outcome := s.act trngSlow

/-- TRNG_TEST_FAIL (R516). -/
def execTrngTestFail (s : State) : Outcome := s.act trngFail

/-- DEBUG_AUTH (R526). -/
def execDebugAuth (level : Nat) (sigOk : Bool) (s : State) : Outcome := s.act (onlyIf (level ≤ 3) (debugAuth level sigOk))

/-- DEBUG_HALT (R529). -/
def execDebugHalt (t : HaltTarget) (s : State) : Outcome := s.act (debugHalt t)

/-- DEBUG_RESUME (R529). -/
def execDebugResume (t : HaltTarget) (s : State) : Outcome := s.act (debugResume t)

/-- DEBUG_SESSION_CLOSE (R526). -/
def execDebugSessionClose (s : State) : Outcome := s.act debugEnd

/-- DEBUG_RESET_REQUEST (R528). -/
def execDebugResetRequest (sys : Bool) (s : State) : Outcome := s.act (debugReset sys)

/-- EXTEST (R529). -/
def execExtest (levels : List Nat) (s : State) : Outcome := s.act (extest levels)

end Sys2Proof.Machine
end

