-- ==== Sys2Proof/Machine/Memory.lean ====
section
/-! DEFINITION. The host bridge's link and outbound side, the memory controllers, and in-service repair by command
(18 R535 to R557; 13 R420). -/

namespace Sys2Proof.Machine

/-! The bridge (R535 to R541). -/

/-- The address of a session's message vector. -/
def sesVecAddr (d : Dev) (s : Nat) : Nat := d.rn (Reg.cmdSVecLo s) + d.rn (Reg.cmdSVecHi s) * 2 ^ 32

/-- The first `n` writes of an initiator that no flushing read has completed leave the bridge. -/
def outTake (key n : Nat) (d : Dev) : Dev :=
  let l := ((tfind d.hbr.outw key).getD []).drop n
  { d with hbr := { d.hbr with outw := if l = [] then tdel d.hbr.outw key else tput d.hbr.outw key l } }

/-- The first `n` writes of an initiator end with FAULT: an interrupt write latches source 56 (R536); a reply write stalls its
session until its next doorbell (R541). -/
def outFault (key n : Nat) (d : Dev) : Dev :=
  let l := ((tfind d.hbr.outw key).getD []).take n
  let d := outTake key n d
  if l = [] then d
  else if 8 ≤ key ∧ key < 72 then
    let s := key - 8
    let d := if l.contains (sesVecAddr d s) then raise 56 none key 0 d else d
    if sesTransport d s = 1 && l.any (fun a => a != sesVecAddr d s) then
      sesStall s { d with cmd := { d.cmd with faulted := s :: d.cmd.faulted.filter (fun x => x != s) } }
    else d
  else raise 56 none key 0 d

/-- Registers of the bridge that its own reset takes back to their reset values: neither RWB nor events. -/
def bridgeRegs : List Nat :=
  [Reg.hbrCtrl, Reg.hbrStatus, Reg.hbrCplTo, Reg.hbrBackoff, Reg.hbrObRefused, Reg.hbrCplToCnt, Reg.hbrRetryCnt, Reg.hbrUrCnt,
   Reg.hbrIbDepth]

/-- The bridge alone is reset (R535). -/
def bridgeReset (d : Dev) : Dev :=
  let d := (tkeys d.hbr.outw).foldl (fun d k => outFault k ((tfind d.hbr.outw k).getD []).length d) d
  let d := bridgeRegs.foldl (fun d r => d.wr r (regReset r)) { d with hbr := { d.hbr with inq := [], pre := [] } }
  let ses := (List.range 64).filter (fun i => sesTransport d i == 1)
  let gone := (d.cmd.jobs.filter (fun j => ses.contains j.ses && phiashOps.contains j.op)).map (·.ident)
  let d := { d with
    cmd := { d.cmd with
      jobs := d.cmd.jobs.filter (fun j => !gone.contains j.ident)
      route := d.cmd.route.filter (fun a => match a with
        | .save _ j .. => !gone.contains j
        | .resume _ j _ => !gone.contains j
        | _ => true) },
    drc := { d.drc with rend := d.drc.rend.filter (fun p => !gone.contains p.1) } }
  let d := ses.foldl (fun d i => sesClear i d) d
  setCond 344 0 (raise 348 none 0 0 d)

/-- The link trains at a rate (1 to 5) and width, while PCIE_REFCLK is in range. -/
def pcieUp (rate lanes : Nat) (d : Dev) : Dev :=
  if !d.bitR Reg.clkStatus 3 then d
  else raise 345 none rate lanes (clearCond 344 (d.setF Reg.hbrStatus 0 8 (1 + rate * 2 + lanes * 16)))

/-- A configuration write sets Bus Master Enable and the power state. -/
def pcieConfig (bme d3 : Bool) (d : Dev) : Dev :=
  if d.bitR Reg.hbrStatus 0 then (d.putB Reg.hbrStatus 8 bme).putB Reg.hbrStatus 9 d3 else d

/-- An outbound request waits behind a stuck inbound queue: RETRY to its initiator (R540). -/
def backOff (d : Dev) : Dev := if d.hbr.inq = [] then d else (d.bump Reg.hbrRetryCnt).emit (.pcie 2)

/-- A read without completion; where it is a flushing read, the `n` writes it covers (R541). -/
def cplTimeout (key n : Nat) (d : Dev) : Dev := outFault key n (raise 346 none key 0 ((d.bump Reg.hbrCplToCnt).emit (.pcie 1)))

/-! The memory controllers (R543 to R547). -/

/-- The key of a row: channel and place. -/
def rowKey (m loc : Nat) : Nat := m * 2 ^ 27 + loc % 2 ^ 27

/-- A row is to be remapped, unless it is. -/
def rowDue (m loc : Nat) (d : Dev) : Dev :=
  if (rmapOf d m (loc % 2 ^ 27)).isSome || d.memx.due.contains (rowKey m loc) then d
  else { d with memx := { d.memx with due := d.memx.due ++ [rowKey m loc] } }

/-- The last error of a channel. -/
def memErr (m loc addr : Nat) (ue : Bool) (d : Dev) : Dev :=
  ((d.wn (Reg.memCErrLo m) addr).wn (Reg.memCErrHi m) (addr / 2 ^ 32 % 2 ^ 8)).wn (Reg.memCErrLoc m)
    (loc % 2 ^ 27 + b2n ue * 2 ^ 27)

/-- The channel of a DRAM address: channels interleave at 256 bytes (R542). -/
def chanOf (a : Nat) : Nat := a / 256 % 4

/-- 24 hours in ticks of 1/76,800 s. -/
def dayTicks : Nat := 86400 * 76800

/-- A correctable error: counted for its row over 24 hours (R545). -/
def memCe (m loc addr : Nat) (d : Dev) : Dev :=
  let d := raise (360 + 8 * m) none loc 0 (memErr m loc addr false (d.bump (Reg.memCCe m)))
  let now := d.tim.absTick
  let l := now :: ((tfind d.memx.ce (rowKey m loc)).getD []).filter (fun t => now < t + dayTicks)
  let d := { d with memx := { d.memx with ce := tput d.memx.ce (rowKey m loc) l } }
  if d.fldR Reg.memCeRowLim 0 8 ≤ l.length then rowDue m loc d else d

/-- An uncorrectable error (R546). -/
def memUe (m loc addr : Nat) (d : Dev) : Dev :=
  rowDue m loc (raise (361 + 8 * m) none loc 0 (memErr m loc addr true (d.bump (Reg.memCUe m))))

/-- A patrol scrub step (R543, R544): clean, corrected, uncorrectable, or a transfer whose retries are exhausted. `pct` is how far
the pass has come; the corrected line written back leaves its contents as they are, and a newer write cancels it. -/
def scrubStep (m loc addr : Nat) (res : ScrubRes) (pct : Nat) (d : Dev) : Dev :=
  let d := match res with
    | .clean => d
    | .corrected => memCe m loc addr d
    | .bad => memUe m loc addr d
    | .retryFail => raise (366 + 8 * m) none loc 0 d
  let d := d.setF (Reg.memCScrubPos m) 0 7 (if pct = 100 then 0 else pct)
  if pct = 100 then raise (364 + 8 * m) none 0 0 d else d

/-- A reader of poisoned data (R546). -/
def ueReader (r : UeReader) (d : Dev) : Dev :=
  match r with
  | .lane ch => restartChan ch d
  | .kernel i => setInst i KInst.empty d
  | .queue c q => if carSt d c = stFree then d else carEvent c 5 (qcReset c q d)
  | .core k => d.emit (.note 546 [k])
  | .bridge => d.emit (.note 546 [50])
  | .livery => d.emit (.note 546 [51])

/-- A remap begins (R547). -/
def rowRemap (m loc : Nat) (d : Dev) : Dev :=
  let key := rowKey m loc
  if !d.memx.due.contains key then d
  else
    let d := { d with memx := { d.memx with due := d.memx.due.filter (fun x => x != key) } }
    match rmapFree d m with
    | none => setCond (363 + 8 * m) loc d
    | some _ => rmapPut m loc true d

/-- A remap's copy is done: reads switch to the target (R547, R552). -/
def remapDone (m e : Nat) (d : Dev) : Dev :=
  let r := Reg.memCRmap m e
  if d.bitR r 31 && d.bitR r 30 then
    let loc := d.fldR r 0 27
    repairLog [7, m, loc] (raise (362 + 8 * m) none loc 0 ((d.clrB r 30).bump (Reg.rprKRetired 7)))
  else d

/-! Post-package repair (R548). -/

/-- The place and the bank group index of a DRAM_PPR. -/
def pprLoc (p : List Nat) : Nat :=
  fld (entW p 0) 2 1 + fld (entW p 0) 3 3 * 2 + fld (entW p 0) 6 5 * 16 + entW p 1 * 512
def pprGroup (p : List Nat) : Nat := fld (entW p 0) 2 1 * 16 + fld (entW p 0) 3 3 * 8 + fld (entW p 0) 6 5 / 4

/-- The bank group of a place. -/
def locGroup (loc : Nat) : Nat := fld loc 0 1 * 16 + fld loc 1 3 * 8 + fld loc 4 5 / 4

/-- DRAM_PPR's own part. -/
def pprBody (p : List Nat) (d : Dev) : Dev × Ans :=
  let m := fld (entW p 0) 0 2
  let loc := pprLoc p
  if d.mode ≠ modeMaintenance || baseMode d ≠ modeStandby then (d, noA cWrongMode)
  else if ranksOf d m ≤ fld (entW p 0) 3 3 then (d, badP 0)
  else if d.fldR (Reg.memCPpr m (pprGroup p)) 0 4 = 0 then (d, noA cSpareExhausted)
  else if (rmapOf d m loc).isNone && (rmapFree d m).isNone then (d, noA cNoResource)
  else
    let d := if (rmapOf d m loc).isSome then d else rmapPut m loc true d
    let d := { d with memx := { d.memx with ppr := d.memx.ppr ++ [(d.cmd.nextJob, m, loc)] } }
    (if brcRole d = roleStandby then enterResync d else d, pendA [])

/-- A repair ends: verified, with the resources that the DRAM reports, the row in place again and its remap entry free; or failed,
the row remapped. -/
def pprEnds (ok : Bool) (left : Nat) (d : Dev) : Dev :=
  match d.memx.ppr with
  | [] => d
  | (job, m, loc) :: rest =>
    let d := { d with memx := { d.memx with ppr := rest } }
    let left := left % 16
    match rmapOf d m loc with
    | none => finishJob job cFault [] d
    | some e =>
      let d := remapDone m e d
      if ok then
        let d := showPpr (showRemap ((d.wn (Reg.memCRmap m e) 0).wn (Reg.memCPpr m (locGroup loc)) left))
        let d := raise (365 + 8 * m) none loc 0 ((clearCond (363 + 8 * m) d).bump (Reg.rprKRetired 6))
        finishJob job cOk [left] d
      else finishJob job cFault [] d

/-! SRAM, fuses, units by command (R549 to R552). -/

/-- An error of a row of the sample store, group 0: its cell reads so until it is written again (R549, 04 R134); row r is the cell of
leg position r / 4,096 and unit row r mod 4,096 (log 28). -/
def storeError (row : Nat) (ue : Bool) (d : Dev) : Dev :=
  let k := row % 2 ^ 18
  { d with sau := { d.sau with ecc := tput d.sau.ecc k (if ue || tget 0 d.sau.ecc k = 2 then 2 else 1) } }

/-- An error of an SRAM row: an uncorrectable one, or a second correctable one within a route, has the row replaced. -/
def sramRow (g row : Nat) (ue : Bool) (d : Dev) : Dev :=
  let d := if g = 0 then storeError row ue d else d
  let key := g * 2 ^ 24 + row
  let again := tfind d.rpr.sramCe key == some d.tim.absRoute
  let d := { d with rpr := { d.rpr with sramCe := tput d.rpr.sramCe key d.tim.absRoute } }
  if !(ue || again) || !d.bitR Reg.rprCtrl 1 || d.rpr.copies.contains (g, row) then d
  else if sramLeft d g = 0 then setCond 398 g d
  else sramUse g { d with rpr := { d.rpr with copies := d.rpr.copies ++ [(g, row)] } }

/-- An SRAM copy is done: reads switch. -/
def sramDone (g row : Nat) (d : Dev) : Dev :=
  if !d.rpr.copies.contains (g, row) then d
  else
    let d := { d with rpr := { d.rpr with copies := d.rpr.copies.filter (fun x => x != (g, row)) } }
    -- the copy is corrected where it can be; poison stays
    let d := if g = 0 ∧ tget 0 d.sau.ecc (row % 2 ^ 18) = 1 then
      { d with sau := { d.sau with ecc := tdel d.sau.ecc (row % 2 ^ 18) } } else d
    repairLog [5, g, row] (raise 397 none g row d)

/-- RPR_FUSE_CMD.COMMIT, in Maintenance (R552). -/
def fuseCommit (v : Nat) (d : Dev) : Dev :=
  rwm d (fun d => if bitOf v 0 && d.mode = modeMaintenance then d.setB Reg.rprFuseStatus 0 else d)

/-- The burn ends: the entries not committed yet, as many as fuse records are left. -/
def fuseDone (ok : Bool) (d : Dev) : Dev :=
  if !d.bitR Reg.rprFuseStatus 0 then d
  else if !ok then d.wn Reg.rprFuseStatus 2
  else
    let done := d.fldR Reg.rprLogCount 16 9
    let left := d.fldR Reg.rprFuseLeft 0 7
    let new := (d.rpr.log.drop done).take left
    let d := { d with rpr := { d.rpr with fused := d.rpr.fused ++ new } }.wn Reg.rprFuseStatus 0
    let d := (d.setF Reg.rprLogCount 16 9 (done + new.length)).setF Reg.rprFuseLeft 0 7 (left - new.length)
    raise 400 none new.length 0 d

/-- RETIRE_UNIT's ranges. -/
def retireRange (p : List Nat) : Option Nat :=
  let k := entW p 0
  if 4 < k then some 0
  else if (if k = 3 then 50 else if k = 4 then 5 else unitsOf k) ≤ entW p 1 then some 1 else none

/-- RETIRE_UNIT's own part. -/
def retireBody (m : List Host.Cell) (p : List Nat) (d : Dev) : Dev × Ans :=
  let k := entW p 0
  let u := entW p 1
  let ok (d : Dev) : Dev × Ans := (d, okA [d.rn (Reg.rprKSpares k)])
  if d.mode ≠ modeMaintenance then (d, noA cWrongMode)
  else if k = 3 then
    match coreRetire (bitOf (entW p 2) 1) u d with
    | some d => ok d
    | none => (d, noA cSpareExhausted)
  else if k = 4 then ok (laneRetire (fld (entW p 2) 0 1) u 0 true d)
  else ok (retireUnit k u 4 (if k = 1 && eRole d u != 3 then runsLost m u d else d))

/-! The rows. -/

/-- BRIDGE_RESET (R535). -/
def execBridgeReset (s : State) : Outcome := s.act bridgeReset

/-- PCIE_LINK_UP (R535). -/
def execPcieLinkUp (rate lanes : Nat) (s : State) : Outcome :=
  s.act (onlyIf (1 ≤ rate && rate ≤ 5 && 1 ≤ lanes && lanes ≤ 8) (pcieUp rate lanes))

/-- PCIE_CONFIG_WRITE (R536). -/
def execPcieConfigWrite (bme d3 : Bool) (s : State) : Outcome := s.act (pcieConfig bme d3)

/-- PREFETCH_DISCARD (R539). -/
def execPrefetchDiscard (s : State) : Outcome := s.act (fun d => { d with hbr := { d.hbr with pre := [] } })

/-- FLUSHING_READ (R537): the `n` writes that the initiator issued before it, at most 16, complete. -/
def execFlushingRead (r : OutRead) (s : State) : Outcome := s.act (outTake r.key (min r.n 16))

/-- OUTBOUND_BACKOFF (R540). -/
def execOutboundBackoff (s : State) : Outcome := s.act backOff

/-- COMPLETION_TIMEOUT (R541). -/
def execCompletionTimeout (r : OutRead) (s : State) : Outcome := s.act (cplTimeout r.key (min r.n 16))

/-- SCRUB_STEP (R544). -/
def execScrubStep (m loc addr : Nat) (res : ScrubRes) (pct : Nat) (s : State) : Outcome :=
  s.act (onlyIf (m < 4 && loc < 2 ^ 27 && pct ≤ 100 && chanOf addr == m) (scrubStep m loc addr res pct))

/-- DRAM_UE_READ (R546). -/
def execDramUeRead (m loc addr : Nat) (reader : UeReader) (s : State) : Outcome :=
  s.act (onlyIf (m < 4 && loc < 2 ^ 27 && chanOf addr == m) (fun d => ueReader reader (memUe m loc addr d)))

/-- ROW_REMAP (R547). -/
def execRowRemap (m loc : Nat) (s : State) : Outcome := s.act (onlyIf (m < 4 && loc < 2 ^ 27) (rowRemap m loc))

/-- REMAP_COPY_DONE (R547). -/
def execRemapCopyDone (m e : Nat) (s : State) : Outcome := s.act (onlyIf (m < 4 && e < 16) (remapDone m e))

/-- DRAM_PPR (R548). -/
def execCmdDramPpr (h : Cmd) (s : State) : Outcome := s.act (runC (spec0 0x903 [0x7FF, 0x3FFFF]) pprBody h)

/-- PPR_COMPLETE (R548). -/
def execPprComplete (ok : Bool) (left : Nat) (s : State) : Outcome := s.act (pprEnds ok left)

/-- SRAM_ROW_REPAIR (R549). -/
def execSramRowRepair (g row : Nat) (ue : Bool) (s : State) : Outcome :=
  s.act (onlyIf (g < 8 && row < 2 ^ 24) (sramRow g row ue))

/-- SRAM_REPAIR_DONE (R549). -/
def execSramRepairDone (g row : Nat) (s : State) : Outcome := s.act (sramDone g row)

/-- FUSE_COMMIT (R552). -/
def execFuseCommit (v : Word) (s : State) : Outcome := s.act (fuseCommit v.toNat)

/-- FUSE_COMMIT_DONE (R552). -/
def execFuseCommitDone (ok : Bool) (s : State) : Outcome := s.act (fuseDone ok)

/-- RETIRE_UNIT (13 R420). -/
def execCmdRetireUnit (h : Cmd) (s : State) : Outcome := s.actM (fun m => runC ⟨0x901, false, [7, mAll, 3], [], retireRange⟩ (retireBody m) h)

/-- REPAIR_STATUS (R560). -/
def execCmdRepairStatus (h : Cmd) (s : State) : Outcome :=
  s.act (runC (spec0 0x902 [7]) (fun p d =>
    (d, okA [d.rn (Reg.rprKActive (entW p 0)), d.rn (Reg.rprKSpares (entW p 0)), d.rn (Reg.rprKRetired (entW p 0))])) h)

/-- CORE_UE (R557): a machine check of core `core`. -/
def execCoreUe (core : Nat) (s : State) : Outcome := s.act (fun d => raise 401 none core 0 (d.emit (.note 557 [core])))

end Sys2Proof.Machine
end

