-- ==== Sys2Proof/Machine/Clocks.lean ====
section
/-! DEFINITION. Reference clocks, the root PLL, lockstep, temperature and rails; clearing sources and units; and the diagnostics
commands that switch a function on or off (02 R35 to R38; 15 R446, R452, R453; 19 R574, R583; 13 R421; 08 R263; 03 R93). -/

namespace Sys2Proof.Machine

/-! Clocks (02 R37; 16 R469). -/

/-- A reference is declared lost. -/
def refLost (c : RefClk) (d : Dev) : Dev :=
  match c with
  | .refclk =>
    let d := { d with rst := { d.rst with refLost := true } }
    let d := ((d.clrB Reg.clkStatus 0).setB Reg.clkStatus 4).emit (.ball "CLK_FAIL" 1)
    if d.up then setCond 4 0 (setCond 0 0 d) else d
  | .eth =>
    let d := setCond 2 0 (d.clrB Reg.clkStatus 2)
    ((List.range 11).filter (linkUp d)).foldl (fun d p => linkGoesDown p d) d
  | .pcie => bridgeReset (setCond 3 0 (d.clrB Reg.clkStatus 3))

/-- A reference is back in range. -/
def refBack (c : RefClk) (d : Dev) : Dev :=
  match c with
  | .refclk =>
    let d := { d with rst := { d.rst with refLost := false } }
    let d := ((d.putB Reg.clkStatus 0 d.up).clrB Reg.clkStatus 4).emit (.ball "CLK_FAIL" 0)
    clearCond 4 (clearCond 0 d)
  | .eth => clearCond 2 (d.setB Reg.clkStatus 2)
  | .pcie => clearCond 3 (d.setB Reg.clkStatus 3)

/-- A condition source follows its cause. -/
def follow (n : Nat) (present : Bool) (d0 : Nat) (d : Dev) : Dev := if present then setCond n d0 d else clearCond n d

/-- The die's temperature against a threshold: at it, 3 degrees below it, or between, where nothing changes (19 R583). -/
def tempCond (n : Nat) (thr t : Int) (d : Dev) : Dev :=
  if thr ≤ t then setCond n t.toNat d else if t ≤ thr - 3 then clearCond n d else d

/-- The die's temperature in degrees Celsius; the thresholds go with the grade. -/
def dieTemp (t : Int) (d : Dev) : Dev :=
  let g : Int := if d.bitR Reg.glbId 16 then 10 else 0
  tempCond 409 (115 + g) t (tempCond 408 (105 + g) t d)

/-! Clearing (15 R452, R453). -/

/-- Whether a source's cause is present, an occurrence of this tick included. -/
def srcPresent (d : Dev) (n : Nat) : Bool := d.bitR (Reg.supSrcStatus n) 0 || d.sup.occTick.contains n

def clrRefused (n : Nat) (d : Dev) : Dev := (d.wn Reg.supClrResult (n + 2 ^ 17)).bump Reg.supClrRefused

/-- A write of 1 to LATCHED, or to the source's event bit. -/
def sourceClear (n : Nat) (d : Dev) : Dev :=
  if !srcExists n then d
  else if srcPresent d n then clrRefused n d
  else
    let d := match evtReg n with
      | some r => d.clrB r (evtBit n)
      | none => d
    let d := (d.clrB (Reg.supSrcStatus n) 1).setF (Reg.supSrcStatus n) 16 16 0
    d.wn Reg.supClrResult (n + 2 ^ 16)

/-- Sources of a unit. -/
def sourcesOf (u : Nat) : List Nat := (List.range 416).filter (fun n => unitOf n == u)

/-- Whether a source is LATCHED. -/
def latched (d : Dev) (n : Nat) : Bool := d.bitR (Reg.supSrcStatus n) 1

/-- A privileged unit's history emptied. -/
def histEmpty (u : Nat) (d : Dev) : Dev :=
  (List.range 8).foldl (fun d k =>
    let d := (d.wn (histRegs u k).1 0).wn (histRegs u k).2 0
    if u = 5 then d.wn (Reg.tgtHistAddr k) 0 else d) d

/-- A write of SUP_U_CLR. -/
def unitClear (u : Nat) (d : Dev) : Dev :=
  if (sourcesOf u).any (latched d) then clrRefused 0x1FF d
  else
    let d := (d.wn (Reg.supUFirst u) 0).wn (Reg.supUFirstTc u) 0
    let d := if privileged u then histEmpty u d else d
    d.wn Reg.supClrResult (0x1FF + 2 ^ 16)

/-! Diagnostics (13 R421). -/

/-- A command of Maintenance alone that always answers OK there. -/
def inMaint (f : List Nat → Dev → Dev) (p : List Nat) (d : Dev) : Dev × Ans :=
  if d.mode = modeMaintenance then (f p d, okA []) else (d, noA cWrongMode)

/-! The rows. -/

/-- REFERENCE_LOST (02 R37; 16 R469). -/
def execReferenceLost (clk : RefClk) (s : State) : Outcome :=
  s.actR (fun d => if clk = .refclk || d.up then refLost clk d else d)

/-- REFERENCE_RETURN (02 R37; 16 R469). -/
def execReferenceReturn (clk : RefClk) (s : State) : Outcome :=
  s.actR (fun d => if clk = .refclk || d.up then refBack clk d else d)

/-- ROOT_PLL_UNLOCK (15 R446). -/
def execRootPllUnlock (s : State) : Outcome := s.act (fun d => setCond 1 0 (d.clrB Reg.clkStatus 1))

/-- LOCKSTEP_MISMATCH (15 R446); the comparison pauses while the management cores are halted (17 R529). -/
def execLockstepMismatch (pair : Nat) (s : State) : Outcome :=
  s.act (onlyIf (pair < 2) (fun d => if d.bitR Reg.tgtDbgStatus 3 then d else raise (50 + pair) none pair 0 d))

/-- LANTERN_READBACK (15 R446): the ball differs from the driven level, or no longer. -/
def execLanternReadback (differs : Bool) (s : State) : Outcome := s.act (follow 55 differs 0)

/-- DIE_TEMP_THRESHOLD (19 R583). -/
def execDieTempThreshold (celsius : Int) (s : State) : Outcome := s.act (dieTemp celsius)

/-- RAIL_WINDOW (19 R574): whether a core rail is now outside its warning window, and outside its operating window. -/
def execRailWindow (warn oper : Bool) (s : State) : Outcome := s.act (fun d => follow 411 oper 0 (follow 410 warn 0 d))

/-- SOURCE_CLEAR (15 R452). -/
def execSourceClear (n : Nat) (s : State) : Outcome := s.act (onlyIf (n < 416) (sourceClear n))

/-- UNIT_CLEAR (15 R453). -/
def execUnitClear (u : Nat) (s : State) : Outcome := s.act (onlyIf (u < 32) (unitClear u))

/-- DIAG_LOOPBACK (13 R421). -/
def execCmdDiagLoopback (h : Cmd) (s : State) : Outcome :=
  s.act (runC ⟨0xA02, false, [0xF, 1], [], fun p => if 10 < entW p 0 then some 0 else none⟩
    (inMaint (fun p d => d.putB (Reg.ethCtrl (entW p 0)) 6 (bitOf (entW p 1) 0))) h)

/-- DIAG_SAMPLE (13 R421; 03 R93). -/
def execCmdDiagSample (h : Cmd) (s : State) : Outcome :=
  s.act (runC ⟨0xA03, false, [0xF, 0xFFFF], [], fun p => if 10 < entW p 0 then some 0 else none⟩
    (fun p d => (d.wn (Reg.ethSampleN (entW p 0)) (entW p 1), okA [])) h)

/-- DIAG_INSPECT (13 R421; 08 R263). -/
def execCmdDiagInspect (h : Cmd) (s : State) : Outcome :=
  s.act (runC ⟨0xA04, false, [3, 1], [], fun p => if entW p 0 = 3 then some 0 else none⟩
    (inMaint (fun p d =>
      d.wrLagR Reg.ttbInspCtrl (w32 (putFld (d.rn Reg.ttbInspCtrl) (entW p 0) 1 (entW p 1))))) h)

end Sys2Proof.Machine
end

