-- ==== Sys2Proof/Machine/Bounds.lean ====
section
/-! DEFINITION. The tick, the leg boundary and the route boundary: what each starts and what takes effect at it (01 R15, R20, R21;
02 R42, R43; 00_scope R12, R586; 15 R454; 13 R405). -/

namespace Sys2Proof.Machine

/-! The tick. -/

/-- Occurrences of the last tick are no longer present (15 R443). -/
def occEnd (d : Dev) : Dev :=
  let l := d.sup.occTick
  l.foldl (fun d n => d.clrB (Reg.supSrcStatus n) 0) { d with sup := { d.sup with occTick := [], msgTick := [] } }

/-- RCLK cycles between two edges of the Lantern at a RATE (15 R454): 4,000 µs at RATE 0, half as many at each step. -/
def ltnHalf (rate : Nat) : Nat := 12288000 / 2 ^ rate

/-- The Lantern `c` RCLK cycles later. -/
def ltnRun (c : Nat) (d : Dev) : Dev :=
  if d.sup.lantern ≠ .toggling then d
  else
    let h := ltnHalf (fld (d.effR Reg.supLtnCfg).toNat 0 3)
    let n := d.sup.ltnCnt + c
    if h ≤ n then { d with sup := { d.sup with ltnCnt := n - h, ltnLevel := !d.sup.ltnLevel } }
    else { d with sup := { d.sup with ltnCnt := n } }

/-- The counts of the watchdog, the start timer and the TRNG's start-up (16 R477, R478; 17 R514). -/
def tickCounts (d : Dev) : Dev :=
  let d := if startRuns d then { d with rst := { d.rst with startTicks := d.rst.startTicks + 1 } } else d
  let d := if wdtRuns d then { d with rst := { d.rst with wdtTicks := d.rst.wdtTicks + 1 } } else d
  if d.bitR Reg.sbxTrngStatus 1 then { d with sbx := { d.sbx with trngTicks := d.sbx.trngTicks + 1 } } else d

/-- The element engines' counts when an element tick ends (06 R203). -/
def eenTick (d : Dev) : Dev :=
  let t := d.een.tickCyc
  (List.range 34).foldl (fun d e => d.wn (Reg.eenETickCyc e) (tget 0 t e)) d

/-- The Harness engines' counts when a Harness tick ends (07 R242). -/
def hleTick (d : Dev) : Dev :=
  let t := d.hle.tickCyc
  (List.range 17).foldl (fun d e => d.wn (Reg.hleETickCyc e) (tget 0 t e)) d

/-- The filter tick begins; a tick in which filter seats of two legs do not all fit passes some over (01 R20). -/
def filterBegins (d : Dev) : Dev :=
  passOver (match stageLeg d 1 with
  | none => d
  | some _ => { d with fch := { d.fch with tickCyc := [] } })

/-- The element tick of a leg begins: records of the deferred window are published, and those not written are STALE
(06 R171, R177; 08 R245). -/
def elementBegins (m : List Host.Cell) (d : Dev) : Dev :=
  match stageLeg d 2 with
  | none => d
  | some n =>
    let d := bgPublish (laneTick { d with een := { d.een with tickCyc := [] } })
    staleRun true n (memWriteWords m d.dramW) d

/-- The Harness tick of a leg begins: reports of the element tick are formed, its records not written are STALE, and the inputs freeze
(01 R21; 06 R177; 09 R289). -/
def harnessBegins (m : List Host.Cell) (d : Dev) : Dev :=
  match stageLeg d 3 with
  | none => d
  | some n =>
    let d := eenTick (pmuForm (memWriteWords m d.dramW) { d with hle := { d.hle with tickCyc := [] } })
    let d := staleRun false n (memWriteWords m d.dramW) d
    freezeAll (memWriteWords m d.dramW) n (stlFreeze d)

/-- The egress tick begins (09 R271, R272, R281, R289). -/
def egressBegins (d : Dev) : Dev :=
  match stageLeg d 4 with
  | none => d
  | some _ => pmuSend (egressTick (hleTick d))

/-- Relative filter tick 9 of a leg (08 R243; 09 R286). -/
def svBegins (d : Dev) : Dev :=
  match stageLeg d 10 with
  | none => d
  | some n => svRepublish n d

/-- Every stage point that a tick edge starts (01 R15). -/
def stages (m : List Host.Cell) (d : Dev) : Dev :=
  brcTick (svBegins (egressBegins (harnessBegins m (elementBegins m (filterBegins d)))))

/-- Trip frames whose egress tick has ended are discarded at every port (09 R273). -/
def tripsLate (d : Dev) : Dev := (List.range 11).foldl (fun d p => tripLate p d) d

/-- A tick edge of a device that runs. -/
def tickUp (m : List Host.Cell) (d : Dev) : Dev :=
  let c := d.tim.toEdge
  let d := tripsLate { d with tim := { d.tim.advance c with toEdge := 40000 } }
  stages m (evrRestartTick (tickCounts (ltnRun c (occEnd d))))

/-- A tick edge while a reset is held: the start timer runs once the release has begun (16 R478). -/
def tickHeld (d : Dev) : Dev :=
  if startRuns d then { d with rst := { d.rst with startTicks := d.rst.startTicks + 1 } } else d

/-! The leg boundary. -/

/-- EN bits take effect; a filter chain enabled again restarts every channel (00_scope R586). -/
def enTakesEffect (d : Dev) : Dev :=
  let again := !d.enabled Reg.fchCtrl && d.bitR Reg.fchCtrl 0
  let d := { d with lagL := [] }
  if again then fchResume d else d

/-- The retentive words of the leg that ends go home (07 R235), unless power failed before it (16 R482). -/
def retWriteAll (d : Dev) : Dev := if retOpen d then (tkeys d.cars).foldl (fun d c => retWrite c d) d else d

/-- Carriages whose enable waited for this boundary (10 R310); `bad` are those whose retention fails its check (07 R235). -/
def enablesLeg (bad : List Nat) (d : Dev) : Dev :=
  let l := d.cmd.legEn
  l.foldl (fun d c => enableNow (bad.contains c) c d) { d with cmd := { d.cmd with legEn := [] } }

/-- A Harness mode asked for takes effect; in Stop the outputs take their safe values (07 R237; 09 R277). -/
def modesLeg (bad : List Nat) (m : List Host.Cell) (d : Dev) : Dev :=
  (tkeys d.cars).foldl (fun d c => hModeApply (bad.contains c) m c (if (hcar d c).modeReq = some hStop then askSafe c d else d)) d

/-- The Lantern begins to toggle in the first leg after the module enters Commission (15 R454). -/
def ltnLeg (d : Dev) : Dev :=
  if d.sup.lantern = .fuse && modeCommission ≤ d.mode && d.mode ≤ modeMaintenance then
    { d with sup := { d.sup with lantern := .toggling, ltnCnt := 0 } }
  else d

/-- The start of a leg (02 R43). -/
def legBoundary (bad : List Nat) (m : List Host.Cell) (d : Dev) : Dev :=
  let d := holdEvents (ttbLeg (rateLeg (enTakesEffect (retWriteAll d))))
  ltnLeg (brcLeg (stlLeg (drcLeg (modesLeg bad m (enablesLeg bad d)))))

/-! The route boundary. -/

/-- The engines' counts of the route that ended. -/
def cycRoute (d : Dev) : Dev :=
  let t := d.een.routeCyc
  let u := d.hle.routeCyc
  let d := (List.range 34).foldl (fun d e => d.wn (Reg.eenERouteCyc e) (tget 0 t e)) d
  let d := (List.range 17).foldl (fun d e => d.wn (Reg.hleERouteCyc e) (tget 0 u e)) d
  { d with een := { d.een with routeCyc := [] }, hle := { d.hle with routeCyc := [] } }

/-- An effect that waited for a route boundary; a resume whose route has not come waits on (13 R405). -/
def actNow (a : Act) (d : Dev) : Dev :=
  match a with
  | .stream op i w => streamAct op i w d
  | .mode m => modeAct m d
  | .holdback h => holdApply h d
  | .save c job slot stop dest addr => saveNow c job slot stop dest addr (saveNoted c dest d)
  | .resume c job r =>
    if r ≤ d.tim.absRoute then resumeNow c job d else { d with cmd := { d.cmd with route := d.cmd.route ++ [.resume c job r] } }
  | .freed c _ _ _ => freedNow c d
  | .proof _ => d

/-- The effects of accepted commands, in the order of their commands. -/
def actsNow (d : Dev) : Dev :=
  let l := d.cmd.route
  l.foldl (fun d a => actNow a d) { d with cmd := { d.cmd with route := [] } }

/-- Carriages whose enable waited for their seats (10 R310). -/
def enablesRoute (bad : List Nat) (d : Dev) : Dev :=
  (d.cars.filter (fun p => p.2.enablePlan && ttbState d p.1 == 2)).foldl (fun d p => enableNow (bad.contains p.1) p.1 d) d

/-- The count of routes in HOLDOVER (02 R53). -/
def holdRoute (d : Dev) : Dev :=
  if timState d = tsHoldover then { d with tim := { d.tim with holdCnt := d.tim.holdCnt + 1 } } else d

/-- Banks, programs and gate lists exchange (07 R241; 03 R84). -/
def swapsRoute (d : Dev) : Dev :=
  let d := (tkeys d.cars).foldl (fun d c => hSwap c d) d
  (List.range 11).foldl (fun d p => gclSwap p d) d

/-- A route boundary (00_scope R12); `slots` are the VALID slots whose tag fails (17 R509). -/
def routeBoundary (slots bad : List Nat) (m : List Host.Cell) (d : Dev) : Dev :=
  let commits := commitsWait d
  let sb := d.mode == modeStandby
  let d := { sauRoute d with lagR := [] }
  let d := pubApply (gsApply (eenApply (fchRoute (actsNow d))))
  let d := ttbRoute (stlRoute (safeCopy (memWriteWords m d.dramW) d))
  let d := swapsRoute (enablesRoute bad (cycRoute d))
  let d := slots.foldl (fun d s => slotGoesBad s d) (ptpRoute (holdRoute d))
  modeRoute sb (brcRoute commits d)

/-! The rows. -/

/-- TICK (02 R42). -/
def execTick (s : State) : Outcome := s.actR (fun d => if d.up then tickUp s.mem d else tickHeld d)

/-- LEG_BOUNDARY (02 R43). -/
def execLegBoundary (bad : List Nat) (s : State) : Outcome := s.actM (legBoundary bad)

/-- ROUTE_BOUNDARY (00_scope R12). -/
def execRouteBoundary (slots bad : List Nat) (s : State) : Outcome := s.actM (routeBoundary slots bad)

end Sys2Proof.Machine
end

