-- ==== Sys2Proof/Machine/Access.lean ====
section
/-! DEFINITION. Reading and writing the control space: what a register reads as, the side effects of a read, what a write of each
register does, the Tollgate's checks, and the accesses of the diagnostics commands, the debug port and the host
(00_scope R4 to R11, R585; 02 R44; 17 R517 to R522, R527; 18 R534, R538, R539; 13 R421). -/

namespace Sys2Proof.Machine

/-! Indices of a register within its array. -/

/-- The index of an offset in an array of `ct` registers `st` apart. -/
def at1 (off base st ct : Nat) : Option Nat :=
  if base ≤ off && (off - base) % st == 0 && (off - base) / st < ct then some ((off - base) / st) else none

/-- The indices of an offset in `ct` arrays `st` apart of `cu` registers `su` apart. -/
def at2 (off base st ct su cu : Nat) : Option (Nat × Nat) :=
  if base ≤ off && (off - base) / st < ct then (at1 ((off - base) % st) 0 su cu).map (fun j => ((off - base) / st, j)) else none

/-- The carriage of a window (R6). -/
def winCar (off : Nat) : Nat := (off - 0x1000000) / 0x10000

/-- Whether an offset lies in the window of a FREE carriage, which reads 0 and ignores writes (10 R318). -/
def freeWin (d : Dev) (off : Nat) : Bool := decide (0x1000000 ≤ off) && carSt d (winCar off) == 0

/-- Whether an offset is of a message vector that a level-1 carriage does not have: it has vector 0 alone (10 R318). -/
def vecAbsent (d : Dev) (off : Nat) : Bool :=
  0x1000000 ≤ off && 0x110 ≤ off % 0x10000 && off % 0x10000 < 0x300 && off < 0x3000000 && carLevel d (winCar off) == 1

/-- The register row at an offset as the device is; none where the offset is reserved (R7). -/
def rowAt (d : Dev) (off : Nat) : Option RegRow := if vecAbsent d off then none else regRow? off

/-! What registers read as. -/

/-- Word `w` of an event record as EVR_WIN shows it (15 R459, R461). -/
def evWord (fmt1 : Bool) (r : EvRec) (w : Nat) : Nat :=
  if fmt1 then
    match w with
    | 0 => r.tcFirst
    | 1 => r.sec
    | 2 => r.ns
    | 3 => r.source + r.rep % 256 * 2 ^ 16 + r.car % 256 * 2 ^ 24
    | 4 => r.car / 256 % 256 + r.data0 % 2 ^ 24 * 2 ^ 8
    | 5 => r.data0 / 2 ^ 24 % 256 + r.data1 % 2 ^ 24 * 2 ^ 8
    | 6 => r.data1 / 2 ^ 24 % 256
    | _ => 0
  else
    match w with
    | 0 => r.tcFirst
    | 1 => r.tcLast
    | 2 => r.sec
    | 3 => r.ns
    | 4 => r.source + r.rep * 2 ^ 16
    | 5 => r.car + r.chg * 2 ^ 16
    | 6 => r.data0
    | _ => r.data1

/-- The latched sources, ascending. -/
def latchedSources (d : Dev) : List Nat := (List.range 416).filter (fun n => srcExists n && latched d n)

/-- SUP_STATUS (15 R462). -/
def supStatusW (d : Dev) : Nat :=
  let l := latchedSources d
  (l.map (fun n => srcClass n d)).foldl max 0 + b2n (l != []) * 4 + b2n (d.bitR Reg.supMfSource 15) * 8 +
    b2n (d.sup.lantern == .held) * 16 + l.length * 2 ^ 16

/-- SUP_PEND_j. -/
def supPendW (d : Dev) (j : Nat) : Nat :=
  ((List.range 32).filter (fun i => j * 32 + i < 416 && latched d (j * 32 + i))).foldl (fun a i => a + 2 ^ i) 0

/-- PUB_GE_ST: the ticks to the entry's next scheduled frame, saturating. -/
def geStW (d : Dev) (e : Nat) : Nat :=
  let x := geRun d e
  putFld (d.rn (Reg.pubGeSt e)) 8 24 (if x.sent.isSome then min 0xFFFFFF (x.due - d.tim.absTick) else 0)

/-- Registers of blocks below the carriage windows whose value the device computes when it is read. -/
def derivedBlk (d : Dev) (off : Nat) : Option Nat :=
  if off < 0x40000 then
    if 0x30000 ≤ off then
      match d.tim.snap with
      | some l => match snapReg l off with
        | some v => some v
        | none => timeReg d off
      | none => timeReg d off
    else if off = Reg.rstWdtRemain then some (wdtRemain d)
    else if off = Reg.rstStartTimer then some (startMs d)
    else none
  else if off < 0x90000 then
    if off = Reg.supStatus then some (supStatusW d)
    else if off = Reg.sbxTrngStatus then some (trngW d)
    else if off = Reg.cmdStatus then some (cmdStatusW d)
    else match at1 off (Reg.supPend 0) 4 13 with
    | some j => some (supPendW d j)
    | none => match at1 off (Reg.cmdSState 0) 0x40 64 with
    | some s => some (sesStateW d s)
    | none => match at2 off (Reg.evrWin 0 0) 0x20 1024 4 8 with
    | some (i, w) => some (match tfind d.sup.recs (d.fldR Reg.evrPage 0 6 * 1024 + i) with
      | some r => evWord (evFormat1 d) r w
      | none => 0)
    | none => none
  else if off < 0x500000 then
    match at2 off (Reg.sauEnt 0 0) 0x80 4096 4 32 with
    | some (s, i) => some (entW (sauEnt d s) i)
    | none => match at2 off (Reg.fchCoefRom 0 0 0) 0x4000 4 4 4096 with
    | some (b, i) => some (wrapN 18 (coef d b (i / 16) (i % 16)))
    | none => match at1 off (Reg.fchCoefLoad 0 0) 4 4096 with
    | some i => some (tget 0 d.fch.coefI i)
    | none => match at1 off (Reg.swcGclSched 0) 0x400 11 with
    | some p => some (schedW d p)
    | none => none
  else
    if off = Reg.hleGmapData then some (tget 0 d.hle.gmap (d.fldR Reg.hleGmapIdx 0 16))
    else if off = Reg.pubMapData then some (tget 0 d.pub.map (d.fldR Reg.pubMapIdx 0 15))
    else if off = Reg.rprFuseCmd then some 0
    else if off = Reg.stlStatus then some (putFld (putFld (d.rn off) 3 1 (selfNode d)) 0 2 (gState d))
    else if off = Reg.pubStatus then some (putFld (d.rn off) 29 1 (b2n (isShadow d)))
    else match at1 off (Reg.hleCStep 0) 0x20 512 with
    | some _ => some 0
    | none => match at2 off (Reg.hleGsEnt 0 0) 0x80 2048 4 32 with
    | some (s, i) => some (entW (gsEnt d s) i)
    | none => match at1 off (Reg.pubGeSt 0) 0x10 2048 with
    | some e => some (geStW d e)
    | none => none

/-- Registers of a carriage's window that the device computes when they are read (10 R318). -/
def derivedCar (d : Dev) (off : Nat) : Option Nat :=
  let c := winCar off
  if off = Reg.carState c then some (carStateW d c)
  else match at1 off (Reg.carOutBit c 0) 4 64 with
  | some w => some (tget 0 (hcar d c).wr (0x1000 + w))
  | none => match at1 off (Reg.carOutWord c 0) 4 128 with
  | some w => some (tget 0 (hcar d c).wr (0x1040 + w))
  | none => none

/-- What a read of an offset returns, without any side effect: 0 at a reserved offset, in the window of a FREE carriage, and of a
write-only register; a high word that a read of its low word latched (R7, R9, R11). -/
def readReg (d : Dev) (off : Nat) : Nat :=
  match rowAt d off with
  | none => 0
  | some r =>
    if freeWin d off || r.acc = .wo then 0
    else match tfind d.hiLat off with
    | some w => w.toNat
    | none => match (if 0x1000000 ≤ off then derivedCar d off else derivedBlk d off) with
    | some v => v
    | none => d.rn off

/-- A read at a reserved offset latches source 48 (R7). -/
def reservedRead (off : Nat) (d : Dev) : Dev := if (rowAt d off).isNone then raise 48 none off 0 d else d

/-- What a read does beside returning the value: an RC register clears, a low word latches its high word, which is released by its own
read, and TIM_SEC_LO takes the snapshot that TIM_FRAC releases (R9, R11; 02 R44; 03 R98). -/
def readEffect (off : Nat) (d : Dev) : Dev :=
  match rowAt d off with
  | none => raise 48 none off 0 d
  | some r =>
    if freeWin d off then d
    else
      let d := { d with hiLat := tdel d.hiLat off }
      let d := if isLowWord off then latchHigh off d else d
      let d := if off = Reg.timSecLo then takeSnap d
        else if off = Reg.timFrac then { d with tim := { d.tim with snap := none } } else d
      if r.acc ≠ .rc then d
      else if off = Reg.swcFreeMin then d.wr off (d.rd Reg.swcFree) else d.wn off 0

/-! Writing. -/

/-- Whether a value keeps every range that the register's description states (R585). -/
def inRanges (r : RegRow) (v : Nat) : Bool :=
  r.ranges.all (fun x => x.2.2.1 ≤ fld v x.1 x.2.1 && fld v x.1 x.2.1 ≤ x.2.2.2)

/-- The register with its implemented bits written. -/
def store (r : RegRow) (off v : Nat) (d : Dev) : Dev :=
  d.wr off ((d.rd off &&& ~~~(w32 r.mask)) ||| (w32 v &&& w32 r.mask))

/-- Implemented bits written, in force from the next leg boundary (R586), or from the next route boundary. -/
def storeL (r : RegRow) (off v : Nat) (d : Dev) : Dev :=
  d.wrLagL off ((d.rd off &&& ~~~(w32 r.mask)) ||| (w32 v &&& w32 r.mask))
def storeR (r : RegRow) (off v : Nat) (d : Dev) : Dev :=
  d.wrLagR off ((d.rd off &&& ~~~(w32 r.mask)) ||| (w32 v &&& w32 r.mask))

/-- Bits of a W1C register that belong to no source cleared. -/
def w1cBits (off v : Nat) (d : Dev) : Dev := d.wr off (d.rd off &&& ~~~(w32 v))

/-- A write of a W1C register: each event bit clears as its source does (15 R452). -/
def w1cWrite (off v : Nat) (d : Dev) : Dev :=
  match at1 off (Reg.supSrcStatus 0) 8 416 with
  | some n => if bitOf v 1 then sourceClear n d else d
  | none =>
    if off = Reg.swcWakeStatus || off = Reg.stlSyncEvt || 0x1000000 ≤ off then w1cBits off v d
    else ((List.range 416).filter (fun n => srcExists n && evtReg n == some off && bitOf v (evtBit n))).foldl
      (fun d n => sourceClear n d) d

/-- GUARD follows a port's rate and longest frame while the trip window is overlaid (03 R85). -/
def guardUpd (p : Nat) (d : Dev) : Dev := if d.bitR (Reg.swcGclCtrl p) 3 then setGuard p d else d

/-- Whether a SPEED code is one that a block takes; any other is ignored (03 R97). -/
def speedOk (n sp : Nat) : Bool := if n < 8 then sp ≤ 1 else if n < 10 then sp == 1 else sp == 2

/-- AN_EN of the management port; without it no auto-negotiation is complete (03 R97). -/
def writeAnEn (b : Bool) (d : Dev) : Dev :=
  let d := d.putB (Reg.ethCtrl 10) 3 b
  if b then d else d.clrB (Reg.ethStatus 10) 4

/-- A write of ETH_CTRL (03 R69, R90, R97; R585): an ignored SPEED code leaves the register unchanged; SPEED on the even port of a
process pair applies to both; FEC_EN not in block 10; AN_EN in block 10 only; SPEED, FEC_EN and LOOPBACK are RWM; without TX_EN no frame
waits. -/
def writeEthCtrl (n v : Nat) (d : Dev) : Dev :=
  let r := Reg.ethCtrl n
  if !speedOk n (fld v 0 2) then d
  else
  let d := (d.putB r 4 (bitOf v 4)).putB r 5 (bitOf v 5)
  let d := if n = 10 then writeAnEn (bitOf v 3) d else d
  let d := if txShut d n then drainShut n d else d
  let sp := if n < 8 && n % 2 == 0 then fld v 0 2 else d.fldR r 0 2
  let fec := if n < 10 then bitOf v 2 else d.bitR r 2
  if sp = d.fldR r 0 2 && fec = d.bitR r 2 && bitOf v 6 = d.bitR r 6 then d
  else rwm d (fun d =>
    let d := ((d.setF r 0 2 sp).putB r 2 fec).putB r 6 (bitOf v 6)
    if n < 8 && n % 2 == 0 then guardUpd (n + 1) (guardUpd n (d.setF (Reg.ethCtrl (n + 1)) 0 2 sp)) else d)

/-- A write of SUP_SRC_CFG (15 R445): a class below the floor, or Carriage-fatal on a source that names no carriage, leaves CLASS. -/
def writeSrcCfg (n v : Nat) (d : Dev) : Dev :=
  let r := Reg.supSrcCfg n
  if !srcExists n then d
  else
    let c := fld v 0 2
    let d := d.setF r 2 4 (fld v 2 4)
    if c < floorClass n || (c = 2 && !namesCarriage n) then d else d.setF r 0 2 c

/-- A write of BRC_CTRL; without EN the role is NONE, but for a fenced module (11 R325). -/
def writeBrcCtrl (v : Nat) (d : Dev) : Dev :=
  let d := d.wn Reg.brcCtrl (v % 8)
  if bitOf v 0 || brcRole d = 4 then d else setBrcRole roleNone d

/-- A write of STL_TBL_CTRL (12 R363). -/
def writeTblCtrl (v : Nat) (d : Dev) : Dev :=
  if bitOf v 0 then (tblAsk (fld v 8 20) d).1
  else if d.bitR Reg.stlTblCtrl 0 then d else d.setF Reg.stlTblCtrl 8 20 (fld v 8 20)

/-- A write of STL_CTRL: a Guard that is enabled starts in COLD (12 R369). -/
def writeStlCtrl (v : Nat) (d : Dev) : Dev :=
  let was := gState d ≠ gOff
  let d := d.wn Reg.stlCtrl (v % 16)
  if bitOf v 0 && bitOf v 1 && !was then modGuard (fun g => { g with fwd := none }) (d.setF Reg.stlStatus 0 2 gCold) else d

/-- A write of RST_WDT_CFG (16 R477, R495): EN once set stays, and setting it starts the count. -/
def writeWdtCfg (v : Nat) (d : Dev) : Dev :=
  let was := d.bitR Reg.rstWdtCfg 16
  let d := d.setF Reg.rstWdtCfg 0 16 v
  if bitOf v 16 && !was then wdtStart d else d

/-- A write of RST_CMD (16 R495): with more than one bit set it is ignored. -/
def writeRstCmd (v : Nat) (d : Dev) : Dev :=
  match v % 8 with
  | 1 => askReset 2 4 0 d
  | 2 => askReset 1 4 0 d
  | 4 => askReset 1 4 0x80 d
  | _ => d

/-- A write of GLB_TRIP_EN or GLB_CDRV_OUT: the balls follow (16 R493, R496). -/
def writeTripEn (v : Nat) (d : Dev) : Dev := tripEnUpd (d.wn Reg.glbTripEn (v % 2))
def writeCdrvOut (v : Nat) (d : Dev) : Dev :=
  ((List.range 8).filter (fun b => d.fldR (Reg.glbCdrvSel b) 0 2 == 1)).foldl (fun d b => driveContact b d)
    (d.wn Reg.glbCdrvOut (v % 256))

/-- A write of DRC_IT_CMD. -/
def writeItCmd (k v : Nat) (d : Dev) : Dev :=
  let d := if bitOf v 1 then itCancel k d else d
  if bitOf v 0 then itArm k d else d

/-- A write of STL_G_PCMD (12 R380, R381). -/
def writePcmd (p v : Nat) (d : Dev) : Dev :=
  let d := if bitOf v 0 then askReadmit p d else d
  if bitOf v 1 then (if orderRefused d p then d.emit (.infoEvent 381) else askOrder p d) else d

/-- OP of a command register: 1 reads, 2 commits. -/
def opCmd (v : Nat) (read commit : Dev → Dev) (d : Dev) : Dev :=
  match v % 4 with
  | 1 => read d
  | 2 => commit d
  | _ => d

/-- A write of a write-only register by a master: the command that it starts. -/
def woWrite (mst off v : Nat) (m : List Host.Cell) (d : Dev) : Dev :=
  if off < 0x100000 then
    if off = Reg.rstWdtKick then wdtKick v d
    else if off = Reg.rstCmd then writeRstCmd v d
    else if off = Reg.sbxUnlock then unlockWrite mst v d
    else if off = Reg.sbxZero then zeroWrite mst v d
    else if off = Reg.sbxTlogClr then tlogWrite mst v d
    else match at1 off (Reg.supUClr 0) 0x10 32 with
    | some u => if bitOf v 0 then unitClear u d else d
    | none => match at1 off (Reg.cmdSDb 0) 0x40 64 with
    | some s => cmdDoorbell s (v % 65536) d
    | none => d
  else if off < 0x780000 then
    if off = Reg.swcFdbCmd then
      let i := fld v 16 14
      match v % 4 with
      | 1 => fdbRead' i d
      | 2 => fdbWrite i d
      | 3 => fdbDel i d
      | _ => d
    else if off = Reg.sauInval then sauInval (v % 4096) (bitOf v 31) d
    else if off = Reg.sauEntCmd then opCmd v (sauEntRead (fld v 16 12)) (sauEntCommit (fld v 16 12)) d
    else if off = Reg.sauGatherCmd then
      if bitOf v 31 && 1 ≤ v % 32 && v % 32 ≤ 16 then sauGather (v % 32) [] [] d else d
    else if off = Reg.fchDescCmd then
      let t := fld v 2 2
      if t < 3 then opCmd v (fchDescRead t (fld v 16 15)) (fchCommitCmd t (fld v 16 15)) d else d
    else if off = Reg.eenDescCmd then opCmd v (eenDescRead (fld v 16 16)) (eenCommitCmd (fld v 16 16)) d
    else if off = Reg.hleLoadCmd then (if bitOf v 31 then hleLoadCmd (v % 512) (bitOf v 16) m d else d)
    else if off = Reg.hleGsCmd then opCmd v (gsRead (fld v 16 11)) (gsCommit (fld v 16 11)) d
    else d
  else if off < 0x1000000 then
    if off = Reg.pubGeCmd then opCmd v (geRead (fld v 16 11)) (geCommit (fld v 16 11)) d
    else if off = Reg.pubSvCmd then opCmd v (svRead (fld v 16 8)) (svCommit (fld v 16 8)) d
    else if off = Reg.pubPmuCmd then opCmd v (pmuRead (fld v 16 5)) (pmuCommit (fld v 16 5)) d
    else match at1 off (Reg.stlGPcmd 0) 0x10 30 with
    | some p => writePcmd p v d
    | none => match at1 off (Reg.drcItCmd 0) 0x20 4 with
    | some k => writeItCmd k v d
    | none => match at1 off (Reg.drcRFree 0) 0x40 16 with
    | some r => recFree r v d
    | none => d
  else
    let c := winCar off
    if off = Reg.carQcCmd c then
      let q := fld v 16 11
      match v % 4 with
      | 1 => qcRead c q d
      | 2 => qcCommit c q d
      | 3 => qcReset c q d
      | _ => d
    else match at1 off (Reg.carQDb c 0) 4 2048 with
    | some q => doorbell c q (v % 65536) d
    | none => d

/-- A write of an RW register below the switch. -/
def rwLow (r : RegRow) (off v : Nat) (d : Dev) : Dev :=
  if off = Reg.timCtrl then writeTimCtrl v d
  else if off = Reg.supCtrl || off = Reg.evrCtrl then storeL r off v d
  else if off = Reg.rstWdtCfg then writeWdtCfg v d
  else if off = Reg.glbModeReq then modeRequest v d
  else if off = Reg.glbTripEn then writeTripEn v d
  else if off = Reg.glbCdrvOut then writeCdrvOut v d
  else match at1 off (Reg.supSrcCfg 0) 8 416 with
  | some n => writeSrcCfg n v d
  | none => match at1 off (Reg.timPCfg 0) 0x20 11 with
  | some n => writePtpCfg n v d
  | none => match at2 off (Reg.timPRxLat 0) 0x20 11 4 4 with
  | some _ => storeR r off v d
  | none => match at2 off (Reg.cmdSCringLo 0) 0x40 64 4 5 with
  | some (s, j) => if j = 4 && bitOf v 16 then sesReset s v d else ringWrite s j v d
  | none => match at1 off (Reg.cmdSRcons 0) 0x40 64 with
  | some s => writeRcons s v d
  | none => store r off v d

/-- A write of an RW register of the ports and the switch (03 R97, R98). -/
def rwEth (r : RegRow) (off v : Nat) (d : Dev) : Dev :=
  match at1 off (Reg.ethCtrl 0) 0x10000 11 with
  | some n => writeEthCtrl n v d
  | none => match at1 off (Reg.ethPfcEn 0) 0x10000 11 with
  | some n => writePfcEn n v d
  | none => match at1 off (Reg.ethSecCtrl 0) 0x10000 11 with
  | some n => writeSecCtrl n v d
  | none => match at2 off (Reg.ethSecTxSa 0 0) 0x10000 11 4 4 with
  | some (n, a) => writeTxSa n a v d
  | none => match at2 off (Reg.ethSecRxSa 0 0) 0x10000 11 4 4 with
  | some (n, a) => writeRxSa n a v d
  | none => match at1 off (Reg.swcGclCtrl 0) 0x400 11 with
  | some p => writeGclCtrl p v d
  | none => match at1 off (Reg.swcGclSched 0) 0x400 11 with
  | some p => writeGclSched p v d
  | none => match at1 off (Reg.swcEtype 0) 4 6 with
  | some _ => d
  | none => match at2 off (Reg.swcQThr 0 0) 0x20 11 4 8 with
  | some (p, c) => writeQThr p c v d
  | none => store r off v d

/-- A write of an RW register of the sample path and publication. -/
def rwPath (r : RegRow) (off v : Nat) (d : Dev) : Dev :=
  if [Reg.sauCtrl, Reg.fchCtrl, Reg.eenCtrl, Reg.hleCtrl, Reg.pubCtrl].contains off then storeL r off v d
  else if off = Reg.sauFitCfg || off = Reg.sauFitGate then storeR r off v d
  else if off = Reg.hleGmapData then gmapCommit (d.fldR Reg.hleGmapIdx 0 16) v d
  else if off = Reg.pubMapData then pmapCommit (d.fldR Reg.pubMapIdx 0 15) v d
  else if off = Reg.ttbBankCtrl || off = Reg.pubTsmapCtrl then (if bitOf v 0 then d.setB off 0 else d)
  else if 0x740000 ≤ off && off < 0x780000 then
    let k := off - 0x740000
    seatWrite (k / 0x20000) (k % 0x20000 / 16) (k % 16 / 4) v d
  else if 0x7c0000 ≤ off && off < 0x7d0000 then
    let k := off - 0x7c0000
    tsWrite (k / 0x8000) (k % 0x8000 / 8) (k % 8 / 4) v d
  else store r off v d

/-- A write of an RW register from Brace on. -/
def rwHigh (r : RegRow) (off v : Nat) (d : Dev) : Dev :=
  if off = Reg.brcCtrl then writeBrcCtrl v d
  else if off = Reg.stlTblCtrl then writeTblCtrl v d
  else if off = Reg.stlCtrl then writeStlCtrl v d
  else if off = Reg.stlImapCtrl then (if bitOf v 0 then d.setB off 0 else d)
  else match at2 off (Reg.stlTblEntry 0 0) 0x800 2 4 488 with
  | some (b, _) => if b = stlBank d then d.emit (.infoEvent 387) else store r off v d
  | none => match at2 off (Reg.carVecCtrl 0 0) 0x10000 512 0x10 32 with
  | some (c, j) => writeVecCtrl c j v d
  | none => store r off v d

/-- A write of an RW register. -/
def rwWrite (r : RegRow) (off v : Nat) (d : Dev) : Dev :=
  if off < 0x100000 then rwLow r off v d
  else if off < 0x300000 then rwEth r off v d
  else if off < 0x800000 then rwPath r off v d
  else rwHigh r off v d

/-- A write of an RWM register in a mode that permits it. -/
def rwmWrite (r : RegRow) (off v : Nat) (d : Dev) : Dev :=
  if off = Reg.fchCoefCtrl then (if bitOf v 0 then d.setB off 0 else d)
  else if off = Reg.supLtnCfg || off = Reg.ttbInspCtrl then storeR r off v d
  else match at1 off (Reg.swcRedCfg 0) 0x20 5 with
  | some k => if fld v 0 2 = 3 || (fld v 0 2 = 2 && k < 4) then d else store r off v d
  | none => match at1 off (Reg.ethMaxlen 0) 0x10000 11 with
  | some p => guardUpd p (store r off v d)
  | none => match at1 off (Reg.fchCoefLoad 0 0) 4 4096 with
  | some i => { d with fch := { d.fch with coefI := tset 0 d.fch.coefI i (v % 2 ^ 18) } }
  | none => match at1 off (Reg.hleCStep 0) 0x20 512 with
  | some c => if bitOf v 0 then holdStep c d else d
  | none => store r off v d

/-- Whether an access is boot code's: the management cores, masters 0 and 1, run it in Boot (R11). -/
def byBoot (d : Dev) (mst : Nat) : Bool := d.mode == modeBoot && mst ≤ 1

/-- At most two of the cold-start ports are cards' ports, 2 to 29 (12 R368). -/
def coldPortsOk (v : Nat) : Bool := ((List.range 28).filter (fun i => bitOf v (i + 2))).length ≤ 2

/-- A write of an RWB register by boot code; after the lock it latches source 82 (17 R522). In Deployed no tamper sensor's enable is
cleared (17 R511). -/
def rwbWrite (mst : Nat) (r : RegRow) (off v : Nat) (d : Dev) : Dev :=
  if d.bitR Reg.tgtStatus 0 then raiseH 82 none off mst (mst * 16 + 256) ((0xF0000000 + off) / 4096) d
  else if !byBoot d mst || (off == Reg.stlColdPorts && !coldPortsOk v) then d
  else if off = Reg.sbxTamperCfg && lifeCycle d == 2 then store r off (orN v (d.rn off)) d
  else store r off v d

/-- A write of an RWM register (R11): in Boot by boot code alone; another master's write there acts as one in a mode that does not
permit it (log 55). -/
def rwmReg (mst : Nat) (r : RegRow) (off v : Nat) (d : Dev) : Dev :=
  if d.mode = modeBoot && !byBoot d mst then (if inRanges r v then raise 49 none 0 0 d else d)
  else if (at1 off (Reg.glbCdrvSel 0) 4 8).isSome then cdrvSel ((off - Reg.glbCdrvSel 0) / 4) v d
  else if off = Reg.rprFuseCmd then fuseCommit v d
  else if inRanges r v then rwm d (rwmWrite r off v) else d

/-- A write of a register by a master, after the Tollgate: the access code of R11, the ranges of R585, and the register's own
effect. A value out of range is ignored before the mode is looked at, so it latches no source 49 (log 55). -/
def writeReg (mst off v : Nat) (m : List Host.Cell) (d : Dev) : Dev :=
  match rowAt d off with
  | none => raise 48 none off 1 d
  | some r =>
    if freeWin d off then d
    else match r.acc with
    | .ro => if off = Reg.sbxStatus && bitOf v 3 then d.clrB off 3 else d
    | .rc => d
    | .w1c => w1cWrite off v d
    | .rwb => if d.bitR Reg.tgtStatus 0 || inRanges r v then rwbWrite mst r off v d else d
    | .wo => woWrite mst off v m d
    | .rw => if inRanges r v then rwWrite r off v d else d
    | .rwm => rwmReg mst r off v d

/-! The Tollgate (17 R517 to R521). -/

/-- The device address of a control-space offset (00_scope R4). -/
def ctlAddr (off : Nat) : Nat := 0xF0000000 + off

/-- The offset of a device address in the control space. -/
def ctlOff (a : Nat) : Option Nat := if 0xF0000000 ≤ a && a < 0xF3000000 then some (a - 0xF0000000) else none

/-- Whether the carriage map and window of carriage `c` hold an address (R518, R519). -/
def carMaps (d : Dev) (c a : Nat) : Bool :=
  let lo := d.fldR (Reg.tgtCBase c) 0 19 * 2 ^ 21
  c < 512 && ((ctlAddr (Reg.carId c) ≤ a && a < ctlAddr (Reg.carId c) + 0x10000) ||
    (inDram a && lo ≤ a && a < lo + d.fldR (Reg.tgtCSize c) 0 12 * 2 ^ 21))

/-- Whether firewall region `r` holds a page. -/
def regionHas (d : Dev) (p r : Nat) : Bool :=
  d.bitR (Reg.tgtRCtrl r) 0 && d.fldR (Reg.tgtRBase r) 0 28 ≤ p && p ≤ d.fldR (Reg.tgtRLimit r) 0 28

/-- Whether the lowest region that holds the address permits an access (R520). -/
def regionOk (d : Dev) (mst wbit : Nat) (write : Bool) (a : Nat) : Bool :=
  match (List.range 32).find? (regionHas d (a / 4096)) with
  | none => false
  | some r => d.bitR (Reg.tgtRCtrl r) wbit && d.bitR (Reg.tgtRPerm r) (mst + if write then 16 else 0)

/-- The source that an access latches when it is denied; none when it is permitted. -/
def denial (d : Dev) (w : Who) (write : Bool) (a : Nat) : Option Nat :=
  match w.world with
  | .none => some 80
  | .carriage c => if carMaps d c a then none else some 81
  | .livery => if (d.mode = modeBoot && w.master ≤ 1) || regionOk d w.master 1 write a then none else some 80
  | .hypervisor => if regionOk d w.master 2 write a then none else some 80

/-- A denial latched with its master and address. -/
def denied (n : Nat) (w : Who) (write : Bool) (a : Nat) (d : Dev) : Dev :=
  let c := match w.world with | .carriage c => c % 512 * 65536 | _ => 0
  raiseH n none (a / 4096) w.master (w.master % 16 * 16 + b2n write * 256 + c) (a / 4096) d

/-- A write that passes the Tollgate first; any write by the master that armed a locked sequence, but the sequence's own, disarms it
(R525). -/
def gatedWrite (w : Who) (off v : Nat) (m : List Host.Cell) (d : Dev) : Dev :=
  let own := off = Reg.sbxUnlock || off = Reg.sbxZero || off = Reg.sbxTlogClr
  let d := if own then d else disarm w.master d
  match denial d w true (ctlAddr off) with
  | some n => denied n w true (ctlAddr off) d
  | none => writeReg w.master off v m d

/-- A read that passes the Tollgate first, with its side effects, which the debug port's has not (R527); the value goes to the
reader. -/
def gatedRead (w : Who) (off : Nat) (d : Dev) : Dev :=
  match denial d w false (ctlAddr off) with
  | some n => (denied n w false (ctlAddr off) d).emit (.readData 0)
  | none => (if w.master = 9 then d else readEffect off d).emit (.readData (w32 (readReg d off)))

/-! The host (18 R534, R538, R539). -/

/-- The master of host accesses. -/
def hostWho (d : Dev) : Who := ⟨8, if d.bitR Reg.tgtBridgeWorld 0 then .hypervisor else .livery⟩

/-- HBR_IB_DEPTH follows the queue. -/
def ibDepth (d : Dev) : Dev :=
  let n := d.hbr.inq.length
  (d.setF Reg.hbrIbDepth 0 7 n).setF Reg.hbrIbDepth 16 7 (max n (d.fldR Reg.hbrIbDepth 16 7))

/-- Every waiting inbound write completes, in order. -/
def drainIn (m : List Host.Cell) (d : Dev) : Dev :=
  let q := d.hbr.inq
  ibDepth (q.foldl (fun d p => gatedWrite (hostWho d) p.1 p.2 m d) { d with hbr := { d.hbr with inq := [] } })

/-- An inbound write enters the queue; while the queue's head cannot complete, it waits there. A full queue withholds its credits. -/
def inWrite (off v : Nat) (blocked : Bool) (m : List Host.Cell) (d : Dev) : Dev :=
  if 64 ≤ d.hbr.inq.length && blocked then d
  else
    let d := if 64 ≤ d.hbr.inq.length then drainIn m d else d
    let d := ibDepth { d with hbr := { d.hbr with inq := d.hbr.inq ++ [(off, v)] } }
    if blocked then d else drainIn m d

/-- The lowest VALID window of BAR2 that holds a page. -/
def barWin (d : Dev) (p : Nat) : Option Nat :=
  (List.range 16).find? (fun w => d.bitR (Reg.hbrWCtrl w) 0 && d.fldR (Reg.hbrWBase w) 0 28 ≤ p && p ≤ d.fldR (Reg.hbrWLimit w) 0 28)

/-- An access that no window maps, or that its window does not permit (R539). -/
def barUr (d : Dev) : Dev := (raise 349 none 0 0 (d.bump Reg.hbrUrCnt)).emit (.pcie 0)

/-- Data fetched beyond a read through a SEFREE window: at most 512 bytes, within LIMIT (R539). -/
def prefetch (w off len a : Nat) (d : Dev) : Dev :=
  let lim := (d.fldR (Reg.hbrWLimit w) 0 28 + 1) * 4096
  let n := min 512 (lim - (off + len))
  if !d.bitR (Reg.hbrWCtrl w) 2 || n = 0 then d
  else { d with hbr := { d.hbr with pre := d.hbr.pre ++ [(a + len, n)] } }

/-- A register access of the host at a device address: one aligned word, else as at a reserved offset (R8). -/
def barCtl (o len : Nat) (data : Option (List Nat)) (m : List Host.Cell) (d : Dev) : Dev :=
  if len ≠ 4 || o % 4 ≠ 0 then
    let d := raise 48 none o (b2n data.isSome) d
    match data with
    | none => d.emit (.readBytes (List.replicate len 0))
    | some _ => d
  else match data with
    | some bs => writeReg 8 o (bs.foldr (fun b a => b % 256 + 256 * a) 0) m d
    | none => (readEffect o d).emit (.readData (w32 (readReg d o)))

/-- An access of the host through BAR2 (R539): `data` holds the bytes of a write. Device addresses outside DRAM and the control space
hold nothing: the access ends with FAULT. -/
def barAccess (off len : Nat) (data : Option (List Nat)) (m : List Host.Cell) (d : Dev) : Dev :=
  match barWin d (off / 4096), barWin d ((off + len - 1) / 4096) with
  | some w, some w' =>
    if w ≠ w' || (data.isSome && !d.bitR (Reg.hbrWCtrl w) 1) then barUr d
    else
      let a := d.fldR (Reg.hbrWTarget w) 0 28 * 4096 + off - d.fldR (Reg.hbrWBase w) 0 28 * 4096
      let who := hostWho d
      let d := if data.isSome then disarm 8 d else d
      match (match denial d who data.isSome a with | some n => some n | none => denial d who data.isSome (a + len - 1)) with
      | some n =>
        let d := denied n who data.isSome a d
        if data.isSome then d else d.emit (.readBytes (List.replicate len 0))
      | none =>
        match ctlOff a with
        | some o => barCtl o len data m d
        | none =>
          if !inDram a || !inDram (a + len - 1) then d.emit (.pcie 1)
          else match data with
            | some bs => storeBytes a (bs.take len) d
            | none => prefetch w off len a (d.emit (.readBytes ((List.range len).map (fun i => (memRead m (a + i)).toNat))))
  | _, _ => barUr d

/-! The rows. -/

/-- An access that names no register of the device as it is (R7, R8). -/
def reservedHit (off bytes : Nat) (write : Bool) (d : Dev) : Dev :=
  onlyIf (bytes != 4 || (rowAt d off).isNone) (fun d =>
    let d := raise 48 none off (b2n write) d
    if write then d else d.emit (.readData 0)) d

/-- RESERVED_ACCESS (R7, R8): an access of `bytes` bytes at an offset; only one that names no register is one. -/
def execReservedAccess (off bytes : Nat) (write : Bool) (s : State) : Outcome := s.act (reservedHit off bytes write)

/-- REGISTER_WRITE (R585): the debug port writes from level 2 on (17 R526). -/
def execRegisterWrite (who : Who) (off : Nat) (v : Word) (s : State) : Outcome :=
  s.actM (fun m d => if who.master = 9 && debugLevel d < 2 then d else gatedWrite who off v.toNat m d)

/-- RC_READ (R11). -/
def execRcRead (who : Who) (off : Nat) (s : State) : Outcome :=
  s.act (fun d =>
    onlyIf ((regRow? off).any (fun r => r.acc == .rc) && (who.master != 9 || 1 ≤ debugLevel d)) (gatedRead who off) d)

/-- DIAG_READ (13 R421). -/
def execCmdDiagRead (h : Cmd) (s : State) : Outcome :=
  s.act (runC (spec0 0xA00 [mAll, 3])
    (fun p d =>
      let l := (List.range (fld (entW p 1) 0 2 + 1)).map (fun k => entW p 0 + 4 * k)
      (l.foldl (fun d o => reservedRead o d) d, okA (l.map (readReg d)))) h)

/-- DIAG_WRITE (13 R421). -/
def execCmdDiagWrite (h : Cmd) (s : State) : Outcome :=
  s.actM (fun m => runC (spec0 0xA01 [mAll, mAll]) (inMaint (fun p d => writeReg 0 (entW p 0) (entW p 1) m d)) h)

/-- Whether a device address is a TGT_DBG register: the debug port sees it without authentication too (17 R532). -/
def debugReg (addr : Nat) : Bool := match ctlOff addr with
  | some o => o == Reg.tgtDbgStatus || (List.range 12).any (fun j => o == Reg.tgtDbgChal j)
  | none => false

/-- DEBUG_READ (17 R526, R527): a word of the control space or of DRAM, from level 1 on, subject to R520. -/
def execDebugRead (addr : Nat) (s : State) : Outcome :=
  s.actR (fun d =>
    if debugReg addr && lifeCycle d ≤ 3 then d.emit (.readData (w32 (readReg d (addr - 0xF0000000))))
    else if debugLevel d < 1 then d
    else match denial d ⟨9, .livery⟩ false addr with
      | some n => (denied n ⟨9, .livery⟩ false addr d).emit (.readData 0)
      | none => match ctlOff addr with
        | some o => (reservedRead o d).emit (.readData (w32 (readReg d o)))
        | none => d.emit (.readData (if inDram addr then w32 (memWord s.mem addr) else 0)))

/-- INBOUND_WRITE (18 R538); `blocked` says that the queue's head cannot complete now. -/
def execInboundWrite (off : Nat) (v : Word) (blocked : Bool) (s : State) : Outcome :=
  s.actM (fun m => onlyIf (off < 0x4000000) (inWrite off v.toNat blocked m))

/-- INBOUND_READ (18 R538). -/
def execInboundRead (off : Nat) (s : State) : Outcome :=
  s.actM (fun m => onlyIf (off < 0x4000000) (fun d => let d := drainIn m d; gatedRead (hostWho d) off d))

/-- BAR2_ACCESS (18 R539): `len` bytes at an offset of BAR2; the bytes of a write. -/
def execBar2Access (off len : Nat) (data : Option (List Nat)) (s : State) : Outcome :=
  s.actM (fun m d => onlyIf (off + len ≤ 2 ^ d.fldR Reg.hbrBar2Size 0 6 && 1 ≤ len && data.all (fun l => l.length == len))
    (barAccess off len data m) d)

end Sys2Proof.Machine
end

