-- ==== Sys2Proof/Machine/Dispatch.lean ====
section
/-! DEFINITION. One arm per command: a direct call of its meaning, or a refusal by name where it has none yet. -/

namespace Sys2Proof.Machine

/-- A command's effect on everything but the queue (95_what_each_step_holds: each row is whole and indivisible). -/
def exec (i : Instr) (s : State) : Host.Outcome State Fault Refusal :=
  match i with
  | .tick => Sys2Proof.Machine.execTick s
  | .legBoundary bad => Sys2Proof.Machine.execLegBoundary bad s
  | .routeBoundary slots bad => Sys2Proof.Machine.execRouteBoundary slots bad s
  | .reservedAccess off bytes write => Sys2Proof.Machine.execReservedAccess off bytes write s
  | .registerWrite who off v => Sys2Proof.Machine.execRegisterWrite who off v s
  | .rcRead who off => Sys2Proof.Machine.execRcRead who off s
  | .readLowWord off => Sys2Proof.Machine.execReadLowWord off s
  | .timeSnapshot => Sys2Proof.Machine.execTimeSnapshot s
  | .referenceLost clk => Sys2Proof.Machine.execReferenceLost clk s
  | .ptpMessageRx port m => Sys2Proof.Machine.execPtpMessageRx port m s
  | .holdoverEntry => Sys2Proof.Machine.execHoldoverEntry s
  | .holdLimit => Sys2Proof.Machine.execHoldLimit s
  | .ptpRoleWrite port v => Sys2Proof.Machine.execPtpRoleWrite port v s
  | .frameRx port f => Sys2Proof.Machine.execFrameRx port f s
  | .redEntryForget pair sa => Sys2Proof.Machine.execRedEntryForget pair sa s
  | .pfcPauseRx port prio on => Sys2Proof.Machine.execPfcPauseRx port prio on s
  | .pfcEnWrite port sched v => Sys2Proof.Machine.execPfcEnWrite port sched v s
  | .frameTx port off => Sys2Proof.Machine.execFrameTx port off s
  | .gateEntryStart port entry => Sys2Proof.Machine.execGateEntryStart port entry s
  | .tripWindow port opens => Sys2Proof.Machine.execTripWindow port opens s
  | .gclSwapRequest port => Sys2Proof.Machine.execGclSwapRequest port s
  | .linkDown port => Sys2Proof.Machine.execLinkDown port s
  | .queueFlushDone port => Sys2Proof.Machine.execQueueFlushDone port s
  | .linkUp port => Sys2Proof.Machine.execLinkUp port s
  | .synthUnlock port => Sys2Proof.Machine.execSynthUnlock port s
  | .synthLock port => Sys2Proof.Machine.execSynthLock port s
  | .macsecCtrlWrite port v => Sys2Proof.Machine.execMacsecCtrlWrite port v s
  | .fdbRead index => Sys2Proof.Machine.execFdbRead index s
  | .fdbWriteStatic index => Sys2Proof.Machine.execFdbWriteStatic index s
  | .fdbDelete index => Sys2Proof.Machine.execFdbDelete index s
  | .fdbAgeOut index => Sys2Proof.Machine.execFdbAgeOut index s
  | .wakeFrame port f => Sys2Proof.Machine.execWakeFrame port f s
  | .svFrame port f => Sys2Proof.Machine.execSvFrame port f s
  | .legDeclare => Sys2Proof.Machine.execLegDeclare s
  | .svEntryAgeOut entry => Sys2Proof.Machine.execSvEntryAgeOut entry s
  | .sauEntryRead entry => Sys2Proof.Machine.execSauEntryRead entry s
  | .sauEntryCommit entry => Sys2Proof.Machine.execSauEntryCommit entry s
  | .sauInvalidate entry all => Sys2Proof.Machine.execSauInvalidate entry all s
  | .sauInvalDone => Sys2Proof.Machine.execSauInvalDone s
  | .gather count corr ecc => Sys2Proof.Machine.execGather count corr ecc s
  | .gatherDone => Sys2Proof.Machine.execGatherDone s
  | .filterStageRun lane ch => Sys2Proof.Machine.execFilterStageRun lane ch s
  | .trackHoldTimeout g => Sys2Proof.Machine.execTrackHoldTimeout g s
  | .fchDescRead table index => Sys2Proof.Machine.execFchDescRead table index s
  | .fchDescCommit table index => Sys2Proof.Machine.execFchDescCommit table index s
  | .coefSwapRequest => Sys2Proof.Machine.execCoefSwapRequest s
  | .kPhasorDft e k => Sys2Proof.Machine.execKPhasorDft e k s
  | .kPhasorCos e k => Sys2Proof.Machine.execKPhasorCos e k s
  | .kSeq e k => Sys2Proof.Machine.execKSeq e k s
  | .kImped e k => Sys2Proof.Machine.execKImped e k s
  | .kMho e k => Sys2Proof.Machine.execKMho e k s
  | .kQuad e k => Sys2Proof.Machine.execKQuad e k s
  | .kDiff e k => Sys2Proof.Machine.execKDiff e k s
  | .kFastOc e k => Sys2Proof.Machine.execKFastOc e k s
  | .kFastDiff e k => Sys2Proof.Machine.execKFastDiff e k s
  | .kIdmt e k => Sys2Proof.Machine.execKIdmt e k s
  | .kFreq e k => Sys2Proof.Machine.execKFreq e k s
  | .kPower e k => Sys2Proof.Machine.execKPower e k s
  | .kSync e k => Sys2Proof.Machine.execKSync e k s
  | .seatOverrun e => Sys2Proof.Machine.execSeatOverrun e s
  | .engineFault harness e => Sys2Proof.Machine.execEngineFault harness e s
  | .eenDescRead index => Sys2Proof.Machine.execEenDescRead index s
  | .eenDescCommit index => Sys2Proof.Machine.execEenDescCommit index s
  | .inspectionResult kind pass => Sys2Proof.Machine.execInspectionResult kind pass s
  | .harnessScan e c steps => Sys2Proof.Machine.execHarnessScan e c steps s
  | .hNop e => Sys2Proof.Machine.execHNop e s
  | .hLd e b neg => Sys2Proof.Machine.execHLd e b neg s
  | .hAnd e b neg => Sys2Proof.Machine.execHAnd e b neg s
  | .hOr e b neg => Sys2Proof.Machine.execHOr e b neg s
  | .hXor e b neg => Sys2Proof.Machine.execHXor e b neg s
  | .hApush e => Sys2Proof.Machine.execHApush e s
  | .hOpush e => Sys2Proof.Machine.execHOpush e s
  | .hXpush e => Sys2Proof.Machine.execHXpush e s
  | .hPop e neg => Sys2Proof.Machine.execHPop e neg s
  | .hNot e => Sys2Proof.Machine.execHNot e s
  | .hSeta e v => Sys2Proof.Machine.execHSeta e v s
  | .hSt e b neg => Sys2Proof.Machine.execHSt e b neg s
  | .hSet e b => Sys2Proof.Machine.execHSet e b s
  | .hRst e b => Sys2Proof.Machine.execHRst e b s
  | .hRise e b => Sys2Proof.Machine.execHRise e b s
  | .hFall e b => Sys2Proof.Machine.execHFall e b s
  | .hTmr e n kind => Sys2Proof.Machine.execHTmr e n kind s
  | .hCtu e n => Sys2Proof.Machine.execHCtu e n s
  | .hCtd e n => Sys2Proof.Machine.execHCtd e n s
  | .hCrst e n => Sys2Proof.Machine.execHCrst e n s
  | .hCld e n => Sys2Proof.Machine.execHCld e n s
  | .hLdw e a => Sys2Proof.Machine.execHLdw e a s
  | .hLdi e imm => Sys2Proof.Machine.execHLdi e imm s
  | .hLdhi e v => Sys2Proof.Machine.execHLdhi e v s
  | .hStw e a cond => Sys2Proof.Machine.execHStw e a cond s
  | .hAdd e a wrap => Sys2Proof.Machine.execHAdd e a wrap s
  | .hSub e a wrap => Sys2Proof.Machine.execHSub e a wrap s
  | .hAddi e imm wrap => Sys2Proof.Machine.execHAddi e imm wrap s
  | .hCmp e a rel float neg => Sys2Proof.Machine.execHCmp e a rel float neg s
  | .hCmpi e imm rel neg => Sys2Proof.Machine.execHCmpi e imm rel neg s
  | .hInc e a => Sys2Proof.Machine.execHInc e a s
  | .hDec e a => Sys2Proof.Machine.execHDec e a s
  | .hAndw e a => Sys2Proof.Machine.execHAndw e a s
  | .hOrw e a => Sys2Proof.Machine.execHOrw e a s
  | .hXorw e a => Sys2Proof.Machine.execHXorw e a s
  | .hShf e n right => Sys2Proof.Machine.execHShf e n right s
  | .hTstb e bit neg => Sys2Proof.Machine.execHTstb e bit neg s
  | .hJmp e k cond => Sys2Proof.Machine.execHJmp e k cond s
  | .hEnd e => Sys2Proof.Machine.execHEnd e s
  | .gooseFrameRx port cls full f => Sys2Proof.Machine.execGooseFrameRx port cls full f s
  | .gooseAliveExpiry entry => Sys2Proof.Machine.execGooseAliveExpiry entry s
  | .gsubEntryRead entry => Sys2Proof.Machine.execGsubEntryRead entry s
  | .gsubEntryCommit entry => Sys2Proof.Machine.execGsubEntryCommit entry s
  | .gmapWrite v => Sys2Proof.Machine.execGmapWrite v s
  | .hleLoad c swap => Sys2Proof.Machine.execHleLoad c swap s
  | .holdStep c => Sys2Proof.Machine.execHoldStep c s
  | .seatEntryWrite bank index word v => Sys2Proof.Machine.execSeatEntryWrite bank index word v s
  | .seatBankSwapRequest => Sys2Proof.Machine.execSeatBankSwapRequest s
  | .arbSeatStart index => Sys2Proof.Machine.execArbSeatStart index s
  | .readmission => Sys2Proof.Machine.execReadmission s
  | .handOff => Sys2Proof.Machine.execHandOff s
  | .gooseRepetition entry => Sys2Proof.Machine.execGooseRepetition entry s
  | .tripFrameLate port => Sys2Proof.Machine.execTripFrameLate port s
  | .gpubEntryRead entry => Sys2Proof.Machine.execGpubEntryRead entry s
  | .gpubEntryCommit entry => Sys2Proof.Machine.execGpubEntryCommit entry s
  | .pubMapWrite v => Sys2Proof.Machine.execPubMapWrite v s
  | .svpubEntryRead entry => Sys2Proof.Machine.execSvpubEntryRead entry s
  | .svpubEntryCommit entry => Sys2Proof.Machine.execSvpubEntryCommit entry s
  | .pmuEntryRead entry => Sys2Proof.Machine.execPmuEntryRead entry s
  | .pmuEntryCommit entry => Sys2Proof.Machine.execPmuEntryCommit entry s
  | .tsmapEntryWrite bank index word v => Sys2Proof.Machine.execTsmapEntryWrite bank index word v s
  | .tsmapSwapRequest => Sys2Proof.Machine.execTsmapSwapRequest s
  | .queueContextRead c q => Sys2Proof.Machine.execQueueContextRead c q s
  | .queueContextCommit c q => Sys2Proof.Machine.execQueueContextCommit c q s
  | .queueReset c q => Sys2Proof.Machine.execQueueReset c q s
  | .queueDoorbell c q prod => Sys2Proof.Machine.execQueueDoorbell c q prod s
  | .descriptorFetch c q n => Sys2Proof.Machine.execDescriptorFetch c q n s
  | .vecCtrlWrite c v val => Sys2Proof.Machine.execVecCtrlWrite c v val s
  | .drainEnd c retBad => Sys2Proof.Machine.execDrainEnd c retBad s
  | .braceLinkTraining link version => Sys2Proof.Machine.execBraceLinkTraining link version s
  | .braceLaneRetire link lane errs lost => Sys2Proof.Machine.execBraceLaneRetire link lane errs lost s
  | .braceRetrainDone link => Sys2Proof.Machine.execBraceRetrainDone link s
  | .braceLinkDown link => Sys2Proof.Machine.execBraceLinkDown link s
  | .partnerLost => Sys2Proof.Machine.execPartnerLost s
  | .orphanTimeout => Sys2Proof.Machine.execOrphanTimeout s
  | .mirrorCells h cells => Sys2Proof.Machine.execMirrorCells h cells s
  | .declarationRecord h leg cells models => Sys2Proof.Machine.execDeclarationRecord h leg cells models s
  | .unmirroredLeg => Sys2Proof.Machine.execUnmirroredLeg s
  | .p2CompletionList h items => Sys2Proof.Machine.execP2CompletionList h items s
  | .publicationMirror h leg entries => Sys2Proof.Machine.execPublicationMirror h leg entries s
  | .tripSeatImages h seats => Sys2Proof.Machine.execTripSeatImages h seats s
  | .digestTable h leg digests => Sys2Proof.Machine.execDigestTable h leg digests s
  | .configJournal h e => Sys2Proof.Machine.execConfigJournal h e s
  | .braceTime offset settled sec ns => Sys2Proof.Machine.execBraceTime offset settled sec ns s
  | .braceStatus h st => Sys2Proof.Machine.execBraceStatus h st s
  | .failMessage h => Sys2Proof.Machine.execFailMessage h s
  | .partnerLanternEdge => Sys2Proof.Machine.execPartnerLanternEdge s
  | .lanternTimeout => Sys2Proof.Machine.execLanternTimeout s
  | .pairWaitExpiry => Sys2Proof.Machine.execPairWaitExpiry s
  | .fence => Sys2Proof.Machine.execFence s
  | .takeover => Sys2Proof.Machine.execTakeover s
  | .plannedSwitch => Sys2Proof.Machine.execPlannedSwitch s
  | .resyncComplete wbEqual => Sys2Proof.Machine.execResyncComplete wbEqual s
  | .proofExchangeEnd seen => Sys2Proof.Machine.execProofExchangeEnd seen s
  | .waybillRx ch w => Sys2Proof.Machine.execWaybillRx ch w s
  | .waybillTx ch => Sys2Proof.Machine.execWaybillTx ch s
  | .waybillLoss ch => Sys2Proof.Machine.execWaybillLoss ch s
  | .coldStartTimeout ch => Sys2Proof.Machine.execColdStartTimeout ch s
  | .backupWaybill ch heard => Sys2Proof.Machine.execBackupWaybill ch heard s
  | .seatTx ch seat prio payload => Sys2Proof.Machine.execSeatTx ch seat prio payload s
  | .seatFrameRx ch f => Sys2Proof.Machine.execSeatFrameRx ch f s
  | .statusFrameTx ch => Sys2Proof.Machine.execStatusFrameTx ch s
  | .statusFrameRx ch f => Sys2Proof.Machine.execStatusFrameRx ch f s
  | .claimProcess => Sys2Proof.Machine.execClaimProcess s
  | .guardFrame port slot off inTime part rivals => Sys2Proof.Machine.execGuardFrame port slot off inTime part rivals s
  | .guardColdEntry => Sys2Proof.Machine.execGuardColdEntry s
  | .guardPortUp port => Sys2Proof.Machine.execGuardPortUp port s
  | .guardPortDown port => Sys2Proof.Machine.execGuardPortDown port s
  | .guardReadmit port => Sys2Proof.Machine.execGuardReadmit port s
  | .guardNodeReset port => Sys2Proof.Machine.execGuardNodeReset port s
  | .nodeResetOrderRx => Sys2Proof.Machine.execNodeResetOrderRx s
  | .stlTableEntryWrite bank index v => Sys2Proof.Machine.execStlTableEntryWrite bank index v s
  | .stlTableSwapRequest route => Sys2Proof.Machine.execStlTableSwapRequest route s
  | .imapSwapRequest => Sys2Proof.Machine.execImapSwapRequest s
  | .syncEvent k => Sys2Proof.Machine.execSyncEvent k s
  | .cmdDoorbell ses prod => Sys2Proof.Machine.execCmdDoorbell ses prod s
  | .mgmtDatagram g count seq ofs seg tagOk zeroTag slotBad => Sys2Proof.Machine.execMgmtDatagram g count seq ofs seg tagOk zeroTag slotBad s
  | .sessionRingCfgWrite ses reg v => Sys2Proof.Machine.execSessionRingCfgWrite ses reg v s
  | .sessionReset ses v => Sys2Proof.Machine.execSessionReset ses v s
  | .replyConsumerWrite ses v => Sys2Proof.Machine.execReplyConsumerWrite ses v s
  | .cmdHello h => Sys2Proof.Machine.execCmdHello h s
  | .cmdBye h => Sys2Proof.Machine.execCmdBye h s
  | .cmdEcho h => Sys2Proof.Machine.execCmdEcho h s
  | .cmdModuleStatus h => Sys2Proof.Machine.execCmdModuleStatus h s
  | .cmdCreate h img => Sys2Proof.Machine.execCmdCreate h img s
  | .cmdDestroy h => Sys2Proof.Machine.execCmdDestroy h s
  | .cmdEnable h => Sys2Proof.Machine.execCmdEnable h s
  | .cmdDisable h => Sys2Proof.Machine.execCmdDisable h s
  | .cmdReset h => Sys2Proof.Machine.execCmdReset h s
  | .cmdHarnessMode h => Sys2Proof.Machine.execCmdHarnessMode h s
  | .cmdProgramLoad h data => Sys2Proof.Machine.execCmdProgramLoad h data s
  | .cmdSave h => Sys2Proof.Machine.execCmdSave h s
  | .cmdRestore h img => Sys2Proof.Machine.execCmdRestore h img s
  | .cmdCarriageQuery h => Sys2Proof.Machine.execCmdCarriageQuery h s
  | .cmdParamUpdate h data => Sys2Proof.Machine.execCmdParamUpdate h data s
  | .cmdStreamLive h data => Sys2Proof.Machine.execCmdStreamLive h data s
  | .cmdStreamSuspend h => Sys2Proof.Machine.execCmdStreamSuspend h s
  | .cmdStreamResume h => Sys2Proof.Machine.execCmdStreamResume h s
  | .cmdStreamRetire h => Sys2Proof.Machine.execCmdStreamRetire h s
  | .cmdStreamGrant h => Sys2Proof.Machine.execCmdStreamGrant h s
  | .cmdStreamRevoke h => Sys2Proof.Machine.execCmdStreamRevoke h s
  | .cmdLearnList h => Sys2Proof.Machine.execCmdLearnList h s
  | .cmdGsubCommit h ent map => Sys2Proof.Machine.execCmdGsubCommit h ent map s
  | .cmdGpubCommit h ent map => Sys2Proof.Machine.execCmdGpubCommit h ent map s
  | .cmdGpubState h => Sys2Proof.Machine.execCmdGpubState h s
  | .cmdSvpubCommit h ent => Sys2Proof.Machine.execCmdSvpubCommit h ent s
  | .cmdPmuCommit h ent => Sys2Proof.Machine.execCmdPmuCommit h ent s
  | .cmdPmuCtrl h => Sys2Proof.Machine.execCmdPmuCtrl h s
  | .cmdTripmap h data => Sys2Proof.Machine.execCmdTripmap h data s
  | .cmdTimeSource h => Sys2Proof.Machine.execCmdTimeSource h s
  | .cmdFreeRunAccept h => Sys2Proof.Machine.execCmdFreeRunAccept h s
  | .cmdTimeStep h => Sys2Proof.Machine.execCmdTimeStep h s
  | .cmdTimeLimits h => Sys2Proof.Machine.execCmdTimeLimits h s
  | .cmdPortPtp h => Sys2Proof.Machine.execCmdPortPtp h s
  | .cmdHoldback h => Sys2Proof.Machine.execCmdHoldback h s
  | .cmdRecArm h data => Sys2Proof.Machine.execCmdRecArm h data s
  | .cmdRecDisarm h => Sys2Proof.Machine.execCmdRecDisarm h s
  | .cmdRecForce h => Sys2Proof.Machine.execCmdRecForce h s
  | .cmdRecRender h => Sys2Proof.Machine.execCmdRecRender h s
  | .cmdEvrRestart h => Sys2Proof.Machine.execCmdEvrRestart h s
  | .cmdKeyGenerate h => Sys2Proof.Machine.execCmdKeyGenerate h s
  | .cmdKeyUnwrap h tagOk slotBad key => Sys2Proof.Machine.execCmdKeyUnwrap h tagOk slotBad key s
  | .cmdKeyDerive h ctx slotBad => Sys2Proof.Machine.execCmdKeyDerive h ctx slotBad s
  | .cmdKeyDestroy h => Sys2Proof.Machine.execCmdKeyDestroy h s
  | .cmdKeyInfo h => Sys2Proof.Machine.execCmdKeyInfo h s
  | .cmdLifecycle h => Sys2Proof.Machine.execCmdLifecycle h s
  | .cmdBracePair h => Sys2Proof.Machine.execCmdBracePair h s
  | .cmdBraceResync h => Sys2Proof.Machine.execCmdBraceResync h s
  | .cmdBraceSwitch h => Sys2Proof.Machine.execCmdBraceSwitch h s
  | .cmdBraceProof h => Sys2Proof.Machine.execCmdBraceProof h s
  | .cmdStlTable h data => Sys2Proof.Machine.execCmdStlTable h data s
  | .cmdStlImap h data => Sys2Proof.Machine.execCmdStlImap h data s
  | .cmdStlBackupSet h => Sys2Proof.Machine.execCmdStlBackupSet h s
  | .cmdStlReadmit h => Sys2Proof.Machine.execCmdStlReadmit h s
  | .cmdStlNodeReset h => Sys2Proof.Machine.execCmdStlNodeReset h s
  | .cmdModeSet h => Sys2Proof.Machine.execCmdModeSet h s
  | .cmdRetireUnit h => Sys2Proof.Machine.execCmdRetireUnit h s
  | .cmdRepairStatus h => Sys2Proof.Machine.execCmdRepairStatus h s
  | .cmdDramPpr h => Sys2Proof.Machine.execCmdDramPpr h s
  | .cmdModuleReset h => Sys2Proof.Machine.execCmdModuleReset h s
  | .cmdRecoveryWrite h fits data => Sys2Proof.Machine.execCmdRecoveryWrite h fits data s
  | .cmdRecoveryCommit h img => Sys2Proof.Machine.execCmdRecoveryCommit h img s
  | .cmdDiagRead h => Sys2Proof.Machine.execCmdDiagRead h s
  | .cmdDiagWrite h => Sys2Proof.Machine.execCmdDiagWrite h s
  | .cmdDiagLoopback h => Sys2Proof.Machine.execCmdDiagLoopback h s
  | .cmdDiagSample h => Sys2Proof.Machine.execCmdDiagSample h s
  | .cmdDiagInspect h => Sys2Proof.Machine.execCmdDiagInspect h s
  | .recorderLegTake r short => Sys2Proof.Machine.execRecorderLegTake r short s
  | .trigInEdge b level tap => Sys2Proof.Machine.execTrigInEdge b level tap s
  | .itArm k => Sys2Proof.Machine.execItArm k s
  | .itCancel k => Sys2Proof.Machine.execItCancel k s
  | .itTimeout k => Sys2Proof.Machine.execItTimeout k s
  | .recordSlotFree r v => Sys2Proof.Machine.execRecordSlotFree r v s
  | .carriageFatalDisable => Sys2Proof.Machine.execCarriageFatalDisable s
  | .sourceClear n => Sys2Proof.Machine.execSourceClear n s
  | .unitClear u => Sys2Proof.Machine.execUnitClear u s
  | .powerOnReset => Sys2Proof.Machine.execPowerOnReset s
  | .resetIn ns => Sys2Proof.Machine.execResetIn ns s
  | .systemReset => Sys2Proof.Machine.execSystemReset s
  | .coreReset => Sys2Proof.Machine.execCoreReset s
  | .resetRelease r => Sys2Proof.Machine.execResetRelease r s
  | .liveryUp => Sys2Proof.Machine.execLiveryUp s
  | .watchdogKick v => Sys2Proof.Machine.execWatchdogKick v s
  | .watchdogWarn => Sys2Proof.Machine.execWatchdogWarn s
  | .watchdogExpiry => Sys2Proof.Machine.execWatchdogExpiry s
  | .startTimeout => Sys2Proof.Machine.execStartTimeout s
  | .rstCmdCore => Sys2Proof.Machine.execRstCmdCore s
  | .rstCmdSystem => Sys2Proof.Machine.execRstCmdSystem s
  | .rstCmdPark => Sys2Proof.Machine.execRstCmdPark s
  | .powerFail => Sys2Proof.Machine.execPowerFail s
  | .pfailAck => Sys2Proof.Machine.execPfailAck s
  | .modeRequest v => Sys2Proof.Machine.execModeRequest v s
  | .cdrvSelWrite b v => Sys2Proof.Machine.execCdrvSelWrite b v s
  | .debugResetRequest sys => Sys2Proof.Machine.execDebugResetRequest sys s
  | .tamperAlarm sensor sec frac => Sys2Proof.Machine.execTamperAlarm sensor sec frac s
  | .tamperAlarmBackup sensor sec frac => Sys2Proof.Machine.execTamperAlarmBackup sensor sec frac s
  | .unlockWrite who v => Sys2Proof.Machine.execUnlockWrite who v s
  | .unlockExpiry => Sys2Proof.Machine.execUnlockExpiry s
  | .slotZero who v => Sys2Proof.Machine.execSlotZero who v s
  | .tamperLogClear who v => Sys2Proof.Machine.execTamperLogClear who v s
  | .trngReady => Sys2Proof.Machine.execTrngReady s
  | .trngStartupTimeout => Sys2Proof.Machine.execTrngStartupTimeout s
  | .trngTestFail => Sys2Proof.Machine.execTrngTestFail s
  | .debugAuth level sigOk => Sys2Proof.Machine.execDebugAuth level sigOk s
  | .debugRead addr => Sys2Proof.Machine.execDebugRead addr s
  | .debugHalt t => Sys2Proof.Machine.execDebugHalt t s
  | .debugResume t => Sys2Proof.Machine.execDebugResume t s
  | .debugSessionClose => Sys2Proof.Machine.execDebugSessionClose s
  | .bridgeReset => Sys2Proof.Machine.execBridgeReset s
  | .pcieLinkUp rate lanes => Sys2Proof.Machine.execPcieLinkUp rate lanes s
  | .inboundWrite off v blocked => Sys2Proof.Machine.execInboundWrite off v blocked s
  | .inboundRead off => Sys2Proof.Machine.execInboundRead off s
  | .bar2Access off len data => Sys2Proof.Machine.execBar2Access off len data s
  | .prefetchDiscard => Sys2Proof.Machine.execPrefetchDiscard s
  | .flushingRead r => Sys2Proof.Machine.execFlushingRead r s
  | .outboundBackoff => Sys2Proof.Machine.execOutboundBackoff s
  | .completionTimeout r => Sys2Proof.Machine.execCompletionTimeout r s
  | .scrubStep m loc addr res pct => Sys2Proof.Machine.execScrubStep m loc addr res pct s
  | .dramUeRead m loc addr reader => Sys2Proof.Machine.execDramUeRead m loc addr reader s
  | .rowRemap m loc => Sys2Proof.Machine.execRowRemap m loc s
  | .remapCopyDone m e => Sys2Proof.Machine.execRemapCopyDone m e s
  | .pprComplete ok left => Sys2Proof.Machine.execPprComplete ok left s
  | .sramRowRepair g row ue => Sys2Proof.Machine.execSramRowRepair g row ue s
  | .sramRepairDone g row => Sys2Proof.Machine.execSramRepairDone g row s
  | .fuseCommit v => Sys2Proof.Machine.execFuseCommit v s
  | .fuseCommitDone ok => Sys2Proof.Machine.execFuseCommitDone ok s
  | .dieTempThreshold celsius => Sys2Proof.Machine.execDieTempThreshold celsius s
  | .railWindow warn oper => Sys2Proof.Machine.execRailWindow warn oper s
  | .referenceReturn clk => Sys2Proof.Machine.execReferenceReturn clk s
  | .rootPllUnlock => Sys2Proof.Machine.execRootPllUnlock s
  | .lockstepMismatch pair => Sys2Proof.Machine.execLockstepMismatch pair s
  | .lanternReadback differs => Sys2Proof.Machine.execLanternReadback differs s
  | .coreUe core => Sys2Proof.Machine.execCoreUe core s
  | .backupPowerChangeover backup => Sys2Proof.Machine.execBackupPowerChangeover backup s
  | .powerFailDeassert => Sys2Proof.Machine.execPowerFailDeassert s
  | .gpioInputEdge n level => Sys2Proof.Machine.execGpioInputEdge n level s
  | .badOpcode op h => Sys2Proof.Machine.execBadOpcode op h s
  | .carriageImageArrival h c img => Sys2Proof.Machine.execCarriageImageArrival h c img s
  | .configurationImage h img => Sys2Proof.Machine.execConfigurationImage h img s
  | .forwardedRequest h r => Sys2Proof.Machine.execForwardedRequest h r s
  | .renderDone job cfg more => Sys2Proof.Machine.execRenderDone job cfg more s
  | .frameTxEnd port => Sys2Proof.Machine.execFrameTxEnd port s
  | .pcieConfigWrite bme d3 => Sys2Proof.Machine.execPcieConfigWrite bme d3 s
  | .extest levels => Sys2Proof.Machine.execExtest levels s

end Sys2Proof.Machine
end

