-- ==== Sys2Proof/Machine/Order.lean ====
section
/-! DEFINITION. The order of inputs stamped with the same tick, and the batch of a tick put into the queue (00_scope R14;
02 R62 to R64; 18 R553). -/

namespace Sys2Proof.Machine

/-- The class and the source number of the inputs of R62 and R63, with the unit that tells two reports of one source apart (18 R553);
none for a row that is no such input: work of the block itself, a boundary, an access of software, a frame of the Brace. -/
def inputRank : Instr → Option (Nat × Nat × Nat)
  -- class 1: power-fail and resets
  | .powerFail => some (1, 0, 0)
  | .powerOnReset => some (1, 1, 0)
  | .resetIn _ => some (1, 2, 0)
  | .watchdogExpiry => some (1, 3, 0)
  | .rstCmdSystem => some (1, 4, 0)
  | .rstCmdCore => some (1, 4, 0)
  | .rstCmdPark => some (1, 4, 0)
  | .nodeResetOrderRx => some (1, 5, 0)
  | .debugResetRequest _ => some (1, 6, 0)
  -- class 2: tamper
  | .tamperAlarm s _ _ => some (2, s, 0)
  | .tamperAlarmBackup s _ _ => some (2, s, 0)
  -- class 3: fault reports, by supervision source
  | .referenceLost .refclk => some (3, 0, 0)
  | .rootPllUnlock => some (3, 1, 0)
  | .referenceLost .eth => some (3, 2, 0)
  | .referenceLost .pcie => some (3, 3, 0)
  | .lockstepMismatch p => some (3, 50 + p, 0)
  | .lanternReadback _ => some (3, 55, 0)
  | .trngTestFail => some (3, 71, 0)
  | .trngStartupTimeout => some (3, 72, 0)
  | .linkDown p => some (3, 96 + 8 * p, 0)
  | .synthUnlock p => some (3, 98 + 8 * p, 0)
  | .seatOverrun e => some (3, 234, e)
  | .completionTimeout r => some (3, 346, r.key)
  | .dramUeRead m _ _ _ => some (3, 361 + 8 * m, 0)
  | .engineFault h e => some (3, 392, (if h then 64 else 0) + e)
  | .sramRowRepair g _ _ => some (3, 397, g)
  | .coreUe c => some (3, 401, c)
  | .dieTempThreshold _ => some (3, 408, 0)
  | .railWindow _ _ => some (3, 410, 0)
  -- class 4: frames, by ingress port
  | .frameRx p _ => some (4, p, 0)
  | .svFrame p _ => some (4, p, 0)
  | .gooseFrameRx p _ _ _ => some (4, p, 0)
  | .ptpMessageRx p _ => some (4, p, 0)
  | .wakeFrame p _ => some (4, p, 0)
  -- class 5: the Waybill, then seats; channel A before B for the same seat
  | .waybillRx ch _ => some (5, 0, ch)
  | .seatFrameRx ch f => some (5, f.seat + 1, ch)
  | .guardFrame p _ _ _ (.waybill _) _ => some (5, 0, 2 + p)
  | .guardFrame p _ _ _ (.data f) _ => some (5, f.seat + 1, 2 + p)
  -- class 6: binary inputs
  | .trigInEdge b _ _ => some (6, b, 0)
  | .gpioInputEdge n _ => some (6, 8 + n, 0)
  -- class 7: command doorbells, by session
  | .cmdDoorbell s _ => some (7, s, 0)
  | .mgmtDatagram g _ _ _ _ _ _ _ => some (7, g.ses, 0)
  -- class 8: ageing, scrubbing
  | .fdbAgeOut _ => some (8, 0, 0)
  | .svEntryAgeOut _ => some (8, 0, 1)
  | .redEntryForget _ _ => some (8, 0, 2)
  | .scrubStep .. => some (8, 1, 0)
  | _ => none

/-- The place of a command in the batch of its tick, as one number: what is no input of R62 goes before the inputs. -/
def batchKey (i : Instr) : Nat :=
  match inputRank i with
  | some (c, n, u) => c * 2 ^ 20 + n % 2 ^ 10 * 2 ^ 10 + u % 2 ^ 10
  | none => 0

/-- A command put into an ordered batch, before the first that comes after it: the order of arrival stays among equals. -/
def batchPut (i : Instr) : List Instr → List Instr
  | [] => [i]
  | j :: l => if batchKey i ≤ batchKey j then i :: j :: l else j :: batchPut i l

/-- The commands stamped with one tick, in the order of R63. -/
def batchOrder : List Instr → List Instr
  | [] => []
  | i :: l => batchPut i (batchOrder l)

/-- The batch of a tick put into the queue: in the order of R63, and whole before the TICK that ends it (R64). A sender that stamps its
inputs places them so; the queue itself is first in, first out (log 7). -/
def State.takeBatch (s : State) (inputs : List Instr) : State := { s with pending := s.pending ++ batchOrder inputs ++ [.tick] }

end Sys2Proof.Machine
end

