-- ==== Sys2Proof/Safety.lean ====
section
/-! DEFINITION. What the claims say of states: the invariant that every step keeps, and bytes of DRAM as they read. -/

namespace Sys2Proof.Machine

/-- The invariant: DRAM in its canonical form, and no word of a finished command still waiting to be stored in it. -/
def State.Inv (s : State) : Prop := Memory.wf s.mem = true ∧ s.dev.dramW = []

/-- The byte of DRAM at an address, as every reader of the machine finds it. -/
def State.byteAt (s : State) (a : Nat) : Byte := memRead s.mem a

/-- Every byte of DRAM reads in `t` as in `s`. -/
def sameDram (s t : State) : Prop := ∀ a, t.byteAt a = s.byteAt a

/-- The commands that act while a power-on or system reset is held: the resets themselves and the release, the start timer
(R478), power failure, wake frames of Parked, the sensors and the always-on domain, the reference clock, and debug reads
(16 R464, R471). -/
def actsInReset (c : Instr) : Bool :=
  match c with
  | .tick | .powerOnReset | .resetIn _ | .systemReset | .resetRelease _ | .startTimeout | .powerFail | .powerFailDeassert
  | .wakeFrame _ _ | .tamperAlarm _ _ _ | .tamperAlarmBackup _ _ _ | .backupPowerChangeover _ | .referenceLost _
  | .referenceReturn _ | .debugRead _ => true
  | _ => false

/-- The engine whose scan in progress a row of 07 R225 acts on. -/
def harnessEngine : Instr → Option Nat
  | .hNop e => some e
  | .hLd e _ _ => some e
  | .hAnd e _ _ => some e
  | .hOr e _ _ => some e
  | .hXor e _ _ => some e
  | .hApush e => some e
  | .hOpush e => some e
  | .hXpush e => some e
  | .hPop e _ => some e
  | .hNot e => some e
  | .hSeta e _ => some e
  | .hSt e _ _ => some e
  | .hSet e _ => some e
  | .hRst e _ => some e
  | .hRise e _ => some e
  | .hFall e _ => some e
  | .hTmr e _ _ => some e
  | .hCtu e _ => some e
  | .hCtd e _ => some e
  | .hCrst e _ => some e
  | .hCld e _ => some e
  | .hLdw e _ => some e
  | .hLdi e _ => some e
  | .hLdhi e _ => some e
  | .hStw e _ _ => some e
  | .hAdd e _ _ => some e
  | .hSub e _ _ => some e
  | .hAddi e _ _ => some e
  | .hCmp e _ _ _ _ => some e
  | .hCmpi e _ _ _ => some e
  | .hInc e _ => some e
  | .hDec e _ => some e
  | .hAndw e _ => some e
  | .hOrw e _ => some e
  | .hXorw e _ => some e
  | .hShf e _ _ => some e
  | .hTstb e _ _ => some e
  | .hJmp e _ _ => some e
  | .hEnd e => some e
  | _ => none

/-! Command sessions. -/

/-- Phiash takes an entry now, and no check refuses it: the session is ready, the host reachable, the reply ring has room, power has not
failed, and R402, R406 and R408 of 13 name no refusal once the entry is taken. -/
def takes (c : CmdSpec) (h : Cmd) (d : Dev) : Bool :=
  d.up && cmdReady h d && !(sesTransport d h.session == 1 && outRefused d) && repSpace d h.session &&
    !(cmdAdvance h.session d).bitR Reg.glbStatus 5 && (cmdCheck c h (cmdAdvance h.session d)).isNone

/-- The parameter words of an entry. -/
def cmdP (h : Cmd) (d : Dev) : List Nat := cmdParams h (sesProto d h.session)

/-- Every opcode row, as the catalogue gives it (13 R402, R410 to R421): opcode, whether it names a carriage, the masks of its parameter words, the first words of its addresses and
its ranges; with the entry it takes. -/
def cmdRow : Instr → Option (CmdSpec × Cmd)
  | .cmdHello h => some (spec0 0 [0xFFFF, mAll], h)
  | .cmdBye h => some (spec0 1 [], h)
  | .cmdEcho h => some (spec0 2 [mAll, mAll, mAll, mAll], h)
  | .cmdModuleStatus h => some (spec0 3 [], h)
  | .cmdCreate h _ => some (⟨0x100, true, [0x1F, mAll, 0xFF, 0xFFF, mAll, 0xFF], [1], createRange⟩, h)
  | .cmdDestroy h => some (⟨0x101, true, [0xFFFF], [], noRange⟩, h)
  | .cmdEnable h => some (⟨0x102, true, [0xFFFF], [], noRange⟩, h)
  | .cmdDisable h => some (⟨0x103, true, [0xFFFF], [], noRange⟩, h)
  | .cmdReset h => some (⟨0x104, true, [0xFFFF], [], noRange⟩, h)
  | .cmdHarnessMode h => some (⟨0x105, true, [0xFFFF, 3], [], fun p => if entW p 1 = 3 then some 1 else none⟩, h)
  | .cmdProgramLoad h _ => some (⟨0x106, true, [0xFFFF, mAll, 0xFF, 1], [1], noRange⟩, h)
  | .cmdSave h => some (⟨0x107, true, [0xFFFF, 0x3FF, mAll, 0xFF, mAll], [2], noRange⟩, h)
  | .cmdRestore h _ => some (⟨0x108, true, [0xFFFF, mAll, 0xFF, 0xFFFFF], [1], noRange⟩, h)
  | .cmdCarriageQuery h => some (⟨0x109, true, [0xFFFF], [], noRange⟩, h)
  | .cmdParamUpdate h _ => some (⟨0x10A, true, [0xFFFF, 0xFFFF, mAll, 0xFF], [2], noRange⟩, h)
  | .cmdStreamLive h _ => some (⟨0x200, false, [0x80000FFF, mAll, 0xFF], [1], noRange⟩, h)
  | .cmdStreamSuspend h => some (spec0 0x201 [0xFFF], h)
  | .cmdStreamResume h => some (spec0 0x202 [0xFFF], h)
  | .cmdStreamRetire h => some (spec0 0x203 [0xFFF], h)
  | .cmdStreamGrant h => some (⟨0x204, true, [0xFFF], [], noRange⟩, h)
  | .cmdStreamRevoke h => some (⟨0x205, true, [0xFFF], [], noRange⟩, h)
  | .cmdLearnList h => some (spec0 0x206 [0xFFF], h)
  | .cmdGsubCommit h _ _ => some (⟨0x207, false, [0x7FF, mAll, 0xFF, mAll, 0xFF, 0x7F], [1, 3], above 5 64⟩, h)
  | .cmdGpubCommit h _ _ => some (⟨0x300, false, [0x7FF, mAll, 0xFF, mAll, 0xFF, 0x7F], [1, 3], above 5 64⟩, h)
  | .cmdGpubState h => some (⟨0x301, false, [0x7FF, 3], [], above 1 2⟩, h)
  | .cmdSvpubCommit h _ => some (⟨0x302, false, [0xFF, mAll, 0xFF], [1], noRange⟩, h)
  | .cmdPmuCommit h _ => some (⟨0x303, false, [0x1F, mAll, 0xFF], [1], noRange⟩, h)
  | .cmdPmuCtrl h => some (spec0 0x304 [3], h)
  | .cmdTripmap h _ => some (⟨0x305, false, [0, mAll, 0xFF, 0x1FFF], [1], above 3 4096⟩, h)
  | .cmdTimeSource h => some (⟨0x400, false, [7], [], fun p => if fld (entW p 0) 0 2 = 3 then some 0 else none⟩, h)
  | .cmdFreeRunAccept h => some (spec0 0x401 [], h)
  | .cmdTimeStep h => some (⟨0x402, false, [mAll, 0xFFFF, 0x3FFFFFFF], [], above 2 999999999⟩, h)
  | .cmdTimeLimits h => some (⟨0x403, false, [mAll, mAll, mAll], [], limitsBad⟩, h)
  | .cmdPortPtp h => some (⟨0x404, false, [0xF, 7, mAll, mAll, mAll, mAll], [], above 0 10⟩, h)
  | .cmdHoldback h => some (⟨0x405, false, [0xF], [], fun p => if entW p 0 = 0 then some 0 else none⟩, h)
  | .cmdRecArm h _ => some (⟨0x500, false, [0xF, mAll, 0xFF], [1], noRange⟩, h)
  | .cmdRecDisarm h => some (spec0 0x501 [0xF], h)
  | .cmdRecForce h => some (spec0 0x502 [0xF], h)
  | .cmdRecRender h => some (⟨0x503, false, [0xF, mAll, mAll, 0xFF, mAll], [2], noRange⟩, h)
  | .cmdEvrRestart h => some (spec0 0x504 [], h)
  | .cmdKeyGenerate h => some (spec0 0x600 [0xFF, attrMask, 0xF], h)
  | .cmdKeyUnwrap h _ _ _ => some (⟨0x601, false, [0xFF, 0xFF, mAll, 0xFF, mAll, attrMask], [2], noRange⟩, h)
  | .cmdKeyDerive h _ _ => some (⟨0x602, false, [0xFF, 0xFF, mAll, 0xFF, mAll, attrMask], [2], fun p => if entW p 4 = 0 || 256 < entW p 4 then some 4 else none⟩, h)
  | .cmdKeyDestroy h => some (spec0 0x603 [0xFF], h)
  | .cmdKeyInfo h => some (spec0 0x604 [0xFF], h)
  | .cmdLifecycle h => some (spec0 0x605 [7], h)
  | .cmdBracePair h => some (spec0 0x700 [3], h)
  | .cmdBraceResync h => some (spec0 0x701 [], h)
  | .cmdBraceSwitch h => some (spec0 0x702 [], h)
  | .cmdBraceProof h => some (⟨0x703, false, [0xFFFFF, 0x7FF, 1], [], fun p => if entW p 1 = 0 || 1200 < entW p 1 then some 1 else none⟩, h)
  | .cmdStlTable h _ => some (⟨0x800, false, [0xFFFFF, mAll, 0xFF, 0x1FF], [1], noRange⟩, h)
  | .cmdStlImap h _ => some (⟨0x801, false, [0, mAll, 0xFF, 0x1FFF], [1], above 3 4096⟩, h)
  | .cmdStlBackupSet h => some (⟨0x802, false, [0x1F1F1F1F], [], backupBad⟩, h)
  | .cmdStlReadmit h => some (⟨0x803, false, [0x1F, 3], [], portRange⟩, h)
  | .cmdStlNodeReset h => some (⟨0x804, false, [0x1F, 3], [], portRange⟩, h)
  | .cmdModeSet h => some (⟨0x900, false, [3], [], fun p => if entW p 0 = 3 then some 0 else none⟩, h)
  | .cmdRetireUnit h => some (⟨0x901, false, [7, mAll, 3], [], retireRange⟩, h)
  | .cmdRepairStatus h => some (spec0 0x902 [7], h)
  | .cmdDramPpr h => some (spec0 0x903 [0x7FF, 0x3FFFF], h)
  | .cmdModuleReset h => some (spec0 0x904 [1], h)
  | .cmdRecoveryWrite h _ _ => some (⟨0x905, false, [mAll, mAll, mAll, 0xFF], [2], fun p => if entW p 1 = 0 || 65536 < entW p 1 then some 1 else none⟩, h)
  | .cmdRecoveryCommit h _ => some (spec0 0x906 [mAll], h)
  | .cmdDiagRead h => some (spec0 0xA00 [mAll, 3], h)
  | .cmdDiagWrite h => some (spec0 0xA01 [mAll, mAll], h)
  | .cmdDiagLoopback h => some (⟨0xA02, false, [0xF, 1], [], fun p => if 10 < entW p 0 then some 0 else none⟩, h)
  | .cmdDiagSample h => some (⟨0xA03, false, [0xF, 0xFFFF], [], fun p => if 10 < entW p 0 then some 0 else none⟩, h)
  | .cmdDiagInspect h => some (⟨0xA04, false, [3, 1], [], fun p => if entW p 0 = 3 then some 0 else none⟩, h)
  | _ => none

/-! Brace messages. -/

/-- A Brace message whose content acts: its link up, the copy intact and the first, its sender the other unit, of a version that pairs
(11 R321, R322, R328). -/
def heard (h : BrcHdr) (d : Dev) : Bool :=
  d.up && brcOn d && h.link < 2 && brcLinkUp d h.link && h.crcOk && !d.brc.seq.contains h.seq && h.unit != selfNode d && !d.brc.badVer

/-- The device once a message's sequence number and tick are noted. -/
def seqNoted (h : BrcHdr) (d : Dev) : Dev :=
  { d with brc := { d.brc with seq := (h.seq :: d.brc.seq).take 256, lastMsg := some d.tim.absTick } }

/-- The device once the header of a message that is heard is taken: the partner's role and term, an ACTIVE of a lower claim that gives way, the
pairing, and the end of ORPHAN. -/
def afterHdr (h : BrcHdr) (d : Dev) : Dev :=
  let d1 := seqNoted h d
  let d2 := { d1 with brc := { d1.brc with peer := some ⟨h.role, h.term, h.serial, peerSt d1⟩ } }
  let d3 := if h.role = roleActive && brcRole d2 = roleActive && claimWins d2 h.unit h.term then termLost roleResync d2 else d2
  orphanReturn (pairNow d3)

/-- The header of a row that is a message of the Brace. -/
def brcRow : Instr → Option BrcHdr
  | .mirrorCells h _ => some h
  | .declarationRecord h _ _ _ => some h
  | .p2CompletionList h _ => some h
  | .publicationMirror h _ _ => some h
  | .tripSeatImages h _ => some h
  | .digestTable h _ _ => some h
  | .configJournal h _ => some h
  | .braceStatus h _ => some h
  | .failMessage h => some h
  | .carriageImageArrival h c _ => if c < 512 then some h else none
  | .configurationImage h _ => some h
  | .forwardedRequest h _ => some h
  | _ => none

/-! Results as the rules write them, for the statements to compare with. -/

/-- The two's complement word of a sum: saturated at the limits of 32 bits, or modulo 2^32 with WRAP (R226). -/
def sum32 (wrap : Bool) (r : Int) : Nat :=
  if wrap then (r % 2 ^ 32).toNat
  else if r < -2 ^ 31 then 0x80000000 else if 2 ^ 31 ≤ r then 0x7FFFFFFF else (r % 2 ^ 32).toNat

/-- A relation of R226 between two integers, by its REL code. -/
def relation (rel : Nat) (a b : Int) : Bool :=
  match rel with
  | 0 => decide (a = b)
  | 1 => decide (a ≠ b)
  | 2 => decide (a < b)
  | 3 => decide (a ≤ b)
  | 4 => decide (b < a)
  | _ => decide (b ≤ a)

/-- The timer of R230 for input `inp`, written from its three programs. -/
def timerSpec (kind : Nat) (inp : Bool) (pt delta : Nat) (et : Nat) (q p : Bool) : Nat × Bool :=
  match kind with
  | 0 =>
    let et := if inp && !p then 0 else if inp then min pt (et + delta) else 0
    (et, inp && decide (pt ≤ et))
  | 1 => if inp then (0, true) else if p then (0, decide (0 < pt)) else (min pt (et + delta), decide (min pt (et + delta) < pt))
  | _ =>
    if inp && !p && !q then (0, decide (0 < pt))
    else if q then (min pt (et + delta), decide (min pt (et + delta) < pt))
    else (et, q)

/-- The word of R224 with OP, NEG, ARG and ADDR. -/
def hWordOf (op : Nat) (neg : Bool) (arg addr : Nat) : Nat :=
  op * 2 ^ 26 + (if neg then 2 ^ 25 else 0) + arg * 2 ^ 20 + addr

end Sys2Proof.Machine
end

