-- ==== Sys2Proof/Certificates/Slice0/Obligations.lean ====
section
/-! DEFINITION. The statements for the provers. A statement about a command gives, under hypotheses on the state and the operands
alone, the next state that `exec` answers; an equation `exec c s = .next (s.commit d)` says at once what changes (the device `d`, with
the words it stores written to DRAM) and that nothing else does. -/

open Sys2Proof Sys2Proof.Machine

/-! The queue, and what holds of every command. -/

/-- Derived (log 1): a step with a command in front is that command's effect on the state with the queue's rest. Derived (log 1): with no command waiting,
the block idles. -/
def Obligations.StepRunsFrontCommand : Prop :=
  (∀ (s : State) (c : Instr) (rest : List Instr), s.pending = c :: rest → step s = exec c { s with pending := rest }) ∧
  (∀ s : State, s.pending = [] → step s = .next s)

/-- Derived: every command, in every state, answers a next state, and leaves the queue of waiting commands as it was: no row of the
table stops the block. -/
def Obligations.EveryCommandCompletes : Prop :=
  ∀ (c : Instr) (s : State), ∃ t, exec c s = .next t ∧ t.pending = s.pending

/-- R464, R471: while a power-on or system reset is held, every other command leaves the whole block as it is. -/
def Obligations.HeldResetStopsCommands : Prop :=
  ∀ (c : Instr) (s : State), s.dev.rst.held ≠ none → s.dev.dramW = [] → actsInReset c = false → exec c s = .next s

/-- Tier 3, derived: every step keeps the invariant: DRAM stays in its canonical form (every listed address inside the DRAM window of
18 R534, addresses rising, no entry of the value that an unlisted byte reads as), and no store of a finished command is pending. -/
def Obligations.StepKeepsInvariant : Prop :=
  ∀ s t : State, s.Inv → step s = .next t → t.Inv

/-- Derived: the invariant holds at reset. -/
def Obligations.ResetMeetsInvariant : Prop := State.reset.Inv

/-- 16 R464, R495; 02 R42; 15 R462; 18 R557; 08 R264: right after reset the block is held in reset, local time and every counter are 0, the
registers read their tables' reset values (a few are named here), and 0 where no table gives one (the model's choice: log 4), no carriage exists, nothing is in DRAM and no command waits. -/
def Obligations.ResetState : Prop :=
  State.reset.pending = [] ∧ State.reset.mem = [] ∧ State.reset.dev.rst.held = some 0 ∧
  (∀ off, State.reset.dev.rd off = regReset off) ∧
  State.reset.dev.rn Reg.eenKcatVer = 0x00010000 ∧ State.reset.dev.rn Reg.hleIsaVer = 0x00010000 ∧
  State.reset.dev.rn Reg.hleCtrl = 1 ∧ State.reset.dev.rn Reg.hleStatus = 0x110 ∧
  State.reset.dev.cars = [] ∧ (∀ c, hcar State.reset.dev c = HCar.empty) ∧ State.reset.dev.queues = []

/-! Time (02) and the boundaries (00_scope R12). -/

/-- R9, R44: a read of the low word of a pair latches its high word and answers the low word; a read of TIM_SEC_LO answers the low word of the seconds and
takes one snapshot of TIM_SEC_HI, TIM_NS, TIM_FRAC and TIM_TICKCODE. 02 R37, R38: a reference out of range clears its valid bit and its source
latches; its return sets the bit and ends the cause; the loss of ETH_REFCLK takes every link that is up down, and that of PCIE_REFCLK resets the
bridge. CLK_FAIL follows REFCLK, a power-on or system reset held or not. A root PLL that loses lock raises its source in a running device. -/
def Obligations.TimeReadsAndReferences : Prop :=
  (∀ s : State, s.dev.up = true →
      (∀ off, isLowWord off = true → exec (.readLowWord off) s =
        .next (s.commit { s.dev with hiLat := tput s.dev.hiLat (off + 4) (s.dev.rd (off + 4)),
                                     out := .readData (s.dev.rd off) :: s.dev.out })) ∧
      exec .timeSnapshot s =
        .next (s.commit { s.dev with
          tim := { s.dev.tim with snap := some [s.dev.tim.sec / 2 ^ 32, s.dev.tim.ns, s.dev.tim.frac / 2 ^ 32, s.dev.tim.tickCode] },
          out := .readData (w32 (s.dev.tim.sec % 2 ^ 32)) :: s.dev.out })) ∧
  (∀ s : State,
      (s.dev.up = true →
        exec (.referenceLost .refclk) s = .next (s.commit (setCond 4 0 (setCond 0 0
          ((({ s.dev with rst := { s.dev.rst with refLost := true } }.clrB Reg.clkStatus 0).setB Reg.clkStatus 4).emit
            (.ball "CLK_FAIL" 1))))) ∧
        exec (.referenceLost .eth) s =
          (let d := setCond 2 0 (s.dev.clrB Reg.clkStatus 2)
           .next (s.commit (((List.range 11).filter (linkUp d)).foldl (fun d p => linkGoesDown p d) d))) ∧
        exec (.referenceLost .pcie) s = .next (s.commit (Sys2Proof.Machine.bridgeReset (setCond 3 0 (s.dev.clrB Reg.clkStatus 3)))) ∧
        exec .rootPllUnlock s = .next (s.commit (setCond 1 0 (s.dev.clrB Reg.clkStatus 1))) ∧
        exec (.referenceReturn .eth) s = .next (s.commit (clearCond 2 (s.dev.setB Reg.clkStatus 2))) ∧
        exec (.referenceReturn .pcie) s = .next (s.commit (clearCond 3 (s.dev.setB Reg.clkStatus 3)))) ∧
      exec (.referenceReturn .refclk) s = .next (s.commit (clearCond 4 (clearCond 0
        ((({ s.dev with rst := { s.dev.rst with refLost := false } }.putB Reg.clkStatus 0 s.dev.up).clrB Reg.clkStatus 4).emit
          (.ball "CLK_FAIL" 0))))))

/-- R42, R478: a tick edge of a running device comes `toEdge` cycles on: local time advances by those cycles, the next edge is 40,000 cycles away,
trip frames whose egress tick has ended are discarded (09 R273), occurrences of the last tick end, the Lantern, the counts and a restart of the
recorder run, and every stage point that falls on the edge starts.
While a reset holds, only the start timer counts, once its clocks are valid. Derived (00_scope R586; 02 R43, R67; 07 R235, R237, R241; 08 R255, R259;
10 R310; 13 R405): what a leg boundary and a route boundary run, in order: `bad` are carriages whose retention fails its check, `slots` key slots
whose tag fails. -/
def Obligations.TicksAndBoundaries : Prop :=
  (∀ s : State,
      (s.dev.up = true → exec .tick s = .next (s.commit (stages s.mem (evrRestartTick (tickCounts (ltnRun s.dev.tim.toEdge
        (occEnd (tripsLate { s.dev with tim := { s.dev.tim.advance s.dev.tim.toEdge with toEdge := 40000 } })))))))) ∧
      (s.dev.up = false → exec .tick s = .next (s.commit
        (if startRuns s.dev then { s.dev with rst := { s.dev.rst with startTicks := s.dev.rst.startTicks + 1 } } else s.dev)))) ∧
  (∀ (s : State) (bad slots : List Nat), s.dev.up = true →
      (let d1 := holdEvents (ttbLeg (rateLeg (enTakesEffect (retWriteAll s.dev))))
       exec (.legBoundary bad) s =
         .next (s.commit (ltnLeg (brcLeg (stlLeg (drcLeg (modesLeg bad s.mem (enablesLeg bad d1)))))))) ∧
      (let d1 := pubApply (gsApply (eenApply (fchRoute (actsNow { sauRoute s.dev with lagR := [] }))))
       let d2 := ttbRoute (stlRoute (safeCopy (memWriteWords s.mem d1.dramW) d1))
       let d3 := slots.foldl (fun d k => slotGoesBad k d) (ptpRoute (holdRoute (swapsRoute (enablesRoute bad (cycRoute d2)))))
       exec (.routeBoundary slots bad) s =
         .next (s.commit (modeRoute (s.dev.mode == modeStandby) (brcRoute (commitsWait s.dev) d3)))) ∧
      (enTakesEffect s.dev).lagL = [] ∧ (∀ off, (enTakesEffect s.dev).effL off = (enTakesEffect s.dev).rd off))

/-- R40, R41: `c` cycles add `c` times the addend and one extra unit in every three cycles, in units of 2^-48 ns: the advance is
exact, and local time carries from the fraction into nanoseconds and from those into seconds modulo 2^48. -/
def Obligations.LocalTimeIsExact : Prop :=
  ∀ (t : Tim) (c : Nat), t.sec < 2 ^ 48 → t.ns < 1000000000 → t.frac < 2 ^ 48 → t.third < 3 →
    let u := t.advance c
    u.ns < 1000000000 ∧ u.frac < 2 ^ 48 ∧ u.third < 3 ∧ u.third = (t.third + c) % 3 ∧
    (((u.sec : Int) - t.sec) * (1000000000 * 2 ^ 48) + ((u.ns : Int) - t.ns) * 2 ^ 48 + ((u.frac : Int) - t.frac) -
      (c * 0x535555555555 + ((t.third + c + 2) / 3 - (t.third + 2) / 3 : Nat))) % (2 ^ 48 * 1000000000 * 2 ^ 48) = 0 ∧
    (∀ k, t.third = 0 → c = 3 * k → (t.third + c + 2) / 3 - (t.third + 2) / 3 = k)

/-- R46, R53: HOLDOVER holds the frequency term with the phase term zero and raises source 17; once it has lasted TIM_HOLD_LIMIT routes, source 21
rises. A measurement of the selected source sets the terms of the servo, and while LOCKED keeps the lock within TIM_OFS_WARN and gives way to SLEWING,
source 19, beyond it (R50, R52); in any state it has the effect of `servoFeed`. R54 to R57, R66: a port whose role is off, a message of another domain or of a protection
that R57 does not let, brings nothing; a two-step message is counted and ignored; a Pdelay_Req is answered with its ingress stamp; a Pdelay_Resp gives
the mean link delay from the waiting request; a message that carries the UTC offset sets it; a Sync goes to the servo and, on a transparent port, to the
other transparent ports. The role ordinary beside a port of role boundary leaves ROLE as it was, with an Info event; every other role is taken, off
clears the port state, and a role that leaves off starts at INITIALIZING. -/
def Obligations.ServoAndPtpPorts : Prop :=
  (∀ s : State, s.dev.up = true →
      (timSrc s.dev ≠ 0 → timState s.dev ≠ tsFree → timState s.dev ≠ tsHoldover → exec .holdoverEntry s =
        .next (s.commit (raise 17 none 0 0 (setTimState tsHoldover
          { s.dev.wn Reg.timPhaseRate 0 with
              tim := { s.dev.tim with phase := 0, target := rateTarget s.dev.tim.freq 0, holdCnt := 0, good := 0 } })))) ∧
      (timState s.dev = tsHoldover → s.dev.fldR Reg.timHoldLimit 0 17 ≤ s.dev.tim.holdCnt → exec .holdLimit s =
        .next (s.commit (raise 21 none 0 0 s.dev))) ∧
      (∀ (o : Int) (settled : Bool) (sec ns : Nat), timSrc s.dev = 2 →
        let m := servoTerms (setOffset o s.dev)
        exec (.braceTime o settled sec ns) s = .next (s.commit (servoFeed o settled sec ns s.dev)) ∧
        (timState m = tsLocked →
          (o.natAbs ≤ m.rn Reg.timOfsWarn →
            exec (.braceTime o settled sec ns) s = .next (s.commit (setTimState tsLocked m))) ∧
          (m.rn Reg.timOfsWarn < o.natAbs → exec (.braceTime o settled sec ns) s = .next (s.commit
            (raise 19 none 0 0 (setTimState tsSlewing { m with tim := { m.tim with good := 0 } }))))))) ∧
  (∀ (s : State) (p : Nat) (m : PtpMsg), s.dev.up = true → p < 11 →
      ((ptpRole s.dev p = 0 ∨ m.domain = false ∨ ptpAdmitted s.dev p m = false) →
        exec (.ptpMessageRx p m) s = .next (s.commit s.dev)) ∧
      (ptpRole s.dev p ≠ 0 → m.domain = true → ptpAdmitted s.dev p m = true →
        let d := setPState p m.pstate s.dev
        let at' := ingressStamp d p m.off
        (m.twoStep = true → exec (.ptpMessageRx p m) s = .next (s.commit
          (s.dev.setF (Reg.timPStat p) 8 8 (min 255 (s.dev.fldR (Reg.timPStat p) 8 8 + 1))))) ∧
        (m.twoStep = false → m.kind = 0 → ptpRole d p ≠ 3 →
          exec (.ptpMessageRx p m) s = .next (s.commit (ptpSync p m d))) ∧
        (m.twoStep = false → m.kind = 0 → ptpRole d p = 3 →
          exec (.ptpMessageRx p m) s = .next (s.commit (ptpSync p m (enqueueAll (portsOfRole d p 3)
            { kind := 4, src := p, cls := 6, len := m.len, tag := 0, body := [0, m.origin, wrapN 64 m.corr], stamp := at' } d)))) ∧
        (m.twoStep = false → m.kind = 1 → exec (.ptpMessageRx p m) s = .next (s.commit
          (enqueue p { kind := 4, src := p, cls := 6, len := m.len, tag := 0, body := [2, 0, wrapN 64 m.corr], stamp := at' } d).1)) ∧
        (∀ t1, m.twoStep = false → m.kind = 2 → tfind d.tim.pdT1 p = some t1 → exec (.ptpMessageRx p m) s = .next (s.commit
          ({ d with tim := { d.tim with pdT1 := tdel d.tim.pdT1 p } }.wn (Reg.timPPdelay p)
            (wrapN 32 (nearestAway (((at' : Int) - t1 - m.corr * corrUnit) * 500) nsUnits))))) ∧
        (∀ u, m.twoStep = false → m.kind = 3 → m.utc = some u → exec (.ptpMessageRx p m) s =
          .next (s.commit (d.wn Reg.timUtcOffset (wrapN 16 u + 2 ^ 31)))))) ∧
  (∀ (s : State) (p : Nat) (v : Word), s.dev.up = true → p < 11 →
      let d := if isStation p then s.dev.putB (Reg.timPCfg p) 2 (bitOf v.toNat 2) else s.dev
      let role := fld v.toNat 0 2
      (role = 1 → portsOfRole s.dev p 2 ≠ [] → exec (.ptpRoleWrite p v) s = .next (s.commit (d.emit (.infoEvent 55)))) ∧
      (role = 0 → exec (.ptpRoleWrite p v) s =
        .next (s.commit ((d.setF (Reg.timPCfg p) 0 2 0).setF (Reg.timPStat p) 0 4 0))) ∧
      ((role = 2 ∨ role = 3 ∨ (role = 1 ∧ portsOfRole s.dev p 2 = [])) → ptpRole d p ≠ 0 →
        exec (.ptpRoleWrite p v) s = .next (s.commit (d.setF (Reg.timPCfg p) 0 2 role))) ∧
      ((role = 2 ∨ role = 3 ∨ (role = 1 ∧ portsOfRole s.dev p 2 = [])) → ptpRole d p = 0 →
        exec (.ptpRoleWrite p v) s = .next (s.commit ((d.setF (Reg.timPCfg p) 0 2 role).setF (Reg.timPStat p) 0 4 1)))) ∧
  (∀ s : State, s.dev.up = true → exec .holdoverEntry s = .next (s.commit (enterHoldover s.dev)) ∧
      exec .holdLimit s = .next (s.commit (holdLimit' s.dev)) ∧
      ∀ (p : Nat) (m : PtpMsg) (v : Word), p < 11 →
        exec (.ptpMessageRx p m) s = .next (s.commit (ptpRx p m s.dev)) ∧
        exec (.ptpRoleWrite p v) s = .next (s.commit (writePtpCfg p v.toNat s.dev)))

/-! Ports and switch (03). -/

/-- R70, R71, R77, R93: on a port that receives, a frame that is too long or fails its FCS is counted and dropped; a good frame is counted, takes its
sample turn, passes MACsec or is dropped there, and is handled by the redundancy of its pair and forwarded; a frame whose turn is sampled is placed with
its outcome. A port that does not receive takes nothing. R80, R86, R90; 09 R273; 10 R302: a port's turn discards trip frames whose tick is over, and a port that may not transmit drops the frames that wait; a line
that is taken and a link that is down send nothing; a free line of a port that is up takes the head of the highest class
whose gate is open, whose frame fits before its gate closes and which is not paused, after MACsec where the port protects it (R76; 02 R56, R57), and a frame
whose association refuses is dropped; the end of the frame counts it, gives its cells back, and ends a guest's copy. -/
def Obligations.FramesInAndOut : Prop :=
  (∀ (s : State) (p : Nat) (f : Frame), s.dev.up = true → p < 11 →
      ((linkUp s.dev p = false ∨ rxEn s.dev p = false ∨ s.dev.mode = modeParked) →
        exec (.frameRx p f) s = .next (s.commit s.dev)) ∧
      (linkUp s.dev p = true → rxEn s.dev p = true → s.dev.mode ≠ modeParked →
      (s.dev.fldR (Reg.ethMaxlen p) 0 14 < f.len →
        exec (.frameRx p f) s = .next (s.commit (s.dev.bump (Reg.ethRxTooLong p)))) ∧
      (f.len ≤ s.dev.fldR (Reg.ethMaxlen p) 0 14 → f.fcsOk = false →
        exec (.frameRx p f) s = .next (s.commit (s.dev.bump (Reg.ethRxFcsErr p)))) ∧
      (f.len ≤ s.dev.fldR (Reg.ethMaxlen p) 0 14 → f.fcsOk = true →
        let turn := sampleTurn p (s.dev.bump (Reg.ethRxFrames p))
        let sec := secVerify p f turn.1
        let drop := if isStation p then 5 else 3
        (sec.2 = true → turn.2 = false → exec (.frameRx p f) s = .next (s.commit (redHandle p f sec.1).1)) ∧
        (sec.2 = true → turn.2 = true → exec (.frameRx p f) s =
          .next (s.commit (placeSample p f (redHandle p f sec.1).2 (redHandle p f sec.1).1))) ∧
        (sec.2 = false → turn.2 = false → exec (.frameRx p f) s = .next (s.commit sec.1)) ∧
        (sec.2 = false → turn.2 = true → exec (.frameRx p f) s = .next (s.commit (placeSample p f drop sec.1)))))) ∧
  (∀ (s : State) (p off : Nat), s.dev.up = true → p < 11 →
      let d := tripLate p s.dev
      (txShut d p = true → exec (.frameTx p off) s = .next (s.commit (drainShut p d))) ∧
      (txShut d p = false → (tfind d.swc.line p ≠ none ∨ linkUp d p = false) → exec (.frameTx p off) s = .next (s.commit d)) ∧
      (txShut d p = false → tfind d.swc.line p = none → linkUp d p = true →
        (txClass d p (d.tim.tickInRoute % 16 * 10000 + off / 4) = none → exec (.frameTx p off) s = .next (s.commit d)) ∧
        (∀ c f l, txClass d p (d.tim.tickInRoute % 16 * 10000 + off / 4) = some c → egressQ d p c = f :: l →
          let go (e : Dev) : Outcome :=
            let f' := txOnLine d p off f
            let e := pdelaySent p (egressStamp d p off) f' (popEgress p c true e)
            .next (s.commit ({ e with swc := { e.swc with line := tput e.swc.line p f' } }.emit
              (if e.bitR (Reg.ethCtrl p) 6 then .looped p f' else .frame p f')))
          (txProtected d p f = false → exec (.frameTx p off) s = go d) ∧
          (txProtected d p f = true → (secTake p d).2 = true → exec (.frameTx p off) s = go (secTake p d).1) ∧
          (txProtected d p f = true → (secTake p d).2 = false →
            exec (.frameTx p off) s = .next (s.commit (frameDropped p f (popEgress p c false (secTake p d).1))))))) ∧
  (∀ (s : State) (p : Nat), s.dev.up = true → p < 11 →
      (tfind s.dev.swc.line p = none → exec (.frameTxEnd p) s = .next (s.commit s.dev)) ∧
      (∀ f, tfind s.dev.swc.line p = some f →
        let d := { s.dev with swc := { s.dev.swc with line := tdel s.dev.swc.line p } }
        let e := setOcc p f.cls (qOcc d p f.cls - cellsOf f.len) (d.bump (Reg.ethTxFrames p))
        (f.kind ≠ 6 → exec (.frameTxEnd p) s = .next (s.commit e)) ∧
        (f.kind = 6 → exec (.frameTxEnd p) s = .next (s.commit (txCopyDone f.src f.tag p 0 e)))))

/-- R83, R85, R87, R88: pause frames act on priorities 0 to 5 that PFC is enabled for, and are counted as ignored otherwise; PFC and scheduling of one
priority exclude each other, a clashing bit staying 0 with an Info event; a gate entry's mask takes effect while the list is enabled, and nothing while it
is not; the trip window
of a port that overlays it opens and closes; a swap is asked for and pending. R89, R90, R97: a link that goes down cuts the frame on its line, flushes every class and latches its sources;
the flush's end frees the cells; a link that comes up sets its status and ends the condition; a synthesiser that loses lock cuts the line and stops
the port, whose waiting frames are dropped, and lock ends that. -/
def Obligations.GatesAndLinks : Prop :=
  (∀ (s : State) (p prio e : Nat) (on opens : Bool) (v : Word), s.dev.up = true → p < 11 →
      (prio ≤ 5 → s.dev.bitR (Reg.ethPfcEn p) prio = true →
        exec (.pfcPauseRx p prio on) s = .next (s.commit (s.dev.putB (Reg.ethPauseState p) prio on))) ∧
      (prio < 8 → (5 < prio ∨ s.dev.bitR (Reg.ethPfcEn p) prio = false) →
        exec (.pfcPauseRx p prio on) s = .next (s.commit (s.dev.bump (Reg.ethPfcIgnored p)))) ∧
      (clashBits (v.toNat % 64) (s.dev.rn (Reg.swcGclSched p)) = [] →
        exec (.pfcEnWrite p false v) s = .next (s.commit (s.dev.wn (Reg.ethPfcEn p) (v.toNat % 64)))) ∧
      (∀ b l, clashBits (v.toNat % 64) (s.dev.rn (Reg.swcGclSched p)) = b :: l → exec (.pfcEnWrite p false v) s =
        .next (s.commit ((s.dev.wn (Reg.ethPfcEn p) (clearBits (v.toNat % 64) (b :: l))).emit (.infoEvent 88)))) ∧
      (clashBits (v.toNat % 256) (s.dev.rn (Reg.ethPfcEn p)) = [] →
        exec (.pfcEnWrite p true v) s = .next (s.commit (s.dev.wn (Reg.swcGclSched p) (v.toNat % 256)))) ∧
      (∀ b l, clashBits (v.toNat % 256) (s.dev.rn (Reg.ethPfcEn p)) = b :: l → exec (.pfcEnWrite p true v) s =
        .next (s.commit ((s.dev.wn (Reg.swcGclSched p) (clearBits (v.toNat % 256) (b :: l))).emit (.infoEvent 88)))) ∧
      (e < 64 →
        let w := s.dev.rn (Reg.swcGclEntry p (b2n (s.dev.bitR (Reg.swcGclCtrl p) 1)) e)
        (s.dev.bitR (Reg.swcGclCtrl p) 0 = true → bitOf w 31 = true → exec (.gateEntryStart p e) s =
          .next (s.commit { s.dev with swc := { s.dev.swc with gate := tset 0xFF s.dev.swc.gate p (w % 256) } })) ∧
        ((s.dev.bitR (Reg.swcGclCtrl p) 0 = false ∨ bitOf w 31 = false) →
          exec (.gateEntryStart p e) s = .next (s.commit s.dev))) ∧
      (p < 10 → exec (.tripWindow p opens) s =
        (let rest := s.dev.swc.trip.filter (fun x => x != p)
         .next (s.commit { s.dev with swc := { s.dev.swc with
           trip := if opens && s.dev.bitR (Reg.swcGclCtrl p) 3 then p :: rest else rest } }))) ∧
      exec (.gclSwapRequest p) s = .next (s.commit
        (((s.dev.putB (Reg.swcGclCtrl p) 0 (s.dev.bitR (Reg.swcGclCtrl p) 0)).setB (Reg.swcGclCtrl p) 2).setB (Reg.swcGclStatus p) 1))) ∧
  (∀ (s : State) (p : Nat), s.dev.up = true → p < 11 →
      exec (.linkDown p) s = .next (s.commit (raise (99 + 8 * p) none p 0 (setCond (96 + 8 * p) p
        ((List.range 8).foldl (fun d c => flushQueue p c d)
          (txCut p ((((s.dev.clrB (Reg.ethStatus p) 0).clrB (Reg.ethStatus p) 1).clrB (Reg.ethStatus p) 4).setB (Reg.ethStatus p) 5)))))) ∧
      exec (.queueFlushDone p) s = .next (s.commit
        (((List.range 8).foldl (fun d c => setOcc p c 0 d) s.dev).clrB (Reg.ethStatus p) 5)) ∧
      (let d := (s.dev.setB (Reg.ethStatus p) 0).setB (Reg.ethStatus p) 1
       exec (.linkUp p) s = .next (s.commit (raise (97 + 8 * p) none p 0 (clearCond (96 + 8 * p)
         (d.putB (Reg.ethStatus p) 4 (autoNeg s.dev p)))))) ∧
      exec (.synthUnlock p) s = .next (s.commit (setCond (98 + 8 * p) p (drainShut p (txCut p
        ((s.dev.clrB (Reg.ethStatus p) 2).setB (Reg.ethStatus p) 3))))) ∧
      exec (.synthLock p) s = .next (s.commit (clearCond (98 + 8 * p)
        ((s.dev.setB (Reg.ethStatus p) 2).clrB (Reg.ethStatus p) 3))))

/-- R73, R77, R94, R95, R97: a redundancy entry silent for FORGET ms goes and its waiting frames count as unique, and one that is not stays; EN and CONF of
MACsec change in Maintenance only and TX_AN in every mode; the FDB's entries are read, written as static entries (left empty without VALID), deleted, and a
learned entry without a hit for AGE routes goes, while every other entry stays. -/
def Obligations.SwitchTables : Prop :=
  ∀ (s : State) (i : Nat), s.dev.up = true →
    (∀ k sa, k < 5 →
      (∀ e, (redList s.dev k).find? (fun x => x.sa == sa) = some e →
        (s.dev.fldR (Reg.swcRedForget k) 0 12 * 768 ≤ (s.dev.tim.absTick - e.last) * 10 →
          exec (.redEntryForget k sa) s = .next (s.commit (setRedList k ((redList s.dev k).filter (fun x => x.sa != sa))
            (s.dev.bumpBy (Reg.swcRedUnique k) (unpaired e.seen))))) ∧
        ((s.dev.tim.absTick - e.last) * 10 < s.dev.fldR (Reg.swcRedForget k) 0 12 * 768 →
          exec (.redEntryForget k sa) s = .next (s.commit s.dev))) ∧
      ((redList s.dev k).find? (fun x => x.sa == sa) = none → exec (.redEntryForget k sa) s = .next (s.commit s.dev))) ∧
    (∀ p (v : Word), isStation p = true →
      let d := (s.dev.setF (Reg.ethSecCtrl p) 2 2 (fld v.toNat 2 2)).wn (Reg.ethSecTxPn p)
        (min 0xFFFFFFFF (txPn s.dev p (fld v.toNat 2 2)))
      (s.dev.mode = modeMaintenance → exec (.macsecCtrlWrite p v) s =
        .next (s.commit (d.setF (Reg.ethSecCtrl p) 0 2 (fld v.toNat 0 2)))) ∧
      (s.dev.mode ≠ modeMaintenance → fld v.toNat 0 2 = s.dev.fldR (Reg.ethSecCtrl p) 0 2 →
        exec (.macsecCtrlWrite p v) s = .next (s.commit d)) ∧
      (s.dev.mode ≠ modeMaintenance → fld v.toNat 0 2 ≠ s.dev.fldR (Reg.ethSecCtrl p) 0 2 →
        exec (.macsecCtrlWrite p v) s = .next (s.commit (d.emit (.infoEvent 97))))) ∧
    (i < 16384 →
      (∀ e, tfind s.dev.swc.fdb i = some e → exec (.fdbRead i) s = .next (s.commit
        (((s.dev.wn Reg.swcFdbData0 (e.addr % 2 ^ 32)).wn Reg.swcFdbData1
          (e.addr / 2 ^ 32 % 65536 + e.vlan % 4096 * 65536 + b2n e.learned * 2 ^ 30 + 2 ^ 31)).wn Reg.swcFdbData2 e.dest))) ∧
      (tfind s.dev.swc.fdb i = none → exec (.fdbRead i) s = .next (s.commit
        (((s.dev.wn Reg.swcFdbData0 0).wn Reg.swcFdbData1 0).wn Reg.swcFdbData2 0))) ∧
      (bitOf (s.dev.rn Reg.swcFdbData1) 31 = true → exec (.fdbWriteStatic i) s = .next (s.commit
        (setFdb (tput s.dev.swc.fdb i ⟨s.dev.rn Reg.swcFdbData0 + s.dev.fldR Reg.swcFdbData1 0 16 * 2 ^ 32,
          s.dev.fldR Reg.swcFdbData1 16 12, false, s.dev.rn Reg.swcFdbData2 % 2 ^ 26, 0⟩) s.dev))) ∧
      (bitOf (s.dev.rn Reg.swcFdbData1) 31 = false →
        exec (.fdbWriteStatic i) s = .next (s.commit (setFdb (tdel s.dev.swc.fdb i) s.dev))) ∧
      exec (.fdbDelete i) s = .next (s.commit (setFdb (tdel s.dev.swc.fdb i) s.dev)) ∧
      (∀ e, tfind s.dev.swc.fdb i = some e → e.learned = true → s.dev.fldR Reg.swcAgeRoutes 0 20 ≠ 0 →
        e.hit + s.dev.fldR Reg.swcAgeRoutes 0 20 ≤ s.dev.tim.absRoute →
        exec (.fdbAgeOut i) s = .next (s.commit (setFdb (tdel s.dev.swc.fdb i) s.dev))) ∧
      (∀ e, tfind s.dev.swc.fdb i = some e → (e.learned = false ∨ s.dev.fldR Reg.swcAgeRoutes 0 20 = 0 ∨
        s.dev.tim.absRoute < e.hit + s.dev.fldR Reg.swcAgeRoutes 0 20) → exec (.fdbAgeOut i) s = .next (s.commit s.dev)))

/-! Sample ingest (04) and the filter chain (05). -/

/-- R102, R105, R106, R107, R112; 00_scope R586: an SV frame while the alignment unit is off does nothing; at a port the unit does not take it is counted; one that matches no entry is learned; one that
matches a LEARNED entry keeps it from ageing; one that fails a check of its entry is counted with its cause; one that passes makes the stream's profile known if it
is the first, and is accepted, but for a 9-2LE stream at another rate than 4,800. On the
active of a pair the cells that changed go to the shadow (11 R330), on the shadow the frame is kept for it. R129; 11 R331: unless the module shadows,
the next leg is declared: each LIVE and SUSPENDED entry's cell of it, and then the leg itself; a leg that is declared already is not declared again. The
shadow declares as its active's records come. -/
def Obligations.SamplesAndLegs : Prop :=
  (∀ (s : State) (p : Nat) (f : SvFrame), s.dev.up = true → p < 11 → isShadow s.dev = false → sendsMirror s.dev = false →
      (s.dev.enabled Reg.sauCtrl = false → exec (.svFrame p f) s = .next (s.commit s.dev)) ∧
      (s.dev.enabled Reg.sauCtrl = true → p = 10 → exec (.svFrame p f) s = .next (s.commit (s.dev.bump Reg.sauBadport))) ∧
      (s.dev.enabled Reg.sauCtrl = true → p < 10 →
        let r := if f.svid.length ≤ 64 then svLookup (portGroup p) (svKey f) s.dev else (s.dev, none)
        (r.2 = none → exec (.svFrame p f) s = .next (s.commit (svLearn p f r.1))) ∧
        (∀ i e, r.2 = some (i, e) → entState e = esFree → exec (.svFrame p f) s = .next (s.commit (svLearn p f r.1))) ∧
        (∀ i e, r.2 = some (i, e) → entState e = esLearned → exec (.svFrame p f) s =
          .next (s.commit (setStrm i { strm r.1 i with age := 0 } r.1))) ∧
        (∀ i e, r.2 = some (i, e) → 2 ≤ entState e →
          let a := svAuth e f r.1
          let q := svRecognise i e f a.1
          (svCause p e f a.2 ≠ 0 → exec (.svFrame p f) s =
            .next (s.commit ((a.1.bump (Reg.sauSDrop i)).wn (Reg.sauSDropCause i) (svCause p e f a.2)))) ∧
          (svCause p e f a.2 = 0 → (bitOf (entW q.2 0) 2 = true ∨ entRate q.2 = 0) → exec (.svFrame p f) s =
            .next (s.commit (svAccept p i q.2 f q.1))) ∧
          (svCause p e f a.2 = 0 → bitOf (entW q.2 0) 2 = false → entRate q.2 ≠ 0 → exec (.svFrame p f) s =
            .next (s.commit q.1))))) ∧
  (∀ (s : State) (p : Nat) (f : SvFrame), s.dev.up = true → p < 11 →
      (isShadow s.dev = true → exec (.svFrame p f) s = .next (s.commit (shadowFrame p f s.dev))) ∧
      (isShadow s.dev = false → sendsMirror s.dev = true →
        let d := svFrame' p f s.dev
        exec (.svFrame p f) s = .next (s.commit
          ((changedCells d.sau.store s.dev.sau.store).foldl (fun d p => brcSend 0 (cellWords p.1 p.2) d) d)))) ∧
  (∀ s : State, s.dev.up = true →
      (isShadow s.dev = true → exec .legDeclare s = .next (s.commit (mirrorTry s.dev))) ∧
      (isShadow s.dev = false → ∀ leg, nextDeclare s.dev = some leg →
        exec .legDeclare s = .next (s.commit (declareLeg leg (sendDecl leg s.dev))) ∧
        (declareLeg leg (sendDecl leg s.dev)).sau.declared = some leg) ∧
      (isShadow s.dev = false → nextDeclare s.dev = none → exec .legDeclare s = .next (s.commit s.dev)))

/-- R107, R108, R111, R112: an entry is read into the 24 staging words; a commit that nothing forbids puts the entry into the table in one cycle and clears the status, and
one that a rule forbids sets REFUSED and changes nothing else; an invalidation empties the caches of the entry, or of every entry, and is busy until
its end; a LEARNED entry whose count reached the limit is free again, and any other stays. R132, R133, R134: a gather of up to 16 indexes shows each element's value and quality,
the number of faults and the first, and BUSY, once the ECC errors found are marked; one index
answers 0x8000_0000 with quality INVALID and one
fault at position 0 where its entry is neither LIVE nor SUSPENDED; the gather's end clears BUSY. -/
def Obligations.SubscriptionsAndGathers : Prop :=
  (∀ (s : State) (i : Nat), s.dev.up = true → i < 4096 →
      exec (.sauEntryRead i) s = .next (s.commit (wnList Reg.sauEntStage 0 (takePad 0 24 (sauEnt s.dev i)) s.dev)) ∧
      (let w := (List.range 24).map (fun k => s.dev.rn (Reg.sauEntStage k))
       let d := journal 0 i w (s.dev.wn Reg.sauEntStatus 0)
       (sauCommitBad s.dev liveryWho i w = true →
         exec (.sauEntryCommit i) s = .next (s.commit (s.dev.wn Reg.sauEntStatus 2))) ∧
       (sauCommitBad s.dev liveryWho i w = false → exec (.sauEntryCommit i) s = .next (s.commit (sauEntPut i w d))) ∧
       (sauCommitBad s.dev liveryWho i w = false → entState w = 0 → exec (.sauEntryCommit i) s = .next (s.commit (freeEnt i d))) ∧
       (sauCommitBad s.dev liveryWho i w = false → 2 ≤ entState w → 2 ≤ entState (sauEnt d i) →
         exec (.sauEntryCommit i) s = .next (s.commit (setEnt i (entClean w) d)))) ∧
      exec (.sauInvalidate i true) s =
        .next (s.commit ({ s.dev with sau := { s.dev.sau with cache := [] } }.wn Reg.sauInvalStatus 1)) ∧
      exec (.sauInvalidate i false) s =
        .next (s.commit ({ s.dev with sau := { s.dev.sau with
          cache := (tmap (fun _ (l : List (Nat × List Nat)) => l.filter (fun (x : Nat × List Nat) => x.1 != i)) s.dev.sau.cache).filter (fun p => p.2 != []) }
          }.wn Reg.sauInvalStatus 1)) ∧
      exec .sauInvalDone s = .next (s.commit (s.dev.wn Reg.sauInvalStatus 0)) ∧
      (entState (sauEnt s.dev i) = esLearned → s.dev.fldR Reg.sauAgeRoutes 0 20 ≠ 0 →
        s.dev.fldR Reg.sauAgeRoutes 0 20 ≤ (strm s.dev i).age →
        exec (.svEntryAgeOut i) s = .next (s.commit (delStrm i (setEnt i sauZero s.dev)))) ∧
      ((entState (sauEnt s.dev i) ≠ esLearned ∨ s.dev.fldR Reg.sauAgeRoutes 0 20 = 0 ∨
        (strm s.dev i).age < s.dev.fldR Reg.sauAgeRoutes 0 20) → exec (.svEntryAgeOut i) s = .next (s.commit s.dev))) ∧
  (∀ s : State, s.dev.up = true →
      (∀ m, s.dev.sau.declared = some m → s.dev.sau.ecc = [] → entState (sauEnt s.dev (fld (s.dev.rn (Reg.sauGatherIdx 0)) 0 12)) < 2 →
        fld (s.dev.rn (Reg.sauGatherIdx 0)) 17 6 ≤ m →
        exec (.gather 1 [] []) s = .next (s.commit
          (((s.dev.wn (Reg.sauGatherVal 0) 0x80000000).setF (Reg.sauGatherQual 0) 0 8 1).wn Reg.sauGatherStatus 3))) ∧
      (∀ count corr ecc, 1 ≤ count → count ≤ 16 →
        let e := eccFound 2 (ecc.filter (fun x => x < count)) (eccFound 1 (corr.filter (fun x => x < count)) s.dev)
        let g := (List.range count).map (fun i => gatherElem e (e.rn (Reg.sauGatherIdx i)))
        let r := g.map (fun o => match o with | some g => gatherAt e none g | none => gatherBad)
        let faults := ((List.range count).zip r).filter (fun p => p.2.2.2)
        exec (.gather count corr ecc) s = .next (s.commit
          ((((List.range count).zip r).foldl (fun d p => (d.wn (Reg.sauGatherVal p.1) (wrapN 32 p.2.1)).setF
            (Reg.sauGatherQual (p.1 / 4)) (p.1 % 4 * 8) 8 p.2.2.1) (gatherEcc none (g.filterMap id) e)).wn Reg.sauGatherStatus
            (1 + faults.length * 2 + ((faults.head?).map (fun p => p.1)).getD 0 * 64)))) ∧
      exec .gatherDone s = .next (s.commit (s.dev.clrB Reg.sauGatherStatus 0)))

/-- R136, R137, R139, R140; 01 R20; 08 R243, R258: a lane runs all stages of a channel that it serves now for the channel's next leg, once that leg is declared and not past
the leg that the lane serves, and nothing before it; a channel that is 48 legs behind,
unless it trips for a P0 carriage, skips to the declared leg, restarts its history, counts and raises source 221. A lane that serves the channel no leg, or may not run it (retired or withdrawn, the
chain off, the carriage not running or shed), does nothing. R149, R158, R165, R253 of 08: a group in HOLD
for HOLD_ROUTES routes takes F_NOM, and any other keeps its estimate; a descriptor is read into its 8 staging words, as committed; a commit that a check refuses sets REFUSED with its
REASON; a commit that every check passes waits for the route boundary; a commit that changes the cost of a carriage passes admission, or is refused with REASON 0
(log 17, the model's choice). Bank 4's swap is asked for in Boot and in
Maintenance, and elsewhere only source 49 rises (00_scope R11). -/
def Obligations.FilterStagesAndTables : Prop :=
  (∀ (s : State) (lane ch l now : Nat), s.dev.up = true → lane < 64 → ch < 32768 → chanSeat s.dev lane ch = some l →
      laneCan s.dev lane (fchDesc s.dev 0 ch) = true → s.dev.sau.declared = some now →
      let w := fchDesc s.dev 0 ch
      let cut := chanSkip ch s.dev
      (∀ n, (fchan s.dev ch).next = some n → min now l < n → (now ≤ n + 48 ∨ (chTrip w = true ∧ carCls s.dev (chCar w) = 0)) →
        exec (.filterStageRun lane ch) s = .next (s.commit s.dev)) ∧
      (∀ n, (fchan s.dev ch).next = some n → n ≤ min now l → (now ≤ n + 48 ∨ (chTrip w = true ∧ carCls s.dev (chCar w) = 0)) →
        exec (.filterStageRun lane ch) s = .next (s.commit (chanLeg s.mem lane ch n w s.dev))) ∧
      (∀ n, (fchan s.dev ch).next = some n → n + 48 < now → (chTrip w = false ∨ carCls s.dev (chCar w) ≠ 0) →
        (now ≤ l → exec (.filterStageRun lane ch) s = .next (s.commit (chanLeg s.mem lane ch now w cut))) ∧
        (l < now → exec (.filterStageRun lane ch) s = .next (s.commit cut))) ∧
      ((fchan s.dev ch).next = none → now ≤ l →
        exec (.filterStageRun lane ch) s = .next (s.commit (chanLeg s.mem lane ch now w s.dev)))) ∧
  (∀ (s : State) (lane ch : Nat), s.dev.up = true → lane < 64 → ch < 32768 →
      (chanSeat s.dev lane ch = none ∨ laneCan s.dev lane (fchDesc s.dev 0 ch) = false ∨ s.dev.sau.declared = none) →
      exec (.filterStageRun lane ch) s = .next (s.commit s.dev)) ∧
  (∀ (s : State) (t i g : Nat), s.dev.up = true → t < 3 → i < 32768 →
      (∀ l b, g < 1024 → (fgrp s.dev g).hold = some (l, b) →
        (grpState s.dev g = tHold → l + tgHold (fchDesc s.dev 2 g) * 240 ≤ s.dev.tim.absLeg → exec (.trackHoldTimeout g) s =
          .next (s.commit ((s.dev.wn (Reg.fchTFreq g) (tgNom (fchDesc s.dev 2 g))).clrB (Reg.fchTStatus g) 2))) ∧
        ((grpState s.dev g ≠ tHold ∨ s.dev.tim.absLeg < l + tgHold (fchDesc s.dev 2 g) * 240) →
          exec (.trackHoldTimeout g) s = .next (s.commit s.dev))) ∧
      (g < 1024 → (fgrp s.dev g).hold = none → exec (.trackHoldTimeout g) s = .next (s.commit s.dev)) ∧
      exec (.fchDescRead t i) s =
        .next (s.commit (wnList Reg.fchDescStage 0 (takePad 0 8 (fchCommitted s.dev t i)) s.dev)) ∧
      (let w := (List.range 8).map (fun k => s.dev.rn (Reg.fchDescStage k))
       let d := Sys2Proof.Machine.fchDescCommit t i s.dev
       let r := admitChanges s.dev d
       (fchReason s.dev t i w = 0 → d = { journal 1 (fchKey t i) w (s.dev.wn Reg.fchDescStatus 0) with
           fch := { s.dev.fch with pend := tput s.dev.fch.pend (fchKey t i) (fchWords t w) } }) ∧
       (fchReason s.dev t i w ≠ 0 → d = s.dev.wn Reg.fchDescStatus (2 + fchReason s.dev t i w * 16)) ∧
       (changedCars s.dev d = [] → exec (.fchDescCommit t i) s = .next (s.commit d)) ∧
       (r.2 = 0 → exec (.fchDescCommit t i) s = .next (s.commit r.1)) ∧
       (r.2 ≠ 0 → exec (.fchDescCommit t i) s = .next (s.commit (s.dev.wn Reg.fchDescStatus 2)))) ∧
      ((s.dev.mode = modeBoot ∨ s.dev.mode = modeMaintenance) →
        exec .coefSwapRequest s = .next (s.commit (s.dev.setB Reg.fchCoefCtrl 0))) ∧
      (s.dev.mode ≠ modeBoot → s.dev.mode ≠ modeMaintenance →
        exec .coefSwapRequest s = .next (s.commit (raise 49 none 0 0 s.dev))))

/-! Element engines (06). -/

/-- R170, R171, R172, R180 to R195; 08 R243: a run of an instance for the leg in which its engine serves it, on an engine that may run it, reads its input records, computes the kernel of
its row from them, the descriptor and the instance, keeps the instance's next state, stores the results in the kernel's records and counts the run, after the ECC errors
that a fast path's gather meets (04 R134).
Each row runs its own kernel, and only an instance whose descriptor names it: an engine that serves the instance no leg, may not run it for that leg, or a descriptor of another kernel, and
the run does nothing. Derived (R170, 08 R258): an engine that is not active, an engine block
that is not enabled, a leg not declared or run already, no descriptor, a carriage that does not run or is shed: the engine may not run it. -/
def Obligations.KernelRuns : Prop :=
  (∀ (s : State) (e k n : Nat), s.dev.up = true → e < 34 → k < 65536 → kernSeat s.dev e k = some n → kCan s.dev e k n = true →
      let w := kDesc s.dev k
      let d := gatherEcc (some (kCar w)) (fastElems s.dev n w) s.dev
      let x := kInst d k
      let rs := runIns s.mem d w
      let done (o : KOut) (x' : KInst) : Outcome := .next (s.commit (kRan e k n w (kStore w n o (setInst k x' d))))
      (kCode w = 1 → exec (.kPhasorDft e k) s = .next (s.commit (kRan e k n w (phasorRun s.mem k n w kDft d)))) ∧
      (kCode w = 2 → exec (.kPhasorCos e k) s = .next (s.commit (kRan e k n w (phasorRun s.mem k n w kCos d)))) ∧
      (kCode w = 3 → exec (.kSeq e k) s = done (kSeq n rs w) x) ∧
      (kCode w = 4 → exec (.kImped e k) s = done (kImped n rs w) x) ∧
      (kCode w = 5 → exec (.kMho e k) s = done (kMho n rs w) x) ∧
      (kCode w = 6 → exec (.kQuad e k) s = done (kQuad n rs w) x) ∧
      (kCode w = 7 → exec (.kDiff e k) s = done (kDiff n rs w) x) ∧
      (kCode w = 8 → exec (.kFastOc e k) s = done (kFastOc d n w x).1 (kFastOc d n w x).2) ∧
      (kCode w = 9 → exec (.kFastDiff e k) s = done (kFastDiff d n w x).1 (kFastDiff d n w x).2) ∧
      (kCode w = 10 → exec (.kIdmt e k) s = done (kIdmt n (nth [] rs 0) w x).1 (kIdmt n (nth [] rs 0) w x).2) ∧
      (kCode w = 11 →
        let r := kFreq d n w x (recSeen s.mem d (kCar w) (kResult w) (isBg d w))
        exec (.kFreq e k) s = done r.1 r.2) ∧
      (kCode w = 12 → exec (.kPower e k) s = done (kPower n rs w) x) ∧
      (kCode w = 13 → exec (.kSync e k) s = done (kSync n (nth [] rs 0) (nth [] rs 1) w) x)) ∧
  (∀ (s : State) (e k code : Nat) (row : Nat → Nat → Instr), s.dev.up = true → e < 34 → k < 65536 →
      [(1, Instr.kPhasorDft), (2, .kPhasorCos), (3, .kSeq), (4, .kImped), (5, .kMho), (6, .kQuad), (7, .kDiff), (8, .kFastOc),
        (9, .kFastDiff), (10, .kIdmt), (11, .kFreq), (12, .kPower), (13, .kSync)].find? (fun r => r.1 == code) = some (code, row) →
      (kCode (kDesc s.dev k) ≠ code ∨ ∀ n, kernSeat s.dev e k = some n → kCan s.dev e k n = false) →
      exec (row e k) s = .next (s.commit s.dev)) ∧
  (∀ (d : Dev) (e k n : Nat),
      (eRole d e ≠ 0 → kCan d e k n = false) ∧
      (d.enabled Reg.eenCtrl = false → kCan d e k n = false) ∧
      (kDesc d k = [] → kCan d e k n = false) ∧
      (carRuns d (kCar (kDesc d k)) = false → kCan d e k n = false) ∧
      (isShed d (kCar (kDesc d k)) = true → kCan d e k n = false) ∧
      (ranFor (kInst d k) n = true → kCan d e k n = false) ∧
      (d.sau.declared = none → kCan d e k n = false) ∧
      (∀ m, d.sau.declared = some m → m < n → kCan d e k n = false))

/-- R169, R177, R179, R200; 07 R211; 08 R253, R262: an engine whose kernel overruns its seat is faulted and retired, as one whose memory fails is, its runs of the leg being lost; a
retired one stays as it is; the inspection's result is compared in leg 239 and recorded, on a trial unit kept for its entry, a mismatch raises its source and retires the unit, and without a unit in inspection or in another leg nothing happens; a descriptor is read into its staging words; a commit that a check refuses sets REFUSED with its REASON, and one that changes the
cost of a carriage passes admission, or is refused with REASON 0 (log 17, the model's choice). -/
def Obligations.EngineFaults : Prop :=
  ∀ (s : State) (e i : Nat), s.dev.up = true →
    (e < 34 → eRole s.dev e ≠ 3 → exec (.seatOverrun e) s =
      .next (s.commit (retireUnit 1 e 3 (raise 234 none e 0 (runsLost s.mem e (s.dev.bump (Reg.eenEFaults e))))))) ∧
    (e < 34 → eRole s.dev e ≠ 3 → exec (.engineFault false e) s =
      .next (s.commit (retireUnit 1 e 2 (runsLost s.mem e (s.dev.bump (Reg.eenEFaults e)))))) ∧
    (e < 34 → eRole s.dev e = 3 → exec (.seatOverrun e) s = .next (s.commit s.dev) ∧
      exec (.engineFault false e) s = .next (s.commit s.dev)) ∧
    (e < 17 → exec (.engineFault true e) s = .next (s.commit (retireUnit 2 e 2 s.dev))) ∧
    (∀ k u pass, k < 3 → inspUnit s.dev k = some u → s.dev.tim.absLeg % 240 = 239 → inspOn s.dev k = true →
      let w := u + b2n pass * 2 ^ 8 + s.dev.tim.absRoute % 2 ^ 20 * 2 ^ 12
      let d := if k = 1 then s.dev.wn Reg.eenInspectLast w else if k = 2 then s.dev.wn Reg.hleInspectLast w else s.dev
      let d := if pass then d else if k = 1 then raise 237 none u 0 d else if k = 2 then raise 254 none u 0 d else d
      (∀ x o, tfind d.ttb.trial k = some (x, o) → exec (.inspectionResult k pass) s =
        .next (s.commit { d with ttb := { d.ttb with trial := tput d.ttb.trial k (x, some pass) } })) ∧
      (tfind d.ttb.trial k = none → exec (.inspectionResult k pass) s =
        .next (s.commit (if pass then d else { d with ttb := { d.ttb with retire := d.ttb.retire ++ [(k, u)] } })))) ∧
    (∀ k pass, k < 3 → (inspUnit s.dev k = none ∨ s.dev.tim.absLeg % 240 ≠ 239 ∨ inspOn s.dev k = false) →
      exec (.inspectionResult k pass) s = .next (s.commit s.dev)) ∧
    (i < 65536 → exec (.eenDescRead i) s =
      .next (s.commit (wnList Reg.eenDescStage 0 (takePad 0 16 (kCommitted s.dev i)) s.dev))) ∧
    (let w := (List.range 16).map (fun k => s.dev.rn (Reg.eenDescStage k))
     let d := Sys2Proof.Machine.eenDescCommit i s.dev
     let r := admitChanges s.dev d
     (kReason s.dev i w ≠ 0 → d = s.dev.wn Reg.eenDescStatus (2 + kReason s.dev i w * 16)) ∧
     (kReason s.dev i w = 0 → d = eenPlace i w (journal 2 i w (s.dev.wn Reg.eenDescStatus 0))) ∧
     (i < 65536 → changedCars s.dev d = [] → exec (.eenDescCommit i) s = .next (s.commit d)) ∧
     (i < 65536 → r.2 = 0 → exec (.eenDescCommit i) s = .next (s.commit r.1)) ∧
     (i < 65536 → r.2 ≠ 0 → exec (.eenDescCommit i) s = .next (s.commit (s.dev.wn Reg.eenDescStatus 2))))

/-! The Harness instructions (07 R225 to R232). Each row runs on the copy `x` of the scan in progress on engine `e`. -/

/-- R225: LD, AND, OR and XOR combine ACC with a bit, inverted with NEG; NOT, SETA and NOP. Only ACC, the place in the program and the engine's cycle count change. R225: APUSH,
OPUSH and XPUSH push ACC with the operation; POP takes the group on top, and ACC is that operation of the pushed value and ACC, inverted with NEG.
R225, R232: ST stores ACC, SET and RST act when ACC is set, RISE and FALL keep ACC as the edge memory and set ACC to the edge. Of the operand space
only the bit's own word changes: `hPutBit` is the write of one bit. Derived (R212, R240): with a bit outside the writable areas, or no group on the stack, which
no loaded program has, nothing is written or taken. -/
def Obligations.HarnessBits : Prop :=
  (∀ (s : State) (e : Nat) (x : HCtx), s.dev.up = true → tfind s.dev.hle.ctx e = some x →
      exec (.hNop e) s = .next (s.commit (setCtx e { x with pc := x.pc + 1 } (useCyc e 1 s.dev))) ∧
      exec (.hNot e) s = .next (s.commit (setCtx e { x with pc := x.pc + 1, acc := !x.acc } (useCyc e 1 s.dev))) ∧
      (∀ v, exec (.hSeta e v) s = .next (s.commit (setCtx e { x with pc := x.pc + 1, acc := v } (useCyc e 1 s.dev)))) ∧
      ∀ b neg, b < 2 ^ 20 →
        exec (.hLd e b neg) s = .next (s.commit (setCtx e { x with pc := x.pc + 1, acc := xor (hBit x b) neg } (useCyc e 1 s.dev))) ∧
        exec (.hAnd e b neg) s =
          .next (s.commit (setCtx e { x with pc := x.pc + 1, acc := x.acc && xor (hBit x b) neg } (useCyc e 1 s.dev))) ∧
        exec (.hOr e b neg) s =
          .next (s.commit (setCtx e { x with pc := x.pc + 1, acc := x.acc || xor (hBit x b) neg } (useCyc e 1 s.dev))) ∧
        exec (.hXor e b neg) s =
          .next (s.commit (setCtx e { x with pc := x.pc + 1, acc := xor x.acc (xor (hBit x b) neg) } (useCyc e 1 s.dev)))) ∧
  (∀ (s : State) (e : Nat) (x : HCtx), s.dev.up = true → tfind s.dev.hle.ctx e = some x →
      exec (.hApush e) s = .next (s.commit (setCtx e { x with pc := x.pc + 1, stack := (x.acc, 1) :: x.stack } (useCyc e 1 s.dev))) ∧
      exec (.hOpush e) s = .next (s.commit (setCtx e { x with pc := x.pc + 1, stack := (x.acc, 2) :: x.stack } (useCyc e 1 s.dev))) ∧
      exec (.hXpush e) s = .next (s.commit (setCtx e { x with pc := x.pc + 1, stack := (x.acc, 3) :: x.stack } (useCyc e 1 s.dev))) ∧
      ∀ a st neg,
        (x.stack = (a, 1) :: st → exec (.hPop e neg) s =
          .next (s.commit (setCtx e { x with pc := x.pc + 1, stack := st, acc := a && xor x.acc neg } (useCyc e 1 s.dev)))) ∧
        (x.stack = (a, 2) :: st → exec (.hPop e neg) s =
          .next (s.commit (setCtx e { x with pc := x.pc + 1, stack := st, acc := a || xor x.acc neg } (useCyc e 1 s.dev)))) ∧
        (x.stack = (a, 3) :: st → exec (.hPop e neg) s =
          .next (s.commit (setCtx e { x with pc := x.pc + 1, stack := st, acc := xor a (xor x.acc neg) } (useCyc e 1 s.dev)))) ∧
        (x.stack = [] → exec (.hPop e neg) s = .next (s.commit (setCtx e { x with pc := x.pc + 1 } (useCyc e 1 s.dev))))) ∧
  (∀ (s : State) (e : Nat) (x : HCtx) (b : Nat), s.dev.up = true → tfind s.dev.hle.ctx e = some x →
      hWritable (b / 32) = true →
      (∀ neg, exec (.hSt e b neg) s =
        .next (s.commit (setCtx e { hPutBit b (xor x.acc neg) x with pc := x.pc + 1 } (useCyc e 1 s.dev)))) ∧
      exec (.hSet e b) s =
        .next (s.commit (setCtx e { (if x.acc then hPutBit b true x else x) with pc := x.pc + 1 } (useCyc e 1 s.dev))) ∧
      exec (.hRst e b) s =
        .next (s.commit (setCtx e { (if x.acc then hPutBit b false x else x) with pc := x.pc + 1 } (useCyc e 1 s.dev))) ∧
      exec (.hRise e b) s =
        .next (s.commit (setCtx e { hPutBit b x.acc x with pc := x.pc + 1, acc := x.acc && !hBit x b } (useCyc e 1 s.dev))) ∧
      exec (.hFall e b) s =
        .next (s.commit (setCtx e { hPutBit b x.acc x with pc := x.pc + 1, acc := !x.acc && hBit x b } (useCyc e 1 s.dev)))) ∧
  (∀ (s : State) (e : Nat) (x : HCtx) (b : Nat), s.dev.up = true → tfind s.dev.hle.ctx e = some x →
      hWritable (b / 32) = false →
      (∀ neg, exec (.hSt e b neg) s = .next (s.commit (setCtx e { x with pc := x.pc + 1 } (useCyc e 1 s.dev)))) ∧
      exec (.hSet e b) s = .next (s.commit (setCtx e { x with pc := x.pc + 1 } (useCyc e 1 s.dev))) ∧
      exec (.hRst e b) s = .next (s.commit (setCtx e { x with pc := x.pc + 1 } (useCyc e 1 s.dev))) ∧
      exec (.hRise e b) s = .next (s.commit (setCtx e { x with pc := x.pc + 1, acc := x.acc && !hBit x b } (useCyc e 1 s.dev))) ∧
      exec (.hFall e b) s = .next (s.commit (setCtx e { x with pc := x.pc + 1, acc := !x.acc && hBit x b } (useCyc e 1 s.dev))))

/-- R225: the write of one bit. In a writable area the bit then reads as written, and every other bit of every word reads as
before, but for the counter Q words (0x1600 on), which the spec computes from PV; ACC, the stack, W, the timers and the counters
do not change. -/
def Obligations.HarnessBitWrite : Prop :=
  ∀ (x : HCtx) (b : Nat) (v : Bool), hWritable (b / 32) = true → tget 0 x.wr (b / 32) < 2 ^ 32 →
    hBit (hPutBit b v x) b = v ∧
    (∀ k, k ≠ b → k / 32 < 0x1600 → hBit (hPutBit b v x) k = hBit x k) ∧
    (hPutBit b v x).acc = x.acc ∧ (hPutBit b v x).stack = x.stack ∧ (hPutBit b v x).w = x.w ∧
    (hPutBit b v x).tims = x.tims ∧ (hPutBit b v x).cnts = x.cnts ∧ (hPutBit b v x).pc = x.pc

/-- R225: LDW, LDI (sign-extended), LDHI (bits 31 to 20 of W) and STW (with COND only if ACC). R225: ANDW, ORW and XORW on words as bit vectors, SHF
(logical left, arithmetic right) and TSTB. Derived (R212, R240): a STW outside the writable areas, which no loaded program has, writes nothing. -/
def Obligations.HarnessWords : Prop :=
  (∀ (s : State) (e : Nat) (x : HCtx), s.dev.up = true → tfind s.dev.hle.ctx e = some x → x.w < 2 ^ 32 →
      (∀ a, a < 2 ^ 14 → exec (.hLdw e a) s = .next (s.commit (setCtx e { x with pc := x.pc + 1, w := hWord x a } (useCyc e 1 s.dev)))) ∧
      (∀ imm : Int, -2 ^ 19 ≤ imm → imm < 2 ^ 19 → exec (.hLdi e imm) s =
        .next (s.commit (setCtx e { x with pc := x.pc + 1, w := (if imm < 0 then imm + 2 ^ 32 else imm).toNat } (useCyc e 1 s.dev)))) ∧
      (∀ v, v < 4096 → exec (.hLdhi e v) s =
        .next (s.commit (setCtx e { x with pc := x.pc + 1, w := v * 2 ^ 20 + x.w % 2 ^ 20 } (useCyc e 1 s.dev)))) ∧
      (∀ a cond, hWritable a = true → exec (.hStw e a cond) s =
        .next (s.commit (setCtx e (if cond && !x.acc then { x with pc := x.pc + 1 }
          else { x with pc := x.pc + 1, wr := tset 0 x.wr a x.w }) (useCyc e 1 s.dev)))) ∧
      (∀ a cond, hWritable a = false → exec (.hStw e a cond) s =
        .next (s.commit (setCtx e { x with pc := x.pc + 1 } (useCyc e 1 s.dev))))) ∧
  (∀ (s : State) (e : Nat) (x : HCtx), s.dev.up = true → tfind s.dev.hle.ctx e = some x → x.w < 2 ^ 32 →
      (∀ a, a < 2 ^ 14 → hWord x a < 2 ^ 32 →
        exec (.hAndw e a) s = .next (s.commit (setCtx e
          { x with pc := x.pc + 1, w := (w32 x.w &&& w32 (hWord x a)).toNat } (useCyc e 1 s.dev))) ∧
        exec (.hOrw e a) s = .next (s.commit (setCtx e
          { x with pc := x.pc + 1, w := (w32 x.w ||| w32 (hWord x a)).toNat } (useCyc e 1 s.dev))) ∧
        exec (.hXorw e a) s = .next (s.commit (setCtx e
          { x with pc := x.pc + 1, w := (w32 x.w ^^^ w32 (hWord x a)).toNat } (useCyc e 1 s.dev)))) ∧
      ∀ n, n < 32 →
        exec (.hShf e n false) s = .next (s.commit (setCtx e { x with pc := x.pc + 1, w := (w32 x.w <<< n).toNat } (useCyc e 1 s.dev))) ∧
        exec (.hShf e n true) s =
          .next (s.commit (setCtx e { x with pc := x.pc + 1, w := ((w32 x.w).sshiftRight n).toNat } (useCyc e 1 s.dev))) ∧
        ∀ neg, exec (.hTstb e n neg) s =
          .next (s.commit (setCtx e { x with pc := x.pc + 1, acc := xor (x.w.testBit n) neg } (useCyc e 1 s.dev))))

/-- R225, R226: ADD, SUB and ADDI on signed 32-bit values, saturating without WRAP and modulo 2^32 with it; INC and DEC act when ACC is set and always
saturate. R226: CMP and CMPI compare signed 32-bit values by REL, the result inverted with NEG; with FLOAT, CMP compares in the order of binary32, takes +0.0 as equal to -0.0, and a NaN
on either side gives 0 before NEG. Derived (R212, R240): an INC or DEC outside the writable areas, which no loaded program has, writes nothing. -/
def Obligations.HarnessNumbers : Prop :=
  (∀ (s : State) (e : Nat) (x : HCtx), s.dev.up = true → tfind s.dev.hle.ctx e = some x →
      (∀ a wrap, a < 2 ^ 14 →
        exec (.hAdd e a wrap) s = .next (s.commit (setCtx e
          { x with pc := x.pc + 1, w := sum32 wrap (sx 32 x.w + sx 32 (hWord x a)) } (useCyc e 1 s.dev))) ∧
        exec (.hSub e a wrap) s = .next (s.commit (setCtx e
          { x with pc := x.pc + 1, w := sum32 wrap (sx 32 x.w - sx 32 (hWord x a)) } (useCyc e 1 s.dev)))) ∧
      (∀ (imm : Int) wrap, -2 ^ 19 ≤ imm → imm < 2 ^ 19 → exec (.hAddi e imm wrap) s = .next (s.commit (setCtx e
          { x with pc := x.pc + 1, w := sum32 wrap (sx 32 x.w + imm) } (useCyc e 1 s.dev)))) ∧
      (∀ a, hWritable a = true →
        exec (.hInc e a) s = .next (s.commit (setCtx e (if x.acc then
            { x with pc := x.pc + 1, wr := tset 0 x.wr a (sum32 false (sx 32 (hWord x a) + 1)) }
          else { x with pc := x.pc + 1 }) (useCyc e 1 s.dev))) ∧
        exec (.hDec e a) s = .next (s.commit (setCtx e (if x.acc then
            { x with pc := x.pc + 1, wr := tset 0 x.wr a (sum32 false (sx 32 (hWord x a) - 1)) }
          else { x with pc := x.pc + 1 }) (useCyc e 1 s.dev)))) ∧
      (∀ a, hWritable a = false → exec (.hInc e a) s = .next (s.commit (setCtx e { x with pc := x.pc + 1 } (useCyc e 1 s.dev))) ∧
        exec (.hDec e a) s = .next (s.commit (setCtx e { x with pc := x.pc + 1 } (useCyc e 1 s.dev))))) ∧
  (∀ (s : State) (e : Nat) (x : HCtx) (rel : Nat) (neg : Bool), s.dev.up = true → tfind s.dev.hle.ctx e = some x → rel < 6 →
      (∀ a, a < 2 ^ 14 → exec (.hCmp e a rel false neg) s = .next (s.commit (setCtx e
        { x with pc := x.pc + 1, acc := xor (relation rel (sx 32 x.w) (sx 32 (hWord x a))) neg } (useCyc e 1 s.dev)))) ∧
      (∀ imm : Int, -2 ^ 19 ≤ imm → imm < 2 ^ 19 → exec (.hCmpi e imm rel neg) s = .next (s.commit (setCtx e
        { x with pc := x.pc + 1, acc := xor (relation rel (sx 32 x.w) imm) neg } (useCyc e 1 s.dev)))) ∧
      (∀ a, a < 2 ^ 14 → f32Nan x.w = false → f32Nan (hWord x a) = false → exec (.hCmp e a rel true neg) s =
        .next (s.commit (setCtx e { x with pc := x.pc + 1, acc := xor (relation rel (f32Key x.w) (f32Key (hWord x a))) neg }
          (useCyc e 1 s.dev)))) ∧
      (∀ a, a < 2 ^ 14 → x.w = 0x80000000 → hWord x a = 0 → exec (.hCmp e a rel true neg) s = .next (s.commit (setCtx e
        { x with pc := x.pc + 1, acc := xor (relation rel 0 0) neg } (useCyc e 1 s.dev)))) ∧
      (∀ a, a < 2 ^ 14 → (f32Nan x.w = true ∨ f32Nan (hWord x a) = true) → exec (.hCmp e a rel true neg) s =
        .next (s.commit (setCtx e { x with pc := x.pc + 1, acc := neg } (useCyc e 1 s.dev)))))

/-- R229, R230, R231: TMR takes the elapsed legs since its last execution, 16 ticks each, saturated (none before the first, 16 in
a Hold step), and its ACC is Q; CTU and CTD count rising edges of ACC, saturating; CRST and CLD act if ACC. -/
def Obligations.HarnessTimersCounters : Prop :=
  ∀ (s : State) (e n : Nat) (x : HCtx), s.dev.up = true → tfind s.dev.hle.ctx e = some x → n < 256 →
    (∀ kind, kind < 3 →
      let t := hTim x n
      let delta := if x.hold then 16 else match t.last with | some l => min 0xFFFFFFFF (16 * (x.leg - l)) | none => 0
      let r := timerSpec kind x.acc (hPt x n) delta t.et t.q t.p
      exec (.hTmr e n kind) s = .next (s.commit (setCtx e
        { x with pc := x.pc + 1, acc := r.2, tims := tput x.tims n ⟨r.1, r.2, x.acc, some x.leg⟩ } (useCyc e 1 s.dev)))) ∧
    (let c := hCnt x n;
     let up := if x.acc && !c.pu && decide (c.cv < 2 ^ 31 - 1) then c.cv + 1 else c.cv;
     let down := if x.acc && !c.pd && decide (-2 ^ 31 < c.cv) then c.cv - 1 else c.cv;
     -2 ^ 31 ≤ c.cv → c.cv < 2 ^ 31 →
      exec (.hCtu e n) s = .next (s.commit (setCtx e
        { x with pc := x.pc + 1, acc := decide (hPv x n ≤ up), cnts := tput x.cnts n ⟨up, x.acc, c.pd⟩ } (useCyc e 1 s.dev))) ∧
      exec (.hCtd e n) s = .next (s.commit (setCtx e
        { x with pc := x.pc + 1, acc := decide (down ≤ 0), cnts := tput x.cnts n ⟨down, c.pu, x.acc⟩ } (useCyc e 1 s.dev))) ∧
      exec (.hCrst e n) s = .next (s.commit (setCtx e
        { x with pc := x.pc + 1, cnts := if x.acc then tput x.cnts n ⟨0, c.pu, c.pd⟩ else x.cnts } (useCyc e 1 s.dev))) ∧
      exec (.hCld e n) s = .next (s.commit (setCtx e
        { x with pc := x.pc + 1, cnts := if x.acc then tput x.cnts n ⟨hPv x n, c.pu, c.pd⟩ else x.cnts } (useCyc e 1 s.dev))))

/-- R224, R225: within a scan, a program's word has the effect that its row has on the scan in progress, for every value of every
operand. -/
def Obligations.HarnessWordsActAsRows : Prop :=
  ∀ (s : State) (e : Nat) (x : HCtx), s.dev.up = true → tfind s.dev.hle.ctx e = some x →
    let runs (w : Nat) (c : Instr) : Prop := exec c s = .next (s.commit (setCtx e (hInstr w x) (useCyc e 1 s.dev)))
    let word := hWordOf
    runs (word 0x00 false 0 0) (.hNop e) ∧ runs (word 0x05 false 0 0) (.hApush e) ∧
    runs (word 0x06 false 0 0) (.hOpush e) ∧ runs (word 0x07 false 0 0) (.hXpush e) ∧ runs (word 0x09 false 0 0) (.hNot e) ∧
    runs (word 0x0A false 0 0) (.hSeta e false) ∧ runs (word 0x0A false 1 0) (.hSeta e true) ∧
    (∀ neg b, b < 2 ^ 20 → runs (word 0x01 neg 0 b) (.hLd e b neg) ∧ runs (word 0x02 neg 0 b) (.hAnd e b neg) ∧
      runs (word 0x03 neg 0 b) (.hOr e b neg) ∧ runs (word 0x04 neg 0 b) (.hXor e b neg) ∧
      runs (word 0x08 neg 0 0) (.hPop e neg) ∧ runs (word 0x0B neg 0 b) (.hSt e b neg) ∧
      runs (word 0x0C false 0 b) (.hSet e b) ∧ runs (word 0x0D false 0 b) (.hRst e b) ∧
      runs (word 0x0E false 0 b) (.hRise e b) ∧ runs (word 0x0F false 0 b) (.hFall e b)) ∧
    (∀ n kind, n < 256 → kind < 3 → runs (word 0x10 false kind n) (.hTmr e n kind) ∧ runs (word 0x11 false 0 n) (.hCtu e n) ∧
      runs (word 0x12 false 0 n) (.hCtd e n) ∧ runs (word 0x13 false 0 n) (.hCrst e n) ∧
      runs (word 0x14 false 0 n) (.hCld e n)) ∧
    (∀ a, a < 2 ^ 14 → runs (word 0x18 false 0 a) (.hLdw e a) ∧ runs (word 0x23 false 0 a) (.hAndw e a) ∧
      runs (word 0x24 false 0 a) (.hOrw e a) ∧ runs (word 0x25 false 0 a) (.hXorw e a) ∧
      runs (word 0x21 false 0 a) (.hInc e a) ∧ runs (word 0x22 false 0 a) (.hDec e a) ∧
      ∀ f : Bool, runs (word 0x1B false (if f then 1 else 0) a) (.hStw e a f) ∧
        runs (word 0x1C false (if f then 1 else 0) a) (.hAdd e a f) ∧
        runs (word 0x1D false (if f then 1 else 0) a) (.hSub e a f) ∧
        ∀ rel neg, rel < 6 → runs (word 0x1F neg (rel + if f then 8 else 0) a) (.hCmp e a rel f neg)) ∧
    (∀ v : BitVec 20, runs (word 0x19 false 0 v.toNat) (.hLdi e v.toInt) ∧
      (∀ f : Bool, runs (word 0x1E false (if f then 1 else 0) v.toNat) (.hAddi e v.toInt f)) ∧
      ∀ rel neg, rel < 6 → runs (word 0x20 neg rel v.toNat) (.hCmpi e v.toInt rel neg)) ∧
    (∀ v, v < 4096 → runs (word 0x1A false 0 v) (.hLdhi e v)) ∧
    (∀ n neg, n < 32 → runs (word 0x26 false n 0) (.hShf e n false) ∧ runs (word 0x26 false n 1) (.hShf e n true) ∧
      runs (word 0x27 neg n 0) (.hTstb e n neg)) ∧
    (∀ k cond, k < 2 ^ 16 → cond < 3 → runs (word 0x30 false cond k) (.hJmp e k cond))

/-- R225, R208: JMP goes forward by K always, if ACC or if not ACC; END commits the scan of the copy and frees the engine. R208, R210, R238: an engine that serves a scan of a
carriage in Run starts it with the oldest frozen inputs, charges the instructions executed and 24 cycles, and ends in a commit when it reaches END
or else stays on the engine; on the shadow a P2 scan runs only where the active's list names it (11 R333). R211: the scan of a P0 carriage whose engine retired earlier in the leg is lost. An engine that serves no scan of the carriage, or cannot start one, does nothing, and no instruction acts on an engine without a scan. In Hold a step command (Boot or Maintenance, 00_scope R11)
runs one whole scan on the inputs of the hold, and nothing without a program, out of Hold, with the engines not enabled or the carriage shed. -/
def Obligations.HarnessProgramsAndScans : Prop :=
  (∀ (s : State) (e : Nat) (x : HCtx), s.dev.up = true → tfind s.dev.hle.ctx e = some x →
      (∀ k, exec (.hJmp e k 0) s = .next (s.commit (setCtx e { x with pc := x.pc + k } (useCyc e 1 s.dev))) ∧
        exec (.hJmp e k 1) s = .next (s.commit (setCtx e { x with pc := x.pc + if x.acc then k else 1 } (useCyc e 1 s.dev))) ∧
        exec (.hJmp e k 2) s = .next (s.commit (setCtx e { x with pc := x.pc + if x.acc then 1 else k } (useCyc e 1 s.dev)))) ∧
      exec (.hEnd e) s = .next (s.commit (dropCtx e (scanCommit x (useCyc e 1 s.dev)))) ∧
      (x.hold = false → ∃ t, exec (.hEnd e) s = .next t ∧
        tfind t.dev.hle.ctx e = none ∧ (hcar t.dev x.car).wr = x.wr ∧ (hcar t.dev x.car).tims = x.tims ∧
        (hcar t.dev x.car).cnts = x.cnts ∧ (hcar t.dev x.car).last = some x.leg ∧
        t.dev.pub.commits = s.dev.pub.commits ++ [x.car] ∧ t.dev.rd (Reg.hleCLastTc x.car) = w32 s.dev.tc ∧
        (∀ c, c ≠ x.car → hcar t.dev c = hcar s.dev c) ∧ t.dev.sau = s.dev.sau ∧ t.dev.fch = s.dev.fch ∧ t.dev.cars = s.dev.cars)) ∧
  (∀ (s : State) (e c n : Nat), s.dev.up = true → e < 17 → c < 512 →
      let x := hcar s.dev c
      (∀ p leg inp fs, scanSeatNow s.dev e c = true → scanGone s.dev e c = false → x.prog = some p → x.frz = (leg, inp) :: fs →
        scanCan s.dev e c = true → (isShadow s.dev = false ∨ carCls s.dev c ≠ 2 ∨ (leg, 2, c) ∈ s.dev.brc.p2) →
        let r := scanRun p.code n (scanStart c leg false inp p x)
        let d := useCyc e (24 + r.2.2) ((setHcar c { x with frz := fs } s.dev).wn (Reg.hleCEngine c) e)
        (r.2.1 = true → exec (.harnessScan e c n) s = .next (s.commit (scanCommit r.1 d))) ∧
        (r.2.1 = false → exec (.harnessScan e c n) s = .next (s.commit (setCtx e r.1 d)))) ∧
      (scanSeatNow s.dev e c = true → scanGone s.dev e c = true → exec (.harnessScan e c n) s = .next (s.commit
        (raise 250 (some c) c 0 ((scanSkipped c (setHcar c { x with frz := x.frz.tail } s.dev)).bump Reg.hleScanLost)))) ∧
      ((scanSeatNow s.dev e c = false ∨ (scanGone s.dev e c = false ∧ scanCan s.dev e c = false)) →
        exec (.harnessScan e c n) s = .next (s.commit s.dev)) ∧
      (∀ leg inp fs, x.frz = (leg, inp) :: fs → scanGone s.dev e c = false → isShadow s.dev = true → carCls s.dev c = 2 → (leg, 2, c) ∉ s.dev.brc.p2 →
        exec (.harnessScan e c n) s = .next (s.commit s.dev))) ∧
  (∀ (s : State) (e : Nat) (c : Instr), s.dev.up = true → tfind s.dev.hle.ctx e = none → harnessEngine c = some e →
      exec c s = .next (s.commit s.dev)) ∧
  (∀ (s : State) (c : Nat), s.dev.up = true → c < 512 →
      let x := hcar s.dev c
      (s.dev.mode = modeBoot ∨ s.dev.mode = modeMaintenance →
        (∀ p, x.prog = some p → holdCan s.dev c = true →
          let r := scanRun p.code (p.code.length + 1) (scanStart c x.holdInp.1 true x.holdInp.2 p x)
          (r.2.1 = true → exec (.holdStep c) s = .next (s.commit (scanCommit r.1 s.dev))) ∧
          (r.2.1 = false → exec (.holdStep c) s = .next (s.commit s.dev))) ∧
        ((x.prog = none ∨ holdCan s.dev c = false) → exec (.holdStep c) s = .next (s.commit s.dev))) ∧
      (s.dev.mode ≠ modeBoot → s.dev.mode ≠ modeMaintenance →
        exec (.holdStep c) s = .next (s.commit (raise 49 none 0 0 s.dev))))

/-- R215, R219, R220, R222, R223: with the decoder's queue full a GOOSE frame is counted and source 252 rises; a frame whose key no entry has, or whose gocbRef has over 64 octets, is counted;
a frame of a SUSPENDED entry is counted as dropped; a LIVE entry's frame that passes every check of R219 is accepted, and one that fails a check is counted with its cause, the third one with its flags too; ALIVE that runs
out clears, the entry's values go to 0 where its LOSS_ACT says so, and source 253 rises. R218, R239, R240, R241; 11 R334; 08 R253: a subscription entry is read, as
committed, into its 26 staging words; a commit that every check passes waits for the route boundary, clears the status and enters the journal, one that a check refuses
sets REFUSED with its REASON, 0 where only the key slot refuses (log 32, the model's choice); a map word outside the maps of LIVE entries is written, and one inside is not; a load takes the program at
HLE_LOAD_ADDR for a carriage that is not enabled, or with SWAP, and one that a check refuses says so in HLE_LOAD_STATUS with REASON and INDEX; one that the carriage's state does not permit, or that admission refuses, has REASON 0 (log 17, the model's choice). -/
def Obligations.GooseAndLoads : Prop :=
  (∀ (s : State) (p cls i : Nat) (f : GooseFrame), s.dev.up = true → p < 11 → cls < 8 →
      exec (.gooseFrameRx p cls true f) s = .next (s.commit (raise 252 none p 0 (s.dev.bump Reg.hleGQfull))) ∧
      (let hit := s.dev.hle.ents.find? (fun q => gsState q.2 != 0 && gsKey q.2 == gooseKey f)
       ((hit = none ∨ 64 < f.gocbRef.length) →
         exec (.gooseFrameRx p cls false f) s = .next (s.commit (s.dev.bump Reg.hleGNomatch))) ∧
       (∀ e, f.gocbRef.length ≤ 64 → hit = some (i, e) → gsState e = 2 →
         exec (.gooseFrameRx p cls false f) s = .next (s.commit (s.dev.bump (Reg.hleGsDrop i)))) ∧
       (∀ e, f.gocbRef.length ≤ 64 → hit = some (i, e) → gsState e ≠ 2 →
         let a := if bitOf (gsGroups e) (portGroup p) then gsAuthOk e f s.dev else (s.dev, true)
         let cause := gsCause a.1 i p e f a.2
         let drop := (a.1.bump (Reg.hleGsDrop i)).setF (Reg.hleGsSt i) 8 4 cause
         let rev := if f.confRev ≠ entW e 3 then drop.setB (Reg.hleGsSt i) 2 else drop
         (cause = 0 → exec (.gooseFrameRx p cls false f) s = .next (s.commit (gsAccept i p cls e f a.1))) ∧
         (cause ≠ 0 → cause ≠ 3 → exec (.gooseFrameRx p cls false f) s = .next (s.commit drop)) ∧
         (cause = 3 → exec (.gooseFrameRx p cls false f) s =
           .next (s.commit (gsFlagsOut i (if f.ndsCom then rev.setB (Reg.hleGsSt i) 3 else rev)))))) ∧
      (∀ t, i < 2048 → tfind s.dev.hle.alive i = some t →
        let d := { s.dev.clrB (Reg.hleGsSt i) 0 with hle := { s.dev.hle with alive := tdel s.dev.hle.alive i } }
        (t ≤ s.dev.tim.absTick → exec (.gooseAliveExpiry i) s = .next (s.commit (raise 253 none i 0 (gsFlagsOut i
          (if bitOf (entW (gsEnt s.dev i) 0) 14 then gsClear i d else d))))) ∧
        (s.dev.tim.absTick < t → exec (.gooseAliveExpiry i) s = .next (s.commit s.dev))) ∧
      (i < 2048 → tfind s.dev.hle.alive i = none → exec (.gooseAliveExpiry i) s = .next (s.commit s.dev))) ∧
  (∀ (s : State) (i c : Nat), s.dev.up = true → i < 2048 → c < 512 →
      exec (.gsubEntryRead i) s =
        .next (s.commit (wnList Reg.hleGsStage 0 (takePad 0 26 (gsCommitted s.dev i)) s.dev)) ∧
      (let w := (List.range 26).map (fun k => s.dev.rn (Reg.hleGsStage k))
       let named := namesSlot s.dev (gsAuth w) (gsSlot w) fnVerifyIn .livery liveryWho
       let d := { s.dev.wn Reg.hleGsCstat 0 with hle := { s.dev.hle with pend := tput s.dev.hle.pend i (takePad 0 32 w) } }
       ((gsState w = 0 ∨ named = true) → gsReason s.dev i w = 0 → exec (.gsubEntryCommit i) s = .next (s.commit (journal 3 i w d))) ∧
       (gsReason s.dev i w ≠ 0 → exec (.gsubEntryCommit i) s =
         .next (s.commit (s.dev.wn Reg.hleGsCstat (2 + gsReason s.dev i w * 16)))) ∧
       (gsReason s.dev i w = 0 → gsState w ≠ 0 → named = false → exec (.gsubEntryCommit i) s =
         .next (s.commit (s.dev.wn Reg.hleGsCstat 2)))) ∧
      (∀ v : Word, let k := s.dev.fldR Reg.hleGmapIdx 0 16
        let d := journal 7 k [v.toNat] s.dev
        (gmapLive s.dev k = false →
          exec (.gmapWrite v) s = .next (s.commit { d with hle := { d.hle with gmap := tset 0 d.hle.gmap k v.toNat } })) ∧
        (gmapLive s.dev k = true → exec (.gmapWrite v) s = .next (s.commit (s.dev.emit (.infoEvent 218))))) ∧
      (let img := readImage s.mem (s.dev.rn Reg.hleLoadAddrLo + s.dev.fldR Reg.hleLoadAddrHi 0 8 * 2 ^ 32)
       let r := loadReason s.dev c img.1 img.2.1 img.2.2
       ∀ swap : Bool,
         let d := if r.1 = 0 then placeProg c swap ⟨img.1, img.2.1, img.2.2⟩ (s.dev.wn Reg.hleLoadStatus 0)
           else s.dev.wn Reg.hleLoadStatus (2 + r.1 * 16 + r.2 * 4096)
         let a := admitChanges s.dev d
         ((carSt s.dev c = 0 ∨ (carEnabled s.dev c = true ∧ swap = false)) →
           exec (.hleLoad c swap) s = .next (s.commit (s.dev.wn Reg.hleLoadStatus 2))) ∧
         (carSt s.dev c ≠ 0 → (carEnabled s.dev c = false ∨ swap = true) →
           (changedCars s.dev d = [] → exec (.hleLoad c swap) s = .next (s.commit d)) ∧
           (a.2 = 0 → exec (.hleLoad c swap) s = .next (s.commit a.1)) ∧
           (a.2 ≠ 0 → exec (.hleLoad c swap) s = .next (s.commit (s.dev.wn Reg.hleLoadStatus 2))))))

/-! The Timetable (08). -/

/-- R247, R251, R257; 09 R284: a seat entry or a trip-seat entry is written in the inactive bank, its reserved bits staying 0, and refused with an Info event in the active one; a
swap of banks is asked for; an arbitrating seat of the active bank that begins in this tick is given to its column's unit for its
length, for the leg that it serves, and one that does not begin, or has no unit, does nothing; a re-admission plans the carriages again on the columns that units serve, once one is due in a module that is degraded. -/
def Obligations.TimetableTables : Prop :=
  ∀ (s : State) (b i j k : Nat) (v : Word), s.dev.up = true → b < 2 →
    (i < 8192 → j < 4 → b = ttbBank s.dev → exec (.seatEntryWrite b i j v) s = .next (s.commit (s.dev.emit (.infoEvent 247)))) ∧
    (i < 8192 → b ≠ ttbBank s.dev →
      exec (.seatEntryWrite b i 0 v) s = .next (s.commit (s.dev.wn (Reg.ttbSeat b i 0) (v.toNat &&& 0x81FFFFFF))) ∧
      exec (.seatEntryWrite b i 1 v) s = .next (s.commit (s.dev.wn (Reg.ttbSeat b i 1) (v.toNat &&& 0x3FFF3FFF))) ∧
      exec (.seatEntryWrite b i 2 v) s = .next (s.commit (s.dev.wn (Reg.ttbSeat b i 2) (v.toNat &&& 0xFFFF))) ∧
      exec (.seatEntryWrite b i 3 v) s = .next (s.commit (s.dev.wn (Reg.ttbSeat b i 3) v.toNat))) ∧
    exec .seatBankSwapRequest s = .next (s.commit (s.dev.setB Reg.ttbBankCtrl 0)) ∧
    (k < 4096 → j < 2 → b = tsBank s.dev → exec (.tsmapEntryWrite b k j v) s = .next (s.commit (s.dev.emit (.infoEvent 284)))) ∧
    (k < 4096 → b ≠ tsBank s.dev →
      exec (.tsmapEntryWrite b k 0 v) s = .next (s.commit (s.dev.wn (Reg.pubTsmapW0 b k) (v.toNat &&& 0x83FFFFFF))) ∧
      exec (.tsmapEntryWrite b k 1 v) s = .next (s.commit (s.dev.wn (Reg.pubTsmapW1 b k) (v.toNat &&& 0x3FFFFF)))) ∧
    exec .tsmapSwapRequest s = .next (s.commit (s.dev.setB Reg.pubTsmapCtrl 0)) ∧
    (i < 8192 → let w := (List.range 4).map (seatW s.dev (ttbBank s.dev) i)
      (∀ u n, colUnit s.dev (stKind w) (stColumn w) = some u →
        (arbNow s.dev (stKind w) u).find? (fun x => x.2 == w) = some (n, w) →
        exec (.arbSeatStart i) s = .next (s.commit (arbRun s.mem (stKind w) u n (stLen w) (stLen w) none s.dev))) ∧
      ((colUnit s.dev (stKind w) (stColumn w) = none ∨ ∀ u, colUnit s.dev (stKind w) (stColumn w) = some u →
          ∀ x ∈ arbNow s.dev (stKind w) u, x.2 ≠ w) → exec (.arbSeatStart i) s = .next (s.commit s.dev))) ∧
    (s.dev.bitR Reg.ttbStatus 1 = true → s.dev.bitR Reg.glbStatus 1 = true →
      let r := readmit s.dev (newCols s.dev)
      exec .readmission s = .next (s.commit { s.dev with ttb := { s.dev.ttb with
        replan := some (r.1, r.2.2, [newCols s.dev 0, newCols s.dev 1, newCols s.dev 2]) } })) ∧
    ((s.dev.bitR Reg.ttbStatus 1 = false ∨ s.dev.bitR Reg.glbStatus 1 = false) → exec .readmission s = .next (s.commit s.dev))

/-! Publication (09). -/

/-- R265, R271, R273: a hand-off takes the images committed since the last one, drives the contacts and encodes, and its digest and its mirror follow on a
pair, or the active's mirror on the shadow; a scheduled repetition of a LIVE entry that is due sends one frame in class 6 and doubles its interval up to T_MAX, and any other is none; trip frames of earlier
ticks still waiting at a port are discarded, each counted with source 281. R268, R287, R288, R290; 11 R334: entries of GOOSE publication, SV publication and
synchrophasors are read, as committed, into their staging words; a commit that every check passes waits for the route boundary, clears the status and enters the journal,
and one that a check refuses sets REFUSED with its REASON; a map word outside the maps of LIVE entries is written, its reserved bits staying 0, and one inside is not. -/
def Obligations.Publication : Prop :=
  (∀ (s : State) (i p : Nat), s.dev.up = true →
      (let n := handLeg s.dev
       let d := digFinal (n - 2) (noteOn n (handOff n s.dev))
       let d := if isShadow d then shadowHandOff n d else sendHandOff n d
       exec .handOff s = .next (s.commit { d with brc := { d.brc with handed := if isShadow d then some n else none } })) ∧
      (let e := geEnt s.dev i
       let x := geRun s.dev i
       i < 2048 →
        (geState e = 1 → x.vals.isNone = false → x.sent.isNone = false → x.sent ≠ some s.dev.tim.absTick →
         x.due ≤ s.dev.tim.absTick → (isSafe s.dev (geCar e) && geSilent e) = false → s.dev.pub.chg.contains i = false →
         exec (.gooseRepetition i) s = .next (s.commit (geSend i 6 (min (2 * x.ivl) (geTmax e)) s.dev))) ∧
        ((geState e ≠ 1 ∨ x.vals = none ∨ x.sent = none ∨ x.sent = some s.dev.tim.absTick ∨ s.dev.tim.absTick < x.due ∨
          (isSafe s.dev (geCar e) = true ∧ geSilent e = true) ∨ i ∈ s.dev.pub.chg) →
          exec (.gooseRepetition i) s = .next (s.commit s.dev))) ∧
      (p < 11 → let late := (egressQ s.dev p 7).filter (tripStale s.dev)
        (late = [] → exec (.tripFrameLate p) s = .next (s.commit s.dev)) ∧
        (late ≠ [] → exec (.tripFrameLate p) s = .next (s.commit
          (late.foldl (fun d f => raiseH 281 none f.src p (f.src * 65536) 0 (d.bump Reg.pubTripLateCnt))
            (late.foldl (fun d f => setOcc p 7 (qOcc d p 7 - cellsOf f.len) d)
              (setEgressQ p 7 ((egressQ s.dev p 7).filter (fun f => !tripStale s.dev f)) s.dev))))))) ∧
  (∀ (s : State) (i : Nat), s.dev.up = true →
      (i < 2048 → exec (.gpubEntryRead i) s =
        .next (s.commit (wnList Reg.pubGeStage 0 (takePad 0 58 (geCommitted s.dev i)) s.dev))) ∧
      (i < 256 → exec (.svpubEntryRead i) s =
        .next (s.commit (wnList Reg.pubSvStage 0 (takePad 0 35 (svCommitted s.dev i)) s.dev))) ∧
      (i < 32 → exec (.pmuEntryRead i) s =
        .next (s.commit (wnList Reg.pubPmuStage 0 (takePad 0 16 (pmuCommitted s.dev i)) s.dev))) ∧
      (let w := (List.range 58).map (fun k => s.dev.rn (Reg.pubGeStage k))
       i < 2048 →
        (geReason s.dev liveryWho i w = 0 → exec (.gpubEntryCommit i) s = .next (s.commit (journal 4 i w
          { s.dev.wn Reg.pubGeCstat 0 with pub := { s.dev.pub with gePend := tput s.dev.pub.gePend i (takePad 0 58 w) } }))) ∧
        (geReason s.dev liveryWho i w ≠ 0 → exec (.gpubEntryCommit i) s =
          .next (s.commit (s.dev.wn Reg.pubGeCstat (2 + geReason s.dev liveryWho i w * 16))))) ∧
      (let w := (List.range 35).map (fun k => s.dev.rn (Reg.pubSvStage k))
       i < 256 →
        (svReason s.dev liveryWho i w = 0 → exec (.svpubEntryCommit i) s = .next (s.commit (journal 5 i w
          { s.dev.wn Reg.pubSvCstat 0 with pub := { s.dev.pub with svPend := tput s.dev.pub.svPend i (takePad 0 35 w) } }))) ∧
        (svReason s.dev liveryWho i w ≠ 0 → exec (.svpubEntryCommit i) s =
          .next (s.commit (s.dev.wn Reg.pubSvCstat (2 + svReason s.dev liveryWho i w * 16))))) ∧
      (let w := (List.range 16).map (fun k => s.dev.rn (Reg.pubPmuStage k))
       i < 32 →
        (pmuReason s.dev w = 0 → exec (.pmuEntryCommit i) s = .next (s.commit (journal 6 i w
          { s.dev.wn Reg.pubPmuCstat 0 with pub := { s.dev.pub with pmuPend := tput s.dev.pub.pmuPend i (takePad 0 16 w) } }))) ∧
        (pmuReason s.dev w ≠ 0 → exec (.pmuEntryCommit i) s =
          .next (s.commit (s.dev.wn Reg.pubPmuCstat (2 + pmuReason s.dev w * 16))))) ∧
      (∀ v : Word, let k := s.dev.fldR Reg.pubMapIdx 0 15
        let d := journal 8 k [v.toNat] s.dev
        (pmapLive s.dev k = false → exec (.pubMapWrite v) s = .next (s.commit { d with
          pub := { d.pub with map := tset 0 d.pub.map k (v.toNat &&& 0x1F3FFF) } })) ∧
        (pmapLive s.dev k = true → exec (.pubMapWrite v) s = .next (s.commit (s.dev.emit (.infoEvent 290))))))

/-! Carriages' windows (10). -/

/-- R298, R319: a queue context is read as its eight words; a commit that no check refuses replaces the four configuration words, and one that a check
refuses sets REFUSED with the lowest REASON; a reset clears EN, PROD, CONS, the completion index and its phase, and forgets the buffers fetched; a doorbell within the ring of an
enabled queue sets PROD, and any other is ignored and counted. R299, R302, R305, R319: of a descriptor that waits, read from the ring, one of an old generation is counted and completes with
status 2, a receive buffer that lies outside the region completes with status 3, and a good one is posted, and a transmit buffer joins its frame; CONS advances each time, and several descriptors are fetched one after another. A write of
CAR_VEC_CTRL sets MASK, or clears it and sends the message that was pending; at level 1 a vector other than 0 is a reserved access (R318; 00_scope R7). The window of a FREE carriage takes no command (R318). -/
def Obligations.QueuesAndVectors : Prop :=
  (∀ (s : State) (c q prod : Nat), s.dev.up = true → c < 512 → q < 2048 → carSt s.dev c ≠ 0 →
      let x := qGet s.dev (qNum c q)
      let w := (List.range 4).map (fun i => s.dev.rn (Reg.carQcStage c i))
      exec (.queueContextRead c q) s = .next (s.commit (wnList (Reg.carQcRead c) 0
        [x.w0, x.w1, x.w2, x.w3, x.prod + x.cons * 65536, x.cpl + b2n x.phase * 65536, x.drop, x.frames] s.dev)) ∧
      (qcReason s.dev c q w = 0 → exec (.queueContextCommit c q) s = .next (s.commit
        ((qSet (qNum c q) { x with w0 := nth 0 w 0, w1 := nth 0 w 1, w2 := nth 0 w 2, w3 := nth 0 w 3 } s.dev).wn (Reg.carQcStatus c) 0))) ∧
      (qcReason s.dev c q w ≠ 0 → exec (.queueContextCommit c q) s =
        .next (s.commit (s.dev.wn (Reg.carQcStatus c) (2 + qcReason s.dev c q w * 16)))) ∧
      exec (.queueReset c q) s = .next (s.commit ((qSet (qNum c q) { x with
        w0 := putFld x.w0 2 1 0, prod := 0, cons := 0, cpl := 0, phase := false, posted := [],
        flying := x.flying.map (fun f => { f with gen := 0x10000 }), badRun := false } s.dev).wn (Reg.carQcStatus c) 0)) ∧
      (prod < 65536 → carEnabled s.dev c = true → x.en = true → prod < 2 ^ x.log2 →
        exec (.queueDoorbell c q prod) s = .next (s.commit (qSet (qNum c q) { x with prod := prod } s.dev))) ∧
      (prod < 65536 → (carEnabled s.dev c = false ∨ x.en = false ∨ 2 ^ x.log2 ≤ prod) →
        exec (.queueDoorbell c q prod) s = .next (s.commit (s.dev.bump (Reg.carDbIgnored c))))) ∧
  (∀ (s : State) (c q : Nat), s.dev.up = true → c < 512 → q < 2048 → carSt s.dev c ≠ 0 →
      (let x := qGet s.dev (qNum c q)
       let idx := x.cons % 2 ^ x.log2
       let dd := descRead s.mem (carBase s.dev c + x.w1 + idx * 16)
       let d := qSet (qNum c q) { x with cons := (x.cons + 1) % 2 ^ x.log2 } s.dev
       ((carEnabled s.dev c = false ∨ x.en = false ∨ x.prod = x.cons ∨ x.typ = 0 ∨ x.typ = 3) →
         exec (.descriptorFetch c q 1) s = .next (s.commit s.dev)) ∧
       (carEnabled s.dev c = true → x.en = true → x.prod ≠ x.cons → x.typ = 1 ∨ x.typ = 2 →
         (dd.gen ≠ d.fldR (Reg.carGen c) 0 16 → exec (.descriptorFetch c q 1) s =
           .next (s.commit (descDone c q idx dd 2 (d.bump (Reg.carStaleDesc c))))) ∧
         (dd.gen = d.fldR (Reg.carGen c) 0 16 → x.typ = 2 → exec (.descriptorFetch c q 1) s =
           .next (s.commit (txBuffer s.mem c q ⟨idx, dd⟩ d))) ∧
         (dd.gen = d.fldR (Reg.carGen c) 0 16 → x.typ = 1 → inRegion d c dd.addr x.bufSize = false →
           exec (.descriptorFetch c q 1) s = .next (s.commit (descDone c q idx dd 3 d))) ∧
         (dd.gen = d.fldR (Reg.carGen c) 0 16 → x.typ = 1 → inRegion d c dd.addr x.bufSize = true →
           exec (.descriptorFetch c q 1) s =
           .next (s.commit (qSet (qNum c q) { qGet d (qNum c q) with posted := x.posted ++ [⟨idx, dd⟩] } d))))) ∧
      (∀ n, n < 32768 → exec (.descriptorFetch c q n) s = .next (s.commit (descFetches s.mem c q n s.dev))) ∧
      (∀ n d, descFetches s.mem c q 0 d = d ∧ descFetches s.mem c q (n + 1) d = descFetches s.mem c q n (descFetch s.mem c q d)) ∧
      (∀ v (w : Word), v < 32 → carLevel s.dev c ≠ 1 ∨ v = 0 →
        (bitOf w.toNat 0 = true → exec (.vecCtrlWrite c v w) s = .next (s.commit (s.dev.putB (Reg.carVecCtrl c v) 0 true))) ∧
        (bitOf w.toNat 0 = false → s.dev.bitR (Reg.carVecCtrl c v) 1 = false → exec (.vecCtrlWrite c v w) s =
          .next (s.commit (s.dev.putB (Reg.carVecCtrl c v) 0 false))) ∧
        (bitOf w.toNat 0 = false → s.dev.bitR (Reg.carVecCtrl c v) 1 = true → exec (.vecCtrlWrite c v w) s =
          .next (s.commit (vecSignal c v ((s.dev.putB (Reg.carVecCtrl c v) 0 false).putB (Reg.carVecCtrl c v) 1 false))))) ∧
      (∀ v (w : Word), v < 32 → carLevel s.dev c = 1 → v ≠ 0 →
        exec (.vecCtrlWrite c v w) s = .next (s.commit (raise 48 none (Reg.carVecCtrl c v) 1 s.dev)))) ∧
  (∀ (s : State) (c q v prod n : Nat) (w : Word), s.dev.up = true → carSt s.dev c = 0 →
      ∀ i ∈ [.queueContextRead c q, .queueContextCommit c q, .queueReset c q, .queueDoorbell c q prod, .descriptorFetch c q n, .vecCtrlWrite c v w],
        exec i s = .next (s.commit s.dev))

/-- R308, R311, R312: a carriage that drains or freezes is quiet at the start of a leg, a leg or more after its last activity and two with work in
flight: its queues are reset, and a draining one is destroyed where a destroy waits, starts again where an enable waits (planned, where its place is only asked for), and is Disabled otherwise; until then nothing happens. 15 R447, R449: every Carriage-fatal source of an earlier tick disables its carriage, or cancels the enable of one that does not run. -/
def Obligations.CarriageEnds : Prop :=
  ∀ (s : State) (c : Nat) (bad : Bool), s.dev.up = true → c < 512 →
    (let n := legsSince s.dev.tc (s.dev.rn (Reg.carLastTc c))
     let d := resetQueues c s.dev
     ((carSt s.dev c ≠ stDraining ∧ carSt s.dev c ≠ stFrozen) ∨ s.dev.tim.absTick % 16 ≠ 0 ∨ n = 0 ∨ (inFlight s.dev c = true ∧ n < 2) →
       exec (.drainEnd c bad) s = .next (s.commit s.dev)) ∧
     (carSt s.dev c = stDraining ∨ carSt s.dev c = stFrozen → s.dev.tim.absTick % 16 = 0 → n ≠ 0 → inFlight s.dev c = false ∨ 2 ≤ n →
       (carSt d c = stFrozen → exec (.drainEnd c bad) s = .next (s.commit d)) ∧
       (carSt d c ≠ stFrozen → destroyWaits d c = true → exec (.drainEnd c bad) s =
         .next (s.commit (finishJobs c [0x101] cOk [] (destroyNow c (setCarSt c stDisabled d))))) ∧
       (carSt d c ≠ stFrozen → destroyWaits d c = false → enablePending d c = true →
         (ttbState d c = 1 → exec (.drainEnd c bad) s = .next (s.commit
           (modCar c (fun k => { k with enablePlan := true }) (setCarSt c stDisabled (d.clrB (Reg.carState c) 3))))) ∧
         (ttbState d c ≠ 1 → exec (.drainEnd c bad) s = .next (s.commit (enableNow bad c d)))) ∧
       (carSt d c ≠ stFrozen → destroyWaits d c = false → enablePending d c = false →
         exec (.drainEnd c bad) s = .next (s.commit (setCarSt c stDisabled d))))) ∧
    (let due := s.dev.sup.fatalDis.filter (fun p => decide (p.2 < s.dev.tim.absTick))
     let d := { s.dev with sup := { s.dev.sup with fatalDis := s.dev.sup.fatalDis.filter (fun p => !decide (p.2 < s.dev.tim.absTick)) } }
     exec .carriageFatalDisable s = .next (s.commit (due.foldl (fun d p =>
       if carRuns d p.1 then disableCar p.1 d else if carSt d p.1 = stFree then d else cancelEnable p.1 d) d)) ∧
     (∀ t, due = [(c, t)] → carRuns d c = true → exec .carriageFatalDisable s = .next (s.commit (disableCar c d))))

/-! Command sessions (13). `takes` says that Phiash takes the entry and that no check refuses it; `cmdReply` then writes its reply. -/

/-- 13 R397, R411: HELLO of the sole outstanding entry, with a protocol both sides have, replies with it and applies it from index 0; another outstanding entry makes it NOT_READY, and no common
protocol BAD_VERSION; BYE of a session
with nothing non-final replies and then clears the session, and else replies NOT_READY; ECHO replies its words; MODULE_STATUS replies four registers. The third word of HELLO's
answer that no rule states is a free value (log 5). 13 R390, R391, R396, R400: a doorbell of an open session below its ring size sets PROD and resumes
the session, any other is counted; ring registers take a write while the session is idle, and the ring sizes only from 2^4 to 2^12, RESET then clears it; CMD_S_RCONS resumes a stalled session;
a datagram that authenticates, with the transport, a session that is open and a higher SEQ, stores its segment and its entries are outstanding, but are counted where they do not fit the ring, and any other is discarded, counted and raises source 90. -/
def Obligations.SessionsAndRings : Prop :=
  (∀ (h : Cmd) (s : State),
      let d := cmdAdvance h.session s.dev
      let p := cmdP h s.dev
      (takes (spec0 0 [0xFFFF, mAll]) h s.dev = true →
        let v := min (fld (entW p 0) 8 8) (protoMax d)
        (sesOut d h.session = 0 → fld (entW p 0) 0 8 ≤ v → v ≠ 0 →
          exec (.cmdHello h) s = .next (s.commit (setProd h.session 0 (((cmdReply 0 h (okA [v + protoMax d * 256, d.free.1 % 2 ^ 32,
            d.rn Reg.eenKcatVer, d.rn Reg.hleIsaVer]) d.free.2).wn (Reg.cmdSCons h.session) 0).setF (Reg.cmdSState h.session) 0 4
              (fld (v + protoMax d * 256) 0 8))))) ∧
        (sesOut d h.session ≠ 0 → exec (.cmdHello h) s = .next (s.commit (cmdReply 0 h (noA cNotReady) d))) ∧
        (sesOut d h.session = 0 → (v < fld (entW p 0) 0 8 ∨ v = 0) →
          exec (.cmdHello h) s = .next (s.commit (cmdReply 0 h ⟨cBadVersion, [protoMax d * 256]⟩ d)))) ∧
      (takes (spec0 1 []) h s.dev = true →
        (sesNonfinal d h.session = 0 → exec (.cmdBye h) s = .next (s.commit (sesClear h.session (cmdReply 1 h (okA []) d)))) ∧
        (sesNonfinal d h.session ≠ 0 → exec (.cmdBye h) s = .next (s.commit (cmdReply 1 h (noA cNotReady) d)))) ∧
      (takes (spec0 2 [mAll, mAll, mAll, mAll]) h s.dev = true →
        exec (.cmdEcho h) s = .next (s.commit (cmdReply 2 h (okA (p.take 4)) d))) ∧
      (takes (spec0 3 []) h s.dev = true → exec (.cmdModuleStatus h) s =
        .next (s.commit (cmdReply 3 h (okA [d.rn Reg.glbMode, d.rn Reg.brcStatus, d.rn Reg.ttbStatus, d.rn Reg.timStatus]) d)))) ∧
  (∀ (s : State) (n prod : Nat) (v : Word), s.dev.up = true → n < 64 →
      (prod < 65536 → sesOpen s.dev n = true → prod < sesSize s.dev n → exec (.cmdDoorbell n prod) s = .next (s.commit (sesResume n
        (ringTo n prod { s.dev with cmd := { s.dev.cmd with faulted := s.dev.cmd.faulted.filter (fun x => x != n) } })))) ∧
      (prod < 65536 → (sesOpen s.dev n = false ∨ sesSize s.dev n ≤ prod) → exec (.cmdDoorbell n prod) s =
        .next (s.commit (s.dev.bump (Reg.cmdSErr n)))) ∧
      (sesBusy s.dev n = false →
        exec (.sessionRingCfgWrite n 0 v) s = .next (s.commit (s.dev.wn (Reg.cmdSCringLo n) v.toNat)) ∧
        exec (.sessionRingCfgWrite n 1 v) s = .next (s.commit (s.dev.wn (Reg.cmdSCringHi n) v.toNat)) ∧
        exec (.sessionRingCfgWrite n 2 v) s = .next (s.commit (s.dev.wn (Reg.cmdSRringLo n) v.toNat)) ∧
        exec (.sessionRingCfgWrite n 3 v) s = .next (s.commit (s.dev.wn (Reg.cmdSRringHi n) v.toNat))) ∧
      (sesBusy s.dev n = true → ∀ r, r < 4 → exec (.sessionRingCfgWrite n r v) s = .next (s.commit (s.dev.emit (.infoEvent 391)))) ∧
      (let good := 4 ≤ fld v.toNat 0 4 ∧ fld v.toNat 0 4 ≤ 12 ∧ 4 ≤ fld v.toNat 8 4 ∧ fld v.toNat 8 4 ≤ 12
       let d := s.dev.wn (Reg.cmdSRingCfg n) (fld v.toNat 0 4 + fld v.toNat 8 4 * 256)
       let d := setProd n (sesProd d n % sesSize d n) (d.wn (Reg.cmdSCons n) (sesCons d n % sesSize d n))
       let d := (d.wn (Reg.cmdSRprod n) (d.fldR (Reg.cmdSRprod n) 0 16 % repSize d n + b2n (d.bitR (Reg.cmdSRprod n) 16) * 65536))
       (¬ good → exec (.sessionRingCfgWrite n 4 v) s = .next (s.commit s.dev) ∧ exec (.sessionReset n v) s = .next (s.commit s.dev)) ∧
       (good → sesBusy s.dev n = true → exec (.sessionRingCfgWrite n 4 v) s = .next (s.commit (s.dev.emit (.infoEvent 391))) ∧
         exec (.sessionReset n v) s = .next (s.commit (s.dev.emit (.infoEvent 391)))) ∧
       (good → sesBusy s.dev n = false → exec (.sessionRingCfgWrite n 4 v) s = .next (s.commit d) ∧
         exec (.sessionReset n v) s = .next (s.commit (sesClear n d)))) ∧
      exec (.replyConsumerWrite n v) s = .next (s.commit (sesResume n (s.dev.wn (Reg.cmdSRcons n) (v.toNat % 65536))))) ∧
  (∀ (s : State) (src n count seq ofs : Nat) (seg : List Nat) (tag zero bad : Bool), s.dev.up = true → n < 64 → count ≤ 16 → seg.length ≤ 1024 →
      let key := slotUse (s.dev.fldR (Reg.cmdSCfg n) 16 8) fnSession [2] .livery bad s.dev
      let auth : Bool × Dev := if s.dev.mode = modeRecovery then (if (recoverySlot s.dev).isSome then tag else zero, s.dev) else (key.1 && tag, key.2)
      let d := auth.2
      let e := stageBytes n ofs seg { d with cmd := { d.cmd with seqs := tset 0 d.cmd.seqs n seq, froms := tset 0 d.cmd.froms n src } }
      ((auth.1 = false ∨ sesTransport d n ≠ 2 ∨ sesOpen d n = false ∨ seq ≤ tget 0 d.cmd.seqs n) →
        exec (.mgmtDatagram ⟨src, n⟩ count seq ofs seg tag zero bad) s = .next (s.commit (raise 90 none n 0 (d.bump (Reg.cmdSErr n))))) ∧
      (auth.1 = true → sesTransport d n = 2 → sesOpen d n = true → tget 0 d.cmd.seqs n < seq →
        (sesSize e n ≤ sesOut e n + count →
          exec (.mgmtDatagram ⟨src, n⟩ count seq ofs seg tag zero bad) s = .next (s.commit (e.bump (Reg.cmdSErr n)))) ∧
        (sesOut e n + count < sesSize e n → exec (.mgmtDatagram ⟨src, n⟩ count seq ofs seg tag zero bad) s =
          .next (s.commit (sesResume n (ringTo n ((sesProd e n + count) % sesSize e n) e))))))

/-- 13 R396, R402, R404, R405; 18 R544: an entry of any opcode is not taken while another session's goes first, its session is not ready, or an earlier entry holds a fence; one of a PCIe session whose outbound traffic is refused raises source 347 and counts; one without room for its reply stalls the session.
While power fails every entry taken is answered FAULT, and one that R402's checks refuse is answered with their code and details, and has no other effect than its reply; an entry of another protocol version is answered BAD_VERSION, and one of no opcode of the catalogue BAD_OPCODE. The checks: a command that
names a parameter out of its masks is answered BAD_PARAM with the word's number, one of a stale generation
STALE_GENERATION with the carriage's generation, here for CARRIAGE_QUERY. -/
def Obligations.RefusedEntries : Prop :=
  (∀ (i : Instr) (c : CmdSpec) (h : Cmd) (s : State), cmdRow i = some (c, h) → s.dev.up = true →
      let d := cmdAdvance h.session s.dev
      let refused := sesTransport s.dev h.session = 1 ∧ outRefused s.dev = true
      (cmdReady h s.dev = false → exec i s = .next (s.commit s.dev)) ∧
      (cmdReady h s.dev = true → refused → exec i s = .next (s.commit (raise 347 none h.session 0 (s.dev.bump Reg.hbrObRefused)))) ∧
      (cmdReady h s.dev = true → ¬ refused → repSpace s.dev h.session = false → exec i s = .next (s.commit (sesStall h.session s.dev))) ∧
      (cmdReady h s.dev = true → ¬ refused → repSpace s.dev h.session = true → d.bitR Reg.glbStatus 5 = true →
        exec i s = .next (s.commit (cmdReply c.op h (noA cFault) d))) ∧
      (∀ a, cmdReady h s.dev = true → ¬ refused → repSpace s.dev h.session = true → d.bitR Reg.glbStatus 5 = false →
        cmdCheck c h d = some a → exec i s = .next (s.commit (cmdReply c.op h a d)))) ∧
  (∀ (op : Nat) (h : Cmd) (s : State), s.dev.up = true → op < 65536 →
      let d := cmdAdvance h.session s.dev
      let refused := sesTransport s.dev h.session = 1 ∧ outRefused s.dev = true
      let valid := h.version = sesProto s.dev h.session ∧ catalogue.contains op = true
      ((valid ∨ cmdReady h s.dev = false) → exec (.badOpcode op h) s = .next (s.commit s.dev)) ∧
      (¬ valid → cmdReady h s.dev = true →
        (refused → exec (.badOpcode op h) s = .next (s.commit (raise 347 none h.session 0 (s.dev.bump Reg.hbrObRefused)))) ∧
        (¬ refused → repSpace s.dev h.session = false → exec (.badOpcode op h) s = .next (s.commit (sesStall h.session s.dev))) ∧
        (¬ refused → repSpace s.dev h.session = true →
          (d.bitR Reg.glbStatus 5 = true → exec (.badOpcode op h) s = .next (s.commit (cmdReply op h (noA cFault) d))) ∧
          (d.bitR Reg.glbStatus 5 = false → h.version ≠ sesProto d h.session →
            exec (.badOpcode op h) s = .next (s.commit (cmdReply op h (noA cBadVersion) d))) ∧
          (d.bitR Reg.glbStatus 5 = false → h.version = sesProto d h.session →
            exec (.badOpcode op h) s = .next (s.commit (cmdReply op h (noA cBadOpcode) d)))))) ∧
  (∀ (h : Cmd) (d : Dev), h.version = sesProto d h.session → h.flags < 2 → h.resv = 0 → h.carriage < 512 →
      (∀ k, paramBad ⟨0x109, true, [0xFFFF], [], noRange⟩ (sesTransport d h.session) (cmdP h d) = some k →
        cmdCheck ⟨0x109, true, [0xFFFF], [], noRange⟩ h d = some ⟨cBadParam, [k * 256]⟩) ∧
      (paramBad ⟨0x109, true, [0xFFFF], [], noRange⟩ (sesTransport d h.session) (cmdP h d) = none →
        sesFamily d h.session 1 = true → fld (entW (cmdP h d) 0) 0 16 ≠ 0 →
        fld (entW (cmdP h d) 0) 0 16 ≠ d.fldR (Reg.carGen h.carriage) 0 16 →
        cmdCheck ⟨0x109, true, [0xFFFF], [], noRange⟩ h d = some ⟨cStaleGen, [d.fldR (Reg.carGen h.carriage) 0 16]⟩))

/-- 13 R416; 14 R423, R430, R433, R440; 15 R460: REC_ARM of a descriptor that no check refuses arms from the next leg boundary with every slot
free, and of another replies BAD_PARAM with its REASON; REC_DISARM ends the record and idles; REC_FORCE of an ARMED recorder reports a forced trigger at its next leg, and of another replies
NOT_READY; REC_RENDER of a held record is PENDING, and of another replies BAD_PARAM; RENDER_DONE writes the parts of the rendering that fit the output where the session's transport has it, and ends the command with their bytes, or with NO_RESOURCE where one did not fit; EVR_RESTART keeps the session waiting
until the restart at the next tick. -/
def Obligations.RecorderCommands : Prop :=
  ∀ (h : Cmd) (data : List Word) (s : State),
    let d := cmdAdvance h.session s.dev
    let p := cmdP h s.dev
    let r := entW p 0
    let w := takePad 0 96 (data.map (fun x => x.toNat))
    (takes ⟨0x500, false, [0xF, mAll, 0xFF], [1], noRange⟩ h s.dev = true →
      (recReason d r w = 0 → exec (.cmdRecArm h data) s = .next (s.commit (cmdReply 0x500 h (okA [])
        (showHeld r (setRecState r rIdle (setRecdr r { Recdr.empty with desc := takePad 0 96 w, armNext := true } d)))))) ∧
      (recReason d r w ≠ 0 → exec (.cmdRecArm h data) s = .next (s.commit (cmdReply 0x500 h (refA cBadParam (recReason d r w) 1 0) d)))) ∧
    (takes (spec0 0x501 [0xF]) h s.dev = true → exec (.cmdRecDisarm h) s = .next (s.commit (cmdReply 0x501 h (okA []) (recDisarm r d)))) ∧
    (takes (spec0 0x502 [0xF]) h s.dev = true →
      (recState d r = rArmed → exec (.cmdRecForce h) s = .next (s.commit (cmdReply 0x502 h
        (okA [tickCodeOf ((recdr d r).next.getD (d.sau.declared.getD d.tim.absLeg) * 16)]) (setRecdr r { recdr d r with force := true } d)))) ∧
      (recState d r ≠ rArmed → exec (.cmdRecForce h) s = .next (s.commit (cmdReply 0x502 h (noA cNotReady) d)))) ∧
    (takes ⟨0x503, false, [0xF, mAll, mAll, 0xFF, mAll], [2], noRange⟩ h s.dev = true →
      (∀ q, (recdr d r).held.find? (fun q => q.2 == entW p 1) = some q →
        exec (.cmdRecRender h) s = .next (s.commit (cmdReply 0x503 h (pendA [])
          { d with drc := { d.drc with rend := tput d.drc.rend d.cmd.nextJob (h.session, addrP p 2, entW p 4, r, q.1) } }))) ∧
      ((recdr d r).held.find? (fun q => q.2 == entW p 1) = none →
        exec (.cmdRecRender h) s = .next (s.commit (cmdReply 0x503 h (badP 1) d)))) ∧
    (∀ job cfg more, s.dev.up = true →
      (tfind s.dev.drc.rend job = none → exec (.renderDone job cfg more) s = .next (s.commit s.dev)) ∧
      (∀ ses a len n q, tfind s.dev.drc.rend job = some (ses, a, len, n, q) →
        let parts := ((recRates s.dev (recdr s.dev n).desc).zip (takePad [] 64 (cfg :: more))).map (fun x => renderPart s.mem s.dev n q x.1 x.2)
        let o := fitParts len parts
        let d := { s.dev with drc := { s.dev.drc with rend := tdel s.dev.drc.rend job } }
        let d := if sesTransport s.dev ses = 3 then storeBytes a o.1 d
          else if sesTransport s.dev ses = 2 then stageBytes ses a o.1 d else d.emit (.note 440 (a :: o.1))
        (o.2 = true → exec (.renderDone job cfg more) s = .next (s.commit (finishJob job cOk [o.1.length] d))) ∧
        (o.2 = false → exec (.renderDone job cfg more) s = .next (s.commit (finishJob job cNoResource [] d))))) ∧
    (takes (spec0 0x504 []) h s.dev = true → exec (.cmdEvrRestart h) s = .next (s.commit
      { d with cmd := { d.cmd with wait := tput d.cmd.wait h.session (if sesProto d h.session = 1 then h.tag % 65536 else h.tag) },
               sup := { d.sup with restart := true } }))

/-- 10 R291, R307, R309 to R311; 13 R412: CREATE of a number whose region is mapped, with pools that supply the image, an image that is placed
and an admission, leaves a DISABLED carriage and replies its number, generation and sequence, and one that lacks a number or a pool, whose image is not placed or that admission refuses leaves the device as it was; ENABLE, DISABLE, RESET and DESTROY follow the state
that accepted commands will give the carriage, and refuse in the others. -/
def Obligations.CarriageLife : Prop :=
  ∀ (h : Cmd) (img : CoachImage) (s : State),
    let d := cmdAdvance h.session s.dev
    let p := cmdP h s.dev
    let c := h.carriage
    let st := projSt d c
    let gen (d : Dev) : Ans := okA [d.fldR (Reg.carGen c) 0 16]
    (takes ⟨0x100, true, [0x1F, mAll, 0xFF, 0xFFF, mAll, 0xFF], [1], createRange⟩ h s.dev = true →
      (∀ n d1 d2, createNumber d (bitOf (entW p 0) 4) c (addrP p 4 / 0x200000) (entW p 3) = some n →
        poolsSupply d img (addrP p 4 / 0x200000) (entW p 3) = true →
        placeImage n img (newCar n (fld (entW p 0) 0 2) (fld (entW p 0) 2 2) (addrP p 4 / 0x200000) (entW p 3) img d) = some d1 →
        (runAdmission n d1 = (d2, 0) →
          let d3 := askSafe n (setCarSt n stDisabled d2)
          exec (.cmdCreate h img) s =
            .next (s.commit (cmdReply 0x100 h (okA [n, d3.rn (Reg.carGen n), d3.rn (Reg.ttbCSeq n)]) d3))) ∧
        ((runAdmission n d1).2 ≠ 0 →
          exec (.cmdCreate h img) s = .next (s.commit (cmdReply 0x100 h (noA (admStatus (runAdmission n d1).2)) d)))) ∧
      (∀ n, createNumber d (bitOf (entW p 0) 4) c (addrP p 4 / 0x200000) (entW p 3) = some n →
        (poolsSupply d img (addrP p 4 / 0x200000) (entW p 3) = false →
          exec (.cmdCreate h img) s = .next (s.commit (cmdReply 0x100 h (noA cNoResource) d))) ∧
        (poolsSupply d img (addrP p 4 / 0x200000) (entW p 3) = true →
          placeImage n img (newCar n (fld (entW p 0) 0 2) (fld (entW p 0) 2 2) (addrP p 4 / 0x200000) (entW p 3) img d) = none →
          exec (.cmdCreate h img) s = .next (s.commit (cmdReply 0x100 h (refA cBadParam 0 1 0) d)))) ∧
      (createNumber d (bitOf (entW p 0) 4) c (addrP p 4 / 0x200000) (entW p 3) = none →
        exec (.cmdCreate h img) s = .next (s.commit (cmdReply 0x100 h (noA cNoResource) d)))) ∧
    (takes ⟨0x101, true, [0xFFFF], [], noRange⟩ h s.dev = true →
      (st ≠ stFree → st ≠ stEnabled → st ≠ stRestoring → st ≠ stDraining →
        exec (.cmdDestroy h) s = .next (s.commit (cmdReply 0x101 h (okA []) (destroyNow c (staleActs c (cancelEnable c d)))))) ∧
      (st = stDraining → exec (.cmdDestroy h) s = .next (s.commit (cmdReply 0x101 h (pendA [])
        (modCar c (fun k => { k with destroyPend := true }) (cancelEnable c d))))) ∧
      (st = stEnabled ∨ st = stRestoring → exec (.cmdDestroy h) s = .next (s.commit (cmdReply 0x101 h (noA cDenied) d))) ∧
      (st = stFree → exec (.cmdDestroy h) s = .next (s.commit (cmdReply 0x101 h (noA cWrongMode) d)))) ∧
    (takes ⟨0x102, true, [0xFFFF], [], noRange⟩ h s.dev = true →
      (st = stEnabled → exec (.cmdEnable h) s = .next (s.commit (cmdReply 0x102 h (okA []) d))) ∧
      (st = stDraining → destroyWaits d c = false → enablePending d c = false →
        exec (.cmdEnable h) s = .next (s.commit (cmdReply 0x102 h (pendA []) (d.setB (Reg.carState c) 3)))) ∧
      (st = stDraining → destroyWaits d c = false → enablePending d c = true →
        exec (.cmdEnable h) s = .next (s.commit (cmdReply 0x102 h (noA cBusyDraining) d))) ∧
      ((st = stDraining ∧ destroyWaits d c = true) ∨ st = stFree ∨ st = stRestoring →
        exec (.cmdEnable h) s = .next (s.commit (cmdReply 0x102 h (noA cWrongMode) d))) ∧
      (st = stDisabled ∨ st = stFrozen → ttbState d c ≠ 1 → exec (.cmdEnable h) s = .next (s.commit (cmdReply 0x102 h (okA [])
        { d with cmd := { d.cmd with legEn := d.cmd.legEn ++ [c] } }))) ∧
      (st = stDisabled ∨ st = stFrozen → ttbState d c = 1 → exec (.cmdEnable h) s = .next (s.commit (cmdReply 0x102 h (pendA [])
        (modCar c (fun k => { k with enablePlan := true }) d))))) ∧
    (takes ⟨0x103, true, [0xFFFF], [], noRange⟩ h s.dev = true →
      (carSt d c = stEnabled ∨ carSt d c = stRestoring →
        exec (.cmdDisable h) s = .next (s.commit (cmdReply 0x103 h (gen (disableCar c d)) (disableCar c d)))) ∧
      (carSt d c = stDraining →
        exec (.cmdDisable h) s = .next (s.commit (cmdReply 0x103 h (gen (cancelEnable c d)) (cancelEnable c d)))) ∧
      (carSt d c ≠ stFree → carSt d c ≠ stEnabled → carSt d c ≠ stRestoring → carSt d c ≠ stDraining →
        let d2 := bumpGen c (staleActs c (cancelEnable c d))
        exec (.cmdDisable h) s = .next (s.commit (cmdReply 0x103 h (gen d2) d2))) ∧
      (carSt d c = stFree → exec (.cmdDisable h) s = .next (s.commit (cmdReply 0x103 h (noA cWrongMode) d)))) ∧
    (takes ⟨0x104, true, [0xFFFF], [], noRange⟩ h s.dev = true →
      (st = stFree → exec (.cmdReset h) s = .next (s.commit (cmdReply 0x104 h (noA cWrongMode) d))) ∧
      (st = stDraining →
        (destroyWaits d c = true → exec (.cmdReset h) s = .next (s.commit (cmdReply 0x104 h (noA cWrongMode) d))) ∧
        (destroyWaits d c = false → enablePending d c = true →
          exec (.cmdReset h) s = .next (s.commit (cmdReply 0x104 h (noA cBusyDraining) d))) ∧
        (destroyWaits d c = false → enablePending d c = false →
          let d2 := d.setB (Reg.carState c) 3
          exec (.cmdReset h) s = .next (s.commit (cmdReply 0x104 h (pendA [d2.fldR (Reg.carGen c) 0 16]) d2)))) ∧
      (st ≠ stFree → st ≠ stDraining → carSt d c = stEnabled ∨ st = stRestoring →
        let d2 := (disableCar c d).setB (Reg.carState c) 3
        exec (.cmdReset h) s = .next (s.commit (cmdReply 0x104 h (pendA [d2.fldR (Reg.carGen c) 0 16]) d2))) ∧
      (st ≠ stFree → st ≠ stDraining → carSt d c ≠ stEnabled → st ≠ stRestoring →
        let d2 := bumpGen c (staleActs c (cancelEnable c d))
        let d3 := modCar c (fun k => { k with enablePlan := true }) d2
        let d4 := { d2 with cmd := { d2.cmd with legEn := d2.cmd.legEn ++ [c] } }
        (ttbState d2 c ≠ 1 → exec (.cmdReset h) s = .next (s.commit (cmdReply 0x104 h (gen d4) d4))) ∧
        (ttbState d2 c = 1 → exec (.cmdReset h) s = .next (s.commit (cmdReply 0x104 h (pendA [d3.fldR (Reg.carGen c) 0 16]) d3)))))

/-- 06 R180; 07 R237, R240; 10 R312, R315; 13 R412: HARNESS_MODE asks for the mode from the next leg boundary, where the carriage and the module permit it; PROGRAM_LOAD and PARAM_UPDATE
take effect when their checks and admission pass, and else reply what refuses them; SAVE and RESTORE that no check refuses are PENDING, and else reply the first check that fails; CARRIAGE_QUERY replies the
carriage's words. -/
def Obligations.CarriageCommands : Prop :=
  ∀ (h : Cmd) (data : List Word) (img : CarImage) (s : State),
    let d := cmdAdvance h.session s.dev
    let p := cmdP h s.dev
    let c := h.carriage
    (takes ⟨0x105, true, [0xFFFF, 3], [], fun p => if entW p 1 = 3 then some 1 else none⟩ h s.dev = true →
      let on := projSt d c = stEnabled
      let cur := if on then (hcar d c).modeReq.getD (if carSt d c = stEnabled then hMode d c else hRun) else hStop
      let wrong := carSt d c = stFree ∨ (entW p 1 = hHold ∧ d.mode ≠ modeMaintenance) ∨ (entW p 1 ≠ hStop ∧ ¬ on) ∨ (entW p 1 = hRun ∧ cur = hHold)
      (wrong → exec (.cmdHarnessMode h) s = .next (s.commit (cmdReply 0x105 h (noA cWrongMode) d))) ∧
      (¬ wrong → entW p 1 = cur → exec (.cmdHarnessMode h) s = .next (s.commit (cmdReply 0x105 h (okA []) d))) ∧
      (¬ wrong → entW p 1 ≠ cur → exec (.cmdHarnessMode h) s =
        .next (s.commit (cmdReply 0x105 h (okA []) (setHcar c { hcar d c with modeReq := some (entW p 1) } d))))) ∧
    (takes ⟨0x106, true, [0xFFFF, mAll, 0xFF, 1], [1], noRange⟩ h s.dev = true →
      let swap := bitOf (entW p 3) 0
      let r := loadProg (parseImage (data.map (fun w => w.toNat))) c swap d
      let a := admitChange c d r.1
      (carSt d c = stFree ∨ (projSt d c = stEnabled ∧ swap = false) →
        exec (.cmdProgramLoad h data) s = .next (s.commit (cmdReply 0x106 h (noA cWrongMode) d))) ∧
      (carSt d c ≠ stFree → (projSt d c ≠ stEnabled ∨ swap = true) →
        (r.2.1 = 0 → a.2 = 0 → exec (.cmdProgramLoad h data) s = .next (s.commit (cmdReply 0x106 h (okA []) a.1))) ∧
        (r.2.1 = 0 → a.2 ≠ 0 → exec (.cmdProgramLoad h data) s = .next (s.commit (cmdReply 0x106 h (noA (admStatus a.2)) a.1))) ∧
        (r.2.1 ≠ 0 → exec (.cmdProgramLoad h data) s =
          .next (s.commit (cmdReply 0x106 h (refA cBadParam r.2.1 0xFF (r.2.2 % 65536)) r.1))))) ∧
    (takes ⟨0x107, true, [0xFFFF, 0x3FF, mAll, 0xFF, mAll], [2], noRange⟩ h s.dev = true →
      let slot := fld (entW p 1) 0 8
      let a := slotAskU slot fnImage [3] (.carriage c) (cmdWho d h) d
      let dest := if bitOf (entW p 1) 9 then 3 else match sesTransport a.2 h.session with | 1 => 0 | 2 => 2 | _ => 1
      (carSt d c = stFree → exec (.cmdSave h) s = .next (s.commit (cmdReply 0x107 h (noA cWrongMode) d))) ∧
      (carSt d c = stDraining → exec (.cmdSave h) s = .next (s.commit (cmdReply 0x107 h (noA cBusyDraining) d))) ∧
      (carSt d c ≠ stFree → carSt d c ≠ stDraining →
        (trngReady d = false → exec (.cmdSave h) s = .next (s.commit (cmdReply 0x107 h (noA cNotReady) d))) ∧
        (trngReady d = true → a.1 = false → exec (.cmdSave h) s = .next (s.commit (cmdReply 0x107 h (noA cDenied) a.2))) ∧
        (∀ k, trngReady d = true → a.1 = true → tfind a.2.cars c = some k →
          (bitOf (entW p 1) 9 = false → entW p 4 < imageLen k.img →
            exec (.cmdSave h) s = .next (s.commit (cmdReply 0x107 h (refA cNoResource 0 4 0) a.2))) ∧
          (bitOf (entW p 1) 9 = true ∨ imageLen k.img ≤ entW p 4 → exec (.cmdSave h) s = .next (s.commit (cmdReply 0x107 h
            (pendA [(a.2.tim.absRoute + 1) % 2 ^ 20]) (a.2.atRoute (.save c a.2.cmd.nextJob slot (bitOf (entW p 1) 8) dest (addrP p 2))))))))) ∧
    (takes ⟨0x108, true, [0xFFFF, mAll, 0xFF, 0xFFFFF], [1], noRange⟩ h s.dev = true →
      let d' := if img.slotBad then slotGoesBad img.slot d else d
      let a := slotAskU img.slot fnImage [3] (.carriage c) (cmdWho d' h) d'
      let r := routeAhead a.2 (entW p 3)
      let soon := r ≤ a.2.tim.absRoute + 1 ∨ a.2.tim.absRoute + 2 ^ 19 ≤ r
      (projSt d c ≠ stDisabled → exec (.cmdRestore h img) s = .next (s.commit (cmdReply 0x108 h (noA cWrongMode) d))) ∧
      (projSt d c = stDisabled →
        (a.1 = false ∨ img.tagOk = false → exec (.cmdRestore h img) s = .next (s.commit (cmdReply 0x108 h (noA cDenied) a.2))) ∧
        (a.1 = true → img.tagOk = true → imageFits a.2 c img = false →
          exec (.cmdRestore h img) s = .next (s.commit (cmdReply 0x108 h (refA cBadParam 0 1 0) a.2))) ∧
        (a.1 = true → img.tagOk = true → imageFits a.2 c img = true → soon →
          exec (.cmdRestore h img) s = .next (s.commit (cmdReply 0x108 h (refA cBadParam 0 3 0) a.2))) ∧
        (a.1 = true → img.tagOk = true → imageFits a.2 c img = true → ¬ soon →
          exec (.cmdRestore h img) s = .next (s.commit (cmdReply 0x108 h (pendA []) (restoreNow c a.2.cmd.nextJob r img a.2)))))) ∧
    (takes ⟨0x109, true, [0xFFFF], [], noRange⟩ h s.dev = true → exec (.cmdCarriageQuery h) s = .next (s.commit (cmdReply 0x109 h
      (okA [if carSt d c = stFree then 0 else carStateW d c, d.rn (Reg.carGen c), d.rn (Reg.ttbCState c), d.rn (Reg.ttbCSeq c)]) d))) ∧
    (takes ⟨0x10A, true, [0xFFFF, 0xFFFF, mAll, 0xFF], [2], noRange⟩ h s.dev = true →
      let i := entW p 1
      let w := takePad 0 3 (kCommitted d i) ++ takePad 0 12 (data.map (fun w => w.toNat)) ++ [c]
      let r := kReason (projStreams d) i w
      let a := admitChange c d (eenPlace i w d)
      (carSt d c = stFree → exec (.cmdParamUpdate h data) s = .next (s.commit (cmdReply 0x10A h (noA cWrongMode) d))) ∧
      (carSt d c ≠ stFree → kCommitted d i ≠ [] → kCar (kCommitted d i) ≠ c →
        exec (.cmdParamUpdate h data) s = .next (s.commit (cmdReply 0x10A h (refA cBadParam 8 1 0) d))) ∧
      (carSt d c ≠ stFree → (kCommitted d i = [] ∨ kCar (kCommitted d i) = c) →
        (r ≠ 0 → exec (.cmdParamUpdate h data) s = .next (s.commit (cmdReply 0x10A h (refA cBadParam r 1 0) d))) ∧
        (r = 0 → a.2 = 0 → exec (.cmdParamUpdate h data) s = .next (s.commit (cmdReply 0x10A h (okA []) a.1))) ∧
        (r = 0 → a.2 ≠ 0 → exec (.cmdParamUpdate h data) s = .next (s.commit (cmdReply 0x10A h (noA (admStatus a.2)) a.1)))))

/-- 04 R100, R103, R104; 13 R413: a stream's commands wait for the route boundary; an entry in the wrong state, pools without
rows or units, and a key slot it may not name refuse them; a grant adds an entry to the carriage's list, within 64, and leaves a list that holds it;
a revoke takes it, but from a carriage ENABLED or RESTORING; LEARN_LIST replies the next four LEARNED entries. -/
def Obligations.StreamCommands : Prop :=
  ∀ (h : Cmd) (data : List Word) (s : State),
    let d := cmdAdvance h.session s.dev
    let p := cmdP h s.dev
    let i := fld (entW p 0) 0 12
    let q := projStreams d
    let c := h.carriage
    (takes ⟨0x200, false, [0x80000FFF, mAll, 0xFF], [1], noRange⟩ h s.dev = true →
      let w := if bitOf (entW p 0) 31 then takePad 0 24 (data.map (fun x => x.toNat)) else sauEnt q i
      (∀ b, liveBad q (bitOf (entW p 0) 31) i w = false → lowestRun (rowRuns (tdel q.sau.entries i)) (entCost w) = some b →
        unitsUsed (tdel q.sau.entries i) + entCost w ≤ 4096 → namesSlot d (entAuth w) (entSlot w) fnVerifyIn .livery (cmdWho d h) = true →
        exec (.cmdStreamLive h data) s =
          .next (s.commit (cmdReply 0x200 h (okA [b + entCost w * 4096]) (d.atRoute (.stream 0 i w))))) ∧
      (∀ b, liveBad q (bitOf (entW p 0) 31) i w = false → lowestRun (rowRuns (tdel q.sau.entries i)) (entCost w) = some b →
        unitsUsed (tdel q.sau.entries i) + entCost w ≤ 4096 → namesSlot d (entAuth w) (entSlot w) fnVerifyIn .livery (cmdWho d h) = false →
        exec (.cmdStreamLive h data) s = .next (s.commit (cmdReply 0x200 h (noA cDenied) d))) ∧
      (liveBad q (bitOf (entW p 0) 31) i w = false →
        lowestRun (rowRuns (tdel q.sau.entries i)) (entCost w) = none ∨ 4096 < unitsUsed (tdel q.sau.entries i) + entCost w →
        exec (.cmdStreamLive h data) s = .next (s.commit (cmdReply 0x200 h (noA cNoResource) d))) ∧
      (liveBad q (bitOf (entW p 0) 31) i w = true →
        exec (.cmdStreamLive h data) s = .next (s.commit (cmdReply 0x200 h (badP (liveParam q (bitOf (entW p 0) 31) i)) d)))) ∧
    (takes (spec0 0x201 [0xFFF]) h s.dev = true →
      (entState (sauEnt q i) = esLive →
        exec (.cmdStreamSuspend h) s = .next (s.commit (cmdReply 0x201 h (okA []) (d.atRoute (.stream 1 i []))))) ∧
      (entState (sauEnt q i) ≠ esLive → exec (.cmdStreamSuspend h) s = .next (s.commit (cmdReply 0x201 h (badP 0) d)))) ∧
    (takes (spec0 0x202 [0xFFF]) h s.dev = true →
      (entState (sauEnt q i) = esSuspended →
        exec (.cmdStreamResume h) s = .next (s.commit (cmdReply 0x202 h (okA []) (d.atRoute (.stream 2 i []))))) ∧
      (entState (sauEnt q i) ≠ esSuspended → exec (.cmdStreamResume h) s = .next (s.commit (cmdReply 0x202 h (badP 0) d)))) ∧
    (takes (spec0 0x203 [0xFFF]) h s.dev = true →
      (entState (sauEnt q i) = esFree → exec (.cmdStreamRetire h) s = .next (s.commit (cmdReply 0x203 h (badP 0) d))) ∧
      (entState (sauEnt q i) ≠ esFree → (grantees d i).any (fun c => projSt d c == stEnabled) = false →
        exec (.cmdStreamRetire h) s = .next (s.commit (cmdReply 0x203 h (okA []) (d.atRoute (.stream 3 i []))))) ∧
      (entState (sauEnt q i) ≠ esFree → (grantees d i).any (fun c => projSt d c == stEnabled) = true →
        exec (.cmdStreamRetire h) s = .next (s.commit (cmdReply 0x203 h (noA cDenied) d)))) ∧
    (takes ⟨0x204, true, [0xFFF], [], noRange⟩ h s.dev = true →
      (tfind d.cars c = none → exec (.cmdStreamGrant h) s = .next (s.commit (cmdReply 0x204 h (noA cWrongMode) d))) ∧
      (∀ k, tfind d.cars c = some k → k.sv.contains i = true →
        exec (.cmdStreamGrant h) s = .next (s.commit (cmdReply 0x204 h (okA []) d))) ∧
      (∀ k, tfind d.cars c = some k → k.sv.contains i = false → k.sv.length < 64 → exec (.cmdStreamGrant h) s =
        .next (s.commit (cmdReply 0x204 h (okA []) (modCar c (fun k => { k with sv := k.sv ++ [i] }) d)))) ∧
      (∀ k, tfind d.cars c = some k → k.sv.contains i = false → 64 ≤ k.sv.length → exec (.cmdStreamGrant h) s = .next (s.commit (cmdReply 0x204 h (noA cNoResource) d)))) ∧
    (takes ⟨0x205, true, [0xFFF], [], noRange⟩ h s.dev = true →
      (projSt d c ≠ stEnabled → carSt d c ≠ stRestoring → exec (.cmdStreamRevoke h) s =
        .next (s.commit (cmdReply 0x205 h (okA []) (modCar c (fun k => { k with sv := k.sv.filter (fun x => x != i) }) d)))) ∧
      (projSt d c = stEnabled ∨ carSt d c = stRestoring → exec (.cmdStreamRevoke h) s = .next (s.commit (cmdReply 0x205 h (noA cDenied) d)))) ∧
    (takes (spec0 0x206 [0xFFF]) h s.dev = true → exec (.cmdLearnList h) s = .next (s.commit (cmdReply 0x206 h
      (okA (takePad 0xFFFFFFFF 4 ((inState d esLearned).filter (fun i => entW p 0 ≤ i)))) d)))

/-- 07 R218; 09 R268, R285, R288; 13 R414: the commits of a session take their words, their map first, run the checks of the entry's own
commit, and answer OK with the entry waiting, or the check's REASON; an admitted subscription whose slot may not be named is denied; GPUB_STATE is
the commit of the entry's own words with another STATE, but frees no entry in use whose carriage is ENABLED; PMU_CTRL sets the two enables. -/
def Obligations.CommitCommands : Prop :=
  ∀ (h : Cmd) (ent map : List Word) (s : State),
    let d := cmdAdvance h.session s.dev
    let p := cmdP h s.dev
    let i := entW p 0
    let mw := takePad 0 (entW p 5) (map.map (fun w => w.toNat))
    (takes ⟨0x207, false, [0x7FF, mAll, 0xFF, mAll, 0xFF, 0x7F], [1, 3], above 5 64⟩ h s.dev = true →
      let e := takePad 0 26 (ent.map (fun w => w.toNat))
      let d1 := writeMap gmapWrite (gsBase e) mw d
      (gsReason d1 i e = 0 → (gsState e = 0 ∨ namesSlot d (gsAuth e) (gsSlot e) fnVerifyIn .livery (cmdWho d h) = true) →
        exec (.cmdGsubCommit h ent map) s = .next (s.commit (cmdReply 0x207 h (okA []) (gsCommitW (cmdWho d h) i e d1)))) ∧
      (gsReason d1 i e = 0 → gsState e ≠ 0 → namesSlot d (gsAuth e) (gsSlot e) fnVerifyIn .livery (cmdWho d h) = false →
        exec (.cmdGsubCommit h ent map) s = .next (s.commit (cmdReply 0x207 h (noA cDenied) d))) ∧
      (gsReason d1 i e ≠ 0 → exec (.cmdGsubCommit h ent map) s =
        .next (s.commit (cmdReply 0x207 h (refA cBadParam (gsReason d1 i e) 0xFF 0) d)))) ∧
    (takes ⟨0x300, false, [0x7FF, mAll, 0xFF, mAll, 0xFF, 0x7F], [1, 3], above 5 64⟩ h s.dev = true →
      let e := takePad 0 58 (ent.map (fun w => w.toNat))
      let d1 := writeMap pmapWrite (geBase e) mw d
      (geReason d1 (cmdWho d h) i e = 0 → exec (.cmdGpubCommit h ent map) s =
        .next (s.commit (cmdReply 0x300 h (okA []) (geCommitW (cmdWho d h) i e d1)))) ∧
      (geReason d1 (cmdWho d h) i e ≠ 0 → exec (.cmdGpubCommit h ent map) s = .next (s.commit (cmdReply 0x300 h
        (refA (pubStatus (geReason d1 (cmdWho d h) i e)) (geReason d1 (cmdWho d h) i e) 0xFF 0) d)))) ∧
    (takes ⟨0x301, false, [0x7FF, 3], [], above 1 2⟩ h s.dev = true →
      let e := setNth (geCommitted d i) 0 (putFld (entW (geCommitted d i) 0) 0 2 (entW p 1))
      let used := entW p 1 = 0 ∧ geState (geCommitted d i) ≠ 0 ∧ projSt d (geCar (geCommitted d i)) = stEnabled
      (¬ used → geReason d (cmdWho d h) i e = 0 →
        exec (.cmdGpubState h) s = .next (s.commit (cmdReply 0x301 h (okA []) (geCommitW (cmdWho d h) i e d)))) ∧
      (¬ used → geReason d (cmdWho d h) i e ≠ 0 →
        exec (.cmdGpubState h) s = .next (s.commit (cmdReply 0x301 h
          (refA (pubStatus (geReason d (cmdWho d h) i e)) (geReason d (cmdWho d h) i e) 0xFF 0) d))) ∧
      (used →
        exec (.cmdGpubState h) s = .next (s.commit (cmdReply 0x301 h (badP 1) d)))) ∧
    (takes ⟨0x302, false, [0xFF, mAll, 0xFF], [1], noRange⟩ h s.dev = true →
      let e := takePad 0 35 (ent.map (fun w => w.toNat))
      (svReason d (cmdWho d h) i e = 0 → exec (.cmdSvpubCommit h ent) s =
        .next (s.commit (cmdReply 0x302 h (okA []) (svCommitW (cmdWho d h) i e d)))) ∧
      (svReason d (cmdWho d h) i e ≠ 0 → exec (.cmdSvpubCommit h ent) s = .next (s.commit (cmdReply 0x302 h
        (refA (pubStatus (svReason d (cmdWho d h) i e)) (svReason d (cmdWho d h) i e) 0xFF 0) d)))) ∧
    (takes ⟨0x303, false, [0x1F, mAll, 0xFF], [1], noRange⟩ h s.dev = true →
      let e := takePad 0 16 (ent.map (fun w => w.toNat))
      (pmuReason d e = 0 → exec (.cmdPmuCommit h ent) s = .next (s.commit (cmdReply 0x303 h (okA []) (pmuCommitW i e d)))) ∧
      (pmuReason d e ≠ 0 → exec (.cmdPmuCommit h ent) s =
        .next (s.commit (cmdReply 0x303 h (refA cBadParam (pmuReason d e) 0xFF 0) d)))) ∧
    (takes (spec0 0x304 [3]) h s.dev = true → exec (.cmdPmuCtrl h) s = .next (s.commit (cmdReply 0x304 h (okA [])
      ((d.putB Reg.pubCtrl 2 (bitOf (entW p 0) 0)).putB Reg.pubPmuCtrl 0 (bitOf (entW p 0) 1)))))

/-- 01 R18; 02 R46, R49, R51, R55, R66: TIME_SOURCE is refused to a paired module; FREE_RUN_ACCEPT is taken once; TIME_STEP steps local time in
Maintenance with no carriage enabled, and replies the step; TIME_LIMITS leaves a value whose word is 0; the role ordinary is refused while another port is boundary,
and every other role is taken with the port's four latencies; HOLDBACK waits for the route boundary once no LIVE stream breaks the multiple-ASDU rule
under it and the schedule admits every carriage. -/
def Obligations.TimeCommands : Prop :=
  ∀ (h : Cmd) (s : State),
    let d := cmdAdvance h.session s.dev
    let p := cmdP h s.dev
    (takes ⟨0x400, false, [7], [], fun p => if fld (entW p 0) 0 2 = 3 then some 0 else none⟩ h s.dev = true →
      (paired d = true → exec (.cmdTimeSource h) s = .next (s.commit (cmdReply 0x400 h (noA cDenied) d))) ∧
      (paired d = false → exec (.cmdTimeSource h) s = .next (s.commit (cmdReply 0x400 h (okA []) (writeTimCtrl (entW p 0) d))))) ∧
    (takes (spec0 0x401 []) h s.dev = true →
      (d.bitR Reg.timStatus 3 = false →
        exec (.cmdFreeRunAccept h) s = .next (s.commit (cmdReply 0x401 h (okA []) (d.setB Reg.timStatus 3)))) ∧
      (d.bitR Reg.timStatus 3 = true → exec (.cmdFreeRunAccept h) s = .next (s.commit (cmdReply 0x401 h (noA cDenied) d)))) ∧
    (takes ⟨0x402, false, [mAll, 0xFFFF, 0x3FFFFFFF], [], above 2 999999999⟩ h s.dev = true →
      let sec := entW p 0 + entW p 1 * 2 ^ 32
      (d.mode = modeMaintenance → anyEnabled d = false → exec (.cmdTimeStep h) s = .next (s.commit (cmdReply 0x402 h
        (okA [wrapN 32 (satS 32 (((sec * 1000000000 + entW p 2 : Nat) : Int) - ((d.tim.sec * 1000000000 + d.tim.ns : Nat) : Int)))])
        (stepTo sec (entW p 2) d)))) ∧
      (d.mode = modeMaintenance → anyEnabled d = true → exec (.cmdTimeStep h) s = .next (s.commit (cmdReply 0x402 h (noA cDenied) d))) ∧
      (d.mode ≠ modeMaintenance → exec (.cmdTimeStep h) s = .next (s.commit (cmdReply 0x402 h (noA cWrongMode) d)))) ∧
    (takes ⟨0x403, false, [mAll, mAll, mAll], [], limitsBad⟩ h s.dev = true →
      let a := if entW p 0 = 0 then d else d.wn Reg.timSlewMax (entW p 0)
      let b := if entW p 1 = 0 then a else a.wn Reg.timOfsWarn (entW p 1)
      exec (.cmdTimeLimits h) s = .next (s.commit (cmdReply 0x403 h (okA [])
        (if entW p 2 = 0 then b else b.wn Reg.timHoldLimit (entW p 2))))) ∧
    (takes ⟨0x404, false, [0xF, 7, mAll, mAll, mAll, mAll], [], above 0 10⟩ h s.dev = true →
      let n := entW p 0
      (fld (entW p 1) 0 2 ≠ 1 ∨ portsOfRole d n 2 = [] → exec (.cmdPortPtp h) s = .next (s.commit (cmdReply 0x404 h (okA [])
        (((((writePtpCfg n (entW p 1) d).wrLagR (Reg.timPRxLat n) (w32 (entW p 2))).wrLagR (Reg.timPTxLat n) (w32 (entW p 3))).wrLagR
          (Reg.timPRxAsym n) (w32 (entW p 4))).wrLagR (Reg.timPTxAsym n) (w32 (entW p 5)))))) ∧
      (fld (entW p 1) 0 2 = 1 → portsOfRole d n 2 ≠ [] → exec (.cmdPortPtp h) s =
        .next (s.commit (cmdReply 0x404 h (badP 1) (d.emit (.infoEvent 55)))))) ∧
    (takes ⟨0x405, false, [0xF], [], fun p => if entW p 0 = 0 then some 0 else none⟩ h s.dev = true →
      let n := entW p 0
      (d.mode ≠ modeMaintenance → exec (.cmdHoldback h) s = .next (s.commit (cmdReply 0x405 h (noA cWrongMode) d))) ∧
      (d.mode = modeMaintenance → (projStreams d).sau.entries.any (fun x => entState x.2 == esLive && asduBreaks n x.2) = true →
        exec (.cmdHoldback h) s = .next (s.commit (cmdReply 0x405 h (badP 0) d))) ∧
      (d.mode = modeMaintenance → (projStreams d).sau.entries.any (fun x => entState x.2 == esLive && asduBreaks n x.2) = false →
        allAdmitted (d.setF Reg.ttbHoldback 0 4 n) = false → exec (.cmdHoldback h) s =
          .next (s.commit (cmdReply 0x405 h (noA cScheduleFull) d))) ∧
      (d.mode = modeMaintenance → (projStreams d).sau.entries.any (fun x => entState x.2 == esLive && asduBreaks n x.2) = false →
        allAdmitted (d.setF Reg.ttbHoldback 0 4 n) = true → exec (.cmdHoldback h) s = .next (s.commit (cmdReply 0x405 h
          (okA [(d.tim.absRoute + 1) % 2 ^ 20])
          (((d.setF Reg.ttbHoldback 8 4 n).setB Reg.ttbHoldback 12).atRoute (.holdback n))))))

/-! Stageline (12). -/

/-- R355, R358, R361, R367, R368, R370, R371; 11 R345: a Waybill with a bad CRC is counted, one in another seat or astray is discarded; one that the
node accepts moves its state, is kept, and shows the channel, and one of an active module with a better claim takes this module's role; a node sends its
Waybill once a leg while it is master, is to take seat 0, or is COLD, and a master whose handover has passed is master no more; after 8 legs without one
the node goes to LISTEN; a cold start and a backup position send the first Waybill, each in its own conditions and in no others. -/
def Obligations.Waybills : Prop :=
  ∀ (s : State) (ch : Nat) (w : Waybill) (heard : Bool), s.dev.up = true → ch < 2 →
    let d := s.dev
    let n := stlN d ch
    let leg := d.tim.absLeg
    (stlOn d = false ∨ nState d ch = nOff → exec (.waybillRx ch w) s = .next (s.commit d)) ∧
    (stlOn d = true → nState d ch ≠ nOff →
      (w.crcOk = false → exec (.waybillRx ch w) s = .next (s.commit (d.bump (Reg.stlNCrcErr ch)))) ∧
      (w.crcOk = true → w.seat ≠ 0 ∨ wbAstray d ch w = true → exec (.waybillRx ch w) s = .next (s.commit d)) ∧
      (w.crcOk = true → w.seat = 0 → wbAstray d ch w = false →
        let d1 := if w.active = true ∧ w.node ≤ 1 ∧ w.node ≠ selfNode d ∧ claimWins d w.node w.term = true then termLost roleResync d else d
        let st := wbState d1 ch w
        let d2 := if nState d1 ch = nSync ∧ st = nIntegrating then d1.bump (Reg.stlNReint ch) else d1
        exec (.waybillRx ch w) s = .next (s.commit (chanSeen ch true (wbShow ch w (wbTake ch w (setNState ch st d2))))))) ∧
    (let lost := stlOn d = true ∧ 8 ≤ n.missed ∧ nIntegrating ≤ nState d ch
     (lost → exec (.waybillLoss ch) s = .next (s.commit (masterUpd (chanSeen ch false
      (setNState ch nListen (setStlN ch { n with master := false, backup := false, hand := none, takeFrom := none,
                                                 since := d.tim.absTick } d)))))) ∧
     (¬ lost → exec (.waybillLoss ch) s = .next (s.commit d))) ∧
    (let may := mayMaster d = true ∧ n.txLeg ≠ some leg
     let late := ∃ k x, n.hand = some (k, x) ∧ k < leg
     let due := n.master = true ∨ claimsSeat0 d ch = true ∨ ∃ k, n.takeFrom = some k ∧ k ≤ leg
     (¬ may → exec (.waybillTx ch) s = .next (s.commit d)) ∧
     (may → late → exec (.waybillTx ch) s = .next (s.commit (masterUpd (setStlN ch { n with master := false, hand := none } d)))) ∧
     (may → ¬ late → nState d ch ≠ nCold →
      (due → exec (.waybillTx ch) s = .next (s.commit
        (masterUpd (sendWaybill ch false 0 (setStlN ch { n with master := true, takeFrom := none } d))))) ∧
      (¬ due → exec (.waybillTx ch) s = .next (s.commit d))) ∧
     (may → ¬ late → nState d ch = nCold →
      exec (.waybillTx ch) s = .next (s.commit (masterUpd (sendWaybill ch false 0 (setStlN ch n d)))))) ∧
    (let cold := mayMaster d = true ∧ d.bitR Reg.stlCtrl 2 = true ∧ nState d ch = nListen ∧
        n.since + (if selfNode d = 0 then 32 else 64) ≤ leg * 16
     (cold → exec (.coldStartTimeout ch) s = .next (s.commit (sendWaybill ch false 0 (raise 317 none ch 0 (setNState ch nCold d))))) ∧
     (¬ cold → exec (.coldStartTimeout ch) s = .next (s.commit d))) ∧
    (let free := mayMaster d = true ∧ d.bitR Reg.stlCtrl 3 = true ∧ nState d ch = nSync ∧ heard = false ∧ n.missed ≠ 0 ∧ n.lastLeg ≠ leg ∧
        (brcRole d = roleActive ∨ brcRole d = roleStandby) ∧ n.txLeg ≠ some leg
     (∀ l k, n.last = some l → backupPos l.backup (selfNode d) = some k → free → exec (.backupWaybill ch heard) s = .next (s.commit
        (masterUpd (sendWaybill ch true (k * 2560) (setStlN ch { n with master := true, backup := true } d))))) ∧
     (∀ l, n.last = some l → backupPos l.backup (selfNode d) = none ∨ ¬ free → exec (.backupWaybill ch heard) s = .next (s.commit d)) ∧
     (n.last = none → exec (.backupWaybill ch heard) s = .next (s.commit d)))

/-- R282, R352, R355, R358, R366, R372, R375, R376, R382: a node sends in a seat it owns, its header naming the leg, and the payload is the trip seat's
image or the sender's, and in no other case; the first valid copy of a received seat is kept and acknowledged on its channel, and a bench
seat's handed on; a status frame goes out in SYNC, and a received one records version, acknowledgements, claims and, for its own echo, the loop; the master
of protocol 2 takes the releases, the seats of absent nodes and then the claims in ascending node, and drops them otherwise. -/
def Obligations.SeatsAndStatus : Prop :=
  ∀ (s : State) (ch seat prio : Nat) (payload : List Nat) (f : SeatFrame) (g : StatusFrame), s.dev.up = true → ch < 2 →
    let d := s.dev
    let n := stlN d ch
    (seat < 48 → prio < 256 →
      let can (e : Nat) := stlOn d = true ∧ nState d ch = nSync ∧ loopOk d ch = true ∧ ownsSeat d e = true ∧ stlVersion d ≤ stlVmaxOwn d
      let hdr (e len : Nat) := [3, stlVersion d, selfNode d, seat, busPos d ch % 240, if seKind e = 1 then prio else 0, len, busPos d ch / 240,
          d.rn Reg.brcTerm, b2n (d.mode == modeMaintenance) + 2 * b2n (brcRole d == roleActive)]
      (seatEntry d ch seat = none → exec (.seatTx ch seat prio payload) s = .next (s.commit d)) ∧
      (∀ e, seatEntry d ch seat = some e →
        (¬ can e → exec (.seatTx ch seat prio payload) s = .next (s.commit d)) ∧
        (can e → isTripSeat d seat = false →
          exec (.seatTx ch seat prio payload) s = .next (s.commit (d.emit (.stl ch seat (hdr e payload.length ++ payload))))) ∧
        (isTripSeat d seat = true → tripTx d = false → exec (.seatTx ch seat prio payload) s = .next (s.commit d)) ∧
        (can e → isTripSeat d seat = true → tripTx d = true →
          let d1 := d.emit (.stl ch seat (hdr e 2048 ++ tripPayload d seat))
          exec (.seatTx ch seat prio payload) s = .next (s.commit (if d1.stl.tripSent.contains seat then d1
            else { d1 with stl := { d1.stl with tripSent := seat :: d1.stl.tripSent } }))))) ∧
    (stlOn d = false ∨ nState d ch < nIntegrating →
      exec (.seatFrameRx ch f) s = .next (s.commit d) ∧ exec (.statusFrameRx ch g) s = .next (s.commit d)) ∧
    (stlOn d = true → nIntegrating ≤ nState d ch →
      let fit := f.version ≤ stlVmaxOwn d ∧ f.seat ≠ 0 ∧ f.seat ≤ 47 ∧ f.route * 240 + f.leg = busPos d ch
      (f.crcOk = false → exec (.seatFrameRx ch f) s = .next (s.commit (d.bump (Reg.stlNCrcErr ch)))) ∧
      (f.crcOk = true → ¬ fit → exec (.seatFrameRx ch f) s = .next (s.commit d)) ∧
      (f.crcOk = true → fit →
        let d1 := setStlN ch { n with acks := f.seat :: n.acks.filter (fun s => s != f.seat) } d
        (d1.stl.got.contains f.seat = true → exec (.seatFrameRx ch f) s = .next (s.commit d1)) ∧
        (d1.stl.got.contains f.seat = false →
          let d2 := { d1 with stl := { d1.stl with rx := tput d1.stl.rx f.seat f.payload, got := f.seat :: d1.stl.got,
                                                   fresh := f.seat :: d1.stl.fresh.filter (fun s => s != f.seat) } }
          (seatEntry d2 ch f.seat = none → exec (.seatFrameRx ch f) s = .next (s.commit d2)) ∧
          (∀ e, seatEntry d2 ch f.seat = some e → exec (.seatFrameRx ch f) s = .next (s.commit
            (if seKind e = 1 then d2.emit (.note 373 (f.node :: f.prio :: f.payload)) else d2)))))) ∧
    (stlOn d = true → nState d ch = nSync → exec (.statusFrameTx ch) s = .next (s.commit (d.emit (.stl ch 48 [4, selfNode d,
      nSync + 8 * b2n (loopOk d ch) + 16 * brcRole d + 128 * b2n (asksMaster d ch), stlVmaxOwn d, 0, 0, 0, ackBits n,
      d.rn Reg.brcTerm])))) ∧
    (stlOn d = false ∨ nState d ch ≠ nSync → exec (.statusFrameTx ch) s = .next (s.commit d)) ∧
    (stlOn d = true → nIntegrating ≤ nState d ch →
      (g.crcOk = false → exec (.statusFrameRx ch g) s = .next (s.commit (d.bump (Reg.stlNCrcErr ch)))) ∧
      (g.crcOk = true →
        let d1 := if g.node = selfNode d then
            (d.wn (Reg.stlNLoop ch) (wrapN 32 ((d.rn (Reg.stlNLoop ch) : Int) + g.arrival * 1000))).putB (Reg.stlNStatus ch) 3 (g.arrival.natAbs ≤ 20)
          else d
        let q := (g.claimOp, g.node, g.claimIdx)
        let d2 := { d1 with stl := { d1.stl with
          vmax := tput d1.stl.vmax g.node (g.vmax, d1.tim.absRoute), heard := tput d1.stl.heard g.node d1.tim.absLeg,
          acked := d1.stl.acked ++ g.acks.map (fun s => (s, g.node)),
          claimQ := if g.claimOp = 0 ∨ d1.stl.claimQ.contains q = true then d1.stl.claimQ else d1.stl.claimQ ++ [q] } }
        let m := stlN d2 ch
        let asks := g.masterReq = true ∧ m.master = true ∧ g.node ≠ selfNode d2 ∧ m.hand = none
        (asks → exec (.statusFrameRx ch g) s = .next (s.commit (setStlN ch { m with hand := some (d2.tim.absLeg + 1, g.node) } d2))) ∧
        (¬ asks → exec (.statusFrameRx ch g) s = .next (s.commit d2)))) ∧
    (let d1 := { d with stl := { d.stl with claimQ := [] } }
     let rules := ((stlN d1 0).master = true ∨ (stlN d1 1).master = true) ∧ stlVersion d1 = 2
     (¬ rules → exec .claimProcess s = .next (s.commit d1)) ∧
     (rules →
       let last := d1.tim.absLeg % 240 = 239 ∧ d1.bitR Reg.stlTblCtrl 0 = true ∧ (d1.tim.absRoute + 1) % 2 ^ 20 = d1.fldR Reg.stlTblCtrl 8 20
       let d2 := (d.stl.claimQ.filter (fun x => x.1 == 2)).foldl (fun d x => claimRelease x.2.1 x.2.2 d) d1
       let gone (d : Dev) (n : Nat) : Bool := n != 31 && tget 0 d2.stl.heard n + 8 ≤ d2.tim.absLeg
       let d3 := (tkeys d2.stl.owners).foldl (fun d i => if gone d (ownerNext d i) then claimRelease (ownerNext d i) i d else d) d2
       exec .claimProcess s = .next (s.commit ((isort (fun a b : Nat × Nat × Nat => a.2.1 ≤ b.2.1) (d.stl.claimQ.filter (fun x => x.1 == 1))).foldl
         (fun d x => claimTake (if last then nextTable d1 else ownTable d1) x.2.1 x.2.2 d) d3))))

/-- R365, R369, R370, R373, R378 to R381; 19 R581: a port that is not UP, or not enabled, neither forwards nor violates; in RUN noise is a violation of
cause 1, and a Waybill, a data frame or a status frame with the lowest cause that holds is a violation of it, and with none is forwarded unless one that stands above
it contends; in COLD the lowest COLD_PORTS source alone is forwarded, and nothing violates. After 8 legs without a Waybill the Guard is COLD. A port comes UP from
OFF alone and goes OFF from any state; a port of an ACTIVE takes no node-reset order, and re-admission waits for the next leg. -/
def Obligations.GuardForwards : Prop :=
  ∀ (s : State) (p slot : Nat) (off : Int) (inTime : Bool) (f : SeatFrame) (g : StatusFrame) (w : Waybill) (part : GuardPart)
    (rivals : List (Nat × GuardPart)), s.dev.up = true → p < 30 →
    let d := s.dev
    let on := portSt d p = 1 ∧ d.bitR (Reg.stlGPcfg p) 0 = true
    let wbs := rivals.filterMap (fun r => match r.2 with | .waybill x => some (r.1, x) | _ => none)
    (¬ on ∨ gState d = gOff → exec (.guardFrame p slot off inTime part rivals) s = .next (s.commit d)) ∧
    (on → gState d = gRun →
      exec (.guardFrame p slot off inTime .babble rivals) s = .next (s.commit (guardViol p 1 d)) ∧
      (let cls := seat0Class d p w
       let own := match cls with | some c => c.1 == 2 | none => false
       let cause := firstCause [(slot ≠ 0 || (cls.isNone && 1 < p), 1), (!inTime, 2), (w.node != p, 3),
        (w.seat != 0 || (!own && w.leg != guardLeg d), 4), (!own && 40 < off.natAbs, 5), (cls.isNone, 7)]
       (∀ c, cause = some c → exec (.guardFrame p slot off inTime (.waybill w) rivals) s = .next (s.commit (guardViol p c d))) ∧
       (∀ c, cause = none → cls = some c →
         let beaten := d.stl.guard.fwdLeg = d.tim.absLeg ∨ wbs.any (fun r => match seat0Class d r.1 r.2 with
          | some k => stands (k.1, k.2, r.1) (c.1, c.2, p)
          | none => false) = true
         (beaten → exec (.guardFrame p slot off inTime (.waybill w) rivals) s = .next (s.commit d)) ∧
         (¬ beaten → exec (.guardFrame p slot off inTime (.waybill w) rivals) s = .next (s.commit (guardForward w d))))) ∧
      (∀ e, d.stl.guard.table.find? (fun e => seApplies e (guardLeg d) slot (selfNode d)) = some e →
        let mine := seKind e = 1 ∨ (seKind e = 0 ∧ seOwner e = p) ∨ (seKind e = 2 ∧ seOwner e = p ∧ stlVersion d = 2)
        let refused := p ≤ 1 ∧ seKind e = 0 ∧ ∃ r, roleSaid d p = some r ∧ r ≠ roleActive ∧ r ≠ roleStandby
        let cause := firstCause [(decide (¬ mine), 1), (!inTime, 2), (f.node != p, 3), (f.seat != slot || f.leg != guardLeg d, 4),
          (40 < off.natAbs, 5), (seKind e == 1 && f.prio < d.fldR (Reg.stlGPcfg p) 8 8, 6)]
        (∀ c, cause = some c → exec (.guardFrame p slot off inTime (.data f) rivals) s = .next (s.commit (guardViol p c d))) ∧
        (cause = none → refused → exec (.guardFrame p slot off inTime (.data f) rivals) s = .next (s.commit (guardViol p 7 d))) ∧
        (cause = none → ¬ refused →
          let beaten := seKind e = 1 ∧ ∃ q h, (q, GuardPart.data h) ∈ rivals ∧ d.fldR (Reg.stlGPcfg q) 8 8 ≤ h.prio ∧
            (h.prio < f.prio ∨ (h.prio = f.prio ∧ h.node < f.node))
          (beaten → exec (.guardFrame p slot off inTime (.data f) rivals) s = .next (s.commit d)) ∧
          (¬ beaten → exec (.guardFrame p slot off inTime (.data f) rivals) s =
            .next (s.commit (d.emit (.stl (selfNode d) slot (fwdSeat f))))))) ∧
      (d.stl.guard.table.find? (fun e => seApplies e (guardLeg d) slot (selfNode d)) = none →
        exec (.guardFrame p slot off inTime (.data f) rivals) s = .next (s.commit (guardViol p 1 d))) ∧
      (let cause := firstCause [(slot != 48 + p, 1), (!inTime, 2), (g.node != p, 3), (100 < off.natAbs, 5)]
       (∀ c, cause = some c → exec (.guardFrame p slot off inTime (.status g) rivals) s = .next (s.commit (guardViol p c d))) ∧
       (cause = none →
         let d1 := ((d.setF (Reg.stlGPstat p) 8 4 g.vmax).setF (Reg.stlGPstat p) 12 3 g.state).putB (Reg.stlGPstat p) 15 g.loopOk
         let d2 := modGuard (fun x => { x with roles := tput x.roles p (d1.tim.absLeg, g.role) }) d1
         exec (.guardFrame p slot off inTime (.status g) rivals) s =
           .next (s.commit (d2.emit (.stl (selfNode d2) (48 + p) (fwdStatus g (clampMag 127 off)))))))) ∧
    (on → gState d = gCold →
      let first := bitOf (d.rn Reg.stlColdPorts) p = true ∧ inTime = true ∧ ∀ r ∈ wbs, r.1 < p → bitOf (d.rn Reg.stlColdPorts) r.1 = false
      (first → exec (.guardFrame p slot off inTime (.waybill w) rivals) s = .next (s.commit (guardForward w d))) ∧
      (¬ first → exec (.guardFrame p slot off inTime (.waybill w) rivals) s = .next (s.commit d)) ∧
      exec (.guardFrame p slot off inTime .babble rivals) s = .next (s.commit d) ∧
      exec (.guardFrame p slot off inTime (.data f) rivals) s = .next (s.commit d) ∧
      exec (.guardFrame p slot off inTime (.status g) rivals) s = .next (s.commit d)) ∧
    (let dark := gState d = gRun ∧ d.stl.guard.fwdLeg + 8 ≤ d.tim.absLeg
     (dark → exec .guardColdEntry s =
      .next (s.commit (modGuard (fun g => { g with fwd := none }) (d.setF Reg.stlStatus 0 2 gCold)))) ∧
     (¬ dark → exec .guardColdEntry s = .next (s.commit d))) ∧
    (portSt d p = 0 → exec (.guardPortUp p) s = .next (s.commit (d.setF (Reg.stlGPstat p) 0 2 1))) ∧
    (portSt d p ≠ 0 → exec (.guardPortUp p) s = .next (s.commit d)) ∧
    exec (.guardPortDown p) s = .next (s.commit (d.setF (Reg.stlGPstat p) 0 2 0)) ∧
    exec (.guardReadmit p) s = .next (s.commit (modGuard (fun g => { g with readmit := g.readmit ++ [p] }) d)) ∧
    (let active := p ≤ 1 ∧ ∃ l, tfind d.stl.guard.roles p = some (l, roleActive)
     (active → exec (.guardNodeReset p) s = .next (s.commit (d.emit (.infoEvent 381)))) ∧
     (¬ active → exec (.guardNodeReset p) s = .next (s.commit (modGuard (fun g => { g with orders := g.orders ++ [p] }) d))))

/-- R363, R371, R380, R381, R383, R386, R387; 09 R284; 13 R419; 00_scope R587: an entry of the bank in force is not written; a switch that every check passes is
announced for its route, and another is refused with REASON and INDEX; a due sync event latches source 327, and one that is disabled or not due does nothing. The
session's commands load the other bank and answer the first check that fails; STL_READMIT and STL_NODE_RESET act on the Guard of this module's channel, and go to
the partner for its own, which needs one. -/
def Obligations.StagelineTables : Prop :=
  ∀ (h : Cmd) (data : List Word) (s : State) (b i k r : Nat) (v : Word),
    (s.dev.up = true →
      (b < 2 → i < 488 → b = stlBank s.dev → exec (.stlTableEntryWrite b i v) s = .next (s.commit (s.dev.emit (.infoEvent 387)))) ∧
      (b < 2 → i < 488 → b ≠ stlBank s.dev → exec (.stlTableEntryWrite b i v) s = .next (s.commit (s.dev.wr (Reg.stlTblEntry b i) v))) ∧
      (r < 2 ^ 20 → (tblReason s.dev (nextTable s.dev) r).1 = 0 → exec (.stlTableSwapRequest r) s = .next (s.commit
        ((((s.dev.wn Reg.stlTblStatus 0).setF Reg.stlTblCtrl 8 20 r).setB Reg.stlTblCtrl 0).setB Reg.stlStatus 31))) ∧
      (r < 2 ^ 20 → (tblReason s.dev (nextTable s.dev) r).1 ≠ 0 → exec (.stlTableSwapRequest r) s = .next (s.commit
        ((s.dev.wn Reg.stlTblStatus (1 + (tblReason s.dev (nextTable s.dev) r).1 * 16 +
          (tblReason s.dev (nextTable s.dev) r).2 * 65536)).emit (.infoEvent 363)))) ∧
      exec .imapSwapRequest s = .next (s.commit (s.dev.setB Reg.stlImapCtrl 0)) ∧
      (k < 16 →
        let due := bitOf (s.dev.rn (Reg.stlSyncCfg k)) 31 = true ∧ (fld (s.dev.rn (Reg.stlSyncCfg k)) 0 8 = 255 ∨
          fld (s.dev.rn (Reg.stlSyncCfg k)) 0 8 = s.dev.tim.absLeg % 240)
        (due → exec (.syncEvent k) s = .next (s.commit (raise 327 none k 0 (s.dev.setB Reg.stlSyncEvt k)))) ∧
        (¬ due → exec (.syncEvent k) s = .next (s.commit s.dev)))) ∧
    (let d := cmdAdvance h.session s.dev
     let p := cmdP h s.dev
     let ws := data.map (fun w => w.toNat)
     (takes ⟨0x305, false, [0, mAll, 0xFF, 0x1FFF], [1], above 3 4096⟩ h s.dev = true →
       let t := 1 - tsBank d
       let d1 := mapClear (Reg.pubTsmapW0 t) (entW p 3)
         (writeRegs (fun i => Reg.pubTsmapW0 t 0 + 4 * i) 0 (takePad 0 (2 * entW p 3) ws) d)
       ((tsReason d1 t (exclSeat d1)).1 = 0 → exec (.cmdTripmap h data) s =
         .next (s.commit (cmdReply 0x305 h (okA []) (d1.setB Reg.pubTsmapCtrl 0)))) ∧
       ((tsReason d1 t (exclSeat d1)).1 ≠ 0 → exec (.cmdTripmap h data) s = .next (s.commit (cmdReply 0x305 h
         (refA cBadParam (tsReason d1 t (exclSeat d1)).1 0xFF (tsReason d1 t (exclSeat d1)).2) d)))) ∧
     (takes ⟨0x800, false, [0xFFFFF, mAll, 0xFF, 0x1FF], [1], noRange⟩ h s.dev = true →
       let t := takePad 0 (entW p 3) ws
       let d0 := writeRegs (Reg.stlTblEntry (1 - stlBank d)) 0 (t.take 488) d
       let d1 := if entW p 3 ≤ 488 then d0.setF Reg.stlTblCount 0 9 (entW p 3) else d0
       let x := tblReason d1 t (entW p 0)
       (x.1 = 0 → exec (.cmdStlTable h data) s = .next (s.commit (cmdReply 0x800 h (okA [])
         ((((d1.wn Reg.stlTblStatus 0).setF Reg.stlTblCtrl 8 20 (entW p 0)).setB Reg.stlTblCtrl 0).setB Reg.stlStatus 31)))) ∧
       (x.1 ≠ 0 → exec (.cmdStlTable h data) s = .next (s.commit (cmdReply 0x800 h (refA cBadParam x.1 (if x.1 = 4 then 3 else 0xFF) x.2)
         ((d1.wn Reg.stlTblStatus (1 + x.1 * 16 + x.2 * 65536)).emit (.infoEvent 363)))))) ∧
     (takes ⟨0x801, false, [0, mAll, 0xFF, 0x1FFF], [1], above 3 4096⟩ h s.dev = true →
       let t := 1 - imBank d
       let d1 := mapClear (Reg.stlImapW0 t) (entW p 3)
         (writeRegs (fun i => Reg.stlImapW0 t 0 + 4 * i) 0 (takePad 0 (2 * entW p 3) ws) d)
       ((imReason d1 t).1 = 0 → exec (.cmdStlImap h data) s =
         .next (s.commit (cmdReply 0x801 h (okA []) (d1.setB Reg.stlImapCtrl 0)))) ∧
       ((imReason d1 t).1 ≠ 0 → exec (.cmdStlImap h data) s =
         .next (s.commit (cmdReply 0x801 h (refA cBadParam (imReason d1 t).1 0xFF (imReason d1 t).2) d)))) ∧
     (takes ⟨0x802, false, [0x1F1F1F1F], [], backupBad⟩ h s.dev = true →
       exec (.cmdStlBackupSet h) s = .next (s.commit (cmdReply 0x802 h (okA []) (d.wn Reg.stlBackup (entW p 0))))) ∧
     (takes ⟨0x803, false, [0x1F, 3], [], portRange⟩ h s.dev = true →
       let d1 := if bitOf (entW p 1) (selfNode d) = true then askReadmit (entW p 0) d else d
       (bitOf (entW p 1) (1 - selfNode d) = false → exec (.cmdStlReadmit h) s = .next (s.commit (cmdReply 0x803 h (okA []) d1))) ∧
       (bitOf (entW p 1) (1 - selfNode d) = true → paired d1 = true →
         exec (.cmdStlReadmit h) s = .next (s.commit (cmdReply 0x803 h (okA []) (d1.braceMsg 14 [0, entW p 0])))) ∧
       (bitOf (entW p 1) (1 - selfNode d) = true → paired d1 = false →
         exec (.cmdStlReadmit h) s = .next (s.commit (cmdReply 0x803 h (noA cNotReady) d1)))) ∧
     (takes ⟨0x804, false, [0x1F, 3], [], portRange⟩ h s.dev = true →
       let no := bitOf (entW p 1) (selfNode d) = true ∧ orderRefused d (entW p 0) = true
       let d1 := if bitOf (entW p 1) (selfNode d) = true ∧ orderRefused d (entW p 0) = false then askOrder (entW p 0) d else d
       let a := if no then noA cDenied else okA []
       (bitOf (entW p 1) (1 - selfNode d) = false → exec (.cmdStlNodeReset h) s = .next (s.commit (cmdReply 0x804 h a d1))) ∧
       (bitOf (entW p 1) (1 - selfNode d) = true → paired d1 = true →
         exec (.cmdStlNodeReset h) s = .next (s.commit (cmdReply 0x804 h a (d1.braceMsg 14 [1, entW p 0])))) ∧
       (bitOf (entW p 1) (1 - selfNode d) = true → paired d1 = false →
         exec (.cmdStlNodeReset h) s = .next (s.commit (cmdReply 0x804 h (if no then noA cDenied else noA cNotReady) d1)))))

/-! The Brace pair (11). -/

/-- R321, R323, R324; 18 R554, R555: a link that trains with a partner of the same major version is UP with its lanes and ends ORPHAN, and another version is not paired;
a lane over its limit, or without block lock, is retired once, the spare in its place after retraining, and without a spare the link runs on with two lanes or more;
a link that goes down latches source 298. Two legs without a message lose the partner, and a STANDBY is then ORPHAN; ORPHAN ends in RESYNC. Before its time each has
no effect. -/
def Obligations.BraceLinks : Prop :=
  ∀ (s : State) (l v lane errs : Nat) (lost : Bool), s.dev.up = true → l < 2 →
    let d := s.dev
    let d1 := (setLink l true d).setF (Reg.brcLStatus l) 1 3 (5 - (tget [] d.brc.lanes l).length)
    let d2 := { d1 with brc := { d1.brc with badVer := false } }
    (brcOn d = true → v / 65536 = d1.rn Reg.brcVersion / 65536 →
      exec (.braceLinkTraining l v) s = .next (s.commit (if orphan d2 = true then enterResync d2 else d2))) ∧
    (brcOn d = true → v / 65536 ≠ d1.rn Reg.brcVersion / 65536 → exec (.braceLinkTraining l v) s =
      .next (s.commit (raise 307 none l v ({ d1 with brc := { d1.brc with badVer := true } }.clrB Reg.brcStatus 3)))) ∧
    (brcOn d = false → exec (.braceLinkTraining l v) s = .next (s.commit d)) ∧
    (let d2 := d.bumpBy (Reg.brcLErr l) errs
     let gone := tget [] d2.brc.lanes l
     let d3 := retiredEvent 4 (l * 5 + lane) (raise 299 none l lane
       ({ d2 with brc := { d2.brc with lanes := tput d2.brc.lanes l (lane :: gone) } }.setF (Reg.brcLStatus l) 1 3 (4 - gone.length)))
     let bad := gone.contains lane = false ∧ (lost = true ∨ d2.fldR (Reg.brcLErrLim l) 0 16 < errs)
     let spare := spareLane d3 l ≠ 7 ∧ tfind d3.brc.retrain l = none
     lane < 5 →
      (¬ bad → exec (.braceLaneRetire l lane errs lost) s = .next (s.commit d2)) ∧
      (bad → spareLane d3 l = lane → exec (.braceLaneRetire l lane errs lost) s =
        .next (s.commit (d3.setF (Reg.brcLLanemap l) 12 3 7))) ∧
      (bad → spareLane d3 l ≠ lane → spare → exec (.braceLaneRetire l lane errs lost) s =
        .next (s.commit { d3 with brc := { d3.brc with retrain := tput d3.brc.retrain l lane } })) ∧
      (bad → spareLane d3 l ≠ lane → ¬ spare → exec (.braceLaneRetire l lane errs lost) s =
        .next (s.commit (if 4 - gone.length < 2 then linkGone l (raise 395 none 4 l d3) else raise 395 none 4 l d3)))) ∧
    (tfind d.brc.retrain l = some lane → d.bitR (Reg.brcLStatus l) 5 = true →
      let d2 := [0, 1, 2, 3].foldl (fun x i => if fld (d.rn (Reg.brcLLanemap l)) (3 * i) 3 = lane then
        x.setF (Reg.brcLLanemap l) (3 * i) 3 (spareLane d l) else x) d
      let d3 := { d2 with brc := { d2.brc with retrain := tdel d2.brc.retrain l } }.setF (Reg.brcLLanemap l) 12 3 7
      let d4 := ((setLink l true d3).clrB (Reg.brcLStatus l) 5).setB (Reg.brcLStatus l) 4
      exec (.braceRetrainDone l) s = .next (s.commit (orphanReturn (spareLow 4
        (raise 393 none 4 (l * 5 + lane) (d4.wn (Reg.rprKSpares 4) (d4.rn (Reg.rprKSpares 4) - 1))))))) ∧
    (tfind d.brc.retrain l = none ∨ d.bitR (Reg.brcLStatus l) 5 = false → exec (.braceRetrainDone l) s = .next (s.commit d)) ∧
    (brcLinkUp d l = true → exec (.braceLinkDown l) s = .next (s.commit (raise 298 none l 0 (setLink l false d)))) ∧
    (brcLinkUp d l = false → exec (.braceLinkDown l) s = .next (s.commit d)) ∧
    (∀ t, d.brc.lastMsg = some t → brcOn d = true → t + 32 ≤ d.tim.absTick →
      let d2 := raise 297 none 0 0 (d.clrB Reg.brcStatus 3)
      let d3 := { d2 with brc := { d2.brc with lastMsg := none } }
      (brcRole d3 ≠ roleStandby → exec .partnerLost s = .next (s.commit d3)) ∧
      (brcRole d3 = roleStandby → exec .partnerLost s =
        .next (s.commit ({ d3 with brc := { d3.brc with orphanAt := some d3.tim.absTick } }.setB Reg.brcStatus 9)))) ∧
    (d.brc.lastMsg = none ∨ brcOn d = false ∨ (∃ t, d.brc.lastMsg = some t ∧ d.tim.absTick < t + 32) →
      exec .partnerLost s = .next (s.commit d)) ∧
    (let ends := ∃ t, d.brc.orphanAt = some t ∧ orphan d = true ∧ t + d.fldR Reg.brcLtnTimeout 0 10 + 32 ≤ d.tim.absTick
     (ends → exec .orphanTimeout s = .next (s.commit (enterResync d))) ∧
     (¬ ends → exec .orphanTimeout s = .next (s.commit d)))

/-- R322, R326, R328, R330 to R340, R342, R346, R347, R349; 04 R131; 09 R280: a message on a link that is not up has no effect, one with a bad CRC, or that has been taken, is counted
and does nothing else, one of this module's own unit is a clash, and one of a version that does not pair is noted; one that is heard
acts on a STANDBY or a module in RESYNC by its kind, and on no other: samples and the declaration record of a leg, P2 completions, the mirror of publication, trip
seats, digests and the journal; the images act in RESYNC while a transfer runs; FAIL triggers a switch-over. -/
def Obligations.BraceMessages : Prop :=
  ∀ (s : State) (h : BrcHdr) (cells : List MirrorCell) (leg n c : Nat) (models : List ModelRec) (items : List (Nat × Nat × Nat))
      (entries : List PubMirror) (seats : List (Nat × List Nat)) (digests : List Nat) (e : JEntry) (st : PeerStat) (img : CarImage)
      (conf : ConfImage) (r : FwdReq),
    (∀ m, brcRow m = some h → s.dev.up = true →
      (brcOn s.dev = false ∨ 2 ≤ h.link ∨ brcLinkUp s.dev h.link = false → exec m s = .next (s.commit s.dev)) ∧
      (brcOn s.dev = true → h.link < 2 → brcLinkUp s.dev h.link = true →
        (h.crcOk = false → exec m s = .next (s.commit (s.dev.bump (Reg.brcLCrcErr h.link)))) ∧
        (h.crcOk = true → s.dev.brc.seq.contains h.seq = true → exec m s = .next (s.commit (s.dev.bump (Reg.brcLDup h.link)))) ∧
        (h.crcOk = true → s.dev.brc.seq.contains h.seq = false → h.unit = selfNode s.dev →
          exec m s = .next (s.commit (unitClash h (seqNoted h s.dev)))) ∧
        (h.crcOk = true → s.dev.brc.seq.contains h.seq = false → h.unit ≠ selfNode s.dev → s.dev.brc.badVer = true →
          exec m s = .next (s.commit (seqNoted h s.dev))))) ∧
    (s.dev.up = true → ∀ k, isShadow s.dev = true → nextDeclare s.dev = some k →
      let mine := s.dev.brc.check.filter (fun p => p.2.leg == k)
      let kept := s.dev.sau.store.filter (fun p => p.2.leg != k)
      let own := lateMerge (s.dev.sau.store.filter (fun p => p.2.leg == k)) (mine.foldl (fun t p => tput t p.1 p.2) kept)
      let d1 := { s.dev with sau := { s.dev.sau with store := own } }
      let d2 := raise 301 none k 0 ((shadowDeclare k d1).bump Reg.brcUnmirroredCnt)
      (orphan d2 = true → exec .unmirroredLeg s = .next (s.commit d2)) ∧
      (orphan d2 = false → brcRole d2 = roleStandby → exec .unmirroredLeg s = .next (s.commit (proofLost d2))) ∧
      (orphan d2 = false → brcRole d2 ≠ roleStandby →
        exec .unmirroredLeg s = .next (s.commit { d2 with brc := { d2.brc with okLegs := 0 } }))) ∧
    (s.dev.up = true → isShadow s.dev = false ∨ nextDeclare s.dev = none → exec .unmirroredLeg s = .next (s.commit s.dev)) ∧
    (heard h s.dev = true →
      let d := afterHdr h s.dev
      exec (.failMessage h) s = .next (s.commit (takeTrigger 1 d)) ∧
      exec (.braceStatus h st) s = .next (s.commit (statusMsg h s.dev.brc.peer st d)) ∧
      (isShadow d = false →
        exec (.mirrorCells h cells) s = .next (s.commit d) ∧ exec (.declarationRecord h leg n models) s = .next (s.commit d) ∧
        exec (.p2CompletionList h items) s = .next (s.commit d) ∧ exec (.publicationMirror h leg entries) s = .next (s.commit d) ∧
        exec (.tripSeatImages h seats) s = .next (s.commit d) ∧ exec (.digestTable h leg digests) s = .next (s.commit d) ∧
        exec (.configJournal h e) s = .next (s.commit d)) ∧
      (isShadow d = true →
        exec (.mirrorCells h cells) s = .next (s.commit (mirrorTry (cells.foldl (fun d c => mirrorCell c d) d))) ∧
        exec (.declarationRecord h leg n models) s = .next (s.commit (mirrorTry { d with brc := { d.brc with
          decl := some (leg, n), models := models.foldl (fun t m => tput t m.entry m) [] } })) ∧
        exec (.p2CompletionList h items) s = .next (s.commit { d with brc := { d.brc with
          p2 := d.brc.p2 ++ items.filter (fun i => !d.brc.p2.contains i) } }) ∧
        (d.brc.handed = some leg → exec (.publicationMirror h leg entries) s = .next (s.commit (adoptMirror entries d))) ∧
        (d.brc.handed ≠ some leg → exec (.publicationMirror h leg entries) s =
          .next (s.commit { d with brc := { d.brc with mirror := some (leg, entries) } })) ∧
        exec (.tripSeatImages h seats) s = .next (s.commit { d with brc := { d.brc with
          trips := seats.foldl (fun t p => tput t p.1 p.2) d.brc.trips } }) ∧
        (∀ mine, d.brc.own = some (leg, mine) → orphan d = false →
          (firstDiff 0 mine (takePad 0 512 digests) = none → exec (.digestTable h leg digests) s =
            .next (s.commit ({ d with brc := { d.brc with okLegs := d.brc.okLegs + 1 } }.bump Reg.brcMatchRun))) ∧
          (∀ k, firstDiff 0 mine (takePad 0 512 digests) = some k →
            let d1 := raise 300 none k leg (((d.wn Reg.brcMismatchInfo (k + leg % 65536 * 65536)).bump Reg.brcMismatchCnt).wn Reg.brcMatchRun 0)
            exec (.digestTable h leg digests) s = .next (s.commit
              (if brcRole d1 = roleStandby then proofLost d1 else { d1 with brc := { d1.brc with okLegs := 0 } })))) ∧
        ((∀ mine, d.brc.own ≠ some (leg, mine)) ∨ orphan d = true → exec (.digestTable h leg digests) s = .next (s.commit d)) ∧
        (∀ kind i w, e = .words kind i w → exec (.configJournal h e) s = .next (s.commit (journalWords kind i w d))) ∧
        (∀ op x data map im, e = .cmd op x data map im →
          exec (.configJournal h e) s = .next (s.commit (journalCmd op x data map im d)))) ∧
      (let xfer := brcRole d = roleResync ∧ d.bitR Reg.brcXferStatus 29 = true
       (¬ xfer → exec (.configurationImage h conf) s = .next (s.commit d)) ∧
       (xfer → exec (.configurationImage h conf) s =
          .next (s.commit ({ d with brc := { d.brc with conf := some conf } }.setF Reg.brcXferStatus 16 10 conf.cars.length))) ∧
       (c < 512 →
        let slot := d.fldR Reg.brcXferSlot 0 8
        let a := slotUse slot fnImage [3] (.carriage c) false (if img.slotBad = true then slotGoesBad slot d else d)
        let good := a.1 = true ∧ img.tagOk = true ∧ img.slot = slot ∧ imageFits a.2 c img = true
        let d1 := restoreNow c 0 (a.2.tim.absRoute + 1) { img with partner := true } a.2
        let d2 := { d1 with brc := { d1.brc with imgGen := tput d1.brc.imgGen c img.gen } }
        let k := d2.fldR Reg.brcXferStatus 0 10 + b2n (tfind a.2.brc.imgGen c).isNone
        let d3 := d2.setF Reg.brcXferStatus 0 10 k
        (¬ xfer ∨ tfind d.cars c = none → exec (.carriageImageArrival h c img) s = .next (s.commit d)) ∧
        (xfer → tfind d.cars c ≠ none → ¬ good → exec (.carriageImageArrival h c img) s =
          .next (s.commit (transferEnds cDenied [] ((a.2.setB Reg.brcXferStatus 30).emit (.infoEvent 339))))) ∧
        (xfer → tfind d.cars c ≠ none → good → exec (.carriageImageArrival h c img) s = .next (s.commit
          (if d3.fldR Reg.brcXferStatus 16 10 ≤ k then transferEnds cOk [k] { d3 with brc := { d3.brc with xferDone := true } } else d3))))) ∧
      (∀ b cause, brcRole d = roleStandby →
        exec (.forwardedRequest h (.agree b cause)) s = .next (s.commit { d with brc := { d.brc with switchAt := some (b, cause) } })) ∧
      (∀ b cause, brcRole d = roleResync → exec (.forwardedRequest h (.agree b cause)) s = .next (s.commit (raise 305 none cause 0 d))) ∧
      (∀ b cause, brcRole d ≠ roleStandby → brcRole d ≠ roleResync → exec (.forwardedRequest h (.agree b cause)) s = .next (s.commit d)) ∧
      (∀ b len ret, brcRole d = roleStandby → exec (.forwardedRequest h (.proof b len ret)) s = .next (s.commit { d with brc :=
        { d.brc with proof := some ⟨b, len, ret, false, false, 0, 0⟩, switchAt := some (b * 240, 5) } })) ∧
      (∀ b len ret, brcRole d ≠ roleStandby → exec (.forwardedRequest h (.proof b len ret)) s = .next (s.commit d)) ∧
      exec (.forwardedRequest h .switchCmd) s = .next (s.commit (switchBody d).1) ∧
      exec (.forwardedRequest h .transfer) s = .next (s.commit (transferAsked d)) ∧
      (∀ p, p < 30 → exec (.forwardedRequest h (.readmit p)) s = .next (s.commit (askReadmit p d)) ∧
        (orderRefused d p = false → exec (.forwardedRequest h (.nodeReset p)) s = .next (s.commit (askOrder p d))) ∧
        (orderRefused d p = true → exec (.forwardedRequest h (.nodeReset p)) s = .next (s.commit d))) ∧
      (∀ w, (∃ p, d.brc.proof = some p ∧ p.begun = true ∧ p.mine = true) →
        exec (.forwardedRequest h (.proofResult w)) s = .next (s.commit (proofOver w d))) ∧
      (∀ w, (∀ p, d.brc.proof = some p → p.begun = true → p.mine = false) →
        exec (.forwardedRequest h (.proofResult w)) s = .next (s.commit d)) ∧
      exec (.forwardedRequest h r) s = .next (s.commit (forwarded r d)))

/-- R326 to R328, R338, R340, R342 to R349; 13 R418: an edge of the partner's Lantern restarts its count, whose end triggers; a STANDBY that took a
trigger in an earlier tick becomes ACTIVE, and in another role it is refused; the pair wait ends in ACTIVE; a fence flushes the trip classes;
a planned switch-over acts after the hand-off of the leg before it; RESYNC ends after two legs that match; a proof ends with its causes, on the module that became active (and those that the command reports seen: the model's operand, log 38).
The Brace commands set the pairing, and ask for a transfer, a switch-over or a proof, and are refused where the pair is not in the state each needs. -/
def Obligations.BraceSwitchOver : Prop :=
  ∀ (s : State) (h : Cmd) (same : Bool),
    (s.dev.up = true →
      let d := s.dev
      exec .partnerLanternEdge s = .next (s.commit ({ d with brc := { d.brc with ltn := d.tim.absTick, ltnRun := true } }.setB Reg.brcStatus 6)) ∧
      (let due := d.brc.ltnRun = true ∧ d.brc.ltn + d.fldR Reg.brcLtnTimeout 0 10 ≤ d.tim.absTick
       (due → exec .lanternTimeout s = .next (s.commit (takeTrigger 2 ({ d with brc := { d.brc with ltnRun := false } }.clrB Reg.brcStatus 6)))) ∧
       (¬ due → exec .lanternTimeout s = .next (s.commit d))) ∧
      (let due := ∃ r, d.brc.waitFrom = some r ∧ roleOpen d = true ∧ r + d.fldR Reg.brcPairWait 0 11 ≤ d.tim.absRoute ∧ paired d = false
       (due → exec .pairWaitExpiry s = .next (s.commit (becomeActive d))) ∧
       (¬ due → exec .pairWaitExpiry s = .next (s.commit d))) ∧
      (∀ n, d.sup.fence = some n → brcRole d ≠ roleFenced → exec .fence s = .next (s.commit (setBrcRole roleFenced (fenceNow n d)))) ∧
      (∀ n, d.sup.fence = some n → brcRole d = roleFenced → exec .fence s = .next (s.commit (fenceNow n d))) ∧
      (d.sup.fence = none →
        (∀ t r, d.brc.fenceDue = some (t, r) → t < d.tim.absTick →
          let d1 := fenceNow 6 { d with brc := { d.brc with fenceDue := none } }
          exec .fence s = .next (s.commit (if r = roleResync then enterResync d1 else setBrcRole r d1))) ∧
        (∀ t r, d.brc.fenceDue = some (t, r) → d.tim.absTick ≤ t → exec .fence s = .next (s.commit d)) ∧
        (d.brc.fenceDue = none → exec .fence s = .next (s.commit d))) ∧
      (∀ n, (isFenced d = true → fenceNow n d = d) ∧ (isFenced d = false → fenceNow n d =
        (List.range 11).foldl (fun d p => flushQueue p 7 (flushQueue p 6 d)) (raise 306 none n 0 (d.setB Reg.glbStatus 4)))) ∧
      (∀ cause t, d.brc.trig = some (cause, t) →
        (t < d.tim.absTick → brcRole d = roleStandby → exec .takeover s = .next (s.commit (raise 304 none cause 0 (becomeActive
          ((d.wn Reg.brcSwitchTc (tickCodeOf t)).setF Reg.brcSwitchCause 0 3 cause))))) ∧
        (t < d.tim.absTick → brcRole d ≠ roleStandby → exec .takeover s =
          .next (s.commit (raise 305 none cause 0 { d with brc := { d.brc with trig := none } }))) ∧
        (d.tim.absTick ≤ t → exec .takeover s = .next (s.commit d))) ∧
      (d.brc.trig = none → exec .takeover s = .next (s.commit d)) ∧
      (d.brc.switchAt = none → exec .plannedSwitch s = .next (s.commit d)) ∧
      (∀ b cause, d.brc.switchAt = some (b, cause) →
        let t := (b - 1) * 16 + holdFor d (b - 1) + 4
        (d.tim.absTick < t → exec .plannedSwitch s = .next (s.commit d)) ∧
        (t ≤ d.tim.absTick →
          let d1 := { d with brc := { d.brc with switchAt := none } }
          let d2 := if cause = 5 then proofBegins d1 else d1
          let d3 := (d2.cmd.jobs.filter (fun j => j.op == 0x702)).foldl (fun d j => finishJob j.ident cOk [tickCodeOf (b * 16)] d) d2
          (brcRole d3 = roleActive →
            let d4 := (d3.wn Reg.brcSwitchTc (tickCodeOf t)).setF Reg.brcSwitchCause 0 3 cause
            let d5 := { d4 with brc := { d4.brc with grace := if d4.tim.absTick / 16 = b then some b else none } }
            exec .plannedSwitch s = .next (s.commit (setSrc 2 (raise 304 none cause 0 (setBrcRole roleStandby (fenceNow cause d5)))))) ∧
          (brcRole d3 ≠ roleActive → exec .plannedSwitch s = .next (s.commit (takeTrigger cause d3))))) ∧
      (brcRole d ≠ roleResync → exec (.resyncComplete same) s = .next (s.commit d)) ∧
      (brcRole d = roleResync → resyncReady d = false ∨ same = false →
        exec (.resyncComplete same) s = .next (s.commit { d with brc := { d.brc with okLegs := 0 } })) ∧
      (brcRole d = roleResync → resyncReady d = true → same = true →
        (d.brc.okLegs < 2 → exec (.resyncComplete same) s = .next (s.commit d)) ∧
        (2 ≤ d.brc.okLegs → exec (.resyncComplete same) s = .next (s.commit (raise 303 none 0 0 (setBrcRole roleStandby d))))) ∧
      (∀ seen, seen < 32 → d.brc.proof = none → exec (.proofExchangeEnd seen) s = .next (s.commit d)) ∧
      (∀ p seen, seen < 32 → d.brc.proof = some p →
        let causes := proofCauses p d ||| seen
        let left := d.fldR Reg.brcProofStatus 16 11
        let judges := p.begun = true ∧ p.mine = false ∧ brcRole d = roleActive ∧ (causes ≠ 0 ∨ left = 0)
        (¬ judges → exec (.proofExchangeEnd seen) s = .next (s.commit d)) ∧
        (judges →
          let w := (if causes = 0 then 2 else 4) + causes * 16 + left * 65536
          let d1 := if causes = 0 then { d with brc := { d.brc with proven := true } }.clrB Reg.brcStatus 7 else d
          let d2 := proofOver w (d1.braceMsg 12 [w])
          (causes = 0 → p.ret = false → exec (.proofExchangeEnd seen) s = .next (s.commit d2)) ∧
          (causes ≠ 0 ∨ p.ret = true → exec (.proofExchangeEnd seen) s =
            .next (s.commit (switchAgreed (agreedLeg d2) 5 (d2.braceMsg 11 [agreedLeg d2, 5])))))) ∧
      (∀ w, let d1 := ({ d with brc := { d.brc with proof := none } }.wn Reg.brcProofStatus w).clrB Reg.brcStatus 8
        let d2 := raise 308 none (fld w 4 5) 0 d1
        let d3 := if bitOf w 1 = true then d2 else d2.emit (.infoEvent 349)
        proofOver w d = (d3.cmd.jobs.filter (fun j => j.op == 0x703)).foldl (fun d j => finishJob j.ident cOk [w] d) d3)) ∧
    (let d := cmdAdvance h.session s.dev
     let p := cmdP h s.dev
     (takes (spec0 0x700 [3]) h s.dev = true → exec (.cmdBracePair h) s = .next (s.commit (cmdReply 0x700 h (okA [])
       ((d.putB Reg.brcCtrl 1 (bitOf (entW p 0) 0)).putB Reg.brcCtrl 2 (bitOf (entW p 0) 1))))) ∧
     (takes (spec0 0x701 []) h s.dev = true →
       let can := isShadow d = true ∧ paired d = true ∧ peerIn d roleActive = true
       (can → exec (.cmdBraceResync h) s = .next (s.commit (cmdReply 0x701 h (pendA []) (askTransfer
         (if brcRole d = roleStandby then raise 302 none 0 0 (setBrcRole roleResync d) else d))))) ∧
       (¬ can → exec (.cmdBraceResync h) s = .next (s.commit (cmdReply 0x701 h (noA cNotReady) d)))) ∧
     (takes (spec0 0x702 []) h s.dev = true →
       let first := brcRole d = roleActive ∧ paired d = true ∧ peerIn d roleStandby = true
       let second := brcRole d = roleStandby ∧ paired d = true ∧ peerIn d roleActive = true
       (first → exec (.cmdBraceSwitch h) s = .next (s.commit (cmdReply 0x702 h
         (pendA [tickCodeOf (agreedLeg d * 16)]) (switchAgreed (agreedLeg d) 3 (d.braceMsg 11 [agreedLeg d, 3]))))) ∧
       (second → exec (.cmdBraceSwitch h) s = .next (s.commit (cmdReply 0x702 h
         (pendA [tickCodeOf (agreedLeg d * 16)]) (d.braceMsg 13 [0x702])))) ∧
       (¬ first → ¬ second → exec (.cmdBraceSwitch h) s = .next (s.commit (cmdReply 0x702 h (noA cNotReady) d)))) ∧
     (takes ⟨0x703, false, [0xFFFFF, 0x7FF, 1], [], fun p => if entW p 1 = 0 || 1200 < entW p 1 then some 1 else none⟩ h s.dev = true →
       let b := routeAhead d (entW p 0)
       let maint := d.mode = modeMaintenance ∧ ∃ q, d.brc.peer = some q ∧ q.st.maint = true
       let pair := brcRole d = roleActive ∧ paired d = true ∧ peerIn d roleStandby = true
       let ahead := d.tim.absRoute + 2 ≤ b ∧ b < d.tim.absRoute + 2 ^ 19
       (¬ maint → exec (.cmdBraceProof h) s = .next (s.commit (cmdReply 0x703 h (noA cWrongMode) d))) ∧
       (maint → ¬ pair → exec (.cmdBraceProof h) s = .next (s.commit (cmdReply 0x703 h (noA cNotReady) d))) ∧
       (maint → pair → ¬ ahead → exec (.cmdBraceProof h) s = .next (s.commit (cmdReply 0x703 h (badP 0) d))) ∧
       (maint → pair → ahead → exec (.cmdBraceProof h) s = .next (s.commit (cmdReply 0x703 h (pendA []) (switchAgreed (b * 240) 5
           ({ d with brc := { d.brc with proof := some ⟨b, entW p 1, bitOf (entW p 2) 0, true, false, 0, 0⟩ } }.braceMsg 11
             [b * 240, 5, b, entW p 1, entW p 2])))))))

/-! Resets, release and modes (16). -/

/-- R464 to R470, R473, R477, R478, R489, R490, R495; 12 R381; 19 R574: a power-on reset holds the block at its reset values with DRAM gone, and one
during another is absorbed; a system or core reset is asked for by its cause, waits, and acts with its row; RESET_IN_N under 100 ns is ignored and from
1 µs on it is taken, and in between it may be (the model's free value); the higher level acts, then the lower cause of one tick, and a later request is absorbed; the
watchdog warns at half its timeout and asks for a core reset at all of it, a kick restarts it; 30 s without Commission ask for a system reset. -/
def Obligations.Resets : Prop :=
  ∀ (s : State) (ns : Nat) (v : Word),
    let d := s.dev
    let wake (d : Dev) := (({ d with rst := { d.rst with park := false } }.wn Reg.rstCause (2 + 16)).wn Reg.rstCauseTc d.tc)
    (d.rst.held ≠ some 0 → exec .powerOnReset s = .next { s with dev := { porHold d with dramW := [] }, mem := [] }) ∧
    (d.rst.held = some 0 → exec .powerOnReset s = .next (s.commit (resetAbsorbed d))) ∧
    (∀ r, sysDue d = some r → exec .systemReset s = .next { s with dev := { sysHold r d with dramW := [] }, mem := [] }) ∧
    (sysDue d = none → exec .systemReset s = .next s) ∧
    (ns < 100 → exec (.resetIn ns) s = .next (s.commit d)) ∧
    (1000 ≤ ns → d.rst.park = false → exec (.resetIn ns) s = .next (s.commit (askReset 1 2 0 d))) ∧
    (1000 ≤ ns → d.rst.park = true → exec (.resetIn ns) s = .next (s.commit (wake d))) ∧
    (100 ≤ ns → ns < 1000 →
      (d.free.1 % 2 = 0 → exec (.resetIn ns) s = .next (s.commit d.free.2)) ∧
      (d.free.1 % 2 = 1 → exec (.resetIn ns) s = .next (s.commit (if d.rst.park then wake d.free.2 else askReset 1 2 0 d.free.2)))) ∧
    (let due := startRuns d = true ∧ 2304000 ≤ d.rst.startTicks
     (¬ due → exec .startTimeout s = .next (s.commit d)) ∧
     (due → d.up = true → exec .startTimeout s = .next (s.commit (askReset 1 3 0x40 d))) ∧
     (due → d.up = false → d.rst.pend = none → exec .startTimeout s = .next (s.commit (placeReset 1 3 0x40 d))) ∧
     (due → d.up = false → d.rst.pend ≠ none → exec .startTimeout s = .next (s.commit d))) ∧
    (∀ level cause flags,
      (d.rst.held ≠ none → askReset level cause flags d = resetAbsorbed d) ∧
      (d.rst.held = none → d.rst.pend = none → askReset level cause flags d = placeReset level cause flags d) ∧
      (∀ r, d.rst.held = none → d.rst.pend = some r →
        let above := level < r.level ∨ (r.tick = d.tim.absTick ∧ level = r.level ∧ cause < r.cause)
        (above → askReset level cause flags d = placeReset level cause flags d) ∧
        (¬ above → r.tick = d.tim.absTick → askReset level cause flags d = d) ∧
        (¬ above → r.tick ≠ d.tim.absTick → askReset level cause flags d = resetAbsorbed d)) ∧
      (level ≠ 1 ∨ brcRole d ≠ roleActive → placeReset level cause flags d =
        { d with rst := { d.rst with pend := some ⟨level, cause, flags, d.tim.absTick, d.tc⟩ } }) ∧
      (level = 1 → brcRole d = roleActive →
        let d1 := setBrcRole roleFenced (fenceNow 0 (d.braceMsg 9 []))
        placeReset level cause flags d = { d1 with rst := { d1.rst with pend := some ⟨1, cause, flags + 0x200, d1.tim.absTick, d1.tc⟩ } })) ∧
    (d.up = true →
      (∀ r, d.rst.pend = some r → r.level = 2 → exec .coreReset s = .next (s.commit (coreReset r d))) ∧
      (∀ r, d.rst.pend = some r → r.level ≠ 2 → exec .coreReset s = .next (s.commit d)) ∧
      (d.rst.pend = none → exec .coreReset s = .next (s.commit d)) ∧
      exec .rstCmdCore s = .next (s.commit (askReset 2 4 0 d)) ∧
      exec .rstCmdSystem s = .next (s.commit (askReset 1 4 0 d)) ∧
      exec .rstCmdPark s = .next (s.commit (askReset 1 4 0x80 d)) ∧
      exec .nodeResetOrderRx s = .next (s.commit (askReset 1 5 0 d)) ∧
      (bitOf v.toNat 0 = true → exec (.watchdogKick v) s =
        .next (s.commit { d with rst := { d.rst with wdtTicks := 0, warned := false } })) ∧
      (bitOf v.toNat 0 = false → exec (.watchdogKick v) s = .next (s.commit d)) ∧
      (let half := wdtRuns d = true ∧ d.rst.warned = false ∧ wdtTimeout d * 768 ≤ d.rst.wdtTicks * 20
       (half → exec .watchdogWarn s = .next (s.commit (raise 33 none 0 0 { d with rst := { d.rst with warned := true } }))) ∧
       (¬ half → exec .watchdogWarn s = .next (s.commit d))) ∧
      (let full := wdtRuns d = true ∧ wdtTimeout d * 768 ≤ d.rst.wdtTicks * 10
       (full → exec .watchdogExpiry s = .next (s.commit (askReset 2 3 0 { d with rst := { d.rst with wdtTicks := 0, warned := false } }))) ∧
       (¬ full → exec .watchdogExpiry s = .next (s.commit d))))

/-- R471 to R474, R480 to R482, R490, R499; 03 R96; 17 R523; 18 R542: a release begins from a held reset with the clocks valid and power good, and ends in Boot from copy A or B, or in Recovery
after four starts that failed, of a Scrapped module, or without an image, or waits with memory that does not train; the Livery comes up, and after a core reset asks again for the
transfer that it ended; a power failure sets PFAIL and source 32, and after the end of its leg PFAIL_ACK is driven once; a frame that a wake detector matches ends Parked. -/
def Obligations.ReleaseAndPower : Prop :=
  ∀ (s : State) (r : Release) (p : Nat) (f : Frame),
    let d := s.dev
    (d.up = true ∨ d.rst.park = true ∨ d.rst.partway = true ∨ d.rst.pfailPin = true ∨ d.rst.refLost = true →
      exec (.resetRelease r) s = .next (s.commit d)) ∧
    (d.up = false → d.rst.park = false → d.rst.partway = false → d.rst.pfailPin = false → d.rst.refLost = false →
      let bk := d.sbx.bkNew
      let n := if r.cellOk then d.fldR Reg.rstFailCnt 0 3 else 0
      let d3 := relKeys r (relTime r (relClocks r { d with sbx := { d.sbx with bkNew := false } }))
      ((relCount r d3).1 = true → exec (.resetRelease r) s = .next (s.commit (relRecovery r bk n (relCount r d3).2))) ∧
      ((relCount r d3).1 = false →
        let d4 := [0, 1].foldl (fun d ch => setStlN ch { StlNode.empty with since := d.tim.absTick } d)
          ((relCount r d3).2.setF Reg.stlStatus 0 2 gCold)
        (memTrained r = false → exec (.resetRelease r) s =
          .next (s.commit { d4 with rst := { d4.rst with partway := true }, sbx := { d4.sbx with bkNew := bk } })) ∧
        (memTrained r = true →
          let i := relImage r (relMem r d4)
          (i.1 = 2 → exec (.resetRelease r) s = .next (s.commit (raise 76 none 0 0 (relRecovery r bk n i.2)))) ∧
          (i.1 ≠ 2 →
            let d5 := bootRepairs (relDone r bk n (showBoot r i.1 (i.2.setF Reg.glbMode 0 3 modeBoot)))
            (imgOk d5 r.imgA = true → exec (.resetRelease r) s = .next (s.commit d5)) ∧
            (imgOk d5 r.imgA = false → exec (.resetRelease r) s = .next (s.commit (raise 76 none 0 0 d5))))))) ∧
    exec .powerFailDeassert s = .next (s.commit (clearCond 32 { d with rst := { d.rst with pfailPin := false } })) ∧
    (let d1 := { d with rst := { d.rst with pfailPin := true } }
     (d.up = false → exec .powerFail s = .next (s.commit d1)) ∧
     (d.up = true → d1.bitR Reg.glbStatus 5 = true → exec .powerFail s = .next (s.commit (setCond 32 0 (logInput 1 0 0 0 0 d1)))) ∧
     (d.up = true → d1.bitR Reg.glbStatus 5 = false → exec .powerFail s = .next (s.commit (setCond 32 0 (logInput 1 0 0 0 0
       ({ d1 with rst := { d1.rst with pfailLeg := some d1.tim.absLeg } }.setB Reg.glbStatus 5)))))) ∧
    (d.up = true →
      (∀ l, d.rst.pfailLeg = some l → d.rst.acked = false → l < d.tim.absLeg → exec .pfailAck s =
        .next (s.commit ({ d with rst := { d.rst with acked := true } }.emit (.ball "PFAIL_ACK" (activeLevel d 10))))) ∧
      (∀ l, d.rst.pfailLeg = some l → d.rst.acked = true ∨ d.tim.absLeg ≤ l → exec .pfailAck s = .next (s.commit d)) ∧
      (d.rst.pfailLeg = none → exec .pfailAck s = .next (s.commit d)) ∧
      (d.mode = modeRecovery ∨ d.bitR Reg.glbStatus 1 = true → exec .liveryUp s = .next (s.commit d)) ∧
      (d.mode ≠ modeRecovery → d.bitR Reg.glbStatus 1 = false →
        let d1 := d.setB Reg.glbStatus 1
        (d1.rst.coreGone = false → exec .liveryUp s = .next (s.commit d1)) ∧
        (d1.rst.coreGone = true →
          let d2 := raise 35 none 0 0 { d1 with rst := { d1.rst with coreGone := false } }
          let again := brcRole d2 = roleResync ∧ d2.bitR Reg.brcCtrl 2 = true ∧ paired d2 = true ∧ peerIn d2 roleActive = true
          (again → exec .liveryUp s = .next (s.commit (askTransfer d2))) ∧
          (¬ again → exec .liveryUp s = .next (s.commit d2))))) ∧
    (d.rst.park = true → wakeHits d p f ≠ [] → exec (.wakeFrame p f) s = .next (s.commit
      ((wakeHits d p f).foldl (fun d b => d.setB Reg.swcWakeStatus b) { d with rst := { d.rst with park := false } }))) ∧
    (d.rst.park = false ∨ wakeHits d p f = [] → exec (.wakeFrame p f) s = .next (s.commit d))

/-- R472, R481, R483 to R489, R495, R496; 13 R409, R420: boot code's request for Commission and Commission's for Standby wait for the route boundary, any
other latches source 41; a contact takes a source only in Boot and Maintenance, outside source 49, and no source 3 nor a carriage that is FREE or of class P2;
MODE_SET accepts a change its mode permits; MODULE_RESET asks for the reset it names after its reply; Recovery takes the words of an image and
commits it over the copy that did not boot, and no module that is Scrapped and no image that fails its checks. -/
def Obligations.ModesAndRecovery : Prop :=
  ∀ (s : State) (h : Cmd) (b : Nat) (v : Word) (fits : Bool) (data : List Nat) (img : Option Nat),
    (s.dev.up = true →
      let m := fld v.toNat 0 3
      let d := s.dev.wn Reg.glbModeReq m
      (m = modeCommission → d.mode = modeBoot →
        exec (.modeRequest v) s = .next (s.commit ((d.setB Reg.glbStatus 0).atRoute (.mode modeCommission)))) ∧
      (m = modeStandby → d.mode = modeCommission → exec (.modeRequest v) s = .next (s.commit (d.atRoute (.mode modeStandby)))) ∧
      (¬ (m = modeCommission ∧ d.mode = modeBoot) → ¬ (m = modeStandby ∧ d.mode = modeCommission) →
        exec (.modeRequest v) s = .next (s.commit (raise 41 none m 0 d))) ∧
      (let w := v.toNat % 2 ^ 22
       let c := fld w 2 9
       let open' := s.dev.mode = modeMaintenance ∨ s.dev.mode = modeBoot
       let barred := fld w 0 2 = 2 ∧ (carSt s.dev c = stFree ∨ carCls s.dev c = 2)
       b < 8 →
        (open' → fld w 0 2 = 3 → exec (.cdrvSelWrite b v) s = .next (s.commit s.dev)) ∧
        (open' → barred → exec (.cdrvSelWrite b v) s = .next (s.commit (s.dev.emit (.infoEvent 496)))) ∧
        (open' → fld w 0 2 ≠ 3 → ¬ barred → exec (.cdrvSelWrite b v) s =
          .next (s.commit (driveContact b (s.dev.wn (Reg.glbCdrvSel b) w)))) ∧
        (¬ open' → exec (.cdrvSelWrite b v) s = .next (s.commit (raise 49 none 0 0 s.dev))))) ∧
    (let d := cmdAdvance h.session s.dev
     let p := cmdP h s.dev
     (takes ⟨0x900, false, [3], [], fun p => if entW p 0 = 3 then some 0 else none⟩ h s.dev = true →
       let m := projMode d
       let base := if m = modeMaintenance then (if d.mode = modeMaintenance then d.fldR Reg.glbMode 4 3 else d.mode) else m
       (entW p 0 = 1 → m = modeStandby ∨ m = modeActive →
         exec (.cmdModeSet h) s = .next (s.commit (cmdReply 0x900 h (okA []) (d.atRoute (.mode modeMaintenance))))) ∧
       (entW p 0 = 1 → m ≠ modeStandby → m ≠ modeActive →
         exec (.cmdModeSet h) s = .next (s.commit (cmdReply 0x900 h (noA cWrongMode) d))) ∧
       (entW p 0 = 0 → m ≠ modeMaintenance → exec (.cmdModeSet h) s = .next (s.commit (cmdReply 0x900 h (noA cWrongMode) d))) ∧
       (entW p 0 = 0 → m = modeMaintenance → anyHold d = true →
         exec (.cmdModeSet h) s = .next (s.commit (cmdReply 0x900 h (noA cDenied) d))) ∧
       (entW p 0 = 0 → m = modeMaintenance → anyHold d = false →
         exec (.cmdModeSet h) s = .next (s.commit (cmdReply 0x900 h (okA []) (d.atRoute (.mode 0))))) ∧
       (2 ≤ entW p 0 →
         let park := m = modeMaintenance ∧ base = modeStandby ∧ brcRole d ≠ roleActive ∧ anyRuns d = false
         (park → exec (.cmdModeSet h) s = .next (s.commit (cmdReply 0x900 h (okA []) (d.atRoute (.mode modeParked))))) ∧
         (¬ park → exec (.cmdModeSet h) s = .next (s.commit (cmdReply 0x900 h (noA cWrongMode) d))))) ∧
     (takes (spec0 0x904 [1]) h s.dev = true →
       let can := d.mode = modeRecovery ∨ d.mode = modeCommission ∨ d.mode = modeMaintenance
       (can → exec (.cmdModuleReset h) s = .next (s.commit (askReset (2 - entW p 0) 4 0 (cmdReply 0x904 h (okA []) d)))) ∧
       (¬ can → exec (.cmdModuleReset h) s = .next (s.commit (cmdReply 0x904 h (noA cWrongMode) d)))) ∧
     (takes ⟨0x905, false, [mAll, mAll, mAll, 0xFF], [2], fun p => if entW p 1 = 0 || 65536 < entW p 1 then some 1 else none⟩ h s.dev = true →
       (d.mode ≠ modeRecovery → exec (.cmdRecoveryWrite h fits data) s = .next (s.commit (cmdReply 0x905 h (noA cWrongMode) d))) ∧
       (d.mode = modeRecovery → fits = true → exec (.cmdRecoveryWrite h fits data) s = .next (s.commit (cmdReply 0x905 h (okA [])
         { d with rst := { d.rst with flash := tset [] d.rst.flash 2 (stageFlash (entW p 0) (takePad 0 (entW p 1) data) (flashArea d 2)) } }))) ∧
       (d.mode = modeRecovery → fits = false → exec (.cmdRecoveryWrite h fits data) s = .next (s.commit (cmdReply 0x905 h (badP 0) d)))) ∧
     (takes (spec0 0x906 [mAll]) h s.dev = true →
       (lifeCycle d ≠ 4 → imgOk d img = true →
         let t := (flashArea d 2).filter (fun x => x.1 < entW p 0)
         exec (.cmdRecoveryCommit h img) s = .next (s.commit (askReset 1 4 0 (cmdReply 0x906 h (okA [])
           ({ d with rst := { d.rst with flash := tset [] d.rst.flash (if d.rst.bootImg = 0 then 1 else 0) t } }.setF Reg.rstFailCnt 0 3 0))))) ∧
       (lifeCycle d = 4 ∨ imgOk d img = false → exec (.cmdRecoveryCommit h img) s = .next (s.commit (cmdReply 0x906 h (noA cDenied) d)))))

/-! Keys, tamper and debug (17). -/

/-- R498 to R506, R509, R515; 13 R417: an installation needs a slot that is not locked, a caller that may name it and a TYPE that its way allows, in that order, and takes a new key
by generation once the TRNG is ready, by unwrapping under a slot that may wrap and a tag that verifies, or by derivation; LOCK refuses, but not the destruction of a BAD
slot; KEY_INFO replies the attributes and the state. A life cycle transition that R498 permits replies, ends the debug session, and to 3 or 4 zeroes the keys and asks
for a reset after its reply. -/
def Obligations.KeyCommands : Prop :=
  ∀ (h : Cmd) (tagOk slotBad : Bool) (key : Nat) (ctx : List Nat) (s : State),
    let d := cmdAdvance h.session s.dev
    let p := cmdP h s.dev
    let n := entW p 0
    let may (k : Nat) := slotState d k = 0 ∨ callerOk d k (cmdWho d h) = true
    let refused (k : Nat) := raiseH 73 none k 0 (k * 16) 0 (d.bump (Reg.sbxSRefused k))
    let src := if slotBad = true then slotGoesBad (entW p 1) d else d
    (takes (spec0 0x600 [0xFF, attrMask, 0xF]) h s.dev = true →
      let t := fld (entW p 1) 0 4
      (entW p 2 ≠ t → exec (.cmdKeyGenerate h) s = .next (s.commit (cmdReply 0x600 h (badP 2) d))) ∧
      (entW p 2 = t → slotLocked d n = true → exec (.cmdKeyGenerate h) s = .next (s.commit (cmdReply 0x600 h (noA cLocked) d))) ∧
      (entW p 2 = t → slotLocked d n = false → ¬ may n →
        exec (.cmdKeyGenerate h) s = .next (s.commit (cmdReply 0x600 h (noA cDenied) (refused n)))) ∧
      (entW p 2 = t → slotLocked d n = false → may n → t ∉ [1, 2, 3, 4] →
        exec (.cmdKeyGenerate h) s = .next (s.commit (cmdReply 0x600 h (noA cDenied) d))) ∧
      (entW p 2 = t → slotLocked d n = false → may n → t ∈ [1, 2, 3, 4] →
        (trngReady d = false → exec (.cmdKeyGenerate h) s = .next (s.commit (cmdReply 0x600 h (noA cNotReady) d))) ∧
        (trngReady d = true →
          exec (.cmdKeyGenerate h) s = .next (s.commit (cmdReply 0x600 h (okA []) (slotInstall n (entW p 1) d.free.1 d.free.2)))))) ∧
    (takes ⟨0x601, false, [0xFF, 0xFF, mAll, 0xFF, mAll, attrMask], [2], noRange⟩ h s.dev = true →
      let t := fld (entW p 5) 0 4
      let a := slotAskU (entW p 1) fnWrap [1] (cmdWho src h).world (cmdWho src h) src
      (slotLocked d n = true → exec (.cmdKeyUnwrap h tagOk slotBad key) s = .next (s.commit (cmdReply 0x601 h (noA cLocked) d))) ∧
      (slotLocked d n = false → ¬ may n →
        exec (.cmdKeyUnwrap h tagOk slotBad key) s = .next (s.commit (cmdReply 0x601 h (noA cDenied) (refused n)))) ∧
      (slotLocked d n = false → may n → t ∉ [1, 2, 3, 4, 5] →
        exec (.cmdKeyUnwrap h tagOk slotBad key) s = .next (s.commit (cmdReply 0x601 h (noA cDenied) d))) ∧
      (slotLocked d n = false → may n → t ∈ [1, 2, 3, 4, 5] →
        (a.1 = true → tagOk = true → exec (.cmdKeyUnwrap h tagOk slotBad key) s =
          .next (s.commit (cmdReply 0x601 h (okA []) (slotInstall n (entW p 5) key a.2)))) ∧
        (a.1 = false ∨ tagOk = false → exec (.cmdKeyUnwrap h tagOk slotBad key) s =
          .next (s.commit (cmdReply 0x601 h (noA cDenied) a.2))))) ∧
    (takes ⟨0x602, false, [0xFF, 0xFF, mAll, 0xFF, mAll, attrMask], [2],
        fun p => if entW p 4 = 0 || 256 < entW p 4 then some 4 else none⟩ h s.dev = true →
      let t := fld (entW p 5) 0 4
      let a := slotAskU (entW p 1) fnDerive [3] (cmdWho src h).world (cmdWho src h) src
      (slotLocked d n = true → exec (.cmdKeyDerive h ctx slotBad) s = .next (s.commit (cmdReply 0x602 h (noA cLocked) d))) ∧
      (slotLocked d n = false → ¬ may n →
        exec (.cmdKeyDerive h ctx slotBad) s = .next (s.commit (cmdReply 0x602 h (noA cDenied) (refused n)))) ∧
      (slotLocked d n = false → may n → t ∉ [1, 2, 3] →
        exec (.cmdKeyDerive h ctx slotBad) s = .next (s.commit (cmdReply 0x602 h (noA cDenied) d))) ∧
      (slotLocked d n = false → may n → t ∈ [1, 2, 3] →
        (a.1 = false → exec (.cmdKeyDerive h ctx slotBad) s = .next (s.commit (cmdReply 0x602 h (noA cDenied) a.2))) ∧
        (a.1 = true → exec (.cmdKeyDerive h ctx slotBad) s =
          .next (s.commit (cmdReply 0x602 h (okA []) (slotInstall n (entW p 5) (Config.kdf (tget 0 a.2.sbx.keys (entW p 1))
            (takePad 0 (entW p 4) ctx) (if t = 3 then 384 else 256)) a.2)))))) ∧
    (takes (spec0 0x603 [0xFF]) h s.dev = true →
      let locked := slotLocked d n = true ∧ slotState d n ≠ 2
      (locked → exec (.cmdKeyDestroy h) s = .next (s.commit (cmdReply 0x603 h (noA cLocked) d))) ∧
      (¬ locked → may n → exec (.cmdKeyDestroy h) s = .next (s.commit (cmdReply 0x603 h (okA []) (slotEmpty n d)))) ∧
      (¬ locked → ¬ may n → exec (.cmdKeyDestroy h) s = .next (s.commit (cmdReply 0x603 h (noA cDenied) (refused n))))) ∧
    (takes (spec0 0x604 [0xFF]) h s.dev = true →
      (may n → exec (.cmdKeyInfo h) s = .next (s.commit (cmdReply 0x604 h (okA [slotAttr d n, slotState d n]) d))) ∧
      (¬ may n → exec (.cmdKeyInfo h) s = .next (s.commit (cmdReply 0x604 h (noA cDenied) (refused n))))) ∧
    (takes (spec0 0x605 [7]) h s.dev = true →
      let e := raiseH 75 none n 0 0 0 (debugEnd (d.setF Reg.sbxLc 0 3 n))
      (lcPermits d n = false → exec (.cmdLifecycle h) s = .next (s.commit (cmdReply 0x605 h (noA cDenied) d))) ∧
      (lcPermits d n = true → n ≠ 3 → n ≠ 4 → exec (.cmdLifecycle h) s = .next (s.commit (cmdReply 0x605 h (okA [n]) e))) ∧
      (lcPermits d n = true → n = 3 ∨ n = 4 → exec (.cmdLifecycle h) s =
        .next (s.commit (askReset 1 4 0 (cmdReply 0x605 h (okA [n]) (tlogClear (slotsZero (rootZero e))))))))

/-- R510 to R516, R525, R526, R532; 19 R568: an alarm of an enabled sensor on main power zeroes root and slots whatever reset is in progress, shows its sensor, is logged and asks for a reset; on the
cell it zeroes the root and is reported at the next start; and no other alarm acts. A locked sequence is armed by its key and lapses after 256 FCLK cycles, its target is written only by the master that
armed it, with its value, and any other write of that master disarms it. A pass of the TRNG's start-up tests readies it, with the first challenge and, in Boot, the root that the module lacks; and its failure in service
starts them again. -/
def Obligations.TamperAndRandom : Prop :=
  ∀ (s : State) (sensor sec frac : Nat) (who : Who) (v : Word) (b : Bool),
    let d := s.dev
    let m := who.master
    (let live := d.sbx.backup = false ∧ sensorOn d sensor = true
     let d1 := ((slotsZero (rootZero d)).setB Reg.sbxTamperStatus sensor).setB Reg.sbxStatus 4
     (live → d.up = true → exec (.tamperAlarm sensor sec frac) s = .next (s.commit (askReset 1 7 0 (debugEnd (tlogPut sensor sec frac false
        (raiseH (64 + sensor) none sensor 0 (sensor * 16) 0 (logInput 2 sensor 0 0 0 d1))))))) ∧
     (live → d.up = false → exec (.tamperAlarm sensor sec frac) s =
        .next (s.commit (askReset 1 7 0 (debugEnd (tlogPut sensor sec frac false d1))))) ∧
     (¬ live → exec (.tamperAlarm sensor sec frac) s = .next (s.commit d))) ∧
    (let dark := d.sbx.backup = true ∧ sensor ≠ 3 ∧ sensorOn d sensor = true
     let d1 := tlogPut sensor sec frac true (rootZero d)
     (dark → exec (.tamperAlarmBackup sensor sec frac) s = .next (s.commit { d1 with sbx := { d1.sbx with bkNew := true } })) ∧
     (¬ dark → exec (.tamperAlarmBackup sensor sec frac) s = .next (s.commit d))) ∧
    exec (.backupPowerChangeover b) s = .next (s.commit { d with sbx := { d.sbx with backup := b } }) ∧
    (rootZero d).sbx.root = 0 ∧ (rootZero d).sbx.seals = [] ∧
    (d.up = true →
      let off := { d with sbx := { d.sbx with armed := none } }
      let mine := ∃ t k, d.sbx.armed = some (m, t, k)
      let open' (t : Nat) := ∃ k, d.sbx.armed = some (m, t, k) ∧ d.tim.absTick ≤ k + 1
      let key := v.toNat = 0xC0DE0024 ∨ v.toNat = 0xC0DE0028
      (key → exec (.unlockWrite who v) s =
        .next (s.commit { d with sbx := { d.sbx with armed := some (m, v.toNat - 0xC0DE0000, d.tim.absTick) } })) ∧
      (¬ key → mine → exec (.unlockWrite who v) s = .next (s.commit off)) ∧
      (¬ key → ¬ mine → exec (.unlockWrite who v) s = .next (s.commit d)) ∧
      exec .unlockExpiry s = .next (s.commit off) ∧
      (open' 0x24 → v.toNat = 0x5A → exec (.slotZero who v) s = .next (s.commit (slotsZero off))) ∧
      (¬ (open' 0x24 ∧ v.toNat = 0x5A) → mine → exec (.slotZero who v) s = .next (s.commit off)) ∧
      (¬ mine → exec (.slotZero who v) s = .next (s.commit d)) ∧
      (open' 0x28 → v.toNat = 1 → exec (.tamperLogClear who v) s = .next (s.commit (tlogClear off))) ∧
      (¬ (open' 0x28 ∧ v.toNat = 1) → mine → exec (.tamperLogClear who v) s = .next (s.commit off)) ∧
      (¬ mine → exec (.tamperLogClear who v) s = .next (s.commit d)) ∧
      (d.bitR Reg.sbxTrngStatus 1 = false → exec .trngReady s = .next (s.commit d)) ∧
      (d.bitR Reg.sbxTrngStatus 1 = true →
        let d1 := firstChallenge (((d.setF Reg.sbxTrngStatus 0 3 1).setF Reg.sbxTrngStatus 8 8 128).setB Reg.glbStatus 2)
        let bare := d1.sbx.root = 0 ∧ d1.mode = modeBoot
        (¬ bare → exec .trngReady s = .next (s.commit d1)) ∧
        (bare → exec .trngReady s = .next (s.commit (raiseH 69 none 0 0 0 0 (((slotsZero { d1.free.2 with sbx :=
          { d1.free.2.sbx with root := d1.free.1 + 1 } }).setB Reg.sbxStatus 0).setB Reg.sbxStatus 1))))) ∧
      (let slow := d.bitR Reg.sbxTrngStatus 1 = true ∧ 153600 ≤ d.sbx.trngTicks * 10
       (slow → exec .trngStartupTimeout s = .next (s.commit (trngStart (raise 72 none 0 0 d)))) ∧
       (¬ slow → exec .trngStartupTimeout s = .next (s.commit d))) ∧
      (trngReady d = true → exec .trngTestFail s = .next (s.commit (raise 71 none 0 0 (trngStart
        (((d.clrB Reg.sbxTrngStatus 0).setB Reg.sbxTrngStatus 2).clrB Reg.glbStatus 2))))) ∧
      (trngReady d = false → exec .trngTestFail s = .next (s.commit d)))

/-- R497, R520, R525 to R529, R532: a signed response to a level the life cycle allows opens it and latches source 84, another latches 83, and either draws a new challenge; a halt needs level 2
and Maintenance, a reset request level 2 and a mode without service, EXTEST level 3 and Recovery, each else refused with source 85; a halt of the master of a locked sequence aborts it; a
resume and the end of the session act; a debug read needs level 1, but for the registers of TGT_DBG, passes the Tollgate, and reads a register without its side effects. -/
def Obligations.DebugAccess : Prop :=
  ∀ (s : State) (level addr k c : Nat) (sig sys : Bool) (levels : List Nat),
    let d := s.dev
    let no := raiseH 85 none 0 0 144 0 (d.setB Reg.tgtDbgStatus 24)
    let yes := d.clrB Reg.tgtDbgStatus 24
    (d.up = true →
      (level ≤ 3 →
        let d1 := if trngReady d = true then debugChallenge d else d
        (sig = true → 1 ≤ level → level ≤ debugMax d → exec (.debugAuth level sig) s =
          .next (s.commit (raise 84 none level 0 (d1.setF Reg.tgtDbgStatus 0 3 (level + 4))))) ∧
        (sig = false ∨ level = 0 ∨ debugMax d < level → exec (.debugAuth level sig) s =
          .next (s.commit (raiseH 83 none level 0 144 0 d1)))) ∧
      (∀ t, d.mode ≠ modeMaintenance ∨ debugLevel d < 2 → exec (.debugHalt t) s = .next (s.commit no)) ∧
      (d.mode = modeMaintenance → 2 ≤ debugLevel d →
        let car := (yes.setB Reg.tgtDbgStatus 4).setF Reg.tgtDbgStatus 8 9 c
        exec (.debugHalt .mgmt) s = .next (s.commit (lockAbort (fun m => m ≤ 1) (yes.setB Reg.tgtDbgStatus 3))) ∧
        (carSt car c = stFree → exec (.debugHalt (.carriage c)) s = .next (s.commit car)) ∧
        (carSt car c ≠ stFree → exec (.debugHalt (.carriage c)) s =
          .next (s.commit (setHcar c { hcar car c with modeReq := some hHold } car))) ∧
        exec (.debugHalt (.other k)) s = .next (s.commit (lockAbort (fun m => m == k)
          { yes with sbx := { yes.sbx with halted := k :: yes.sbx.halted.filter (fun x => x != k) } }))) ∧
      exec (.debugResume .mgmt) s = .next (s.commit (yes.clrB Reg.tgtDbgStatus 3)) ∧
      (yes.fldR Reg.tgtDbgStatus 8 9 = c → exec (.debugResume (.carriage c)) s =
        .next (s.commit ((yes.clrB Reg.tgtDbgStatus 4).setF Reg.tgtDbgStatus 8 9 0))) ∧
      (yes.fldR Reg.tgtDbgStatus 8 9 ≠ c → exec (.debugResume (.carriage c)) s = .next (s.commit yes)) ∧
      exec (.debugResume (.other k)) s =
        .next (s.commit { yes with sbx := { yes.sbx with halted := yes.sbx.halted.filter (fun x => x != k) } }) ∧
      (d.bitR Reg.tgtDbgStatus 2 = true →
        exec .debugSessionClose s = .next (s.commit (raise 84 none 0 0 (d.setF Reg.tgtDbgStatus 0 3 0)))) ∧
      (d.bitR Reg.tgtDbgStatus 2 = false → exec .debugSessionClose s = .next (s.commit d)) ∧
      (let can := 2 ≤ debugLevel d ∧ (d.mode = modeRecovery ∨ d.mode = modeCommission ∨ d.mode = modeMaintenance)
       (can → exec (.debugResetRequest sys) s = .next (s.commit (askReset (if sys then 1 else 2) 6 0 yes))) ∧
       (¬ can → exec (.debugResetRequest sys) s = .next (s.commit no))) ∧
      (d.mode ≠ modeRecovery ∨ debugLevel d ≠ 3 → exec (.extest levels) s = .next (s.commit no)) ∧
      (d.mode = modeRecovery → debugLevel d = 3 → exec (.extest levels) s = .next (s.commit
        ((List.range 12).foldl (fun e k => e.emit (.ball (fieldBall k)
          (if 2 ≤ k && k < 10 then (k - 2) * 2 + nth 0 levels k % 2 else nth 0 levels k % 2))) yes)))) ∧
    (let seen := debugReg addr = true ∧ lifeCycle d ≤ 3
     let w : Who := ⟨9, .livery⟩
     (seen → exec (.debugRead addr) s = .next (s.commit (d.emit (.readData (w32 (readReg d (addr - 0xF0000000))))))) ∧
     (¬ seen → debugLevel d = 0 → exec (.debugRead addr) s = .next (s.commit d)) ∧
     (¬ seen → 1 ≤ debugLevel d →
       (∀ n, denial d w false addr = some n → exec (.debugRead addr) s = .next (s.commit ((denied n w false addr d).emit (.readData 0)))) ∧
       (∀ o, denial d w false addr = none → ctlOff addr = some o →
         exec (.debugRead addr) s = .next (s.commit ((reservedRead o d).emit (.readData (w32 (readReg d o)))))) ∧
       (denial d w false addr = none → ctlOff addr = none → exec (.debugRead addr) s =
         .next (s.commit (d.emit (.readData (if inDram addr then w32 (memWord s.mem addr) else 0)))))))

/-! The bridge, the memory controllers and repair (18). -/

/-- 18 R535 to R541: a bridge reset faults every outbound write, empties the inbound queue, abandons the work of its sessions and clears every session of transport 1; the link trains
while its reference is in range; a configuration write sets Bus Master Enable and the power state of a linked bridge; a flushing read completes its
initiator's writes before it, at most 16; a back-off answers RETRY; a completion timeout faults the writes it covers; an inbound write below a blocked head waits in order, and a full queue withholds its credits,
any other is applied after those before it, an inbound read after all of them; and BAR2 answers an Unsupported Request outside its windows, across two of them and
for a write that its window does not take, a denial by the Tollgate reads as zero, and what it permits reads or writes DRAM or a register. -/
def Obligations.BridgeRows : Prop :=
  ∀ (s : State) (key n rate lanes off len : Nat) (bme d3 : Bool) (v : Word) (bs : List Nat) (data : Option (List Nat)), s.dev.up = true →
    let d := s.dev
    (exec .bridgeReset s =
      let d1 := (tkeys d.hbr.outw).foldl (fun d k => outFault k ((tfind d.hbr.outw k).getD []).length d) d
      let d2 := bridgeRegs.foldl (fun d r => d.wr r (regReset r)) { d1 with hbr := { d1.hbr with inq := [], pre := [] } }
      let ses := (List.range 64).filter (fun i => sesTransport d2 i == 1)
      let gone := (d2.cmd.jobs.filter (fun j => ses.contains j.ses && phiashOps.contains j.op)).map (fun j => j.ident)
      let d3 := { d2 with
        cmd := { d2.cmd with
          jobs := d2.cmd.jobs.filter (fun j => !gone.contains j.ident)
          route := d2.cmd.route.filter (fun a => match a with
            | .save _ j .. => !gone.contains j
            | .resume _ j _ => !gone.contains j
            | _ => true) },
        drc := { d2.drc with rend := d2.drc.rend.filter (fun p => !gone.contains p.1) } }
      .next (s.commit (setCond 344 0 (raise 348 none 0 0 (ses.foldl (fun d i => sesClear i d) d3))))) ∧
    (let fit := 1 ≤ rate ∧ rate ≤ 5 ∧ 1 ≤ lanes ∧ lanes ≤ 8 ∧ d.bitR Reg.clkStatus 3 = true
     (fit → exec (.pcieLinkUp rate lanes) s =
        .next (s.commit (raise 345 none rate lanes (clearCond 344 (d.setF Reg.hbrStatus 0 8 (1 + rate * 2 + lanes * 16)))))) ∧
     (¬ fit → exec (.pcieLinkUp rate lanes) s = .next (s.commit d))) ∧
    (d.bitR Reg.hbrStatus 0 = true → exec (.pcieConfigWrite bme d3) s =
      .next (s.commit ((d.putB Reg.hbrStatus 8 bme).putB Reg.hbrStatus 9 d3))) ∧
    (d.bitR Reg.hbrStatus 0 = false → exec (.pcieConfigWrite bme d3) s = .next (s.commit d)) ∧
    exec .prefetchDiscard s = .next (s.commit { d with hbr := { d.hbr with pre := [] } }) ∧
    (let left := ((tfind d.hbr.outw key).getD []).drop (min n 16)
     exec (.flushingRead ⟨key, n⟩) s = .next (s.commit { d with hbr := { d.hbr with
       outw := if left = [] then tdel d.hbr.outw key else tput d.hbr.outw key left } })) ∧
    (d.hbr.inq = [] → exec .outboundBackoff s = .next (s.commit d)) ∧
    (d.hbr.inq ≠ [] → exec .outboundBackoff s = .next (s.commit ((d.bump Reg.hbrRetryCnt).emit (.pcie 2)))) ∧
    (exec (.completionTimeout ⟨key, n⟩) s =
      .next (s.commit (outFault key (min n 16) (raise 346 none key 0 ((d.bump Reg.hbrCplToCnt).emit (.pcie 1)))))) ∧
    (off < 0x4000000 →
      let put (e : Dev) := ibDepth { e with hbr := { e.hbr with inq := e.hbr.inq ++ [(off, v.toNat)] } }
      (d.hbr.inq.length < 64 →
        exec (.inboundWrite off v true) s = .next (s.commit (put d)) ∧
        exec (.inboundWrite off v false) s = .next (s.commit (drainIn s.mem (put d)))) ∧
      (64 ≤ d.hbr.inq.length →
        exec (.inboundWrite off v true) s = .next (s.commit d) ∧
        exec (.inboundWrite off v false) s = .next (s.commit (drainIn s.mem (put (drainIn s.mem d))))) ∧
      (∀ e m, drainIn m e = ibDepth (e.hbr.inq.foldl (fun d p => gatedWrite (hostWho d) p.1 p.2 m d) { e with hbr := { e.hbr with inq := [] } })) ∧
      (exec (.inboundRead off) s = .next (s.commit (gatedRead (hostWho (drainIn s.mem d)) off (drainIn s.mem d))))) ∧
    (off + len ≤ 2 ^ d.fldR Reg.hbrBar2Size 0 6 → 1 ≤ len → (∀ l, data = some l → l.length = len) →
      let ur := (raise 349 none 0 0 (d.bump Reg.hbrUrCnt)).emit (.pcie 0)
      let last := (off + len - 1) / 4096
      (barWin d (off / 4096) = none ∨ barWin d last ≠ barWin d (off / 4096) → exec (.bar2Access off len data) s = .next (s.commit ur)) ∧
      (∀ w, barWin d (off / 4096) = some w → barWin d last = some w →
        let a := d.fldR (Reg.hbrWTarget w) 0 28 * 4096 + off - d.fldR (Reg.hbrWBase w) 0 28 * 4096
        let e := if data.isSome then disarm 8 d else d
        let wr := data.isSome
        let open' := denial e (hostWho d) wr a = none ∧ denial e (hostWho d) wr (a + len - 1) = none
        (wr = true → d.bitR (Reg.hbrWCtrl w) 1 = false → exec (.bar2Access off len data) s = .next (s.commit ur)) ∧
        (wr = false ∨ d.bitR (Reg.hbrWCtrl w) 1 = true →
          (∀ n, denial e (hostWho d) wr a = some n ∨ (denial e (hostWho d) wr a = none ∧ denial e (hostWho d) wr (a + len - 1) = some n) →
            (wr = true → exec (.bar2Access off len data) s = .next (s.commit (denied n (hostWho d) true a e))) ∧
            (wr = false → exec (.bar2Access off len data) s = .next (s.commit
              ((denied n (hostWho d) false a e).emit (.readBytes (List.replicate len 0)))))) ∧
          (∀ o, open' → ctlOff a = some o → exec (.bar2Access off len data) s = .next (s.commit (barCtl o len data s.mem e))) ∧
          (open' → ctlOff a = none →
            (inDram a = false ∨ inDram (a + len - 1) = false → exec (.bar2Access off len data) s = .next (s.commit (e.emit (.pcie 1)))) ∧
            (inDram a = true → inDram (a + len - 1) = true →
              (data = some bs → exec (.bar2Access off len data) s = .next (s.commit (storeBytes a bs e))) ∧
              (data = none → exec (.bar2Access off len data) s = .next (s.commit (prefetch w off len a
                (e.emit (.readBytes ((List.range len).map (fun i => (memRead s.mem (a + i)).toNat)))))))))))) ∧
    (∀ o, (len ≠ 4 ∨ o % 4 ≠ 0 →
        barCtl o len none s.mem d = (raise 48 none o 0 d).emit (.readBytes (List.replicate len 0)) ∧
        barCtl o len (some bs) s.mem d = raise 48 none o 1 d) ∧
      (len = 4 → o % 4 = 0 →
        barCtl o len none s.mem d = (readEffect o d).emit (.readData (w32 (readReg d o))) ∧
        barCtl o len (some bs) s.mem d = writeReg 8 o (bs.foldr (fun b a => b % 256 + 256 * a) 0) s.mem d))

/-- 18 R543 to R547, R552: a scrub step of an address of its channel counts a correctable error of its row over 24 hours and, at MEM_CE_ROW_LIM of them, makes the row due for a remap; an
uncorrectable one counts, latches UE, and makes it due at once; exhausted retries latch RETRY_FAIL, a complete pass SCRUB_DONE; the reader of poisoned
data acts as its row of R546 says; a remap takes the lowest free entry with its copy running, or leaves REMAP_FULL present; its copy done, ROW_REMAP
latches and the repair log takes the row. -/
def Obligations.MemoryErrors : Prop :=
  ∀ (s : State) (m loc addr pct e lane i c q k : Nat), s.dev.up = true → m < 4 → loc < 2 ^ 27 → addr / 256 % 4 = m →
    let d := s.dev
    let now := d.tim.absTick
    let err (k : Nat) (d : Dev) : Dev :=
      ((d.wn (Reg.memCErrLo m) addr).wn (Reg.memCErrHi m) (addr / 2 ^ 32 % 2 ^ 8)).wn (Reg.memCErrLoc m) (loc + k * 2 ^ 27)
    let due (d : Dev) : Dev :=
      if (rmapOf d m loc).isSome = true ∨ m * 2 ^ 27 + loc ∈ d.memx.due then d
      else { d with memx := { d.memx with due := d.memx.due ++ [m * 2 ^ 27 + loc] } }
    let ue : Dev := due (raise (361 + 8 * m) none loc 0 (err 1 (d.bump (Reg.memCUe m))))
    let ce : Dev :=
      let d1 := raise (360 + 8 * m) none loc 0 (err 0 (d.bump (Reg.memCCe m)))
      let times := d1.tim.absTick :: ((tfind d1.memx.ce (m * 2 ^ 27 + loc)).getD []).filter (fun t => d1.tim.absTick < t + 24 * 3600 * 76800)
      let d2 := { d1 with memx := { d1.memx with ce := tput d1.memx.ce (m * 2 ^ 27 + loc) times } }
      if d2.fldR Reg.memCeRowLim 0 8 ≤ times.length then due d2 else d2
    let shown (d : Dev) : Dev := if pct = 100 then raise (364 + 8 * m) none 0 0 (d.setF (Reg.memCScrubPos m) 0 7 0)
      else d.setF (Reg.memCScrubPos m) 0 7 pct
    (pct ≤ 100 →
      exec (.scrubStep m loc addr .clean pct) s = .next (s.commit (shown d)) ∧
      exec (.scrubStep m loc addr .corrected pct) s = .next (s.commit (shown ce)) ∧
      exec (.scrubStep m loc addr .bad pct) s = .next (s.commit (shown ue)) ∧
      exec (.scrubStep m loc addr .retryFail pct) s = .next (s.commit (shown (raise (366 + 8 * m) none loc 0 d)))) ∧
    (exec (.dramUeRead m loc addr (.lane lane)) s = .next (s.commit (restartChan lane ue))) ∧
    (exec (.dramUeRead m loc addr (.kernel i)) s = .next (s.commit (setInst i KInst.empty ue))) ∧
    (carSt ue c ≠ stFree → exec (.dramUeRead m loc addr (.queue c q)) s = .next (s.commit (carEvent c 5 (qcReset c q ue)))) ∧
    (carSt ue c = stFree → exec (.dramUeRead m loc addr (.queue c q)) s = .next (s.commit ue)) ∧
    (exec (.dramUeRead m loc addr (.core k)) s = .next (s.commit (ue.emit (.note 546 [k])))) ∧
    (exec (.dramUeRead m loc addr .bridge) s = .next (s.commit (ue.emit (.note 546 [50])))) ∧
    (exec (.dramUeRead m loc addr .livery) s = .next (s.commit (ue.emit (.note 546 [51])))) ∧
    (m * 2 ^ 27 + loc ∈ d.memx.due →
      let d1 := { d with memx := { d.memx with due := d.memx.due.filter (fun x => x != m * 2 ^ 27 + loc) } }
      (rmapFree d1 m = none → exec (.rowRemap m loc) s = .next (s.commit (setCond (363 + 8 * m) loc d1))) ∧
      (rmapFree d1 m ≠ none → exec (.rowRemap m loc) s = .next (s.commit (rmapPut m loc true d1)))) ∧
    (m * 2 ^ 27 + loc ∉ d.memx.due → exec (.rowRemap m loc) s = .next (s.commit d)) ∧
    (e < 16 →
      let r := Reg.memCRmap m e
      let at_ := d.fldR r 0 27
      (d.bitR r 31 = true → d.bitR r 30 = true → exec (.remapCopyDone m e) s = .next (s.commit
        (repairLog [7, m, at_] (raise (362 + 8 * m) none at_ 0 ((d.clrB r 30).bump (Reg.rprKRetired 7)))))) ∧
      (d.bitR r 31 = false ∨ d.bitR r 30 = false → exec (.remapCopyDone m e) s = .next (s.commit d)))

/-- 04 R134; 18 R548 to R552, R557; 13 R420: DRAM_PPR outside Maintenance with BASE Standby replies WRONG_MODE, of a rank that is absent BAD_PARAM, with no resource left SPARE_EXHAUSTED,
with no remap entry NO_RESOURCE, else PENDING with the row remapped; a verified repair frees the entry and replies the resources left, a failed one FAULT with the row remapped; an SRAM row
with an uncorrectable error, or a second correctable one in its route, takes a soft spare or leaves SRAM_REPAIR_FULL present, while soft repair is on; the fuse commit burns log
entries up to the records left; RETIRE_UNIT acts in Maintenance alone; REPAIR_STATUS replies three registers; a core's machine check latches 401. -/
def Obligations.RepairRows : Prop :=
  ∀ (h : Cmd) (s : State) (g row left core : Nat) (v : Word) (ok ue : Bool),
    (let d := cmdAdvance h.session s.dev
     let p := cmdP h s.dev
     (takes (spec0 0x903 [0x7FF, 0x3FFFF]) h s.dev = true →
       let m := fld (entW p 0) 0 2
       let can := d.mode = modeMaintenance ∧ baseMode d = modeStandby
       let there := fld (entW p 0) 3 3 < ranksOf d m
       let spare := d.fldR (Reg.memCPpr m (pprGroup p)) 0 4 ≠ 0
       let place := rmapOf d m (pprLoc p) ≠ none ∨ rmapFree d m ≠ none
       (¬ can → exec (.cmdDramPpr h) s = .next (s.commit (cmdReply 0x903 h (noA cWrongMode) d))) ∧
       (can → ¬ there → exec (.cmdDramPpr h) s = .next (s.commit (cmdReply 0x903 h (badP 0) d))) ∧
       (can → there → ¬ spare → exec (.cmdDramPpr h) s = .next (s.commit (cmdReply 0x903 h (noA cSpareExhausted) d))) ∧
       (can → there → spare → ¬ place → exec (.cmdDramPpr h) s = .next (s.commit (cmdReply 0x903 h (noA cNoResource) d))) ∧
       (can → there → spare → place →
         let d1 := if rmapOf d m (pprLoc p) = none then rmapPut m (pprLoc p) true d else d
         let d2 := { d1 with memx := { d1.memx with ppr := d1.memx.ppr ++ [(d1.cmd.nextJob, m, pprLoc p)] } }
         exec (.cmdDramPpr h) s = .next (s.commit (cmdReply 0x903 h (pendA []) (if brcRole d2 = roleStandby then enterResync d2 else d2))))) ∧
     (takes ⟨0x901, false, [7, mAll, 3], [], retireRange⟩ h s.dev = true →
       let u := entW p 1
       let told (k : Nat) (e : Dev) : Outcome := .next (s.commit (cmdReply 0x901 h (okA [e.rn (Reg.rprKSpares k)]) e))
       (d.mode ≠ modeMaintenance → exec (.cmdRetireUnit h) s = .next (s.commit (cmdReply 0x901 h (noA cWrongMode) d))) ∧
       (d.mode = modeMaintenance →
         (entW p 0 = 0 → exec (.cmdRetireUnit h) s = told 0 (retireUnit 0 u 4 d)) ∧
         (entW p 0 = 1 → exec (.cmdRetireUnit h) s = told 1 (retireUnit 1 u 4 (if eRole d u ≠ 3 then runsLost s.mem u d else d))) ∧
         (entW p 0 = 2 → exec (.cmdRetireUnit h) s = told 2 (retireUnit 2 u 4 d)) ∧
         (entW p 0 = 3 → coreRetire (bitOf (entW p 2) 1) u d = none →
           exec (.cmdRetireUnit h) s = .next (s.commit (cmdReply 0x901 h (noA cSpareExhausted) d))) ∧
         (∀ e, entW p 0 = 3 → coreRetire (bitOf (entW p 2) 1) u d = some e → exec (.cmdRetireUnit h) s = told 3 e) ∧
         (entW p 0 = 4 → exec (.cmdRetireUnit h) s = told 4 (laneRetire (fld (entW p 2) 0 1) u 0 true d)))) ∧
     (takes (spec0 0x902 [7]) h s.dev = true → exec (.cmdRepairStatus h) s = .next (s.commit (cmdReply 0x902 h
       (okA [d.rn (Reg.rprKActive (entW p 0)), d.rn (Reg.rprKSpares (entW p 0)), d.rn (Reg.rprKRetired (entW p 0))]) d)))) ∧
    (s.dev.up = true →
      let d := s.dev
      (d.memx.ppr = [] → exec (.pprComplete ok left) s = .next (s.commit d)) ∧
      (∀ job m loc rest, d.memx.ppr = (job, m, loc) :: rest →
        let d1 := { d with memx := { d.memx with ppr := rest } }
        (rmapOf d1 m loc = none → exec (.pprComplete ok left) s = .next (s.commit (finishJob job cFault [] d1))) ∧
        (∀ k, rmapOf d1 m loc = some k →
          let d2 := remapDone m k d1
          (exec (.pprComplete false left) s = .next (s.commit (finishJob job cFault [] d2))) ∧
          (exec (.pprComplete true left) s =
            let d3 := showPpr (showRemap ((d2.wn (Reg.memCRmap m k) 0).wn (Reg.memCPpr m (locGroup loc)) (left % 16)))
            .next (s.commit (finishJob job cOk [left % 16]
              (raise (365 + 8 * m) none loc 0 ((clearCond (363 + 8 * m) d3).bump (Reg.rprKRetired 6)))))))) ∧
      (g < 8 → row < 2 ^ 24 →
        let bad := if ue = true ∨ tget 0 d.sau.ecc (row % 2 ^ 18) = 2 then 2 else 1
        let d0 := if g = 0 then { d with sau := { d.sau with ecc := tput d.sau.ecc (row % 2 ^ 18) bad } } else d
        let again := tfind d0.rpr.sramCe (g * 2 ^ 24 + row) = some d0.tim.absRoute
        let d1 := { d0 with rpr := { d0.rpr with sramCe := tput d0.rpr.sramCe (g * 2 ^ 24 + row) d0.tim.absRoute } }
        let soft := (ue = true ∨ again) ∧ d1.bitR Reg.rprCtrl 1 = true ∧ (g, row) ∉ d1.rpr.copies
        (¬ soft → exec (.sramRowRepair g row ue) s = .next (s.commit d1)) ∧
        (soft → sramLeft d1 g = 0 → exec (.sramRowRepair g row ue) s = .next (s.commit (setCond 398 g d1))) ∧
        (soft → sramLeft d1 g ≠ 0 → exec (.sramRowRepair g row ue) s =
          .next (s.commit (sramUse g { d1 with rpr := { d1.rpr with copies := d1.rpr.copies ++ [(g, row)] } })))) ∧
      ((g, row) ∈ d.rpr.copies →
        let d1 := { d with rpr := { d.rpr with copies := d.rpr.copies.filter (fun x => x != (g, row)) } }
        let d2 := if g = 0 ∧ tget 0 d1.sau.ecc (row % 2 ^ 18) = 1 then
          { d1 with sau := { d1.sau with ecc := tdel d1.sau.ecc (row % 2 ^ 18) } } else d1
        exec (.sramRepairDone g row) s = .next (s.commit (repairLog [5, g, row] (raise 397 none g row d2)))) ∧
      ((g, row) ∉ d.rpr.copies → exec (.sramRepairDone g row) s = .next (s.commit d)) ∧
      (bitOf v.toNat 0 = true → d.mode = modeMaintenance →
        exec (.fuseCommit v) s = .next (s.commit (d.setB Reg.rprFuseStatus 0))) ∧
      (d.mode = modeBoot ∨ (d.mode = modeMaintenance ∧ bitOf v.toNat 0 = false) → exec (.fuseCommit v) s = .next (s.commit d)) ∧
      (d.mode ≠ modeMaintenance → d.mode ≠ modeBoot → exec (.fuseCommit v) s = .next (s.commit (raise 49 none 0 0 d))) ∧
      (d.bitR Reg.rprFuseStatus 0 = false → exec (.fuseCommitDone ok) s = .next (s.commit d)) ∧
      (d.bitR Reg.rprFuseStatus 0 = true →
        (exec (.fuseCommitDone false) s = .next (s.commit (d.wn Reg.rprFuseStatus 2))) ∧
        (let done := d.fldR Reg.rprLogCount 16 9
         let room := d.fldR Reg.rprFuseLeft 0 7
         let new := (d.rpr.log.drop done).take room
         let d1 := { d with rpr := { d.rpr with fused := d.rpr.fused ++ new } }.wn Reg.rprFuseStatus 0
         exec (.fuseCommitDone true) s = .next (s.commit (raise 400 none new.length 0
           ((d1.setF Reg.rprLogCount 16 9 (done + new.length)).setF Reg.rprFuseLeft 0 7 (room - new.length)))))) ∧
      exec (.coreUe core) s = .next (s.commit (raise 401 none core 0 (d.emit (.note 557 [core])))))

/-! The disturbance recorder's own events (14). -/

/-- 14 R423 to R430, R433 to R439; 02 R62: a recorder that is IDLE, or whose next leg is not declared, takes none; a FULL one counts its reports as
missed; an ARMED or TRIGGERED one writes the leg's block, takes its reports, and ends its record at its last leg; a leg that is taken again (log 44)
brings no report; an edge on an enabled TRIG_IN ball is stamped less its latency and reaches the recorders' terms and the interval timers, on a disabled
ball it does nothing; a timer is armed, cancelled, and times out with no second edge in time; slots are freed at the next leg; an input of the general
pins keeps its level and stamp. -/
def Obligations.RecorderEvents : Prop :=
  ∀ (s : State) (r b k n : Nat) (level short : Bool) (tap : Int) (v : Word), s.dev.up = true →
    let d := s.dev
    (r < 16 →
      (recState d r = rIdle → exec (.recorderLegTake r short) s = .next (s.commit d)) ∧
      (d.sau.declared = none → exec (.recorderLegTake r short) s = .next (s.commit d)) ∧
      (∀ top, d.sau.declared = some top →
        let leg := (recdr d r).next.getD top
        let rs := if leg < (recdr d r).seen then (if (recdr d r).force then [(gN leg, 8, false)] else []) else reports d (recdr d r) leg
        (top < leg → exec (.recorderLegTake r short) s = .next (s.commit d)) ∧
        (leg ≤ top → recState d r = rFull →
          let d1 := keepTerms r leg (setRecdr r { recdr d r with missed := min 0xFFFF ((recdr d r).missed + rs.length) }
            (d.bumpBy (Reg.drcRMissed r) rs.length))
          exec (.recorderLegTake r short) s = .next (s.commit (completeUpTo r leg false (recRms s.mem r leg d1)))) ∧
        (leg ≤ top → recState d r ≠ rIdle → recState d r ≠ rFull →
          let gap := short || decide (leg + 48 < d.tim.absLeg)
          let d1 := writeBlock r leg gap (if gap then raise 331 none r leg (d.bump Reg.drcGapCnt) else d)
          let d2 := keepTerms r leg (rs.foldl (fun d p => takeReport s.mem r leg p d) d1)
          let d3 := completeUpTo r leg false (recRms s.mem r leg d2)
          ((recdr d3 r).trig = none → exec (.recorderLegTake r short) s = .next (s.commit d3)) ∧
          (∀ t, (recdr d3 r).trig = some t → leg < t.last → exec (.recorderLegTake r short) s = .next (s.commit d3)) ∧
          (∀ t, (recdr d3 r).trig = some t → t.last ≤ leg →
            let d4 := afterRecord r (closeRecord r leg t.last false d3)
            exec (.recorderLegTake r short) s = .next (s.commit
              (if recState d4 r = rArmed then setRecdr r { recdr d4 r with next := some (t.last + 1) } d4 else d4)))))) ∧
    (b < 8 →
      (d.bitR (Reg.drcTrigCfg b) 8 = false → exec (.trigInEdge b level tap) s = .next (s.commit d)) ∧
      (d.bitR (Reg.drcTrigCfg b) 8 = true →
        let t := (d.tim.absTick : Int) * 320000 + tap - raDiv (sx 32 (d.rn (Reg.drcTrigLat b)) * 24576) 1000000
        let d1 := (d.wn (Reg.drcTrigLastTc b) (tickCodeOf (t / 320000).toNat)).wn (Reg.drcTrigLastSub b)
          ((t % 320000).toNat + b2n level * 2 ^ 31)
        let d2 := (List.range 16).foldl (fun d q =>
          let es := (rdTerms.filter (fun i => rtKind (rdTerm (recdr d q).desc i) == 4 && fld (rdTerm (recdr d q).desc i) 8 3 == b &&
            bitOf (rtEdge (rdTerm (recdr d q).desc i)) (if level then 0 else 1))).map (fun i => (i, t))
          if recState d q = rIdle ∨ es = [] then d else setRecdr q { recdr d q with edges := (recdr d q).edges ++ es } d) d1
        exec (.trigInEdge b level tap) s =
          .next (s.commit (itEdge 3 b level t (itEdge 2 b level t (itEdge 1 b level t (itEdge 0 b level t d2))))))) ∧
    (k < 4 →
      let st := Reg.drcItStatus k
      exec (.itArm k) s = .next (s.commit
        { ((d.setF st 0 2 1).clrB st 8).clrB st 9 with drc := { d.drc with its := tput d.drc.its k (none, none, 0) } }) ∧
      exec (.itCancel k) s = .next (s.commit { d.setF st 0 2 0 with drc := { d.drc with its := tput d.drc.its k (none, none, 0) } }) ∧
      (itState d k ≠ 2 → exec (.itTimeout k) s = .next (s.commit d)) ∧
      (d.tim.absLeg < (itGet d k).2.2 + d.fldR (Reg.drcItCfg k) 16 16 → exec (.itTimeout k) s = .next (s.commit d)) ∧
      (itState d k = 2 → (itGet d k).2.2 + d.fldR (Reg.drcItCfg k) 16 16 ≤ d.tim.absLeg → exec (.itTimeout k) s = .next (s.commit
        (raise 333 none k 0 (itResult 0 false (itGet d k).1.isNone false true k d))))) ∧
    (r < 16 →
      (bitOf v.toNat 31 = false → exec (.recordSlotFree r v) s =
        .next (s.commit (setRecdr r { recdr d r with freeNext := fld v.toNat 0 8 :: (recdr d r).freeNext } d))) ∧
      (bitOf v.toNat 31 = true → exec (.recordSlotFree r v) s =
        .next (s.commit (setRecdr r { recdr d r with freeNext := 256 :: (recdr d r).freeNext } d)))) ∧
    (n < 16 → exec (.gpioInputEdge n level) s =
      .next (s.commit { d with drc := { d.drc with gpio := tput d.drc.gpio n (level, d.tc) } }))

/-! Supervision, and accesses of the control space (15, 00_scope). -/

/-- 15 R446; 17 R529; 19 R574, R583: a root PLL that unlocks, a lockstep pair that differs, a Lantern that reads back other than it is driven, a die at a
temperature threshold of its grade and a rail outside a window latch their sources, and the causes go as they came; between a threshold and 3 degrees
below it nothing changes; the comparison pauses while the management cores are halted. -/
def Obligations.SupervisedCauses : Prop :=
  ∀ (s : State) (pair : Nat) (t : Int), s.dev.up = true →
    let d := s.dev
    let g : Int := if d.bitR Reg.glbId 16 = true then 10 else 0
    exec .rootPllUnlock s = .next (s.commit (setCond 1 0 (d.clrB Reg.clkStatus 1))) ∧
    (pair < 2 →
      (d.bitR Reg.tgtDbgStatus 3 = false → exec (.lockstepMismatch pair) s = .next (s.commit (raise (50 + pair) none pair 0 d))) ∧
      (d.bitR Reg.tgtDbgStatus 3 = true → exec (.lockstepMismatch pair) s = .next (s.commit d))) ∧
    exec (.lanternReadback true) s = .next (s.commit (setCond 55 0 d)) ∧
    exec (.lanternReadback false) s = .next (s.commit (clearCond 55 d)) ∧
    exec (.railWindow true true) s = .next (s.commit (setCond 411 0 (setCond 410 0 d))) ∧
    exec (.railWindow true false) s = .next (s.commit (clearCond 411 (setCond 410 0 d))) ∧
    exec (.railWindow false true) s = .next (s.commit (setCond 411 0 (clearCond 410 d))) ∧
    exec (.railWindow false false) s = .next (s.commit (clearCond 411 (clearCond 410 d))) ∧
    (115 + g ≤ t → exec (.dieTempThreshold t) s = .next (s.commit (setCond 409 t.toNat (setCond 408 t.toNat d)))) ∧
    (112 + g < t → t < 115 + g → exec (.dieTempThreshold t) s = .next (s.commit (setCond 408 t.toNat d))) ∧
    (105 + g ≤ t → t ≤ 112 + g → exec (.dieTempThreshold t) s = .next (s.commit (clearCond 409 (setCond 408 t.toNat d)))) ∧
    (102 + g < t → t < 105 + g → exec (.dieTempThreshold t) s = .next (s.commit (clearCond 409 d))) ∧
    (t ≤ 102 + g → exec (.dieTempThreshold t) s = .next (s.commit (clearCond 409 (clearCond 408 d))))

/-- 15 R443, R447, R451 to R453: raising a source leaves it LATCHED; no raise unlatches a source. A clear while the cause is present is refused, counted and
recorded; else it unlatches the source, clears its event bit and resets OCCUR. A unit is cleared when none of its sources is latched, with the history of a
privileged unit. -/
def Obligations.SourceLatches : Prop :=
  (∀ n car d0 d1 d, srcExists n = true → (raise n car d0 d1 d).bitR (Reg.supSrcStatus n) 1 = true) ∧
  (∀ k n car d0 d1 d, k < 416 → d.bitR (Reg.supSrcStatus k) 1 = true → (raise n car d0 d1 d).bitR (Reg.supSrcStatus k) 1 = true) ∧
  (∀ (s : State) (n u : Nat), s.dev.up = true →
    let d := s.dev
    (srcExists n = false → exec (.sourceClear n) s = .next (s.commit d)) ∧
    (srcExists n = true → srcPresent d n = true → exec (.sourceClear n) s =
      .next (s.commit ((d.wn Reg.supClrResult (n + 2 ^ 17)).bump Reg.supClrRefused))) ∧
    (srcExists n = true → srcPresent d n = false → ∃ t, exec (.sourceClear n) s = .next t ∧
      t.dev.bitR (Reg.supSrcStatus n) 1 = false ∧ t.dev.fldR (Reg.supSrcStatus n) 16 16 = 0 ∧
      t.dev.rn Reg.supClrResult = n + 2 ^ 16 ∧ t.mem = memWriteWords s.mem d.dramW ∧
      (∀ r, r ≠ Reg.supSrcStatus n → r ≠ Reg.supClrResult → evtReg n ≠ some r → t.dev.rd r = d.rd r) ∧
      (∀ r, evtReg n = some r → t.dev.bitR r (evtBit n) = false ∧ ∀ i, i ≠ evtBit n → t.dev.bitR r i = d.bitR r i)) ∧
    (u < 32 →
      ((∃ n, n < 416 ∧ unitOf n = u ∧ d.bitR (Reg.supSrcStatus n) 1 = true) → exec (.unitClear u) s =
        .next (s.commit ((d.wn Reg.supClrResult (0x1FF + 2 ^ 17)).bump Reg.supClrRefused))) ∧
      ((∀ n, n < 416 → unitOf n = u → d.bitR (Reg.supSrcStatus n) 1 = false) →
        let d1 := (d.wn (Reg.supUFirst u) 0).wn (Reg.supUFirstTc u) 0
        exec (.unitClear u) s = .next (s.commit
          ((if privileged u = true then histEmpty u d1 else d1).wn Reg.supClrResult (0x1FF + 2 ^ 16))))))

/-- 00_scope R7, R8, R11, R585; 10 R318; 17 R520 to R522, R525 to R527: an access that names no register of the device as it is raises source 48 and reads 0; a
write or read-to-clear the Tollgate denies latches its denial; one it permits has the register's own effect and answers its value; the debug port
writes from level 2 and reads without effects from level 1. A read-to-clear register is 0 after its read, SWC_FREE_MIN the free cells. A value out of a
field's range changes nothing; read-only registers take no write, but for the one bit of SBX_STATUS; locked RWB registers raise source 82, others boot
code alone writes; an RWM register outside Boot and Maintenance, and in Boot by another master (log 55), raises source 49; a FREE carriage's window takes
no write. -/
def Obligations.RegisterAccess : Prop :=
  ∀ (s : State) (who : Who) (off bytes mst : Nat) (v : Word), s.dev.up = true →
    let d := s.dev
    let own := off = Reg.sbxUnlock ∨ off = Reg.sbxZero ∨ off = Reg.sbxTlogClr
    let d' := if own then d else disarm who.master d
    (bytes ≠ 4 ∨ rowAt d off = none →
      exec (.reservedAccess off bytes true) s = .next (s.commit (raise 48 none off 1 d)) ∧
      exec (.reservedAccess off bytes false) s = .next (s.commit ((raise 48 none off 0 d).emit (.readData 0)))) ∧
    (bytes = 4 → rowAt d off ≠ none → ∀ w, exec (.reservedAccess off bytes w) s = .next (s.commit d)) ∧
    ((who.master ≠ 9 ∨ 2 ≤ debugLevel d) →
      (∀ n, denial d' who true (ctlAddr off) = some n →
        exec (.registerWrite who off v) s = .next (s.commit (denied n who true (ctlAddr off) d'))) ∧
      (denial d' who true (ctlAddr off) = none →
        exec (.registerWrite who off v) s = .next (s.commit (writeReg who.master off v.toNat s.mem d')))) ∧
    (who.master = 9 → debugLevel d < 2 → exec (.registerWrite who off v) s = .next (s.commit d)) ∧
    (∀ r, regRow? off = some r → r.acc = .rc →
      (who.master = 9 → debugLevel d < 1 → exec (.rcRead who off) s = .next (s.commit d)) ∧
      (who.master ≠ 9 ∨ 1 ≤ debugLevel d →
        (∀ n, denial d who false (ctlAddr off) = some n →
          exec (.rcRead who off) s = .next (s.commit ((denied n who false (ctlAddr off) d).emit (.readData 0)))) ∧
        (denial d who false (ctlAddr off) = none →
          let d1 := if who.master = 9 then d else readEffect off d
          exec (.rcRead who off) s = .next (s.commit (d1.emit (.readData (w32 (readReg d off)))))))) ∧
    ((∀ r, regRow? off = some r → r.acc ≠ .rc) → exec (.rcRead who off) s = .next (s.commit d)) ∧
    (rowAt d off = none → writeReg mst off v.toNat s.mem d = raise 48 none off 1 d) ∧
    (∀ r, rowAt d off = some r → freeWin d off = true → writeReg mst off v.toNat s.mem d = d) ∧
    (∀ r, rowAt d off = some r → freeWin d off = false →
      (r.acc = .rc → (readEffect off d).rn off = if off = Reg.swcFreeMin then d.rn Reg.swcFree else 0) ∧
      (r.acc = .rc → writeReg mst off v.toNat s.mem d = d) ∧
      (r.acc = .ro → writeReg mst off v.toNat s.mem d =
        if off = Reg.sbxStatus ∧ bitOf v.toNat 3 = true then d.clrB off 3 else d) ∧
      (r.acc = .rw → inRanges r v.toNat = false → writeReg mst off v.toNat s.mem d = d) ∧
      (r.acc = .rwb → d.bitR Reg.tgtStatus 0 = true → writeReg mst off v.toNat s.mem d =
        raiseH 82 none off mst (mst * 16 + 256) ((0xF0000000 + off) / 4096) d) ∧
      (r.acc = .rwb → d.bitR Reg.tgtStatus 0 = false → inRanges r v.toNat = false ∨ d.mode ≠ modeBoot ∨ 1 < mst →
        writeReg mst off v.toNat s.mem d = d) ∧
      (r.acc = .rwm → inRanges r v.toNat = true → d.mode ≠ modeMaintenance → d.mode ≠ modeBoot ∨ 1 < mst →
        writeReg mst off v.toNat s.mem d = raise 49 none 0 0 d)) ∧
    (5 ≤ fld v.toNat 0 13 → fld v.toNat 0 13 ≤ 5000 → writeReg mst Reg.hbrCplTo v.toNat s.mem d =
      d.wr Reg.hbrCplTo ((d.rd Reg.hbrCplTo &&& 0xFFFFE000#32) ||| (v &&& 0x1FFF#32)))

/-- 13 R421; 03 R93; 08 R263; 17 R527; 00_scope R7: DIAG_READ replies 1 to 4 registers and changes none but for source 48 at a reserved offset; DIAG_WRITE,
DIAG_LOOPBACK and DIAG_INSPECT act in Maintenance alone and reply WRONG_MODE elsewhere; DIAG_SAMPLE sets a port's count. -/
def Obligations.DiagnosticCommands : Prop :=
  ∀ (h : Cmd) (s : State),
    let d := cmdAdvance h.session s.dev
    let p := cmdP h s.dev
    (takes (spec0 0xA00 [mAll, 3]) h s.dev = true →
      let offs := (List.range (fld (entW p 1) 0 2 + 1)).map (fun k => entW p 0 + 4 * k)
      let d1 := offs.foldl (fun d o => if rowAt d o = none then raise 48 none o 0 d else d) d
      exec (.cmdDiagRead h) s = .next (s.commit (cmdReply 0xA00 h (okA (offs.map (readReg d))) d1))) ∧
    (takes (spec0 0xA01 [mAll, mAll]) h s.dev = true →
      (d.mode = modeMaintenance → exec (.cmdDiagWrite h) s =
        .next (s.commit (cmdReply 0xA01 h (okA []) (writeReg 0 (entW p 0) (entW p 1) s.mem d)))) ∧
      (d.mode ≠ modeMaintenance → exec (.cmdDiagWrite h) s = .next (s.commit (cmdReply 0xA01 h (noA cWrongMode) d)))) ∧
    (takes ⟨0xA02, false, [0xF, 1], [], fun p => if 10 < entW p 0 then some 0 else none⟩ h s.dev = true →
      (d.mode = modeMaintenance → exec (.cmdDiagLoopback h) s =
        .next (s.commit (cmdReply 0xA02 h (okA []) (d.putB (Reg.ethCtrl (entW p 0)) 6 (bitOf (entW p 1) 0))))) ∧
      (d.mode ≠ modeMaintenance → exec (.cmdDiagLoopback h) s = .next (s.commit (cmdReply 0xA02 h (noA cWrongMode) d)))) ∧
    (takes ⟨0xA03, false, [0xF, 0xFFFF], [], fun p => if 10 < entW p 0 then some 0 else none⟩ h s.dev = true →
      exec (.cmdDiagSample h) s = .next (s.commit (cmdReply 0xA03 h (okA []) (d.wn (Reg.ethSampleN (entW p 0)) (entW p 1))))) ∧
    (takes ⟨0xA04, false, [3, 1], [], fun p => if entW p 0 = 3 then some 0 else none⟩ h s.dev = true →
      (d.mode = modeMaintenance → exec (.cmdDiagInspect h) s = .next (s.commit (cmdReply 0xA04 h (okA [])
        (d.wrLagR Reg.ttbInspCtrl (w32 (putFld (d.rn Reg.ttbInspCtrl) (entW p 0) 1 (entW p 1))))))) ∧
      (d.mode ≠ modeMaintenance → exec (.cmdDiagInspect h) s = .next (s.commit (cmdReply 0xA04 h (noA cWrongMode) d))))

/-- Derived (02 R62 to R64; 00_scope R14; log 7: the sender puts a tick's inputs into the queue by this operation): the batch of a tick holds exactly
the inputs given, in the order of their class, then their source number, then their unit; equal ones stay in the order of their arrival; what is no input
of R62 goes first; and the whole batch lies behind what waits already and before the TICK that ends it. -/
def Obligations.TickBatchIsOrdered : Prop :=
  (∀ l : List Instr,
    (batchOrder l).Perm l ∧ (batchOrder l).Pairwise (fun a b => batchKey a ≤ batchKey b) ∧
    (∀ k, (batchOrder l).filter (fun i => batchKey i == k) = l.filter (fun i => batchKey i == k))) ∧
  (∀ a b c n u c' n' u', inputRank a = some (c, n, u) → inputRank b = some (c', n', u') →
    n < 1024 → u < 1024 → n' < 1024 → u' < 1024 →
    (batchKey a < batchKey b ↔ c < c' ∨ (c = c' ∧ (n < n' ∨ (n = n' ∧ u < u'))))) ∧
  (∀ a b c n u, inputRank a = none → inputRank b = some (c, n, u) → batchKey a < batchKey b) ∧
  (∀ (s : State) (l : List Instr), (s.takeBatch l).pending = s.pending ++ batchOrder l ++ [.tick] ∧
    (s.takeBatch l).dev = s.dev ∧ (s.takeBatch l).mem = s.mem)
end

