-- ==== Sys2Proof/Laws/Memory.lean ====
section
/-! SUPPORT. DRAM: what a read finds after a write, and that every write keeps the canonical form. -/

namespace Sys2Proof.Machine

theorem tfind_tdel_same {α : Type} (t : Tbl α) (k : Nat) : tfind (tdel t k) k = none := by
  induction t with
  | nil => rfl
  | cons p t ih =>
    obtain ⟨a, x⟩ := p
    by_cases h : a = k <;> simp [tdel, tfind, h, ih]

theorem tfind_tdel_other {α : Type} (t : Tbl α) (k j : Nat) (h : j ≠ k) : tfind (tdel t k) j = tfind t j := by
  induction t with
  | nil => rfl
  | cons p t ih =>
    obtain ⟨a, x⟩ := p
    by_cases ha : a = k
    · have hj : a ≠ j := fun e => h (e ▸ ha)
      simp [tdel, tfind, ha, ih, Ne.symm h]
    · by_cases hj : a = j
      · simp [tdel, tfind, ha, if_pos hj]
      · simp [tdel, tfind, ha, hj, ih]

theorem tfind_tins_same {α : Type} (t : Tbl α) (k : Nat) (v : α) (h : tfind t k = none) : tfind (tins t k v) k = some v := by
  induction t with
  | nil => simp [tins, tfind]
  | cons p t ih =>
    obtain ⟨a, x⟩ := p
    by_cases ha : a = k
    · simp [tfind, ha] at h
    · by_cases hl : k < a
      · simp [tins, tfind, hl]
      · simp only [tfind, ha, if_false] at h
        simp [tins, tfind, hl, ha, ih h]

theorem tfind_tins_other {α : Type} (t : Tbl α) (k j : Nat) (v : α) (h : j ≠ k) : tfind (tins t k v) j = tfind t j := by
  induction t with
  | nil => simp [tins, tfind, Ne.symm h]
  | cons p t ih =>
    obtain ⟨a, x⟩ := p
    by_cases hl : k < a
    · simp [tins, tfind, hl, Ne.symm h]
    · by_cases ha : a = j
      · simp [tins, tfind, if_neg hl, if_pos ha]
      · simp [tins, tfind, hl, ha, ih]

/-- A table reads at a key what was put there. -/
@[simp] theorem tfind_tput_same {α : Type} (t : Tbl α) (k : Nat) (v : α) : tfind (tput t k v) k = some v :=
  tfind_tins_same _ _ _ (tfind_tdel_same _ _)

/-- A table reads at every other key what it read before. -/
theorem tfind_tput_other {α : Type} (t : Tbl α) (k j : Nat) (v : α) (h : j ≠ k) : tfind (tput t k v) j = tfind t j := by
  rw [tput, tfind_tins_other _ _ _ _ h, tfind_tdel_other _ _ _ h]

@[simp] theorem tget_tput_same {α : Type} (d : α) (t : Tbl α) (k : Nat) (v : α) : tget d (tput t k v) k = v := by
  simp [tget]

theorem tget_tput_other {α : Type} (d : α) (t : Tbl α) (k j : Nat) (v : α) (h : j ≠ k) :
    tget d (tput t k v) j = tget d t j := by
  simp [tget, tfind_tput_other _ _ _ _ h]

@[simp] theorem tget_tset_same {α : Type} [DecidableEq α] (d : α) (t : Tbl α) (k : Nat) (v : α) : tget d (tset d t k v) k = v := by
  by_cases h : v = d
  · simp [tset, h, tget, tfind_tdel_same]
  · simp [tset, h]

theorem tget_tset_other {α : Type} [DecidableEq α] (d : α) (t : Tbl α) (k j : Nat) (v : α) (h : j ≠ k) :
    tget d (tset d t k v) j = tget d t j := by
  by_cases hv : v = d
  · simp [tset, hv, tget, tfind_tdel_other _ _ _ h]
  · simp [tset, hv, tget_tput_other _ _ _ _ _ h]

/-- A read of the byte just written. -/
@[simp] theorem memRead_memWrite_same (m : List Host.Cell) (a : Nat) (b : Byte) : memRead (memWrite m a b) a = b :=
  tget_tset_same 0 m a b

/-- A write leaves every other byte alone. -/
theorem memRead_memWrite_other (m : List Host.Cell) (a x : Nat) (b : Byte) (h : x ≠ a) :
    memRead (memWrite m a b) x = memRead m x := tget_tset_other 0 m a x b h

/-! The canonical form. -/

/-- Every key of a table lies above `k`. -/
def keysAbove {α : Type} (k : Nat) (t : Tbl α) : Prop := ∀ p ∈ t, k < p.1

theorem rising_cons {α : Type} (a : Nat) (x : α) (t : Tbl α) : rising ((a, x) :: t) = true ↔ keysAbove a t ∧ rising t = true := by
  induction t generalizing a x with
  | nil => simp [rising, keysAbove]
  | cons p t ih =>
    obtain ⟨b, y⟩ := p
    simp only [rising, Bool.and_eq_true, decide_eq_true_eq]
    constructor
    · rintro ⟨hab, hr⟩
      refine ⟨?_, hr⟩
      have := ((ih b y).1 hr).1
      intro q hq
      rcases List.mem_cons.1 hq with rfl | hq
      · exact hab
      · exact Nat.lt_trans hab (this q hq)
    · rintro ⟨ha, hr⟩
      exact ⟨ha _ (List.mem_cons_self ..), hr⟩

theorem mem_tdel {α : Type} (t : Tbl α) (k : Nat) (p : Nat × α) (h : p ∈ tdel t k) : p ∈ t := by
  induction t with
  | nil => exact h
  | cons q t ih =>
    obtain ⟨a, x⟩ := q
    by_cases ha : a = k
    · simp only [tdel, ha, if_true] at h
      exact List.mem_cons_of_mem _ (ih h)
    · simp only [tdel, ha, if_false] at h
      rcases List.mem_cons.1 h with rfl | h
      · exact List.mem_cons_self ..
      · exact List.mem_cons_of_mem _ (ih h)

theorem rising_tdel {α : Type} (t : Tbl α) (k : Nat) (h : rising t = true) : rising (tdel t k) = true := by
  induction t with
  | nil => exact h
  | cons q t ih =>
    obtain ⟨a, x⟩ := q
    rw [rising_cons] at h
    by_cases ha : a = k
    · simpa [tdel, ha] using ih h.2
    · simp only [tdel, ha, if_false, rising_cons]
      exact ⟨fun p hp => h.1 p (mem_tdel _ _ _ hp), ih h.2⟩

theorem mem_tins {α : Type} (t : Tbl α) (k : Nat) (v : α) (p : Nat × α) (h : p ∈ tins t k v) : p = (k, v) ∨ p ∈ t := by
  induction t with
  | nil => simpa [tins] using h
  | cons q t ih =>
    obtain ⟨a, x⟩ := q
    by_cases hl : k < a
    · simpa [tins, hl] using h
    · simp only [tins, hl, if_false, List.mem_cons] at h
      rcases h with h | h
      · exact .inr (h ▸ List.mem_cons_self ..)
      · exact (ih h).imp id (List.mem_cons_of_mem _)

theorem rising_tins {α : Type} (t : Tbl α) (k : Nat) (v : α) (h : rising t = true) (hn : tfind t k = none) :
    rising (tins t k v) = true := by
  induction t with
  | nil => rfl
  | cons q t ih =>
    obtain ⟨a, x⟩ := q
    by_cases ha : a = k
    · simp [tfind, ha] at hn
    · have hn' : tfind t k = none := by simpa [tfind, ha] using hn
      have hc := (rising_cons a x t).1 h
      by_cases hl : k < a
      · simp only [tins, hl, if_true]
        refine (rising_cons _ _ _).2 ⟨?_, h⟩
        intro p hp
        rcases List.mem_cons.1 hp with rfl | hp
        · exact hl
        · exact Nat.lt_trans hl (hc.1 p hp)
      · simp only [tins, hl, if_false]
        refine (rising_cons _ _ _).2 ⟨?_, ih hc.2 hn'⟩
        intro p hp
        rcases mem_tins _ _ _ _ hp with rfl | hp
        · have : a < k := Nat.lt_of_le_of_ne (Nat.not_lt.1 hl) ha
          exact this
        · exact hc.1 p hp

theorem mem_tset {α : Type} [DecidableEq α] (d : α) (t : Tbl α) (k : Nat) (v : α) (p : Nat × α) (h : p ∈ tset d t k v) :
    (p = (k, v) ∧ v ≠ d) ∨ p ∈ t := by
  by_cases hv : v = d
  · simp only [tset, hv, if_true] at h
    exact .inr (mem_tdel _ _ _ h)
  · simp only [tset, hv, if_false, tput] at h
    rcases mem_tins _ _ _ _ h with h | h
    · exact .inl ⟨h, hv⟩
    · exact .inr (mem_tdel _ _ _ h)

theorem rising_tset {α : Type} [DecidableEq α] (d : α) (t : Tbl α) (k : Nat) (v : α) (h : rising t = true) :
    rising (tset d t k v) = true := by
  by_cases hv : v = d
  · simpa [tset, hv] using rising_tdel t k h
  · simp only [tset, hv, if_false, tput]
    exact rising_tins _ _ _ (rising_tdel t k h) (tfind_tdel_same t k)

/-- A write at an address of DRAM keeps the canonical form. -/
theorem memWrite_wf (m : List Host.Cell) (a : Nat) (b : Byte) (h : Memory.wf m = true) (ha : inDram a = true) :
    Memory.wf (memWrite m a b) = true := by
  simp only [Memory.wf, Bool.and_eq_true, List.all_eq_true] at h ⊢
  refine ⟨rising_tset 0 m a b h.1, fun p hp => ?_⟩
  rcases mem_tset 0 m a b p hp with ⟨rfl, hb⟩ | hp
  · exact ⟨by simpa using hb, ha⟩
  · exact h.2 p hp

theorem memWriteBytes_wf (bs : List Byte) (m : List Host.Cell) (a : Nat) (h : Memory.wf m = true) :
    Memory.wf (memWriteBytes m a bs) = true := by
  induction bs generalizing m a with
  | nil => exact h
  | cons b bs ih =>
    simp only [memWriteBytes]
    refine ih _ _ ?_
    split
    · next ha => exact memWrite_wf _ _ _ h ha
    · exact h

/-- The stores of a command keep the canonical form. -/
theorem memWriteWords_wf (ws : List (Nat × List Byte)) (m : List Host.Cell) (h : Memory.wf m = true) :
    Memory.wf (memWriteWords m ws) = true := by
  induction ws generalizing m with
  | nil => exact h
  | cons p ws ih => exact ih _ (memWriteBytes_wf _ _ _ h)

/-- A commit keeps the canonical form. -/
theorem commit_wf (s : State) (d : Dev) (h : Memory.wf s.mem = true) : Memory.wf (s.commit d).mem = true :=
  memWriteWords_wf _ _ h

theorem memRead_memWriteBytes_other (bs : List Byte) (m : List Host.Cell) (a x : Nat) (h : x < a ∨ a + bs.length ≤ x) :
    memRead (memWriteBytes m a bs) x = memRead m x := by
  induction bs generalizing m a with
  | nil => rfl
  | cons b bs ih =>
    simp only [memWriteBytes, List.length_cons] at h ⊢
    rw [ih _ _ (by omega)]
    split
    · exact memRead_memWrite_other _ _ _ _ (by omega)
    · rfl

/-- Bytes outside those that a command stores read as before. -/
theorem memRead_memWriteWords_other (ws : List (Nat × List Byte)) (m : List Host.Cell) (x : Nat)
    (h : ∀ p ∈ ws, x < p.1 ∨ p.1 + p.2.length ≤ x) : memRead (memWriteWords m ws) x = memRead m x := by
  induction ws generalizing m with
  | nil => rfl
  | cons p ws ih =>
    obtain ⟨a, w⟩ := p
    simp only [memWriteWords]
    rw [ih _ (fun q hq => h q (List.mem_cons_of_mem _ hq))]
    exact memRead_memWriteBytes_other _ _ _ _ (h (a, w) (List.mem_cons_self ..))

end Sys2Proof.Machine
end

