-- ==== Sys2Proof/Laws/State.lean ====
section
/-! SUPPORT. What each named update of the device leaves as it was, one lemma per field, and what a register reads after a
write. -/

namespace Sys2Proof.Machine

@[simp] theorem Dev.wr_lagR (d : Dev) (off : Nat) (v : Word) : (d.wr off v).lagR = d.lagR := rfl
@[simp] theorem Dev.wr_lagL (d : Dev) (off : Nat) (v : Word) : (d.wr off v).lagL = d.lagL := rfl
@[simp] theorem Dev.wr_hiLat (d : Dev) (off : Nat) (v : Word) : (d.wr off v).hiLat = d.hiLat := rfl
@[simp] theorem Dev.wr_tim (d : Dev) (off : Nat) (v : Word) : (d.wr off v).tim = d.tim := rfl
@[simp] theorem Dev.wr_sup (d : Dev) (off : Nat) (v : Word) : (d.wr off v).sup = d.sup := rfl
@[simp] theorem Dev.wr_swc (d : Dev) (off : Nat) (v : Word) : (d.wr off v).swc = d.swc := rfl
@[simp] theorem Dev.wr_sau (d : Dev) (off : Nat) (v : Word) : (d.wr off v).sau = d.sau := rfl
@[simp] theorem Dev.wr_fch (d : Dev) (off : Nat) (v : Word) : (d.wr off v).fch = d.fch := rfl
@[simp] theorem Dev.wr_een (d : Dev) (off : Nat) (v : Word) : (d.wr off v).een = d.een := rfl
@[simp] theorem Dev.wr_hle (d : Dev) (off : Nat) (v : Word) : (d.wr off v).hle = d.hle := rfl
@[simp] theorem Dev.wr_pub (d : Dev) (off : Nat) (v : Word) : (d.wr off v).pub = d.pub := rfl
@[simp] theorem Dev.wr_brc (d : Dev) (off : Nat) (v : Word) : (d.wr off v).brc = d.brc := rfl
@[simp] theorem Dev.wr_stl (d : Dev) (off : Nat) (v : Word) : (d.wr off v).stl = d.stl := rfl
@[simp] theorem Dev.wr_ttb (d : Dev) (off : Nat) (v : Word) : (d.wr off v).ttb = d.ttb := rfl
@[simp] theorem Dev.wr_cmd (d : Dev) (off : Nat) (v : Word) : (d.wr off v).cmd = d.cmd := rfl
@[simp] theorem Dev.wr_drc (d : Dev) (off : Nat) (v : Word) : (d.wr off v).drc = d.drc := rfl
@[simp] theorem Dev.wr_rst (d : Dev) (off : Nat) (v : Word) : (d.wr off v).rst = d.rst := rfl
@[simp] theorem Dev.wr_sbx (d : Dev) (off : Nat) (v : Word) : (d.wr off v).sbx = d.sbx := rfl
@[simp] theorem Dev.wr_hbr (d : Dev) (off : Nat) (v : Word) : (d.wr off v).hbr = d.hbr := rfl
@[simp] theorem Dev.wr_memx (d : Dev) (off : Nat) (v : Word) : (d.wr off v).memx = d.memx := rfl
@[simp] theorem Dev.wr_rpr (d : Dev) (off : Nat) (v : Word) : (d.wr off v).rpr = d.rpr := rfl
@[simp] theorem Dev.wr_cars (d : Dev) (off : Nat) (v : Word) : (d.wr off v).cars = d.cars := rfl
@[simp] theorem Dev.wr_carGen (d : Dev) (off : Nat) (v : Word) : (d.wr off v).carGen = d.carGen := rfl
@[simp] theorem Dev.wr_queues (d : Dev) (off : Nat) (v : Word) : (d.wr off v).queues = d.queues := rfl
@[simp] theorem Dev.wr_flyId (d : Dev) (off : Nat) (v : Word) : (d.wr off v).flyId = d.flyId := rfl
@[simp] theorem Dev.wr_msgSeq (d : Dev) (off : Nat) (v : Word) : (d.wr off v).msgSeq = d.msgSeq := rfl
@[simp] theorem Dev.wr_out (d : Dev) (off : Nat) (v : Word) : (d.wr off v).out = d.out := rfl
@[simp] theorem Dev.wr_dramW (d : Dev) (off : Nat) (v : Word) : (d.wr off v).dramW = d.dramW := rfl
@[simp] theorem Dev.wr_fresh (d : Dev) (off : Nat) (v : Word) : (d.wr off v).fresh = d.fresh := rfl

@[simp] theorem Dev.wn_lagR (d : Dev) (off n : Nat) : (d.wn off n).lagR = d.lagR := rfl
@[simp] theorem Dev.wn_lagL (d : Dev) (off n : Nat) : (d.wn off n).lagL = d.lagL := rfl
@[simp] theorem Dev.wn_hiLat (d : Dev) (off n : Nat) : (d.wn off n).hiLat = d.hiLat := rfl
@[simp] theorem Dev.wn_tim (d : Dev) (off n : Nat) : (d.wn off n).tim = d.tim := rfl
@[simp] theorem Dev.wn_sup (d : Dev) (off n : Nat) : (d.wn off n).sup = d.sup := rfl
@[simp] theorem Dev.wn_swc (d : Dev) (off n : Nat) : (d.wn off n).swc = d.swc := rfl
@[simp] theorem Dev.wn_sau (d : Dev) (off n : Nat) : (d.wn off n).sau = d.sau := rfl
@[simp] theorem Dev.wn_fch (d : Dev) (off n : Nat) : (d.wn off n).fch = d.fch := rfl
@[simp] theorem Dev.wn_een (d : Dev) (off n : Nat) : (d.wn off n).een = d.een := rfl
@[simp] theorem Dev.wn_hle (d : Dev) (off n : Nat) : (d.wn off n).hle = d.hle := rfl
@[simp] theorem Dev.wn_pub (d : Dev) (off n : Nat) : (d.wn off n).pub = d.pub := rfl
@[simp] theorem Dev.wn_brc (d : Dev) (off n : Nat) : (d.wn off n).brc = d.brc := rfl
@[simp] theorem Dev.wn_stl (d : Dev) (off n : Nat) : (d.wn off n).stl = d.stl := rfl
@[simp] theorem Dev.wn_ttb (d : Dev) (off n : Nat) : (d.wn off n).ttb = d.ttb := rfl
@[simp] theorem Dev.wn_cmd (d : Dev) (off n : Nat) : (d.wn off n).cmd = d.cmd := rfl
@[simp] theorem Dev.wn_drc (d : Dev) (off n : Nat) : (d.wn off n).drc = d.drc := rfl
@[simp] theorem Dev.wn_rst (d : Dev) (off n : Nat) : (d.wn off n).rst = d.rst := rfl
@[simp] theorem Dev.wn_sbx (d : Dev) (off n : Nat) : (d.wn off n).sbx = d.sbx := rfl
@[simp] theorem Dev.wn_hbr (d : Dev) (off n : Nat) : (d.wn off n).hbr = d.hbr := rfl
@[simp] theorem Dev.wn_memx (d : Dev) (off n : Nat) : (d.wn off n).memx = d.memx := rfl
@[simp] theorem Dev.wn_rpr (d : Dev) (off n : Nat) : (d.wn off n).rpr = d.rpr := rfl
@[simp] theorem Dev.wn_cars (d : Dev) (off n : Nat) : (d.wn off n).cars = d.cars := rfl
@[simp] theorem Dev.wn_carGen (d : Dev) (off n : Nat) : (d.wn off n).carGen = d.carGen := rfl
@[simp] theorem Dev.wn_queues (d : Dev) (off n : Nat) : (d.wn off n).queues = d.queues := rfl
@[simp] theorem Dev.wn_flyId (d : Dev) (off n : Nat) : (d.wn off n).flyId = d.flyId := rfl
@[simp] theorem Dev.wn_msgSeq (d : Dev) (off n : Nat) : (d.wn off n).msgSeq = d.msgSeq := rfl
@[simp] theorem Dev.wn_out (d : Dev) (off n : Nat) : (d.wn off n).out = d.out := rfl
@[simp] theorem Dev.wn_dramW (d : Dev) (off n : Nat) : (d.wn off n).dramW = d.dramW := rfl
@[simp] theorem Dev.wn_fresh (d : Dev) (off n : Nat) : (d.wn off n).fresh = d.fresh := rfl

@[simp] theorem Dev.setF_lagR (d : Dev) (off lo n v : Nat) : (d.setF off lo n v).lagR = d.lagR := rfl
@[simp] theorem Dev.setF_lagL (d : Dev) (off lo n v : Nat) : (d.setF off lo n v).lagL = d.lagL := rfl
@[simp] theorem Dev.setF_hiLat (d : Dev) (off lo n v : Nat) : (d.setF off lo n v).hiLat = d.hiLat := rfl
@[simp] theorem Dev.setF_tim (d : Dev) (off lo n v : Nat) : (d.setF off lo n v).tim = d.tim := rfl
@[simp] theorem Dev.setF_sup (d : Dev) (off lo n v : Nat) : (d.setF off lo n v).sup = d.sup := rfl
@[simp] theorem Dev.setF_swc (d : Dev) (off lo n v : Nat) : (d.setF off lo n v).swc = d.swc := rfl
@[simp] theorem Dev.setF_sau (d : Dev) (off lo n v : Nat) : (d.setF off lo n v).sau = d.sau := rfl
@[simp] theorem Dev.setF_fch (d : Dev) (off lo n v : Nat) : (d.setF off lo n v).fch = d.fch := rfl
@[simp] theorem Dev.setF_een (d : Dev) (off lo n v : Nat) : (d.setF off lo n v).een = d.een := rfl
@[simp] theorem Dev.setF_hle (d : Dev) (off lo n v : Nat) : (d.setF off lo n v).hle = d.hle := rfl
@[simp] theorem Dev.setF_pub (d : Dev) (off lo n v : Nat) : (d.setF off lo n v).pub = d.pub := rfl
@[simp] theorem Dev.setF_brc (d : Dev) (off lo n v : Nat) : (d.setF off lo n v).brc = d.brc := rfl
@[simp] theorem Dev.setF_stl (d : Dev) (off lo n v : Nat) : (d.setF off lo n v).stl = d.stl := rfl
@[simp] theorem Dev.setF_ttb (d : Dev) (off lo n v : Nat) : (d.setF off lo n v).ttb = d.ttb := rfl
@[simp] theorem Dev.setF_cmd (d : Dev) (off lo n v : Nat) : (d.setF off lo n v).cmd = d.cmd := rfl
@[simp] theorem Dev.setF_drc (d : Dev) (off lo n v : Nat) : (d.setF off lo n v).drc = d.drc := rfl
@[simp] theorem Dev.setF_rst (d : Dev) (off lo n v : Nat) : (d.setF off lo n v).rst = d.rst := rfl
@[simp] theorem Dev.setF_sbx (d : Dev) (off lo n v : Nat) : (d.setF off lo n v).sbx = d.sbx := rfl
@[simp] theorem Dev.setF_hbr (d : Dev) (off lo n v : Nat) : (d.setF off lo n v).hbr = d.hbr := rfl
@[simp] theorem Dev.setF_memx (d : Dev) (off lo n v : Nat) : (d.setF off lo n v).memx = d.memx := rfl
@[simp] theorem Dev.setF_rpr (d : Dev) (off lo n v : Nat) : (d.setF off lo n v).rpr = d.rpr := rfl
@[simp] theorem Dev.setF_cars (d : Dev) (off lo n v : Nat) : (d.setF off lo n v).cars = d.cars := rfl
@[simp] theorem Dev.setF_carGen (d : Dev) (off lo n v : Nat) : (d.setF off lo n v).carGen = d.carGen := rfl
@[simp] theorem Dev.setF_queues (d : Dev) (off lo n v : Nat) : (d.setF off lo n v).queues = d.queues := rfl
@[simp] theorem Dev.setF_flyId (d : Dev) (off lo n v : Nat) : (d.setF off lo n v).flyId = d.flyId := rfl
@[simp] theorem Dev.setF_msgSeq (d : Dev) (off lo n v : Nat) : (d.setF off lo n v).msgSeq = d.msgSeq := rfl
@[simp] theorem Dev.setF_out (d : Dev) (off lo n v : Nat) : (d.setF off lo n v).out = d.out := rfl
@[simp] theorem Dev.setF_dramW (d : Dev) (off lo n v : Nat) : (d.setF off lo n v).dramW = d.dramW := rfl
@[simp] theorem Dev.setF_fresh (d : Dev) (off lo n v : Nat) : (d.setF off lo n v).fresh = d.fresh := rfl

@[simp] theorem Dev.putB_lagR (d : Dev) (off i : Nat) (b : Bool) : (d.putB off i b).lagR = d.lagR := rfl
@[simp] theorem Dev.putB_lagL (d : Dev) (off i : Nat) (b : Bool) : (d.putB off i b).lagL = d.lagL := rfl
@[simp] theorem Dev.putB_hiLat (d : Dev) (off i : Nat) (b : Bool) : (d.putB off i b).hiLat = d.hiLat := rfl
@[simp] theorem Dev.putB_tim (d : Dev) (off i : Nat) (b : Bool) : (d.putB off i b).tim = d.tim := rfl
@[simp] theorem Dev.putB_sup (d : Dev) (off i : Nat) (b : Bool) : (d.putB off i b).sup = d.sup := rfl
@[simp] theorem Dev.putB_swc (d : Dev) (off i : Nat) (b : Bool) : (d.putB off i b).swc = d.swc := rfl
@[simp] theorem Dev.putB_sau (d : Dev) (off i : Nat) (b : Bool) : (d.putB off i b).sau = d.sau := rfl
@[simp] theorem Dev.putB_fch (d : Dev) (off i : Nat) (b : Bool) : (d.putB off i b).fch = d.fch := rfl
@[simp] theorem Dev.putB_een (d : Dev) (off i : Nat) (b : Bool) : (d.putB off i b).een = d.een := rfl
@[simp] theorem Dev.putB_hle (d : Dev) (off i : Nat) (b : Bool) : (d.putB off i b).hle = d.hle := rfl
@[simp] theorem Dev.putB_pub (d : Dev) (off i : Nat) (b : Bool) : (d.putB off i b).pub = d.pub := rfl
@[simp] theorem Dev.putB_brc (d : Dev) (off i : Nat) (b : Bool) : (d.putB off i b).brc = d.brc := rfl
@[simp] theorem Dev.putB_stl (d : Dev) (off i : Nat) (b : Bool) : (d.putB off i b).stl = d.stl := rfl
@[simp] theorem Dev.putB_ttb (d : Dev) (off i : Nat) (b : Bool) : (d.putB off i b).ttb = d.ttb := rfl
@[simp] theorem Dev.putB_cmd (d : Dev) (off i : Nat) (b : Bool) : (d.putB off i b).cmd = d.cmd := rfl
@[simp] theorem Dev.putB_drc (d : Dev) (off i : Nat) (b : Bool) : (d.putB off i b).drc = d.drc := rfl
@[simp] theorem Dev.putB_rst (d : Dev) (off i : Nat) (b : Bool) : (d.putB off i b).rst = d.rst := rfl
@[simp] theorem Dev.putB_sbx (d : Dev) (off i : Nat) (b : Bool) : (d.putB off i b).sbx = d.sbx := rfl
@[simp] theorem Dev.putB_hbr (d : Dev) (off i : Nat) (b : Bool) : (d.putB off i b).hbr = d.hbr := rfl
@[simp] theorem Dev.putB_memx (d : Dev) (off i : Nat) (b : Bool) : (d.putB off i b).memx = d.memx := rfl
@[simp] theorem Dev.putB_rpr (d : Dev) (off i : Nat) (b : Bool) : (d.putB off i b).rpr = d.rpr := rfl
@[simp] theorem Dev.putB_cars (d : Dev) (off i : Nat) (b : Bool) : (d.putB off i b).cars = d.cars := rfl
@[simp] theorem Dev.putB_carGen (d : Dev) (off i : Nat) (b : Bool) : (d.putB off i b).carGen = d.carGen := rfl
@[simp] theorem Dev.putB_queues (d : Dev) (off i : Nat) (b : Bool) : (d.putB off i b).queues = d.queues := rfl
@[simp] theorem Dev.putB_flyId (d : Dev) (off i : Nat) (b : Bool) : (d.putB off i b).flyId = d.flyId := rfl
@[simp] theorem Dev.putB_msgSeq (d : Dev) (off i : Nat) (b : Bool) : (d.putB off i b).msgSeq = d.msgSeq := rfl
@[simp] theorem Dev.putB_out (d : Dev) (off i : Nat) (b : Bool) : (d.putB off i b).out = d.out := rfl
@[simp] theorem Dev.putB_dramW (d : Dev) (off i : Nat) (b : Bool) : (d.putB off i b).dramW = d.dramW := rfl
@[simp] theorem Dev.putB_fresh (d : Dev) (off i : Nat) (b : Bool) : (d.putB off i b).fresh = d.fresh := rfl

@[simp] theorem Dev.setB_lagR (d : Dev) (off i : Nat) : (d.setB off i).lagR = d.lagR := rfl
@[simp] theorem Dev.setB_lagL (d : Dev) (off i : Nat) : (d.setB off i).lagL = d.lagL := rfl
@[simp] theorem Dev.setB_hiLat (d : Dev) (off i : Nat) : (d.setB off i).hiLat = d.hiLat := rfl
@[simp] theorem Dev.setB_tim (d : Dev) (off i : Nat) : (d.setB off i).tim = d.tim := rfl
@[simp] theorem Dev.setB_sup (d : Dev) (off i : Nat) : (d.setB off i).sup = d.sup := rfl
@[simp] theorem Dev.setB_swc (d : Dev) (off i : Nat) : (d.setB off i).swc = d.swc := rfl
@[simp] theorem Dev.setB_sau (d : Dev) (off i : Nat) : (d.setB off i).sau = d.sau := rfl
@[simp] theorem Dev.setB_fch (d : Dev) (off i : Nat) : (d.setB off i).fch = d.fch := rfl
@[simp] theorem Dev.setB_een (d : Dev) (off i : Nat) : (d.setB off i).een = d.een := rfl
@[simp] theorem Dev.setB_hle (d : Dev) (off i : Nat) : (d.setB off i).hle = d.hle := rfl
@[simp] theorem Dev.setB_pub (d : Dev) (off i : Nat) : (d.setB off i).pub = d.pub := rfl
@[simp] theorem Dev.setB_brc (d : Dev) (off i : Nat) : (d.setB off i).brc = d.brc := rfl
@[simp] theorem Dev.setB_stl (d : Dev) (off i : Nat) : (d.setB off i).stl = d.stl := rfl
@[simp] theorem Dev.setB_ttb (d : Dev) (off i : Nat) : (d.setB off i).ttb = d.ttb := rfl
@[simp] theorem Dev.setB_cmd (d : Dev) (off i : Nat) : (d.setB off i).cmd = d.cmd := rfl
@[simp] theorem Dev.setB_drc (d : Dev) (off i : Nat) : (d.setB off i).drc = d.drc := rfl
@[simp] theorem Dev.setB_rst (d : Dev) (off i : Nat) : (d.setB off i).rst = d.rst := rfl
@[simp] theorem Dev.setB_sbx (d : Dev) (off i : Nat) : (d.setB off i).sbx = d.sbx := rfl
@[simp] theorem Dev.setB_hbr (d : Dev) (off i : Nat) : (d.setB off i).hbr = d.hbr := rfl
@[simp] theorem Dev.setB_memx (d : Dev) (off i : Nat) : (d.setB off i).memx = d.memx := rfl
@[simp] theorem Dev.setB_rpr (d : Dev) (off i : Nat) : (d.setB off i).rpr = d.rpr := rfl
@[simp] theorem Dev.setB_cars (d : Dev) (off i : Nat) : (d.setB off i).cars = d.cars := rfl
@[simp] theorem Dev.setB_carGen (d : Dev) (off i : Nat) : (d.setB off i).carGen = d.carGen := rfl
@[simp] theorem Dev.setB_queues (d : Dev) (off i : Nat) : (d.setB off i).queues = d.queues := rfl
@[simp] theorem Dev.setB_flyId (d : Dev) (off i : Nat) : (d.setB off i).flyId = d.flyId := rfl
@[simp] theorem Dev.setB_msgSeq (d : Dev) (off i : Nat) : (d.setB off i).msgSeq = d.msgSeq := rfl
@[simp] theorem Dev.setB_out (d : Dev) (off i : Nat) : (d.setB off i).out = d.out := rfl
@[simp] theorem Dev.setB_dramW (d : Dev) (off i : Nat) : (d.setB off i).dramW = d.dramW := rfl
@[simp] theorem Dev.setB_fresh (d : Dev) (off i : Nat) : (d.setB off i).fresh = d.fresh := rfl

@[simp] theorem Dev.clrB_lagR (d : Dev) (off i : Nat) : (d.clrB off i).lagR = d.lagR := rfl
@[simp] theorem Dev.clrB_lagL (d : Dev) (off i : Nat) : (d.clrB off i).lagL = d.lagL := rfl
@[simp] theorem Dev.clrB_hiLat (d : Dev) (off i : Nat) : (d.clrB off i).hiLat = d.hiLat := rfl
@[simp] theorem Dev.clrB_tim (d : Dev) (off i : Nat) : (d.clrB off i).tim = d.tim := rfl
@[simp] theorem Dev.clrB_sup (d : Dev) (off i : Nat) : (d.clrB off i).sup = d.sup := rfl
@[simp] theorem Dev.clrB_swc (d : Dev) (off i : Nat) : (d.clrB off i).swc = d.swc := rfl
@[simp] theorem Dev.clrB_sau (d : Dev) (off i : Nat) : (d.clrB off i).sau = d.sau := rfl
@[simp] theorem Dev.clrB_fch (d : Dev) (off i : Nat) : (d.clrB off i).fch = d.fch := rfl
@[simp] theorem Dev.clrB_een (d : Dev) (off i : Nat) : (d.clrB off i).een = d.een := rfl
@[simp] theorem Dev.clrB_hle (d : Dev) (off i : Nat) : (d.clrB off i).hle = d.hle := rfl
@[simp] theorem Dev.clrB_pub (d : Dev) (off i : Nat) : (d.clrB off i).pub = d.pub := rfl
@[simp] theorem Dev.clrB_brc (d : Dev) (off i : Nat) : (d.clrB off i).brc = d.brc := rfl
@[simp] theorem Dev.clrB_stl (d : Dev) (off i : Nat) : (d.clrB off i).stl = d.stl := rfl
@[simp] theorem Dev.clrB_ttb (d : Dev) (off i : Nat) : (d.clrB off i).ttb = d.ttb := rfl
@[simp] theorem Dev.clrB_cmd (d : Dev) (off i : Nat) : (d.clrB off i).cmd = d.cmd := rfl
@[simp] theorem Dev.clrB_drc (d : Dev) (off i : Nat) : (d.clrB off i).drc = d.drc := rfl
@[simp] theorem Dev.clrB_rst (d : Dev) (off i : Nat) : (d.clrB off i).rst = d.rst := rfl
@[simp] theorem Dev.clrB_sbx (d : Dev) (off i : Nat) : (d.clrB off i).sbx = d.sbx := rfl
@[simp] theorem Dev.clrB_hbr (d : Dev) (off i : Nat) : (d.clrB off i).hbr = d.hbr := rfl
@[simp] theorem Dev.clrB_memx (d : Dev) (off i : Nat) : (d.clrB off i).memx = d.memx := rfl
@[simp] theorem Dev.clrB_rpr (d : Dev) (off i : Nat) : (d.clrB off i).rpr = d.rpr := rfl
@[simp] theorem Dev.clrB_cars (d : Dev) (off i : Nat) : (d.clrB off i).cars = d.cars := rfl
@[simp] theorem Dev.clrB_carGen (d : Dev) (off i : Nat) : (d.clrB off i).carGen = d.carGen := rfl
@[simp] theorem Dev.clrB_queues (d : Dev) (off i : Nat) : (d.clrB off i).queues = d.queues := rfl
@[simp] theorem Dev.clrB_flyId (d : Dev) (off i : Nat) : (d.clrB off i).flyId = d.flyId := rfl
@[simp] theorem Dev.clrB_msgSeq (d : Dev) (off i : Nat) : (d.clrB off i).msgSeq = d.msgSeq := rfl
@[simp] theorem Dev.clrB_out (d : Dev) (off i : Nat) : (d.clrB off i).out = d.out := rfl
@[simp] theorem Dev.clrB_dramW (d : Dev) (off i : Nat) : (d.clrB off i).dramW = d.dramW := rfl
@[simp] theorem Dev.clrB_fresh (d : Dev) (off i : Nat) : (d.clrB off i).fresh = d.fresh := rfl

@[simp] theorem Dev.bump_lagR (d : Dev) (off : Nat) : (d.bump off).lagR = d.lagR := rfl
@[simp] theorem Dev.bump_lagL (d : Dev) (off : Nat) : (d.bump off).lagL = d.lagL := rfl
@[simp] theorem Dev.bump_hiLat (d : Dev) (off : Nat) : (d.bump off).hiLat = d.hiLat := rfl
@[simp] theorem Dev.bump_tim (d : Dev) (off : Nat) : (d.bump off).tim = d.tim := rfl
@[simp] theorem Dev.bump_sup (d : Dev) (off : Nat) : (d.bump off).sup = d.sup := rfl
@[simp] theorem Dev.bump_swc (d : Dev) (off : Nat) : (d.bump off).swc = d.swc := rfl
@[simp] theorem Dev.bump_sau (d : Dev) (off : Nat) : (d.bump off).sau = d.sau := rfl
@[simp] theorem Dev.bump_fch (d : Dev) (off : Nat) : (d.bump off).fch = d.fch := rfl
@[simp] theorem Dev.bump_een (d : Dev) (off : Nat) : (d.bump off).een = d.een := rfl
@[simp] theorem Dev.bump_hle (d : Dev) (off : Nat) : (d.bump off).hle = d.hle := rfl
@[simp] theorem Dev.bump_pub (d : Dev) (off : Nat) : (d.bump off).pub = d.pub := rfl
@[simp] theorem Dev.bump_brc (d : Dev) (off : Nat) : (d.bump off).brc = d.brc := rfl
@[simp] theorem Dev.bump_stl (d : Dev) (off : Nat) : (d.bump off).stl = d.stl := rfl
@[simp] theorem Dev.bump_ttb (d : Dev) (off : Nat) : (d.bump off).ttb = d.ttb := rfl
@[simp] theorem Dev.bump_cmd (d : Dev) (off : Nat) : (d.bump off).cmd = d.cmd := rfl
@[simp] theorem Dev.bump_drc (d : Dev) (off : Nat) : (d.bump off).drc = d.drc := rfl
@[simp] theorem Dev.bump_rst (d : Dev) (off : Nat) : (d.bump off).rst = d.rst := rfl
@[simp] theorem Dev.bump_sbx (d : Dev) (off : Nat) : (d.bump off).sbx = d.sbx := rfl
@[simp] theorem Dev.bump_hbr (d : Dev) (off : Nat) : (d.bump off).hbr = d.hbr := rfl
@[simp] theorem Dev.bump_memx (d : Dev) (off : Nat) : (d.bump off).memx = d.memx := rfl
@[simp] theorem Dev.bump_rpr (d : Dev) (off : Nat) : (d.bump off).rpr = d.rpr := rfl
@[simp] theorem Dev.bump_cars (d : Dev) (off : Nat) : (d.bump off).cars = d.cars := rfl
@[simp] theorem Dev.bump_carGen (d : Dev) (off : Nat) : (d.bump off).carGen = d.carGen := rfl
@[simp] theorem Dev.bump_queues (d : Dev) (off : Nat) : (d.bump off).queues = d.queues := rfl
@[simp] theorem Dev.bump_flyId (d : Dev) (off : Nat) : (d.bump off).flyId = d.flyId := rfl
@[simp] theorem Dev.bump_msgSeq (d : Dev) (off : Nat) : (d.bump off).msgSeq = d.msgSeq := rfl
@[simp] theorem Dev.bump_out (d : Dev) (off : Nat) : (d.bump off).out = d.out := rfl
@[simp] theorem Dev.bump_dramW (d : Dev) (off : Nat) : (d.bump off).dramW = d.dramW := rfl
@[simp] theorem Dev.bump_fresh (d : Dev) (off : Nat) : (d.bump off).fresh = d.fresh := rfl

@[simp] theorem Dev.bumpBy_lagR (d : Dev) (off n : Nat) : (d.bumpBy off n).lagR = d.lagR := rfl
@[simp] theorem Dev.bumpBy_lagL (d : Dev) (off n : Nat) : (d.bumpBy off n).lagL = d.lagL := rfl
@[simp] theorem Dev.bumpBy_hiLat (d : Dev) (off n : Nat) : (d.bumpBy off n).hiLat = d.hiLat := rfl
@[simp] theorem Dev.bumpBy_tim (d : Dev) (off n : Nat) : (d.bumpBy off n).tim = d.tim := rfl
@[simp] theorem Dev.bumpBy_sup (d : Dev) (off n : Nat) : (d.bumpBy off n).sup = d.sup := rfl
@[simp] theorem Dev.bumpBy_swc (d : Dev) (off n : Nat) : (d.bumpBy off n).swc = d.swc := rfl
@[simp] theorem Dev.bumpBy_sau (d : Dev) (off n : Nat) : (d.bumpBy off n).sau = d.sau := rfl
@[simp] theorem Dev.bumpBy_fch (d : Dev) (off n : Nat) : (d.bumpBy off n).fch = d.fch := rfl
@[simp] theorem Dev.bumpBy_een (d : Dev) (off n : Nat) : (d.bumpBy off n).een = d.een := rfl
@[simp] theorem Dev.bumpBy_hle (d : Dev) (off n : Nat) : (d.bumpBy off n).hle = d.hle := rfl
@[simp] theorem Dev.bumpBy_pub (d : Dev) (off n : Nat) : (d.bumpBy off n).pub = d.pub := rfl
@[simp] theorem Dev.bumpBy_brc (d : Dev) (off n : Nat) : (d.bumpBy off n).brc = d.brc := rfl
@[simp] theorem Dev.bumpBy_stl (d : Dev) (off n : Nat) : (d.bumpBy off n).stl = d.stl := rfl
@[simp] theorem Dev.bumpBy_ttb (d : Dev) (off n : Nat) : (d.bumpBy off n).ttb = d.ttb := rfl
@[simp] theorem Dev.bumpBy_cmd (d : Dev) (off n : Nat) : (d.bumpBy off n).cmd = d.cmd := rfl
@[simp] theorem Dev.bumpBy_drc (d : Dev) (off n : Nat) : (d.bumpBy off n).drc = d.drc := rfl
@[simp] theorem Dev.bumpBy_rst (d : Dev) (off n : Nat) : (d.bumpBy off n).rst = d.rst := rfl
@[simp] theorem Dev.bumpBy_sbx (d : Dev) (off n : Nat) : (d.bumpBy off n).sbx = d.sbx := rfl
@[simp] theorem Dev.bumpBy_hbr (d : Dev) (off n : Nat) : (d.bumpBy off n).hbr = d.hbr := rfl
@[simp] theorem Dev.bumpBy_memx (d : Dev) (off n : Nat) : (d.bumpBy off n).memx = d.memx := rfl
@[simp] theorem Dev.bumpBy_rpr (d : Dev) (off n : Nat) : (d.bumpBy off n).rpr = d.rpr := rfl
@[simp] theorem Dev.bumpBy_cars (d : Dev) (off n : Nat) : (d.bumpBy off n).cars = d.cars := rfl
@[simp] theorem Dev.bumpBy_carGen (d : Dev) (off n : Nat) : (d.bumpBy off n).carGen = d.carGen := rfl
@[simp] theorem Dev.bumpBy_queues (d : Dev) (off n : Nat) : (d.bumpBy off n).queues = d.queues := rfl
@[simp] theorem Dev.bumpBy_flyId (d : Dev) (off n : Nat) : (d.bumpBy off n).flyId = d.flyId := rfl
@[simp] theorem Dev.bumpBy_msgSeq (d : Dev) (off n : Nat) : (d.bumpBy off n).msgSeq = d.msgSeq := rfl
@[simp] theorem Dev.bumpBy_out (d : Dev) (off n : Nat) : (d.bumpBy off n).out = d.out := rfl
@[simp] theorem Dev.bumpBy_dramW (d : Dev) (off n : Nat) : (d.bumpBy off n).dramW = d.dramW := rfl
@[simp] theorem Dev.bumpBy_fresh (d : Dev) (off n : Nat) : (d.bumpBy off n).fresh = d.fresh := rfl

@[simp] theorem Dev.wrLagR_lagL (d : Dev) (off : Nat) (v : Word) : (d.wrLagR off v).lagL = d.lagL := rfl
@[simp] theorem Dev.wrLagR_hiLat (d : Dev) (off : Nat) (v : Word) : (d.wrLagR off v).hiLat = d.hiLat := rfl
@[simp] theorem Dev.wrLagR_tim (d : Dev) (off : Nat) (v : Word) : (d.wrLagR off v).tim = d.tim := rfl
@[simp] theorem Dev.wrLagR_sup (d : Dev) (off : Nat) (v : Word) : (d.wrLagR off v).sup = d.sup := rfl
@[simp] theorem Dev.wrLagR_swc (d : Dev) (off : Nat) (v : Word) : (d.wrLagR off v).swc = d.swc := rfl
@[simp] theorem Dev.wrLagR_sau (d : Dev) (off : Nat) (v : Word) : (d.wrLagR off v).sau = d.sau := rfl
@[simp] theorem Dev.wrLagR_fch (d : Dev) (off : Nat) (v : Word) : (d.wrLagR off v).fch = d.fch := rfl
@[simp] theorem Dev.wrLagR_een (d : Dev) (off : Nat) (v : Word) : (d.wrLagR off v).een = d.een := rfl
@[simp] theorem Dev.wrLagR_hle (d : Dev) (off : Nat) (v : Word) : (d.wrLagR off v).hle = d.hle := rfl
@[simp] theorem Dev.wrLagR_pub (d : Dev) (off : Nat) (v : Word) : (d.wrLagR off v).pub = d.pub := rfl
@[simp] theorem Dev.wrLagR_brc (d : Dev) (off : Nat) (v : Word) : (d.wrLagR off v).brc = d.brc := rfl
@[simp] theorem Dev.wrLagR_stl (d : Dev) (off : Nat) (v : Word) : (d.wrLagR off v).stl = d.stl := rfl
@[simp] theorem Dev.wrLagR_ttb (d : Dev) (off : Nat) (v : Word) : (d.wrLagR off v).ttb = d.ttb := rfl
@[simp] theorem Dev.wrLagR_cmd (d : Dev) (off : Nat) (v : Word) : (d.wrLagR off v).cmd = d.cmd := rfl
@[simp] theorem Dev.wrLagR_drc (d : Dev) (off : Nat) (v : Word) : (d.wrLagR off v).drc = d.drc := rfl
@[simp] theorem Dev.wrLagR_rst (d : Dev) (off : Nat) (v : Word) : (d.wrLagR off v).rst = d.rst := rfl
@[simp] theorem Dev.wrLagR_sbx (d : Dev) (off : Nat) (v : Word) : (d.wrLagR off v).sbx = d.sbx := rfl
@[simp] theorem Dev.wrLagR_hbr (d : Dev) (off : Nat) (v : Word) : (d.wrLagR off v).hbr = d.hbr := rfl
@[simp] theorem Dev.wrLagR_memx (d : Dev) (off : Nat) (v : Word) : (d.wrLagR off v).memx = d.memx := rfl
@[simp] theorem Dev.wrLagR_rpr (d : Dev) (off : Nat) (v : Word) : (d.wrLagR off v).rpr = d.rpr := rfl
@[simp] theorem Dev.wrLagR_cars (d : Dev) (off : Nat) (v : Word) : (d.wrLagR off v).cars = d.cars := rfl
@[simp] theorem Dev.wrLagR_carGen (d : Dev) (off : Nat) (v : Word) : (d.wrLagR off v).carGen = d.carGen := rfl
@[simp] theorem Dev.wrLagR_queues (d : Dev) (off : Nat) (v : Word) : (d.wrLagR off v).queues = d.queues := rfl
@[simp] theorem Dev.wrLagR_flyId (d : Dev) (off : Nat) (v : Word) : (d.wrLagR off v).flyId = d.flyId := rfl
@[simp] theorem Dev.wrLagR_msgSeq (d : Dev) (off : Nat) (v : Word) : (d.wrLagR off v).msgSeq = d.msgSeq := rfl
@[simp] theorem Dev.wrLagR_out (d : Dev) (off : Nat) (v : Word) : (d.wrLagR off v).out = d.out := rfl
@[simp] theorem Dev.wrLagR_dramW (d : Dev) (off : Nat) (v : Word) : (d.wrLagR off v).dramW = d.dramW := rfl
@[simp] theorem Dev.wrLagR_fresh (d : Dev) (off : Nat) (v : Word) : (d.wrLagR off v).fresh = d.fresh := rfl

@[simp] theorem Dev.wrLagL_lagR (d : Dev) (off : Nat) (v : Word) : (d.wrLagL off v).lagR = d.lagR := rfl
@[simp] theorem Dev.wrLagL_hiLat (d : Dev) (off : Nat) (v : Word) : (d.wrLagL off v).hiLat = d.hiLat := rfl
@[simp] theorem Dev.wrLagL_tim (d : Dev) (off : Nat) (v : Word) : (d.wrLagL off v).tim = d.tim := rfl
@[simp] theorem Dev.wrLagL_sup (d : Dev) (off : Nat) (v : Word) : (d.wrLagL off v).sup = d.sup := rfl
@[simp] theorem Dev.wrLagL_swc (d : Dev) (off : Nat) (v : Word) : (d.wrLagL off v).swc = d.swc := rfl
@[simp] theorem Dev.wrLagL_sau (d : Dev) (off : Nat) (v : Word) : (d.wrLagL off v).sau = d.sau := rfl
@[simp] theorem Dev.wrLagL_fch (d : Dev) (off : Nat) (v : Word) : (d.wrLagL off v).fch = d.fch := rfl
@[simp] theorem Dev.wrLagL_een (d : Dev) (off : Nat) (v : Word) : (d.wrLagL off v).een = d.een := rfl
@[simp] theorem Dev.wrLagL_hle (d : Dev) (off : Nat) (v : Word) : (d.wrLagL off v).hle = d.hle := rfl
@[simp] theorem Dev.wrLagL_pub (d : Dev) (off : Nat) (v : Word) : (d.wrLagL off v).pub = d.pub := rfl
@[simp] theorem Dev.wrLagL_brc (d : Dev) (off : Nat) (v : Word) : (d.wrLagL off v).brc = d.brc := rfl
@[simp] theorem Dev.wrLagL_stl (d : Dev) (off : Nat) (v : Word) : (d.wrLagL off v).stl = d.stl := rfl
@[simp] theorem Dev.wrLagL_ttb (d : Dev) (off : Nat) (v : Word) : (d.wrLagL off v).ttb = d.ttb := rfl
@[simp] theorem Dev.wrLagL_cmd (d : Dev) (off : Nat) (v : Word) : (d.wrLagL off v).cmd = d.cmd := rfl
@[simp] theorem Dev.wrLagL_drc (d : Dev) (off : Nat) (v : Word) : (d.wrLagL off v).drc = d.drc := rfl
@[simp] theorem Dev.wrLagL_rst (d : Dev) (off : Nat) (v : Word) : (d.wrLagL off v).rst = d.rst := rfl
@[simp] theorem Dev.wrLagL_sbx (d : Dev) (off : Nat) (v : Word) : (d.wrLagL off v).sbx = d.sbx := rfl
@[simp] theorem Dev.wrLagL_hbr (d : Dev) (off : Nat) (v : Word) : (d.wrLagL off v).hbr = d.hbr := rfl
@[simp] theorem Dev.wrLagL_memx (d : Dev) (off : Nat) (v : Word) : (d.wrLagL off v).memx = d.memx := rfl
@[simp] theorem Dev.wrLagL_rpr (d : Dev) (off : Nat) (v : Word) : (d.wrLagL off v).rpr = d.rpr := rfl
@[simp] theorem Dev.wrLagL_cars (d : Dev) (off : Nat) (v : Word) : (d.wrLagL off v).cars = d.cars := rfl
@[simp] theorem Dev.wrLagL_carGen (d : Dev) (off : Nat) (v : Word) : (d.wrLagL off v).carGen = d.carGen := rfl
@[simp] theorem Dev.wrLagL_queues (d : Dev) (off : Nat) (v : Word) : (d.wrLagL off v).queues = d.queues := rfl
@[simp] theorem Dev.wrLagL_flyId (d : Dev) (off : Nat) (v : Word) : (d.wrLagL off v).flyId = d.flyId := rfl
@[simp] theorem Dev.wrLagL_msgSeq (d : Dev) (off : Nat) (v : Word) : (d.wrLagL off v).msgSeq = d.msgSeq := rfl
@[simp] theorem Dev.wrLagL_out (d : Dev) (off : Nat) (v : Word) : (d.wrLagL off v).out = d.out := rfl
@[simp] theorem Dev.wrLagL_dramW (d : Dev) (off : Nat) (v : Word) : (d.wrLagL off v).dramW = d.dramW := rfl
@[simp] theorem Dev.wrLagL_fresh (d : Dev) (off : Nat) (v : Word) : (d.wrLagL off v).fresh = d.fresh := rfl

@[simp] theorem Dev.emit_regs (d : Dev) (o : Out) : (d.emit o).regs = d.regs := rfl
@[simp] theorem Dev.emit_lagR (d : Dev) (o : Out) : (d.emit o).lagR = d.lagR := rfl
@[simp] theorem Dev.emit_lagL (d : Dev) (o : Out) : (d.emit o).lagL = d.lagL := rfl
@[simp] theorem Dev.emit_hiLat (d : Dev) (o : Out) : (d.emit o).hiLat = d.hiLat := rfl
@[simp] theorem Dev.emit_tim (d : Dev) (o : Out) : (d.emit o).tim = d.tim := rfl
@[simp] theorem Dev.emit_sup (d : Dev) (o : Out) : (d.emit o).sup = d.sup := rfl
@[simp] theorem Dev.emit_swc (d : Dev) (o : Out) : (d.emit o).swc = d.swc := rfl
@[simp] theorem Dev.emit_sau (d : Dev) (o : Out) : (d.emit o).sau = d.sau := rfl
@[simp] theorem Dev.emit_fch (d : Dev) (o : Out) : (d.emit o).fch = d.fch := rfl
@[simp] theorem Dev.emit_een (d : Dev) (o : Out) : (d.emit o).een = d.een := rfl
@[simp] theorem Dev.emit_hle (d : Dev) (o : Out) : (d.emit o).hle = d.hle := rfl
@[simp] theorem Dev.emit_pub (d : Dev) (o : Out) : (d.emit o).pub = d.pub := rfl
@[simp] theorem Dev.emit_brc (d : Dev) (o : Out) : (d.emit o).brc = d.brc := rfl
@[simp] theorem Dev.emit_stl (d : Dev) (o : Out) : (d.emit o).stl = d.stl := rfl
@[simp] theorem Dev.emit_ttb (d : Dev) (o : Out) : (d.emit o).ttb = d.ttb := rfl
@[simp] theorem Dev.emit_cmd (d : Dev) (o : Out) : (d.emit o).cmd = d.cmd := rfl
@[simp] theorem Dev.emit_drc (d : Dev) (o : Out) : (d.emit o).drc = d.drc := rfl
@[simp] theorem Dev.emit_rst (d : Dev) (o : Out) : (d.emit o).rst = d.rst := rfl
@[simp] theorem Dev.emit_sbx (d : Dev) (o : Out) : (d.emit o).sbx = d.sbx := rfl
@[simp] theorem Dev.emit_hbr (d : Dev) (o : Out) : (d.emit o).hbr = d.hbr := rfl
@[simp] theorem Dev.emit_memx (d : Dev) (o : Out) : (d.emit o).memx = d.memx := rfl
@[simp] theorem Dev.emit_rpr (d : Dev) (o : Out) : (d.emit o).rpr = d.rpr := rfl
@[simp] theorem Dev.emit_cars (d : Dev) (o : Out) : (d.emit o).cars = d.cars := rfl
@[simp] theorem Dev.emit_carGen (d : Dev) (o : Out) : (d.emit o).carGen = d.carGen := rfl
@[simp] theorem Dev.emit_queues (d : Dev) (o : Out) : (d.emit o).queues = d.queues := rfl
@[simp] theorem Dev.emit_flyId (d : Dev) (o : Out) : (d.emit o).flyId = d.flyId := rfl
@[simp] theorem Dev.emit_msgSeq (d : Dev) (o : Out) : (d.emit o).msgSeq = d.msgSeq := rfl
@[simp] theorem Dev.emit_dramW (d : Dev) (o : Out) : (d.emit o).dramW = d.dramW := rfl
@[simp] theorem Dev.emit_fresh (d : Dev) (o : Out) : (d.emit o).fresh = d.fresh := rfl

@[simp] theorem Dev.outbound_regs (d : Dev) (key addr : Nat) : (d.outbound key addr).regs = d.regs := rfl
@[simp] theorem Dev.outbound_lagR (d : Dev) (key addr : Nat) : (d.outbound key addr).lagR = d.lagR := rfl
@[simp] theorem Dev.outbound_lagL (d : Dev) (key addr : Nat) : (d.outbound key addr).lagL = d.lagL := rfl
@[simp] theorem Dev.outbound_hiLat (d : Dev) (key addr : Nat) : (d.outbound key addr).hiLat = d.hiLat := rfl
@[simp] theorem Dev.outbound_tim (d : Dev) (key addr : Nat) : (d.outbound key addr).tim = d.tim := rfl
@[simp] theorem Dev.outbound_sup (d : Dev) (key addr : Nat) : (d.outbound key addr).sup = d.sup := rfl
@[simp] theorem Dev.outbound_swc (d : Dev) (key addr : Nat) : (d.outbound key addr).swc = d.swc := rfl
@[simp] theorem Dev.outbound_sau (d : Dev) (key addr : Nat) : (d.outbound key addr).sau = d.sau := rfl
@[simp] theorem Dev.outbound_fch (d : Dev) (key addr : Nat) : (d.outbound key addr).fch = d.fch := rfl
@[simp] theorem Dev.outbound_een (d : Dev) (key addr : Nat) : (d.outbound key addr).een = d.een := rfl
@[simp] theorem Dev.outbound_hle (d : Dev) (key addr : Nat) : (d.outbound key addr).hle = d.hle := rfl
@[simp] theorem Dev.outbound_pub (d : Dev) (key addr : Nat) : (d.outbound key addr).pub = d.pub := rfl
@[simp] theorem Dev.outbound_brc (d : Dev) (key addr : Nat) : (d.outbound key addr).brc = d.brc := rfl
@[simp] theorem Dev.outbound_stl (d : Dev) (key addr : Nat) : (d.outbound key addr).stl = d.stl := rfl
@[simp] theorem Dev.outbound_ttb (d : Dev) (key addr : Nat) : (d.outbound key addr).ttb = d.ttb := rfl
@[simp] theorem Dev.outbound_cmd (d : Dev) (key addr : Nat) : (d.outbound key addr).cmd = d.cmd := rfl
@[simp] theorem Dev.outbound_drc (d : Dev) (key addr : Nat) : (d.outbound key addr).drc = d.drc := rfl
@[simp] theorem Dev.outbound_rst (d : Dev) (key addr : Nat) : (d.outbound key addr).rst = d.rst := rfl
@[simp] theorem Dev.outbound_sbx (d : Dev) (key addr : Nat) : (d.outbound key addr).sbx = d.sbx := rfl
@[simp] theorem Dev.outbound_memx (d : Dev) (key addr : Nat) : (d.outbound key addr).memx = d.memx := rfl
@[simp] theorem Dev.outbound_rpr (d : Dev) (key addr : Nat) : (d.outbound key addr).rpr = d.rpr := rfl
@[simp] theorem Dev.outbound_cars (d : Dev) (key addr : Nat) : (d.outbound key addr).cars = d.cars := rfl
@[simp] theorem Dev.outbound_carGen (d : Dev) (key addr : Nat) : (d.outbound key addr).carGen = d.carGen := rfl
@[simp] theorem Dev.outbound_queues (d : Dev) (key addr : Nat) : (d.outbound key addr).queues = d.queues := rfl
@[simp] theorem Dev.outbound_flyId (d : Dev) (key addr : Nat) : (d.outbound key addr).flyId = d.flyId := rfl
@[simp] theorem Dev.outbound_msgSeq (d : Dev) (key addr : Nat) : (d.outbound key addr).msgSeq = d.msgSeq := rfl
@[simp] theorem Dev.outbound_out (d : Dev) (key addr : Nat) : (d.outbound key addr).out = d.out := rfl
@[simp] theorem Dev.outbound_dramW (d : Dev) (key addr : Nat) : (d.outbound key addr).dramW = d.dramW := rfl
@[simp] theorem Dev.outbound_fresh (d : Dev) (key addr : Nat) : (d.outbound key addr).fresh = d.fresh := rfl

/-! Registers. -/

/-- A register reads what was written to it. -/
@[simp] theorem rfRead_rfWrite_same (f : RegFile) (off : Nat) (v : Word) : rfRead (rfWrite f off v) off = v := by
  by_cases h : v = regReset off
  · simp [rfRead, rfWrite, h, tfind_tdel_same]
  · simp [rfRead, rfWrite, h]

/-- A write leaves every other register alone. -/
theorem rfRead_rfWrite_other (f : RegFile) (off o : Nat) (v : Word) (h : o ≠ off) :
    rfRead (rfWrite f off v) o = rfRead f o := by
  by_cases hv : v = regReset off
  · simp [rfRead, rfWrite, hv, tfind_tdel_other _ _ _ h]
  · simp [rfRead, rfWrite, hv, tfind_tput_other _ _ _ _ h]

@[simp] theorem Dev.rd_wr_same (d : Dev) (off : Nat) (v : Word) : (d.wr off v).rd off = v := rfRead_rfWrite_same _ _ _

theorem Dev.rd_wr_other (d : Dev) (off o : Nat) (v : Word) (h : o ≠ off) : (d.wr off v).rd o = d.rd o :=
  rfRead_rfWrite_other _ _ _ _ h

@[simp] theorem Dev.rn_wn_same (d : Dev) (off n : Nat) : (d.wn off n).rn off = n % 2 ^ 32 := by
  simp [Dev.rn, Dev.wn, w32]

theorem Dev.rn_wn_other (d : Dev) (off o n : Nat) (h : o ≠ off) : (d.wn off n).rn o = d.rn o := by
  simp [Dev.rn, Dev.wn, Dev.rd_wr_other _ _ _ _ h]

theorem Dev.rn_setF_other (d : Dev) (off lo n v o : Nat) (h : o ≠ off) : (d.setF off lo n v).rn o = d.rn o :=
  Dev.rn_wn_other _ _ _ _ h

@[simp] theorem Dev.rd_emit (d : Dev) (x : Out) (off : Nat) : (d.emit x).rd off = d.rd off := rfl
@[simp] theorem Dev.rn_emit (d : Dev) (x : Out) (off : Nat) : (d.emit x).rn off = d.rn off := rfl

/-- A register holds a number below 2^32. -/
theorem Dev.rn_lt (d : Dev) (off : Nat) : d.rn off < 2 ^ 32 := (d.rd off).isLt

/-! Outcomes. -/

@[simp] theorem State.commit_pending (s : State) (d : Dev) : (s.commit d).pending = s.pending := rfl
@[simp] theorem State.commit_dramW (s : State) (d : Dev) : (s.commit d).dev.dramW = [] := rfl
@[simp] theorem State.commit_regs (s : State) (d : Dev) : (s.commit d).dev.regs = d.regs := rfl
@[simp] theorem State.commit_rd (s : State) (d : Dev) (off : Nat) : (s.commit d).dev.rd off = d.rd off := rfl
@[simp] theorem State.commit_rn (s : State) (d : Dev) (off : Nat) : (s.commit d).dev.rn off = d.rn off := rfl

/-- A commit with no words to store leaves DRAM as it is. -/
theorem State.commit_mem (s : State) (d : Dev) (h : d.dramW = []) : (s.commit d).mem = s.mem := by
  simp [State.commit, h, memWriteWords]

/-- A command of a running device has its effect. -/
theorem State.act_up (s : State) (f : Dev → Dev) (h : s.dev.up = true) : s.act f = .next (s.commit (f s.dev)) := by
  simp [State.act, State.actR, h]

theorem State.actM_up (s : State) (f : List Host.Cell → Dev → Dev) (h : s.dev.up = true) :
    s.actM f = .next (s.commit (f s.mem s.dev)) := State.act_up s _ h

/-- A command of a device held in reset has no effect. -/
theorem State.act_held (s : State) (f : Dev → Dev) (h : s.dev.up = false) : s.act f = .next (s.commit s.dev) := by
  simp [State.act, State.actR, h]

/-- Proved by rewriting and not by `rfl`: a definitional step here would have the kernel unfold `f` where it checks a use. -/
@[simp] theorem onlyIf_true (f : Dev → Dev) (d : Dev) : onlyIf true f d = f d := by
  unfold onlyIf
  exact if_pos rfl

@[simp] theorem onlyIf_false (f : Dev → Dev) (d : Dev) : onlyIf false f d = d := by
  unfold onlyIf
  exact if_neg Bool.false_ne_true

end Sys2Proof.Machine
end

