-- ==== Sys2Proof/Laws/Brace.lean ====
section
/-! SUPPORT. What a Brace message does: one that is heard has its header taken, and then its content acts; what stops the others. -/

namespace Sys2Proof.Machine

theorem heard_up {h : BrcHdr} {d : Dev} (hh : heard h d = true) : d.up = true := by
  simp only [heard, Bool.and_eq_true] at hh
  exact hh.1.1.1.1.1.1.1

/-- A message that is heard: its content acts on the device past the header. -/
theorem brcTake_heard {h : BrcHdr} {d : Dev} (f : Dev → Dev) (hh : heard h d = true) : brcTake h f d = f (afterHdr h d) := by
  simp only [heard, Bool.and_eq_true, Bool.not_eq_true', decide_eq_true_eq, bne_iff_ne] at hh
  obtain ⟨⟨⟨⟨⟨⟨⟨_, h1⟩, h2⟩, h3⟩, h4⟩, h5⟩, h6⟩, h7⟩ := hh
  have h2' : ¬ 2 ≤ h.link := by omega
  unfold brcTake
  rw [if_neg (by simp [h1, h2', h3]), if_neg (by simp [h4]), if_neg (by simp only [h5]; simp)]
  dsimp only
  rw [if_neg (by exact h6), if_neg (by simp [h7])]
  rfl

/-- A message on a link that carries none has no effect. -/
theorem brcTake_off {h : BrcHdr} {d : Dev} (f : Dev → Dev) (hh : brcOn d = false ∨ 2 ≤ h.link ∨ brcLinkUp d h.link = false) :
    brcTake h f d = d := by
  rcases hh with a | a | a <;> simp [brcTake, a]

/-- A message on a link that is up: a bad copy and one already taken are counted, a unit clash is taken, and one of another version is noted alone. -/
theorem brcTake_cases {h : BrcHdr} {d : Dev} (f : Dev → Dev) (h1 : brcOn d = true) (h2 : h.link < 2) (h3 : brcLinkUp d h.link = true) :
    (h.crcOk = false → brcTake h f d = d.bump (Reg.brcLCrcErr h.link)) ∧
    (h.crcOk = true → d.brc.seq.contains h.seq = true → brcTake h f d = d.bump (Reg.brcLDup h.link)) ∧
    (h.crcOk = true → d.brc.seq.contains h.seq = false → h.unit = selfNode d → brcTake h f d = unitClash h (seqNoted h d)) ∧
    (h.crcOk = true → d.brc.seq.contains h.seq = false → h.unit ≠ selfNode d → d.brc.badVer = true → brcTake h f d = seqNoted h d) := by
  have h2' : ¬ 2 ≤ h.link := by omega
  have e : (!brcOn d || 2 ≤ h.link || !brcLinkUp d h.link) = false := by simp [h1, h2', h3]
  refine ⟨fun a => ?_, fun a b => ?_, fun a b c => ?_, fun a b c g => ?_⟩
  all_goals unfold brcTake
  all_goals rw [if_neg (by rw [e]; exact Bool.false_ne_true)]
  · rw [if_pos (by simp [a])]
  · rw [if_neg (by simp [a]), if_pos (by exact b)]
  · rw [if_neg (by simp [a]), if_neg (by rw [b]; exact Bool.false_ne_true)]
    exact if_pos c
  · rw [if_neg (by simp [a]), if_neg (by rw [b]; exact Bool.false_ne_true)]
    dsimp only
    rw [if_neg (by exact c), if_pos (by exact g)]
    rfl

end Sys2Proof.Machine
end

