-- ==== Sys2Proof/Laws/Raise.lean ====
section
/-! SUPPORT. What raising a source can change: registers, supervision, outputs, stores, the bridge's list of writes and the Brace's message numbers; nothing else. -/

namespace Sys2Proof.Machine

/-- Every part of the device but registers, supervision, outputs, stores, the bridge and the Brace's message numbers is as before. -/
structure Keeps (d e : Dev) : Prop where
  lagR : e.lagR = d.lagR
  lagL : e.lagL = d.lagL
  hiLat : e.hiLat = d.hiLat
  tim : e.tim = d.tim
  swc : e.swc = d.swc
  sau : e.sau = d.sau
  fch : e.fch = d.fch
  een : e.een = d.een
  hle : e.hle = d.hle
  pub : e.pub = d.pub
  brc : e.brc = d.brc
  stl : e.stl = d.stl
  ttb : e.ttb = d.ttb
  cmd : e.cmd = d.cmd
  drc : e.drc = d.drc
  rst : e.rst = d.rst
  sbx : e.sbx = d.sbx
  memx : e.memx = d.memx
  rpr : e.rpr = d.rpr
  cars : e.cars = d.cars
  carGen : e.carGen = d.carGen
  queues : e.queues = d.queues
  flyId : e.flyId = d.flyId
  fresh : e.fresh = d.fresh

theorem Keeps.refl (d : Dev) : Keeps d d := by constructor <;> rfl

theorem Keeps.trans {a b c : Dev} (h : Keeps a b) (k : Keeps b c) : Keeps a c := by
  constructor <;> simp [h.lagR, h.lagL, h.hiLat, h.tim, h.swc, h.sau, h.fch, h.een, h.hle, h.pub, h.brc, h.stl, h.ttb, h.cmd, h.drc,
    h.rst, h.sbx, h.memx, h.rpr, h.cars, h.carGen, h.queues, h.flyId, h.fresh, k.lagR, k.lagL, k.hiLat, k.tim, k.swc, k.sau, k.fch,
    k.een, k.hle, k.pub, k.brc, k.stl, k.ttb, k.cmd, k.drc, k.rst, k.sbx, k.memx, k.rpr, k.cars, k.carGen, k.queues, k.flyId, k.fresh]

theorem Keeps.wr (d : Dev) (r : Nat) (v : Word) : Keeps d (d.wr r v) := by constructor <;> rfl
theorem Keeps.wn (d : Dev) (r v : Nat) : Keeps d (d.wn r v) := .wr ..
theorem Keeps.setF (d : Dev) (r l n v : Nat) : Keeps d (d.setF r l n v) := .wn ..
theorem Keeps.setB (d : Dev) (r i : Nat) : Keeps d (d.setB r i) := .setF ..
theorem Keeps.clrB (d : Dev) (r i : Nat) : Keeps d (d.clrB r i) := .setF ..
theorem Keeps.bump (d : Dev) (r : Nat) : Keeps d (d.bump r) := .wn ..
theorem Keeps.emit (d : Dev) (o : Out) : Keeps d (d.emit o) := by constructor <;> rfl
theorem Keeps.sup (d : Dev) (x : Sup) : Keeps d { d with sup := x } := by constructor <;> rfl
theorem Keeps.braceMsg (d : Dev) (t : Nat) (ws : List Nat) : Keeps d (d.braceMsg t ws) := by constructor <;> rfl
theorem Keeps.outbound (d : Dev) (k a : Nat) : Keeps d (d.outbound k a) := by constructor <;> rfl

theorem Keeps.storeWords (a : Nat) (ws : List Word) (d : Dev) : Keeps d (d.storeWords a ws) := by
  induction ws generalizing a d with
  | nil => exact .refl d
  | cons w ws ih => exact .trans (by constructor <;> rfl) (ih (a + 4) _)

theorem Keeps.ite {d e f : Dev} {b : Prop} [Decidable b] (h : Keeps d e) (k : Keeps d f) : Keeps d (if b then e else f) := by
  split
  · exact h
  · exact k

theorem histMove_keeps (u k : Nat) (d : Dev) : Keeps d (histMove u k d) :=
  .ite (((Keeps.wr ..).trans (.wr ..)).trans (.wr ..)) ((Keeps.wr ..).trans (.wr ..))

theorem foldl_keeps {α : Type} (f : Dev → α → Dev) (h : ∀ d a, Keeps d (f d a)) (l : List α) (d : Dev) : Keeps d (l.foldl f d) := by
  induction l generalizing d with
  | nil => exact .refl d
  | cons a l ih => exact (h d a).trans (ih _)

theorem histPut_keeps (u p c a : Nat) (d : Dev) : Keeps d (histPut u p c a d) := by
  unfold histPut
  extract_lets d1 d2 d3
  have h1 : Keeps d d1 := .ite (.setB ..) (.refl d)
  have h2 : Keeps d1 d2 := foldl_keeps _ (fun d k => histMove_keeps u k d) _ _
  have h3 : Keeps d2 d3 := (Keeps.wn ..).trans (.wn ..)
  exact .ite h1 (.ite (((h1.trans h2).trans h3).trans (.wn ..)) ((h1.trans h2).trans h3))

theorem firstFault_keeps (n : Nat) (d : Dev) : Keeps d (firstFault n d) := by
  unfold firstFault
  exact .ite (.ite ((Keeps.setF ..).trans (.setB ..)) (.setB ..)) ((Keeps.wn ..).trans (.wn ..))

theorem latchSource_keeps (n h a : Nat) (d : Dev) : Keeps d (latchSource n h a d) := by
  unfold latchSource
  extract_lets d1 st d2 d3 x d4 d5
  have h1 : Keeps d d1 := by
    simp only [d1]
    split
    · exact .setB ..
    · exact .refl d
  have h2 : Keeps d1 d2 := (Keeps.setB ..).trans (.setB ..)
  have h3 : Keeps d2 d3 := .setF ..
  have h4 : Keeps d3 d4 := .sup ..
  have h5 : Keeps d4 d5 := .bump ..
  have h := (((h1.trans h2).trans h3).trans h4).trans h5
  exact .ite (.ite h (h.trans (histPut_keeps ..))) (h.trans (firstFault_keeps ..))

theorem evRepeat_keeps (p : Nat) (r : EvRec) (d : Dev) : Keeps d (evRepeat p r d) := by
  unfold evRepeat
  exact .ite (.sup ..) ((Keeps.sup ..).trans (.bump ..))

theorem evAppend_keeps (p a b c e : Nat) (d : Dev) : Keeps d (evAppend p a b c e d) := (Keeps.sup ..).trans (.setF ..)

theorem evLog_keeps (a b c e : Nat) (d : Dev) : Keeps d (evLog a b c e d).1 := by
  unfold evLog
  split
  · exact .bump ..
  · extract_lets p
    split
    · split
      · exact evRepeat_keeps ..
      · split
        · exact .bump ..
        · exact evAppend_keeps ..
    · split
      · exact .bump ..
      · exact evAppend_keeps ..

theorem msgOut_keeps (k a : Nat) (v : Word) (d : Dev) : Keeps d (msgOut k a v d) :=
  .ite ((Keeps.outbound ..).trans (.emit ..)) (.emit ..)

theorem msgWrite_keeps (k a : Nat) (v : Word) (d : Dev) : Keeps d (msgWrite k a v d).1 := by
  unfold msgWrite
  split
  · exact .refl d
  · simp only []
    split
    · exact (Keeps.sup ..).trans (.bump ..)
    · split
      · exact (Keeps.sup ..).trans (.storeWords ..)
      · exact (Keeps.sup ..).trans (msgOut_keeps ..)

theorem moduleFatal_keeps (n : Nat) (d : Dev) : Keeps d (moduleFatal n d) :=
  (Keeps.ite (.ite (.setF ..) (.refl d)) ((Keeps.wn ..).trans (.wn ..))).trans ((Keeps.sup ..).trans (.braceMsg ..))

theorem raiseF_keeps (f n : Nat) (car : Option Nat) (d0 d1 h a : Nat) (d : Dev) : Keeps d (raiseF f n car d0 d1 h a d) := by
  induction f generalizing n car d0 d1 h a d with
  | zero => exact .refl d
  | succ f ih =>
    unfold raiseF
    extract_lets d1 cls cfg en r d2 d3 irq d4 d5 src d6
    have h1 : Keeps d d1 := latchSource_keeps n h a d
    have h2 : Keeps d1 d2 := .ite (.ite (((evLog_keeps ..).trans (.setB ..)).trans (ih ..)) (evLog_keeps ..)) (.refl _)
    have h3 : Keeps d2 d3 := .ite (.emit ..) (.refl _)
    have hi (t : Nat) (e : Dev) : Keeps e (irq t e) := .ite (((msgWrite_keeps ..).trans (ih ..)).trans (ih ..)) (msgWrite_keeps ..)
    have h4 : Keeps d3 d4 := .ite (hi ..) (.refl _)
    have h5 : Keeps d4 d5 := .ite (hi ..) (.refl _)
    have hcar (e : Dev) (m : Nat) : Keeps e (match m, car with
      | 2, some c => { e with sup := { e.sup with fatalDis := e.sup.fatalDis ++ [(c, e.tim.absTick)] } }
      | _, _ => e) := by
      split
      · exact .sup ..
      · exact .refl e
    have h6 : Keeps d5 d6 := hcar d5 cls
    exact (((((h1.trans h2).trans h3).trans h4).trans h5).trans h6).trans (.ite (moduleFatal_keeps ..) (.refl _))

theorem raiseH_keeps (n : Nat) (car : Option Nat) (d0 d1 h a : Nat) (d : Dev) : Keeps d (raiseH n car d0 d1 h a d) :=
  .ite (raiseF_keeps ..) (.refl d)

theorem raise_keeps (n : Nat) (car : Option Nat) (d0 d1 : Nat) (d : Dev) : Keeps d (raise n car d0 d1 d) := raiseH_keeps ..

theorem setCond_keeps (n d0 : Nat) (d : Dev) : Keeps d (setCond n d0 d) := .ite (.refl d) (raise_keeps ..)

theorem clearCond_keeps (n : Nat) (d : Dev) : Keeps d (clearCond n d) := .clrB ..

theorem logInput_keeps (cls src car d0 d1 : Nat) (d : Dev) : Keeps d (logInput cls src car d0 d1 d) :=
  .ite (((evLog_keeps ..).trans (.setB ..)).trans (raiseF_keeps ..)) (evLog_keeps ..)

end Sys2Proof.Machine
end

