-- ==== Sys2Proof/Laws/Session.lean ====
section
/-! SUPPORT. What an entry that Phiash takes and does not refuse does: its own part, and its reply. -/

namespace Sys2Proof.Machine

@[simp] theorem spec0_op (op : Nat) (masks : List Nat) : (spec0 op masks).op = op := rfl

/-- An entry taken and not refused: the body runs on the device past the entry, and its answer is the reply. -/
theorem runCmd_takes {c : CmdSpec} {h : Cmd} {d : Dev} (body : List Nat → Dev → Dev × Ans) (ht : takes c h d = true) :
    runCmd c body h d =
      (cmdReply c.op h (body (cmdP h d) (cmdAdvance h.session d)).2 (body (cmdP h d) (cmdAdvance h.session d)).1,
       some (body (cmdP h d) (cmdAdvance h.session d)).2) := by
  simp only [takes, Bool.and_eq_true, Bool.not_eq_true', Bool.and_eq_false_iff, Option.isNone_iff_eq_none, beq_eq_false_iff_ne] at ht
  obtain ⟨⟨⟨⟨⟨_, hr⟩, ho⟩, hs⟩, hp⟩, hc⟩ := ht
  have ho' : ¬ (sesTransport d h.session = 1 ∧ outRefused d = true) := by
    rintro ⟨a, b⟩
    rcases ho with h1 | h1
    · exact h1 a
    · simp [b] at h1
  simp [runCmd, hr, ho', hs, hp, hc, cmdP]

/-- The effect of such an entry. -/
theorem runC_takes {c : CmdSpec} {h : Cmd} {d : Dev} (body : List Nat → Dev → Dev × Ans) (ht : takes c h d = true) :
    runC c body h d =
      cmdReply c.op h (body (cmdP h d) (cmdAdvance h.session d)).2 (body (cmdP h d) (cmdAdvance h.session d)).1 := by
  rw [runC, runCmd_takes body ht]

/-- A device that takes an entry runs. -/
theorem takes_up {c : CmdSpec} {h : Cmd} {d : Dev} (ht : takes c h d = true) : d.up = true := by
  simp only [takes, Bool.and_eq_true] at ht
  exact ht.1.1.1.1.1

/-- A row that is one opcode, on an entry taken and not refused. -/
theorem act_takes {c : CmdSpec} {h : Cmd} {s : State} (body : List Nat → Dev → Dev × Ans) (ht : takes c h s.dev = true) :
    s.act (runC c body h) = .next (s.commit
      (cmdReply c.op h (body (cmdP h s.dev) (cmdAdvance h.session s.dev)).2 (body (cmdP h s.dev) (cmdAdvance h.session s.dev)).1)) := by
  rw [State.act_up _ _ (takes_up ht), runC_takes _ ht]

/-- A row with something more after its reply, on an entry taken and not refused. -/
theorem runThen_takes {c : CmdSpec} {h : Cmd} {d : Dev} (body : List Nat → Dev → Dev × Ans) (after : List Nat → Dev → Dev)
    (ht : takes c h d = true) :
    runThen c body after h d =
      let r := body (cmdP h d) (cmdAdvance h.session d)
      if r.2.st = cOk then after (cmdP h d) (cmdReply c.op h r.2 r.1) else cmdReply c.op h r.2 r.1 := by
  unfold runThen
  rw [runCmd_takes _ ht]
  rfl

end Sys2Proof.Machine
end

