-- ==== Sys2Proof/Laws/Step.lean ====
section
/-! SUPPORT. What a command can do: every outcome is a next state of one of three shapes. -/

namespace Sys2Proof.Machine

/-- What a command answers: a change of the device with its stores in DRAM, a device in reset with DRAM gone, or the
state as it is. -/
def NextOf (s : State) (o : Outcome) : Prop :=
  (∃ d, o = .next (s.commit d)) ∨ (∃ d, o = s.hold d) ∨ o = .next s

theorem NextOf.actR (s : State) (f : Dev → Dev) : NextOf s (s.actR f) := .inl ⟨_, rfl⟩

/-- Every command answers a next state of those shapes. -/
theorem exec_nextOf (c : Instr) (s : State) : NextOf s (exec c s) := by
  cases c
  case powerOnReset =>
    simp only [exec, execPowerOnReset]
    split
    · exact NextOf.actR _ _
    · exact .inr (.inl ⟨_, rfl⟩)
  case systemReset =>
    simp only [exec, execSystemReset]
    split
    · exact .inr (.inl ⟨_, rfl⟩)
    · exact .inr (.inr rfl)
  all_goals exact .inl ⟨_, rfl⟩

/-- A command outside the reset logic acts only on a device that runs. -/
theorem exec_act (c : Instr) (s : State) (h : actsInReset c = false) : ∃ f, exec c s = s.act f := by
  cases c
  case tick | powerOnReset | resetIn | systemReset | resetRelease | startTimeout | powerFail | powerFailDeassert | wakeFrame |
    tamperAlarm | tamperAlarmBackup | backupPowerChangeover | referenceLost | referenceReturn | debugRead => cases h
  case braceTime | braceStatus | registerWrite | timeSnapshot | sauInvalDone | gatherDone | coefSwapRequest | hEnd | gmapWrite |
    seatBankSwapRequest | pubMapWrite | tsmapSwapRequest | imapSwapRequest | coreReset | unlockExpiry |
    prefetchDiscard | flushingRead | railWindow | rootPllUnlock | coreUe =>
    simp only [exec, State.actM, execBraceTime, execBraceStatus, execRegisterWrite, execTimeSnapshot, execSauInvalDone, execGatherDone, execCoefSwapRequest, execHEnd,
      execGmapWrite, execSeatBankSwapRequest, execPubMapWrite, execTsmapSwapRequest, execImapSwapRequest, execCoreReset,
      execUnlockExpiry, execPrefetchDiscard, execFlushingRead, execRailWindow, execRootPllUnlock, execCoreUe]
    exact ⟨_, rfl⟩
  all_goals exact ⟨_, rfl⟩

end Sys2Proof.Machine
end

