-- ==== Sys2Proof/Tests/Slice0.lean ====
section
/-! SUPPORT. Tests: ill-formed commands are refused; small steps on small states, with results that the spec's rules give; and, for every
statement for the provers, a witness that its hypotheses hold together of some state and operands (one conjunct or group for each clause, in
the statement's order). -/

namespace Sys2Proof.Tests

set_option Elab.async false

open Sys2Proof Sys2Proof.Machine

/-! Small states. -/

/-- A running device: no reset held, every register at its reset value. -/
def run : Dev := { Dev.reset with rst := { Rst.reset with held := none } }

/-- A state of a device with nothing in DRAM and nothing waiting. -/
def st (d : Dev) : State := { dev := d, mem := [], pending := [] }

/-- The running device in a mode. -/
def inMode (m : Nat) : Dev := run.setF Reg.glbMode 0 3 m

/-- Session 0 over transport 2 with every family, protocol 1 and one entry outstanding, in a mode. -/
def sesD (m : Nat) : Dev :=
  setProd 0 1 (((((((inMode m).wn (Reg.cmdSCfg 0) 0xFFF2).wn (Reg.cmdSRingCfg 0) 0x404).wn (Reg.cmdSState 0) 1).setB Reg.glbStatus 1).setB
    Reg.cmdCtrl 0).wn Reg.brcStatus 1)

/-- An entry of session 0 for carriage `c` with parameter words. -/
def entry (c : Nat) (p : List Nat) : Cmd := ⟨0, ⟨0, .livery⟩, 1, 0, 7, c, 0, p.map w32, false⟩

/-- An entry that names no carriage. -/
def entry0 (p : List Nat) : Cmd := entry 0xFFFF p

/-! Every check of `wellFormed` refuses a term that breaks it. -/

theorem test_ill_formed_1 :
    (∀ x0 x2, wellFormed (.reservedAccess x0 9 x2) = false) ∧
    (∀ x0 x1 x2, whoOk x0 = false → wellFormed (.registerWrite x0 x1 x2) = false) ∧
    (∀ x0 x2, wellFormed (.registerWrite x0 0x4000000 x2) = false) ∧
    (∀ x0 x1, whoOk x0 = false → wellFormed (.rcRead x0 x1) = false) ∧
    (∀ x0, wellFormed (.rcRead x0 0x4000000) = false) ∧
    (wellFormed (.readLowWord 0x4000000) = false) ∧
    (∀ x1, wellFormed (.ptpMessageRx 11 x1) = false) ∧
    (∀ x1, wellFormed (.ptpRoleWrite 11 x1) = false) ∧
    (∀ x1, wellFormed (.frameRx 11 x1) = false) ∧
    (∀ x1, wellFormed (.redEntryForget 5 x1) = false) ∧
    (∀ x1 x2, wellFormed (.pfcPauseRx 11 x1 x2) = false) ∧
    (∀ x0 x2, wellFormed (.pfcPauseRx x0 8 x2) = false) ∧
    (∀ x1 x2, wellFormed (.pfcEnWrite 11 x1 x2) = false) ∧
    (∀ x1, wellFormed (.frameTx 11 x1) = false) ∧
    (∀ x1, wellFormed (.gateEntryStart 11 x1) = false) ∧
    (∀ x0, wellFormed (.gateEntryStart x0 64) = false) ∧
    (∀ x1, wellFormed (.tripWindow 10 x1) = false) ∧
    (wellFormed (.gclSwapRequest 11) = false) ∧
    (wellFormed (.linkDown 11) = false) ∧
    (wellFormed (.queueFlushDone 11) = false) ∧
    (wellFormed (.linkUp 11) = false) ∧
    (wellFormed (.synthUnlock 11) = false) ∧
    (wellFormed (.synthLock 11) = false) ∧
    (∀ x1, wellFormed (.macsecCtrlWrite 10 x1) = false) ∧
    (wellFormed (.fdbRead 16384) = false) ∧
    (wellFormed (.fdbWriteStatic 16384) = false) ∧
    (wellFormed (.fdbDelete 16384) = false) ∧
    (wellFormed (.fdbAgeOut 16384) = false) ∧
    (∀ x1, wellFormed (.wakeFrame 11 x1) = false) ∧
    (∀ x1, wellFormed (.svFrame 11 x1) = false) ∧
    (wellFormed (.svEntryAgeOut 4096) = false) ∧
    (wellFormed (.sauEntryRead 4096) = false) ∧
    (wellFormed (.sauEntryCommit 4096) = false) ∧
    (∀ x1, wellFormed (.sauInvalidate 4096 x1) = false) ∧
    (∀ x1 x2, wellFormed (.gather 0 x1 x2) = false) ∧
    (∀ x1 x2, wellFormed (.gather 17 x1 x2) = false) ∧
    (∀ x1, wellFormed (.filterStageRun 64 x1) = false) ∧
    (∀ x0, wellFormed (.filterStageRun x0 32768) = false) ∧
    (wellFormed (.trackHoldTimeout 1024) = false) ∧
    (∀ x1, wellFormed (.fchDescRead 3 x1) = false) := by
  refine ⟨?_, ?_, ?_, ?_, ?_, ?_, ?_, ?_, ?_, ?_, ?_, ?_, ?_, ?_, ?_, ?_, ?_, ?_, ?_, ?_, ?_, ?_, ?_, ?_, ?_, ?_, ?_, ?_, ?_, ?_, ?_, ?_, ?_, ?_, ?_, ?_, ?_, ?_, ?_, ?_⟩ <;> intros <;> simp [wellFormed, *]

theorem test_ill_formed_2 :
    (∀ x0, wellFormed (.fchDescRead x0 32768) = false) ∧
    (∀ x1, wellFormed (.fchDescCommit 3 x1) = false) ∧
    (∀ x0, wellFormed (.fchDescCommit x0 32768) = false) ∧
    (∀ x1, wellFormed (.kPhasorDft 34 x1) = false) ∧
    (∀ x0, wellFormed (.kPhasorDft x0 65536) = false) ∧
    (∀ x1, wellFormed (.kPhasorCos 34 x1) = false) ∧
    (∀ x0, wellFormed (.kPhasorCos x0 65536) = false) ∧
    (∀ x1, wellFormed (.kSeq 34 x1) = false) ∧
    (∀ x0, wellFormed (.kSeq x0 65536) = false) ∧
    (∀ x1, wellFormed (.kImped 34 x1) = false) ∧
    (∀ x0, wellFormed (.kImped x0 65536) = false) ∧
    (∀ x1, wellFormed (.kMho 34 x1) = false) ∧
    (∀ x0, wellFormed (.kMho x0 65536) = false) ∧
    (∀ x1, wellFormed (.kQuad 34 x1) = false) ∧
    (∀ x0, wellFormed (.kQuad x0 65536) = false) ∧
    (∀ x1, wellFormed (.kDiff 34 x1) = false) ∧
    (∀ x0, wellFormed (.kDiff x0 65536) = false) ∧
    (∀ x1, wellFormed (.kFastOc 34 x1) = false) ∧
    (∀ x0, wellFormed (.kFastOc x0 65536) = false) ∧
    (∀ x1, wellFormed (.kFastDiff 34 x1) = false) ∧
    (∀ x0, wellFormed (.kFastDiff x0 65536) = false) ∧
    (∀ x1, wellFormed (.kIdmt 34 x1) = false) ∧
    (∀ x0, wellFormed (.kIdmt x0 65536) = false) ∧
    (∀ x1, wellFormed (.kFreq 34 x1) = false) ∧
    (∀ x0, wellFormed (.kFreq x0 65536) = false) ∧
    (∀ x1, wellFormed (.kPower 34 x1) = false) ∧
    (∀ x0, wellFormed (.kPower x0 65536) = false) ∧
    (∀ x1, wellFormed (.kSync 34 x1) = false) ∧
    (∀ x0, wellFormed (.kSync x0 65536) = false) ∧
    (wellFormed (.seatOverrun 34) = false) ∧
    (wellFormed (.eenDescRead 65536) = false) ∧
    (wellFormed (.eenDescCommit 65536) = false) ∧
    (∀ x1, wellFormed (.inspectionResult 3 x1) = false) ∧
    (∀ x1 x2, wellFormed (.harnessScan 17 x1 x2) = false) ∧
    (∀ x0 x2, wellFormed (.harnessScan x0 512 x2) = false) ∧
    (wellFormed (.hNop 17) = false) ∧
    (∀ x1 x2, wellFormed (.hLd 17 x1 x2) = false) ∧
    (∀ x0 x2, wellFormed (.hLd x0 (2 ^ 20) x2) = false) ∧
    (∀ x1 x2, wellFormed (.hAnd 17 x1 x2) = false) ∧
    (∀ x0 x2, wellFormed (.hAnd x0 (2 ^ 20) x2) = false) := by
  refine ⟨?_, ?_, ?_, ?_, ?_, ?_, ?_, ?_, ?_, ?_, ?_, ?_, ?_, ?_, ?_, ?_, ?_, ?_, ?_, ?_, ?_, ?_, ?_, ?_, ?_, ?_, ?_, ?_, ?_, ?_, ?_, ?_, ?_, ?_, ?_, ?_, ?_, ?_, ?_, ?_⟩ <;> intros <;> simp [wellFormed, *]

theorem test_ill_formed_3 :
    (∀ x1 x2, wellFormed (.hOr 17 x1 x2) = false) ∧
    (∀ x0 x2, wellFormed (.hOr x0 (2 ^ 20) x2) = false) ∧
    (∀ x1 x2, wellFormed (.hXor 17 x1 x2) = false) ∧
    (∀ x0 x2, wellFormed (.hXor x0 (2 ^ 20) x2) = false) ∧
    (wellFormed (.hApush 17) = false) ∧
    (wellFormed (.hOpush 17) = false) ∧
    (wellFormed (.hXpush 17) = false) ∧
    (∀ x1, wellFormed (.hPop 17 x1) = false) ∧
    (wellFormed (.hNot 17) = false) ∧
    (∀ x1, wellFormed (.hSeta 17 x1) = false) ∧
    (∀ x1 x2, wellFormed (.hSt 17 x1 x2) = false) ∧
    (∀ x0 x2, wellFormed (.hSt x0 (2 ^ 20) x2) = false) ∧
    (∀ x1, wellFormed (.hSet 17 x1) = false) ∧
    (∀ x0, wellFormed (.hSet x0 (2 ^ 20)) = false) ∧
    (∀ x1, wellFormed (.hRst 17 x1) = false) ∧
    (∀ x0, wellFormed (.hRst x0 (2 ^ 20)) = false) ∧
    (∀ x1, wellFormed (.hRise 17 x1) = false) ∧
    (∀ x0, wellFormed (.hRise x0 (2 ^ 20)) = false) ∧
    (∀ x1, wellFormed (.hFall 17 x1) = false) ∧
    (∀ x0, wellFormed (.hFall x0 (2 ^ 20)) = false) ∧
    (∀ x1 x2, wellFormed (.hTmr 17 x1 x2) = false) ∧
    (∀ x0 x2, wellFormed (.hTmr x0 256 x2) = false) ∧
    (∀ x0 x1, wellFormed (.hTmr x0 x1 3) = false) ∧
    (∀ x1, wellFormed (.hCtu 17 x1) = false) ∧
    (∀ x0, wellFormed (.hCtu x0 256) = false) ∧
    (∀ x1, wellFormed (.hCtd 17 x1) = false) ∧
    (∀ x0, wellFormed (.hCtd x0 256) = false) ∧
    (∀ x1, wellFormed (.hCrst 17 x1) = false) ∧
    (∀ x0, wellFormed (.hCrst x0 256) = false) ∧
    (∀ x1, wellFormed (.hCld 17 x1) = false) ∧
    (∀ x0, wellFormed (.hCld x0 256) = false) ∧
    (∀ x1, wellFormed (.hLdw 17 x1) = false) ∧
    (∀ x0, wellFormed (.hLdw x0 (2 ^ 14)) = false) ∧
    (∀ x1, wellFormed (.hLdi 17 x1) = false) ∧
    (∀ x0 x1, int20 x1 = false → wellFormed (.hLdi x0 x1) = false) ∧
    (∀ x1, wellFormed (.hLdhi 17 x1) = false) ∧
    (∀ x0, wellFormed (.hLdhi x0 4096) = false) ∧
    (∀ x1 x2, wellFormed (.hStw 17 x1 x2) = false) ∧
    (∀ x0 x2, wellFormed (.hStw x0 (2 ^ 14) x2) = false) ∧
    (∀ x1 x2, wellFormed (.hAdd 17 x1 x2) = false) := by
  refine ⟨?_, ?_, ?_, ?_, ?_, ?_, ?_, ?_, ?_, ?_, ?_, ?_, ?_, ?_, ?_, ?_, ?_, ?_, ?_, ?_, ?_, ?_, ?_, ?_, ?_, ?_, ?_, ?_, ?_, ?_, ?_, ?_, ?_, ?_, ?_, ?_, ?_, ?_, ?_, ?_⟩ <;> intros <;> simp [wellFormed, *]

theorem test_ill_formed_4 :
    (∀ x0 x2, wellFormed (.hAdd x0 (2 ^ 14) x2) = false) ∧
    (∀ x1 x2, wellFormed (.hSub 17 x1 x2) = false) ∧
    (∀ x0 x2, wellFormed (.hSub x0 (2 ^ 14) x2) = false) ∧
    (∀ x1 x2, wellFormed (.hAddi 17 x1 x2) = false) ∧
    (∀ x0 x1 x2, int20 x1 = false → wellFormed (.hAddi x0 x1 x2) = false) ∧
    (∀ x1 x2 x3 x4, wellFormed (.hCmp 17 x1 x2 x3 x4) = false) ∧
    (∀ x0 x2 x3 x4, wellFormed (.hCmp x0 (2 ^ 14) x2 x3 x4) = false) ∧
    (∀ x0 x1 x3 x4, wellFormed (.hCmp x0 x1 6 x3 x4) = false) ∧
    (∀ x1 x2 x3, wellFormed (.hCmpi 17 x1 x2 x3) = false) ∧
    (∀ x0 x1 x2 x3, int20 x1 = false → wellFormed (.hCmpi x0 x1 x2 x3) = false) ∧
    (∀ x0 x1 x3, wellFormed (.hCmpi x0 x1 6 x3) = false) ∧
    (∀ x1, wellFormed (.hInc 17 x1) = false) ∧
    (∀ x0, wellFormed (.hInc x0 (2 ^ 14)) = false) ∧
    (∀ x1, wellFormed (.hDec 17 x1) = false) ∧
    (∀ x0, wellFormed (.hDec x0 (2 ^ 14)) = false) ∧
    (∀ x1, wellFormed (.hAndw 17 x1) = false) ∧
    (∀ x0, wellFormed (.hAndw x0 (2 ^ 14)) = false) ∧
    (∀ x1, wellFormed (.hOrw 17 x1) = false) ∧
    (∀ x0, wellFormed (.hOrw x0 (2 ^ 14)) = false) ∧
    (∀ x1, wellFormed (.hXorw 17 x1) = false) ∧
    (∀ x0, wellFormed (.hXorw x0 (2 ^ 14)) = false) ∧
    (∀ x1 x2, wellFormed (.hShf 17 x1 x2) = false) ∧
    (∀ x0 x2, wellFormed (.hShf x0 32 x2) = false) ∧
    (∀ x1 x2, wellFormed (.hTstb 17 x1 x2) = false) ∧
    (∀ x0 x2, wellFormed (.hTstb x0 32 x2) = false) ∧
    (∀ x1 x2, wellFormed (.hJmp 17 x1 x2) = false) ∧
    (∀ x0 x2, wellFormed (.hJmp x0 0 x2) = false) ∧
    (∀ x0 x2, wellFormed (.hJmp x0 65536 x2) = false) ∧
    (∀ x0 x1, wellFormed (.hJmp x0 x1 3) = false) ∧
    (wellFormed (.hEnd 17) = false) ∧
    (∀ x1 x2 x3, wellFormed (.gooseFrameRx 11 x1 x2 x3) = false) ∧
    (∀ x0 x2 x3, wellFormed (.gooseFrameRx x0 8 x2 x3) = false) ∧
    (wellFormed (.gooseAliveExpiry 2048) = false) ∧
    (wellFormed (.gsubEntryRead 2048) = false) ∧
    (wellFormed (.gsubEntryCommit 2048) = false) ∧
    (∀ x1, wellFormed (.hleLoad 512 x1) = false) ∧
    (wellFormed (.holdStep 512) = false) ∧
    (∀ x1 x2 x3, wellFormed (.seatEntryWrite 2 x1 x2 x3) = false) ∧
    (∀ x0 x2 x3, wellFormed (.seatEntryWrite x0 8192 x2 x3) = false) ∧
    (∀ x0 x1 x3, wellFormed (.seatEntryWrite x0 x1 4 x3) = false) := by
  refine ⟨?_, ?_, ?_, ?_, ?_, ?_, ?_, ?_, ?_, ?_, ?_, ?_, ?_, ?_, ?_, ?_, ?_, ?_, ?_, ?_, ?_, ?_, ?_, ?_, ?_, ?_, ?_, ?_, ?_, ?_, ?_, ?_, ?_, ?_, ?_, ?_, ?_, ?_, ?_, ?_⟩ <;> intros <;> simp [wellFormed, *]

theorem test_ill_formed_5 :
    (wellFormed (.arbSeatStart 8192) = false) ∧
    (wellFormed (.gooseRepetition 2048) = false) ∧
    (wellFormed (.tripFrameLate 11) = false) ∧
    (wellFormed (.gpubEntryRead 2048) = false) ∧
    (wellFormed (.gpubEntryCommit 2048) = false) ∧
    (wellFormed (.svpubEntryRead 256) = false) ∧
    (wellFormed (.svpubEntryCommit 256) = false) ∧
    (wellFormed (.pmuEntryRead 32) = false) ∧
    (wellFormed (.pmuEntryCommit 32) = false) ∧
    (∀ x1 x2 x3, wellFormed (.tsmapEntryWrite 2 x1 x2 x3) = false) ∧
    (∀ x0 x2 x3, wellFormed (.tsmapEntryWrite x0 4096 x2 x3) = false) ∧
    (∀ x0 x1 x3, wellFormed (.tsmapEntryWrite x0 x1 2 x3) = false) ∧
    (∀ x1, wellFormed (.queueContextRead 512 x1) = false) ∧
    (∀ x0, wellFormed (.queueContextRead x0 2048) = false) ∧
    (∀ x1, wellFormed (.queueContextCommit 512 x1) = false) ∧
    (∀ x0, wellFormed (.queueContextCommit x0 2048) = false) ∧
    (∀ x1, wellFormed (.queueReset 512 x1) = false) ∧
    (∀ x0, wellFormed (.queueReset x0 2048) = false) ∧
    (∀ x1 x2, wellFormed (.queueDoorbell 512 x1 x2) = false) ∧
    (∀ x0 x2, wellFormed (.queueDoorbell x0 2048 x2) = false) ∧
    (∀ x0 x1, wellFormed (.queueDoorbell x0 x1 65536) = false) ∧
    (∀ x1 x2, wellFormed (.descriptorFetch 512 x1 x2) = false) ∧
    (∀ x0 x2, wellFormed (.descriptorFetch x0 2048 x2) = false) ∧ wellFormed (.descriptorFetch 0 0 32768) = false ∧ wellFormed (.proofExchangeEnd 32) = false ∧
    (∀ x1 x2, wellFormed (.vecCtrlWrite 512 x1 x2) = false) ∧
    (∀ x0 x2, wellFormed (.vecCtrlWrite x0 32 x2) = false) ∧
    (∀ x1, wellFormed (.drainEnd 512 x1) = false) ∧
    (∀ x1, wellFormed (.braceLinkTraining 2 x1) = false) ∧
    (∀ x1 x2 x3, wellFormed (.braceLaneRetire 2 x1 x2 x3) = false) ∧
    (∀ x0 x2 x3, wellFormed (.braceLaneRetire x0 5 x2 x3) = false) ∧
    (wellFormed (.braceRetrainDone 2) = false) ∧
    (wellFormed (.braceLinkDown 2) = false) ∧
    (∀ x0 x1, hdrOk x0 = false → wellFormed (.mirrorCells x0 x1) = false) ∧
    (∀ x0 x1 x2 x3, hdrOk x0 = false → wellFormed (.declarationRecord x0 x1 x2 x3) = false) ∧
    (∀ x0 x1, hdrOk x0 = false → wellFormed (.p2CompletionList x0 x1) = false) ∧
    (∀ x0 x1 x2, hdrOk x0 = false → wellFormed (.publicationMirror x0 x1 x2) = false) ∧
    (∀ x0 x1, hdrOk x0 = false → wellFormed (.tripSeatImages x0 x1) = false) ∧
    (∀ x0 x1 x2, hdrOk x0 = false → wellFormed (.digestTable x0 x1 x2) = false) ∧
    (∀ x0 x1, hdrOk x0 = false → wellFormed (.configJournal x0 x1) = false) ∧
    (∀ x0 x1 x2, wellFormed (.braceTime x0 x1 x2 1000000000) = false) ∧
    (∀ x0 x1, hdrOk x0 = false → wellFormed (.braceStatus x0 x1) = false) := by
  refine ⟨?_, ?_, ?_, ?_, ?_, ?_, ?_, ?_, ?_, ?_, ?_, ?_, ?_, ?_, ?_, ?_, ?_, ?_, ?_, ?_, ?_, ?_, ?_, ?_, ?_, ?_, ?_, ?_, ?_, ?_, ?_, ?_, ?_, ?_, ?_, ?_, ?_, ?_, ?_, ?_⟩ <;> intros <;> simp [wellFormed, *]

theorem test_ill_formed_6 :
    (∀ x0, hdrOk x0 = false → wellFormed (.failMessage x0) = false) ∧
    (∀ x1, wellFormed (.waybillRx 2 x1) = false) ∧
    (wellFormed (.waybillTx 2) = false) ∧
    (wellFormed (.waybillLoss 2) = false) ∧
    (wellFormed (.coldStartTimeout 2) = false) ∧
    (∀ x1, wellFormed (.backupWaybill 2 x1) = false) ∧
    (∀ x1 x2 x3, wellFormed (.seatTx 2 x1 x2 x3) = false) ∧
    (∀ x0 x2 x3, wellFormed (.seatTx x0 48 x2 x3) = false) ∧
    (∀ x0 x1 x3, wellFormed (.seatTx x0 x1 256 x3) = false) ∧
    (∀ x1, wellFormed (.seatFrameRx 2 x1) = false) ∧
    (wellFormed (.statusFrameTx 2) = false) ∧
    (∀ x1, wellFormed (.statusFrameRx 2 x1) = false) ∧
    (∀ x1 x2 x3 x4 x5, wellFormed (.guardFrame 30 x1 x2 x3 x4 x5) = false) ∧
    (wellFormed (.guardPortUp 30) = false) ∧
    (wellFormed (.guardPortDown 30) = false) ∧
    (wellFormed (.guardReadmit 30) = false) ∧
    (wellFormed (.guardNodeReset 30) = false) ∧
    (∀ x1 x2, wellFormed (.stlTableEntryWrite 2 x1 x2) = false) ∧
    (∀ x0 x2, wellFormed (.stlTableEntryWrite x0 488 x2) = false) ∧
    (wellFormed (.stlTableSwapRequest (2 ^ 20)) = false) ∧
    (wellFormed (.syncEvent 16) = false) ∧
    (∀ x1, wellFormed (.cmdDoorbell 64 x1) = false) ∧
    (∀ x0, wellFormed (.cmdDoorbell x0 65536) = false) ∧
    (∀ x0 x2 x3 x4 x5 x6 x7 x8, wellFormed (.mgmtDatagram ⟨x0, 64⟩ x2 x3 x4 x5 x6 x7 x8) = false) ∧
    (∀ x0 x1 x3 x4 x5 x6 x7 x8, wellFormed (.mgmtDatagram ⟨x0, x1⟩ 17 x3 x4 x5 x6 x7 x8) = false) ∧
    (∀ x1 x2, wellFormed (.sessionRingCfgWrite 64 x1 x2) = false) ∧
    (∀ x0 x2, wellFormed (.sessionRingCfgWrite x0 5 x2) = false) ∧
    (∀ x1, wellFormed (.sessionReset 64 x1) = false) ∧
    (∀ x1, wellFormed (.replyConsumerWrite 64 x1) = false) ∧
    (∀ x0, cmdOk x0 = false → wellFormed (.cmdHello x0) = false) ∧
    (∀ x0, cmdOk x0 = false → wellFormed (.cmdBye x0) = false) ∧
    (∀ x0, cmdOk x0 = false → wellFormed (.cmdEcho x0) = false) ∧
    (∀ x0, cmdOk x0 = false → wellFormed (.cmdModuleStatus x0) = false) ∧
    (∀ x0 x1, cmdOk x0 = false → wellFormed (.cmdCreate x0 x1) = false) ∧
    (∀ x0, cmdOk x0 = false → wellFormed (.cmdDestroy x0) = false) ∧
    (∀ x0, cmdOk x0 = false → wellFormed (.cmdEnable x0) = false) ∧
    (∀ x0, cmdOk x0 = false → wellFormed (.cmdDisable x0) = false) ∧
    (∀ x0, cmdOk x0 = false → wellFormed (.cmdReset x0) = false) ∧
    (∀ x0, cmdOk x0 = false → wellFormed (.cmdHarnessMode x0) = false) := by
  refine ⟨?_, ?_, ?_, ?_, ?_, ?_, ?_, ?_, ?_, ?_, ?_, ?_, ?_, ?_, ?_, ?_, ?_, ?_, ?_, ?_, ?_, ?_, ?_, ?_, ?_, ?_, ?_, ?_, ?_, ?_, ?_, ?_, ?_, ?_, ?_, ?_, ?_, ?_, ?_⟩ <;> intros <;> simp [wellFormed, *]

theorem test_ill_formed_7 :
    (∀ x0 x1, cmdOk x0 = false → wellFormed (.cmdProgramLoad x0 x1) = false) ∧
    (∀ x0, cmdOk x0 = false → wellFormed (.cmdSave x0) = false) ∧
    (∀ x0 x1, cmdOk x0 = false → wellFormed (.cmdRestore x0 x1) = false) ∧
    (∀ x0, cmdOk x0 = false → wellFormed (.cmdCarriageQuery x0) = false) ∧
    (∀ x0 x1, cmdOk x0 = false → wellFormed (.cmdParamUpdate x0 x1) = false) ∧
    (∀ x0 x1, cmdOk x0 = false → wellFormed (.cmdStreamLive x0 x1) = false) ∧
    (∀ x0, cmdOk x0 = false → wellFormed (.cmdStreamSuspend x0) = false) ∧
    (∀ x0, cmdOk x0 = false → wellFormed (.cmdStreamResume x0) = false) ∧
    (∀ x0, cmdOk x0 = false → wellFormed (.cmdStreamRetire x0) = false) ∧
    (∀ x0, cmdOk x0 = false → wellFormed (.cmdStreamGrant x0) = false) ∧
    (∀ x0, cmdOk x0 = false → wellFormed (.cmdStreamRevoke x0) = false) ∧
    (∀ x0, cmdOk x0 = false → wellFormed (.cmdLearnList x0) = false) ∧
    (∀ x0 x1 x2, cmdOk x0 = false → wellFormed (.cmdGsubCommit x0 x1 x2) = false) ∧
    (∀ x0 x1 x2, cmdOk x0 = false → wellFormed (.cmdGpubCommit x0 x1 x2) = false) ∧
    (∀ x0, cmdOk x0 = false → wellFormed (.cmdGpubState x0) = false) ∧
    (∀ x0 x1, cmdOk x0 = false → wellFormed (.cmdSvpubCommit x0 x1) = false) ∧
    (∀ x0 x1, cmdOk x0 = false → wellFormed (.cmdPmuCommit x0 x1) = false) ∧
    (∀ x0, cmdOk x0 = false → wellFormed (.cmdPmuCtrl x0) = false) ∧
    (∀ x0 x1, cmdOk x0 = false → wellFormed (.cmdTripmap x0 x1) = false) ∧
    (∀ x0, cmdOk x0 = false → wellFormed (.cmdTimeSource x0) = false) ∧
    (∀ x0, cmdOk x0 = false → wellFormed (.cmdFreeRunAccept x0) = false) ∧
    (∀ x0, cmdOk x0 = false → wellFormed (.cmdTimeStep x0) = false) ∧
    (∀ x0, cmdOk x0 = false → wellFormed (.cmdTimeLimits x0) = false) ∧
    (∀ x0, cmdOk x0 = false → wellFormed (.cmdPortPtp x0) = false) ∧
    (∀ x0, cmdOk x0 = false → wellFormed (.cmdHoldback x0) = false) ∧
    (∀ x0 x1, cmdOk x0 = false → wellFormed (.cmdRecArm x0 x1) = false) ∧
    (∀ x0, cmdOk x0 = false → wellFormed (.cmdRecDisarm x0) = false) ∧
    (∀ x0, cmdOk x0 = false → wellFormed (.cmdRecForce x0) = false) ∧
    (∀ x0, cmdOk x0 = false → wellFormed (.cmdRecRender x0) = false) ∧
    (∀ x0, cmdOk x0 = false → wellFormed (.cmdEvrRestart x0) = false) ∧
    (∀ x0, cmdOk x0 = false → wellFormed (.cmdKeyGenerate x0) = false) ∧
    (∀ x0 x1 x2 x3, cmdOk x0 = false → wellFormed (.cmdKeyUnwrap x0 x1 x2 x3) = false) ∧
    (∀ x0 x1 x2, cmdOk x0 = false → wellFormed (.cmdKeyDerive x0 x1 x2) = false) ∧
    (∀ x0, cmdOk x0 = false → wellFormed (.cmdKeyDestroy x0) = false) ∧
    (∀ x0, cmdOk x0 = false → wellFormed (.cmdKeyInfo x0) = false) ∧
    (∀ x0, cmdOk x0 = false → wellFormed (.cmdLifecycle x0) = false) ∧
    (∀ x0, cmdOk x0 = false → wellFormed (.cmdBracePair x0) = false) ∧
    (∀ x0, cmdOk x0 = false → wellFormed (.cmdBraceResync x0) = false) ∧
    (∀ x0, cmdOk x0 = false → wellFormed (.cmdBraceSwitch x0) = false) ∧
    (∀ x0, cmdOk x0 = false → wellFormed (.cmdBraceProof x0) = false) := by
  refine ⟨?_, ?_, ?_, ?_, ?_, ?_, ?_, ?_, ?_, ?_, ?_, ?_, ?_, ?_, ?_, ?_, ?_, ?_, ?_, ?_, ?_, ?_, ?_, ?_, ?_, ?_, ?_, ?_, ?_, ?_, ?_, ?_, ?_, ?_, ?_, ?_, ?_, ?_, ?_, ?_⟩ <;> intros <;> simp [wellFormed, *]

theorem test_ill_formed_8 :
    (∀ x0 x1, cmdOk x0 = false → wellFormed (.cmdStlTable x0 x1) = false) ∧
    (∀ x0 x1, cmdOk x0 = false → wellFormed (.cmdStlImap x0 x1) = false) ∧
    (∀ x0, cmdOk x0 = false → wellFormed (.cmdStlBackupSet x0) = false) ∧
    (∀ x0, cmdOk x0 = false → wellFormed (.cmdStlReadmit x0) = false) ∧
    (∀ x0, cmdOk x0 = false → wellFormed (.cmdStlNodeReset x0) = false) ∧
    (∀ x0, cmdOk x0 = false → wellFormed (.cmdModeSet x0) = false) ∧
    (∀ x0, cmdOk x0 = false → wellFormed (.cmdRetireUnit x0) = false) ∧
    (∀ x0, cmdOk x0 = false → wellFormed (.cmdRepairStatus x0) = false) ∧
    (∀ x0, cmdOk x0 = false → wellFormed (.cmdDramPpr x0) = false) ∧
    (∀ x0, cmdOk x0 = false → wellFormed (.cmdModuleReset x0) = false) ∧
    (∀ x0 x1 x2, cmdOk x0 = false → wellFormed (.cmdRecoveryWrite x0 x1 x2) = false) ∧
    (∀ x0 x1, cmdOk x0 = false → wellFormed (.cmdRecoveryCommit x0 x1) = false) ∧
    (∀ x0, cmdOk x0 = false → wellFormed (.cmdDiagRead x0) = false) ∧
    (∀ x0, cmdOk x0 = false → wellFormed (.cmdDiagWrite x0) = false) ∧
    (∀ x0, cmdOk x0 = false → wellFormed (.cmdDiagLoopback x0) = false) ∧
    (∀ x0, cmdOk x0 = false → wellFormed (.cmdDiagSample x0) = false) ∧
    (∀ x0, cmdOk x0 = false → wellFormed (.cmdDiagInspect x0) = false) ∧
    (∀ x1, wellFormed (.recorderLegTake 16 x1) = false) ∧
    (∀ x1 x2, wellFormed (.trigInEdge 8 x1 x2) = false) ∧
    (wellFormed (.itArm 4) = false) ∧
    (wellFormed (.itCancel 4) = false) ∧
    (wellFormed (.itTimeout 4) = false) ∧
    (∀ x1, wellFormed (.recordSlotFree 16 x1) = false) ∧
    (wellFormed (.sourceClear 416) = false) ∧
    (wellFormed (.unitClear 32) = false) ∧
    (∀ x1, wellFormed (.cdrvSelWrite 8 x1) = false) ∧
    (∀ x1 x2, wellFormed (.tamperAlarm 5 x1 x2) = false) ∧
    (∀ x1 x2, wellFormed (.tamperAlarmBackup 5 x1 x2) = false) ∧
    (∀ x0 x1, whoOk x0 = false → wellFormed (.unlockWrite x0 x1) = false) ∧
    (∀ x0 x1, whoOk x0 = false → wellFormed (.slotZero x0 x1) = false) ∧
    (∀ x0 x1, whoOk x0 = false → wellFormed (.tamperLogClear x0 x1) = false) ∧
    (∀ x1, wellFormed (.debugAuth 4 x1) = false) ∧
    (wellFormed (.debugRead (2 ^ 39)) = false) ∧
    (∀ x0, haltOk x0 = false → wellFormed (.debugHalt x0) = false) ∧
    (∀ x0, haltOk x0 = false → wellFormed (.debugResume x0) = false) ∧
    (∀ x1, wellFormed (.pcieLinkUp 0 x1) = false) ∧
    (∀ x1, wellFormed (.pcieLinkUp 6 x1) = false) ∧
    (∀ x0, wellFormed (.pcieLinkUp x0 0) = false) ∧
    (∀ x0, wellFormed (.pcieLinkUp x0 9) = false) ∧
    (∀ x1 x2, wellFormed (.inboundWrite 0x4000000 x1 x2) = false) := by
  refine ⟨?_, ?_, ?_, ?_, ?_, ?_, ?_, ?_, ?_, ?_, ?_, ?_, ?_, ?_, ?_, ?_, ?_, ?_, ?_, ?_, ?_, ?_, ?_, ?_, ?_, ?_, ?_, ?_, ?_, ?_, ?_, ?_, ?_, ?_, ?_, ?_, ?_, ?_, ?_, ?_⟩ <;> intros <;> simp [wellFormed, *]

theorem test_ill_formed_9 :
    (wellFormed (.inboundRead 0x4000000) = false) ∧
    (∀ x0 x2, wellFormed (.bar2Access x0 0 x2) = false) ∧
    (∀ x1 x2 x3 x4, wellFormed (.scrubStep 4 x1 x2 x3 x4) = false) ∧
    (∀ x1 x3 x4, wellFormed (.scrubStep 3 x1 256 x3 x4) = false) ∧
    (∀ x1 x3, wellFormed (.dramUeRead 3 x1 256 x3) = false) ∧
    (∀ x0, wellFormed (.flushingRead ⟨x0, 17⟩) = false) ∧
    (∀ x0, wellFormed (.completionTimeout ⟨x0, 17⟩) = false) ∧
    (∀ x0 x2 x3 x4, wellFormed (.scrubStep x0 (2 ^ 27) x2 x3 x4) = false) ∧
    (∀ x0 x1 x2 x3, wellFormed (.scrubStep x0 x1 x2 x3 101) = false) ∧
    (∀ x1 x2 x3, wellFormed (.dramUeRead 4 x1 x2 x3) = false) ∧
    (∀ x0 x2 x3, wellFormed (.dramUeRead x0 (2 ^ 27) x2 x3) = false) ∧
    (∀ x1, wellFormed (.rowRemap 4 x1) = false) ∧
    (∀ x0, wellFormed (.rowRemap x0 (2 ^ 27)) = false) ∧
    (∀ x1, wellFormed (.remapCopyDone 4 x1) = false) ∧
    (∀ x0, wellFormed (.remapCopyDone x0 16) = false) ∧
    (∀ x1 x2, wellFormed (.sramRowRepair 8 x1 x2) = false) ∧
    (∀ x0 x2, wellFormed (.sramRowRepair x0 (2 ^ 24) x2) = false) ∧
    (∀ x1, wellFormed (.sramRepairDone 8 x1) = false) ∧
    (∀ x0, wellFormed (.sramRepairDone x0 (2 ^ 24)) = false) ∧
    (wellFormed (.lockstepMismatch 2) = false) ∧
    (wellFormed (.coreUe 256) = false) ∧
    (∀ x1, wellFormed (.gpioInputEdge 16 x1) = false) ∧
    (∀ x0 x1, cmdOk x1 = false → wellFormed (.badOpcode x0 x1) = false) ∧
    (∀ x1, wellFormed (.badOpcode 65536 x1) = false) ∧
    (∀ x0 x1 x2, hdrOk x0 = false → wellFormed (.carriageImageArrival x0 x1 x2) = false) ∧
    (∀ x0 x2, wellFormed (.carriageImageArrival x0 512 x2) = false) ∧
    (∀ x0 x1, hdrOk x0 = false → wellFormed (.configurationImage x0 x1) = false) ∧
    (∀ x0 x1, hdrOk x0 = false → wellFormed (.forwardedRequest x0 x1) = false) ∧
    (wellFormed (.frameTxEnd 11) = false) := by
  refine ⟨?_, ?_, ?_, ?_, ?_, ?_, ?_, ?_, ?_, ?_, ?_, ?_, ?_, ?_, ?_, ?_, ?_, ?_, ?_, ?_, ?_, ?_, ?_, ?_, ?_, ?_, ?_, ?_, ?_⟩ <;> intros <;> simp [wellFormed, *]

theorem test_ill_formed_lists :
    wellFormed (.legBoundary [512]) = false ∧ wellFormed (.routeBoundary [256] []) = false ∧ wellFormed (.routeBoundary [] [512]) = false ∧
    wellFormed (.engineFault true 17) = false ∧ wellFormed (.engineFault false 34) = false ∧
    wellFormed (.mgmtDatagram ⟨1, 0⟩ 0 0 0 (List.replicate 1025 0) true true true) = false ∧
    (∀ h, wellFormed (.cmdKeyDerive h (List.replicate 33 0) false) = false) ∧
    (∀ h b, wellFormed (.cmdRecoveryWrite h b [256]) = false) ∧
    wellFormed (.bar2Access 0 1 (some [])) = false ∧ wellFormed (.bar2Access 0 1 (some [256])) = false ∧
    wellFormed (.renderDone 0 [256] []) = false ∧ wellFormed (.extest [2]) = false := by
  refine ⟨by decide, by decide, by decide, by decide, by decide, ?_, ?_, ?_, by decide, by decide, by decide, by decide⟩
  · decide +kernel
  · intro h; simp [wellFormed]
  · intro h b; simp [wellFormed]

theorem test_ill_formed_headers :
    cmdOk { entry0 [] with session := 64 } = false ∧ cmdOk { entry0 [] with version := 256 } = false ∧
    cmdOk { entry0 [] with flags := 256 } = false ∧ cmdOk { entry0 [] with tag := 2 ^ 32 } = false ∧
    cmdOk { entry0 [] with carriage := 65536 } = false ∧ cmdOk { entry0 [] with p := List.replicate 14 0 } = false ∧
    hdrOk ⟨2, 0, true, 0, 0, 0, 0⟩ = false ∧ hdrOk ⟨0, 0, true, 2, 0, 0, 0⟩ = false ∧
    whoOk ⟨10, .livery⟩ = false ∧ haltOk (.carriage 512) = false ∧ haltOk (.other 1) = false ∧ haltOk (.other 8) = false ∧
    int20 (-524289) = false ∧ int20 524288 = false ∧
    wellFormed (.resetRelease ⟨true, true, true, none, true, [], true, [], [], none, none, 0⟩) = false := by
  decide

theorem test_well_formed_terms :
    wellFormed (.cmdEcho (entry0 [1, 2])) = true ∧ wellFormed (.hAddi 16 (-524288) true) = true ∧ wellFormed (.hJmp 0 65535 2) = true ∧
    wellFormed (.scrubStep 3 (2 ^ 27 - 1) 0x300 .clean 100) = true ∧ wellFormed (.frameTxEnd 10) = true := by
  decide

/-! Witnesses: the queue, time, ports and the switch. -/

/-- Slot `k` VALID with a TYPE and one function, for every world and the management cores. -/
def withSlot (k typ fn : Nat) (d : Dev) : Dev :=
  (d.wn (Reg.sbxSAttr k) (typ + 0x10 + 0x700 + 0x800 + 2 ^ fn)).wn (Reg.sbxSState k) 1

/-- Time `k` ticks on. -/
def tickOn (k : Nat) (d : Dev) : Dev := { d with tim := { d.tim with ns := k * 13021 } }

/-- Time `k` legs on. -/
def legOn (k : Nat) (d : Dev) : Dev := { d with tim := { d.tim with ns := k * 208334 } }

theorem witness_StepRunsFrontCommand :
    ({ st run with pending := [.tick, .handOff] }).pending = .tick :: [.handOff] ∧ (st run).pending = [] ∧
    step { st run with pending := [.gatherDone] } = exec .gatherDone (st run) :=
  ⟨rfl, rfl, rfl⟩

theorem witness_TickBatchIsOrdered :
    inputRank (.frameRx 2 ⟨2, 4, 0x88B8, none, 64, true, none, none, 0, false, []⟩) = some (4, 2, 0) ∧ inputRank .powerFail = some (1, 0, 0) ∧
    inputRank .handOff = none ∧ batchOrder [.fdbAgeOut 3, .trigInEdge 1 true 0, .trigInEdge 0 true 5, .powerFail, .handOff] =
      [.handOff, .powerFail, .trigInEdge 0 true 5, .trigInEdge 1 true 0, .fdbAgeOut 3] := by decide +kernel

theorem witness_HeldResetStopsCommands :
    State.reset.dev.rst.held ≠ none ∧ State.reset.dev.dramW = [] ∧ actsInReset .legDeclare = false := by decide +kernel

theorem witness_StepKeepsInvariant :
    State.reset.Inv ∧ ({ st run with mem := [(0x1000000000, 1)], pending := [.gatherDone] }).Inv ∧
    ∃ t, step { st run with mem := [(0x1000000000, 1)], pending := [.gatherDone] } = .next t := by
  refine ⟨by unfold State.Inv; decide +kernel, by unfold State.Inv; decide +kernel, _, rfl⟩

theorem witness_TimeReadsAndReferences : run.up = true ∧ isLowWord 0x100010 = true ∧ isLowWord 0x60200 = true := by decide +kernel

theorem witness_TicksAndBoundaries : run.up = true ∧ Dev.reset.up = false := by decide

theorem witness_LocalTimeIsExact :
    let t : Tim := { Tim.reset with sec := 2 ^ 48 - 1, ns := 999999999, frac := 2 ^ 48 - 1, third := 2 }
    (t.sec < 2 ^ 48 ∧ t.ns < 1000000000 ∧ t.frac < 2 ^ 48 ∧ t.third < 3) ∧ Tim.reset.third = 0 ∧ (40000 * 3 = 3 * 40000) := by
  decide +kernel

/-- A PTP message of a kind, of this domain, in the clear. -/
def ptpM (kind : Nat) : PtpMsg := ⟨kind, true, false, false, true, false, 0, 0, 0, 5, none, 64⟩

/-- PTP chosen and locked; holdover at its limit; Brace chosen, locked, with the offset at and beyond TIM_OFS_WARN. Ports 10 (a slave), 0 (a master),
1 (transparent) and 2 (off). -/
theorem witness_ServoAndPtpPorts :
    let a := (run.setF Reg.timCtrl 0 2 1).setF Reg.timStatus 0 3 tsLocked
    let b := run.setF Reg.timStatus 0 3 tsHoldover
    let b := { b with tim := { b.tim with holdCnt := b.fldR Reg.timHoldLimit 0 17 } }
    let c := ((run.setF Reg.timCtrl 0 2 2).clrB Reg.timCtrl 2).setF Reg.timStatus 0 3 tsLocked
    let m (o : Int) := servoTerms (setOffset o c)
    let w : Nat := run.rn Reg.timOfsWarn
    let p := ((run.setF (Reg.timPCfg 10) 0 2 1).setF (Reg.timPCfg 0) 0 2 2).setF (Reg.timPCfg 1) 0 2 3
    (a.up = true ∧ timSrc a ≠ 0 ∧ timState a ≠ tsFree ∧ timState a ≠ tsHoldover) ∧
    (b.up = true ∧ timState b = tsHoldover ∧ b.fldR Reg.timHoldLimit 0 17 ≤ b.tim.holdCnt) ∧
    (c.up = true ∧ timSrc c = 2 ∧ timState (m w) = tsLocked ∧ (w : Int).natAbs ≤ (m w).rn Reg.timOfsWarn) ∧
    (timState (m (w + 1)) = tsLocked ∧ (m (w + 1)).rn Reg.timOfsWarn < ((w : Int) + 1).natAbs) ∧
    (p.up = true ∧ ptpRole p 2 = 0 ∧ ptpRole p 10 ≠ 0 ∧ (ptpM 0).domain = true ∧ ptpAdmitted p 10 (ptpM 0) = true ∧
      ({ ptpM 0 with twoStep := true }).twoStep = true) ∧
    ((ptpM 0).twoStep = false ∧ ptpRole (setPState 10 5 p) 10 ≠ 3 ∧ ptpRole (setPState 1 5 p) 1 = 3) ∧
    tfind ({ p with tim := { p.tim with pdT1 := [(10, 7)] } } : Dev).tim.pdT1 10 = some 7 ∧ ({ ptpM 3 with utc := some 37 }).utc = some 37 ∧
    (let s := (p.setB (Reg.ethSecCtrl 8) 0).setF (Reg.timPCfg 8) 0 2 1
     ptpRole s 8 ≠ 0 ∧ ptpAdmitted s 8 (ptpM 3) = false ∧ ({ ptpM 0 with domain := false }).domain = false) ∧
    (fld (1 : Word).toNat 0 2 = 1 ∧ portsOfRole p 10 2 ≠ [] ∧ portsOfRole run 10 2 = [] ∧ fld (0 : Word).toNat 0 2 = 0 ∧
      fld (2 : Word).toNat 0 2 = 2 ∧ fld (3 : Word).toNat 0 2 = 3 ∧ ptpRole p 0 ≠ 0 ∧ ptpRole p 9 = 0) := by decide +kernel

/-- Port 0 up and receiving. -/
def rxD : Dev := ((run.setF Reg.glbMode 0 3 modeStandby).setB (Reg.ethStatus 0) 0).setF (Reg.ethCtrl 0) 4 2 3

def frame (len : Nat) (ok : Bool) : Frame := ⟨2, 4, 0x88B8, none, len, ok, none, none, 0, false, []⟩

/-- A forwarded frame of 64 octets of a class. -/
def txF (cls : Nat) : TxFrame := { kind := 0, src := 0, cls := cls, len := 64, tag := 0, body := [] }

/-- A frame of class 3 waiting at a port that is up and transmits. -/
def txD (p : Nat) : Dev :=
  setEgressQ p 3 [txF 3] ((((run.setF Reg.glbMode 0 3 modeStandby).setB (Reg.ethStatus p) 0).setF (Reg.ethCtrl p) 4 2 3).clrB (Reg.ethStatus p) 3)

theorem witness_FramesInAndOut :
    (rxD.up = true ∧ linkUp rxD 0 = true ∧ rxEn rxD 0 = true ∧ rxD.mode ≠ modeParked ∧ linkUp rxD 1 = false) ∧
    rxD.fldR (Reg.ethMaxlen 0) 0 14 < 16383 ∧ (64 ≤ rxD.fldR (Reg.ethMaxlen 0) 0 14 ∧ (frame 64 false).fcsOk = false) ∧
    ((frame 64 true).fcsOk = true ∧ (sampleTurn 0 (rxD.bump (Reg.ethRxFrames 0))).2 = false ∧
      (secVerify 0 (frame 64 true) (sampleTurn 0 (rxD.bump (Reg.ethRxFrames 0))).1).2 = true) ∧
    (let d := rxD.wn (Reg.ethSampleN 0) 1
     (sampleTurn 0 (d.bump (Reg.ethRxFrames 0))).2 = true ∧
       (secVerify 0 (frame 64 true) (sampleTurn 0 (d.bump (Reg.ethRxFrames 0))).1).2 = true) ∧
    (let d (n : Nat) := (((rxD.setB (Reg.ethStatus 8) 0).setF (Reg.ethCtrl 8) 4 2 3).setB (Reg.ethSecCtrl 8) 0).wn (Reg.ethSampleN 8) n
     let t (n : Nat) := sampleTurn 8 ((d n).bump (Reg.ethRxFrames 8))
     linkUp (d 0) 8 = true ∧ rxEn (d 0) 8 = true ∧ (t 0).2 = false ∧ (t 1).2 = true ∧
       (secVerify 8 (frame 64 true) (t 0).1).2 = false ∧ (secVerify 8 (frame 64 true) (t 1).1).2 = false) ∧
    (let d := tripLate 0 ((txD 0).setB (Reg.ethStatus 0) 3)
     d.up = true ∧ txShut d 0 = true) ∧
    (let d := tripLate 0 (txD 0)
     let l := tripLate 0 { txD 0 with swc := { (txD 0).swc with line := [(0, txF 3)] } }
     d.up = true ∧ txShut d 0 = false ∧ tfind d.swc.line 0 = none ∧ linkUp d 0 = true ∧ tfind l.swc.line 0 = some (txF 3) ∧
       txClass d 0 (d.tim.tickInRoute % 16 * 10000 + 0 / 4) = some 3 ∧ egressQ d 0 3 = txF 3 :: [] ∧ txProtected d 0 (txF 3) = false ∧
       txClass (setEgressQ 0 3 [] d) 0 (d.tim.tickInRoute % 16 * 10000 + 0 / 4) = none) ∧
    (let d (k : Nat) := (withSlot 5 1 fnMacsec (txD 8)).setB (Reg.ethSecCtrl 8) 0 |>.wn (Reg.ethSecTxSa 8 0) (k + 2 ^ 31)
     txShut (d 5) 8 = false ∧ txClass (d 5) 8 ((d 5).tim.tickInRoute % 16 * 10000 + 0 / 4) = some 3 ∧ txProtected (d 5) 8 (txF 3) = true ∧
       (secTake 8 (d 5)).2 = true ∧ (secTake 8 (d 6)).2 = false) ∧
    ((txF 3).kind ≠ 6 ∧ ({ txF 3 with kind := 6 }).kind = 6 ∧ tfind run.swc.line 0 = none) := by decide +kernel

theorem witness_GatesAndLinks :
    (run.up = true ∧ (run.setB (Reg.ethPfcEn 10) 5).bitR (Reg.ethPfcEn 10) 5 = true) ∧ (5 ≤ 5 ∧ 7 < 8 ∧ 5 < 7) ∧
    run.bitR (Reg.ethPfcEn 0) 0 = false ∧
    clashBits ((0x3F : Word).toNat % 64) (run.rn (Reg.swcGclSched 0)) = [] ∧
    clashBits ((0x3F : Word).toNat % 64) ((run.wn (Reg.swcGclSched 0) 4).rn (Reg.swcGclSched 0)) = 2 :: [] ∧
    clashBits ((0xFF : Word).toNat % 256) (run.rn (Reg.ethPfcEn 0)) = [] ∧
    clashBits ((0xFF : Word).toNat % 256) ((run.wn (Reg.ethPfcEn 0) 4).rn (Reg.ethPfcEn 0)) = 2 :: [] ∧
    (let d := (run.setB (Reg.swcGclCtrl 10) 0).wn (Reg.swcGclEntry 10 0 63) 0x800000F0
     d.up = true ∧ d.bitR (Reg.swcGclCtrl 10) 0 = true ∧
       bitOf (d.rn (Reg.swcGclEntry 10 (b2n (d.bitR (Reg.swcGclCtrl 10) 1)) 63)) 31 = true) ∧
    run.bitR (Reg.swcGclCtrl 10) 0 = false ∧ 9 < 10 ∧
    (run.setB (Reg.swcGclCtrl 9) 3).bitR (Reg.swcGclCtrl 9) 3 = true := by decide +kernel

theorem witness_SwitchTables :
    (let e : RedSrc := ⟨6, 0, 0, []⟩
     let d := setRedList 4 [e] { run with tim := { run.tim with sec := 10 } }
     let f := setRedList 4 [e] run
     d.up = true ∧ 4 < 5 ∧ (redList d 4).find? (fun x => x.sa == 6) = some e ∧
       d.fldR (Reg.swcRedForget 4) 0 12 * 768 ≤ (d.tim.absTick - e.last) * 10 ∧ (redList f 4).find? (fun x => x.sa == 6) = some e ∧
       (f.tim.absTick - e.last) * 10 < f.fldR (Reg.swcRedForget 4) 0 12 * 768 ∧ (redList run 4).find? (fun x => x.sa == 6) = none) ∧
    (isStation 9 = true ∧ (inMode modeMaintenance).mode = modeMaintenance) ∧
    ((inMode modeActive).mode ≠ modeMaintenance ∧ fld (0 : Word).toNat 0 2 = (inMode modeActive).fldR (Reg.ethSecCtrl 9) 0 2 ∧
      fld (1 : Word).toNat 0 2 ≠ (inMode modeActive).fldR (Reg.ethSecCtrl 9) 0 2) ∧
    (let e : FdbEntry := ⟨2, 1, true, 1, 0⟩
     let d := setFdb [(16383, e)] { (run.wn Reg.swcAgeRoutes 6) with tim := { run.tim with sec := 10 } }
     16383 < 16384 ∧ tfind d.swc.fdb 16383 = some e ∧ e.learned = true ∧ d.fldR Reg.swcAgeRoutes 0 20 ≠ 0 ∧
       e.hit + d.fldR Reg.swcAgeRoutes 0 20 ≤ d.tim.absRoute ∧ tfind d.swc.fdb 0 = none ∧ ({ e with learned := false }).learned = false) ∧
    bitOf ((run.wn Reg.swcFdbData1 0x80000000).rn Reg.swcFdbData1) 31 = true ∧ bitOf (run.rn Reg.swcFdbData1) 31 = false := by decide +kernel

/-! Witnesses: samples, filters, engines. -/

/-- An SV subscription entry: state, eight channels, one ASDU, port group 0. -/
def svEnt (state : Nat) : List Nat := takePad 0 24 [state + 4 + 8 * 16 + 1 * 2048, 0, 0, 0x100]

/-- The same at 14,400 samples a second. -/
def svEnt1 (state : Nat) : List Nat := takePad 0 24 [state + 8 * 16 + 512 + 1 * 2048, 0, 0, 0x100]

def svf (da conf : Nat) : SvFrame := ⟨da, 0, [], conf, false, none, [⟨0, 2, none, List.replicate 8 0, List.replicate 8 0⟩], 0⟩

/-- Entry `i` alone in the table. -/
def withEnt (i : Nat) (e : List Nat) (d : Dev) : Dev := { d with sau := { d.sau with entries := [(i, e)] } }

theorem witness_SamplesAndLegs :
    let f := svf 0 0
    let lk (d : Dev) := svLookup (portGroup 0) (svKey f) d
    (run.up = true ∧ isShadow run = false ∧ sendsMirror run = false ∧ run.enabled Reg.sauCtrl = true ∧
      (run.wn Reg.sauCtrl 0).enabled Reg.sauCtrl = false) ∧
    (f.svid.length ≤ 64 ∧ (lk run).2 = none) ∧
    (lk { run with sau := { run.sau with cache := [(0, [(7, svEnt 0)])] } }).2 = some (7, svEnt 0) ∧ entState (svEnt 0) = esFree ∧
    (let d := withEnt 4095 (svEnt 1) run
     (lk d).2 = some (4095, svEnt 1) ∧ entState (svEnt 1) = esLearned) ∧
    (let d := withEnt 0 (svEnt 2) run
     let a := svAuth (svEnt 2) f (lk d).1
     (lk d).2 = some (0, svEnt 2) ∧ 2 ≤ entState (svEnt 2) ∧ svCause 0 (svEnt 2) (svf 0 1) (svAuth (svEnt 2) (svf 0 1) (lk d).1).2 = 1 ∧
       svCause 0 (svEnt 2) f a.2 = 0 ∧ entRate (svRecognise 0 (svEnt 2) f a.1).2 = 0) ∧
    (let d := withEnt 0 (svEnt1 2) run
     let a := svAuth (svEnt1 2) f (lk d).1
     (lk d).2 = some (0, svEnt1 2) ∧ svCause 0 (svEnt1 2) f a.2 = 0 ∧ bitOf (entW (svRecognise 0 (svEnt1 2) f a.1).2 0) 2 = false ∧
       entRate (svRecognise 0 (svEnt1 2) f a.1).2 ≠ 0) ∧
    (isShadow (run.wn Reg.brcStatus roleStandby) = true ∧ sendsMirror (run.wn Reg.brcStatus (8 + roleActive)) = true ∧
      isShadow (run.wn Reg.brcStatus (8 + roleActive)) = false) ∧
    nextDeclare run = some 0 ∧ nextDeclare { run with sau := { run.sau with declared := some 0 } } = none := by decide +kernel

theorem witness_SubscriptionsAndGathers :
    let w (d : Dev) := (List.range 24).map (fun k => d.rn (Reg.sauEntStage k))
    (run.up = true ∧ 4095 < 4096 ∧ sauCommitBad (run.wn (Reg.sauEntStage 0) 2) liveryWho 0 (w (run.wn (Reg.sauEntStage 0) 2)) = true ∧
      sauCommitBad run liveryWho 4095 (w run) = false ∧ entState (w run) = 0) ∧
    (let d := (withEnt 4095 (svEnt 2) (run.wn (Reg.sauEntStage 0) (2 + 4 + 8 * 16 + 2048))).wn (Reg.sauEntStage 3) 0x100
     sauCommitBad d liveryWho 4095 (w d) = false ∧ 2 ≤ entState (w d) ∧ 2 ≤ entState (sauEnt (journal 0 4095 (w d) (d.wn Reg.sauEntStatus 0)) 4095)) ∧
    (let d := setStrm 0 { strm run 0 with age := 6 } (withEnt 0 (svEnt 1) (run.wn Reg.sauAgeRoutes 6))
     entState (sauEnt d 0) = esLearned ∧ d.fldR Reg.sauAgeRoutes 0 20 ≠ 0 ∧ d.fldR Reg.sauAgeRoutes 0 20 ≤ (strm d 0).age ∧
       entState (sauEnt run 0) ≠ esLearned) ∧
    (let d := { run with sau := { run.sau with declared := some 7 } }
     d.sau.declared = some 7 ∧ d.sau.ecc = [] ∧ entState (sauEnt d (fld (d.rn (Reg.sauGatherIdx 0)) 0 12)) < 2 ∧
       fld (d.rn (Reg.sauGatherIdx 0)) 17 6 ≤ 7 ∧ 1 ≤ 16 ∧ 16 ≤ 16) := by decide +kernel

/-- Column 0 of a kind serves its seat 0 of the active bank, whose first work item is carriage 0's, in relative tick `t`; now is that tick of leg 100. -/
def seated (k t : Nat) (d : Dev) : Dev :=
  tickOn (1604 + k + t) ((((d.wn (Reg.ttbSeat 0 0 0) (k + t * 16 + 2 ^ 31)).wn (Reg.ttbSeat 0 0 1) (100 * 65536)).wn (Reg.ttbSeat 0 0 2) 256).wn
    (Reg.ttbSeat 0 0 3) 65536)

/-- A channel descriptor of carriage 0, an ENABLED carriage, and leg `m` declared; lane 0 serves it leg 100 now. -/
def fchD (m : Nat) : Dev :=
  seated 0 5 (setCarSt 0 stEnabled { run with sau := { run.sau with declared := some m },
                                              fch := { run.fch with desc := [(fchKey 0 32767, List.replicate 8 0)] } })

/-- Carriage 0 of class 0 in a state, granted entry 0 and kernel index 65535, leg 100 declared. -/
def img0 : CoachImage := ⟨0, 0, [], [], [], [], 0, [], 0, 0, [], 0, [], [], [], 0, 0, 0, []⟩
def carD (st : Nat) : Dev :=
  let d := withEnt 0 (svEnt 2) (setCarSt 0 st run)
  { d with cars := [(0, ⟨{ img0 with kernels := [65535] }, 0, 2, [0], false, false, false, false⟩)], sau := { d.sau with declared := some 100 } }

theorem witness_FilterStagesAndTables :
    let at_ (m n : Nat) := { fchD m with fch := { (fchD m).fch with chans := [(32767, { fchan (fchD m) 32767 with next := some n })] } }
    let w (d : Dev) := (List.range 8).map (fun k => d.rn (Reg.fchDescStage k))
    ((fchD 100).up = true ∧ 0 < 64 ∧ 32767 < 32768 ∧ chanSeat (fchD 100) 0 32767 = some 100 ∧ laneCan (fchD 100) 0 (fchDesc (fchD 100) 0 32767) = true ∧
      (fchD 100).sau.declared = some 100 ∧ (fchan (fchD 100) 32767).next = none) ∧
    (chanSeat (at_ 100 101) 0 32767 = some 100 ∧ (fchan (at_ 100 101) 32767).next = some 101 ∧ min 100 100 < 101 ∧ 100 ≤ 101 + 48 ∧
      (fchan (at_ 100 52) 32767).next = some 52 ∧ 52 ≤ min 100 100 ∧ 100 ≤ 52 + 48) ∧
    (chanSeat (at_ 100 51) 0 32767 = some 100 ∧ (fchan (at_ 100 51) 32767).next = some 51 ∧ 51 + 48 < 100 ∧
      chTrip (fchDesc (at_ 100 51) 0 32767) = false ∧ chanSeat (at_ 101 51) 0 32767 = some 100 ∧ 100 < 101) ∧
    (chanSeat run 63 32767 = none ∧ laneCan run 63 (fchDesc run 0 32767) = false) ∧
    (let g (st : Nat) : Dev := (({ run with fch := { run.fch with grps := [(1023, { fgrp run 1023 with hold := some (0, true) })] } }).setF
       (Reg.fchTStatus 1023) 0 2 st)
     (fgrp (g tHold) 1023).hold = some (0, true) ∧ grpState (g tHold) 1023 = tHold ∧ 0 + tgHold (fchDesc (g tHold) 2 1023) * 240 ≤ (g tHold).tim.absLeg ∧
       grpState (g tTrack) 1023 ≠ tHold ∧ (fgrp run 1023).hold = none) ∧
    (fchReason run 1 4095 (w run) = 0 ∧ changedCars run (Sys2Proof.Machine.fchDescCommit 1 4095 run) = [] ∧
      (admitChanges run (Sys2Proof.Machine.fchDescCommit 1 4095 run)).2 = 0) ∧
    (let d := run.wn (Reg.fchDescStage 7) 0xFFFFFFFF
     fchReason d 1 4095 (w d) ≠ 0) ∧
    (let d := ((carD stDisabled).setF (Reg.ttbCState 0) 0 2 1).wn Reg.ttbCols 0
     fchReason d 0 32767 (w d) = 0 ∧ (admitChanges d (Sys2Proof.Machine.fchDescCommit 0 32767 d)).2 ≠ 0) ∧
    ((inMode modeBoot).mode = modeBoot ∧ (inMode modeMaintenance).mode = modeMaintenance) ∧
    ((inMode modeActive).mode ≠ modeBoot ∧ (inMode modeActive).mode ≠ modeMaintenance) := by decide +kernel

/-- A descriptor of carriage 0 with a kernel code, enabled; engine 0 serves it leg 100 now, in the stage window. -/
def kdesc (code : Nat) : List Nat := takePad 0 16 [code + 512]
def kerD (code : Nat) : Dev := seated 1 0 { carD stEnabled with een := { run.een with desc := [(65535, kdesc code)] } }

theorem witness_KernelRuns :
    (List.range 13).all (fun i => (kerD (i + 1)).up && kernSeat (kerD (i + 1)) 0 65535 == some 100 && kCan (kerD (i + 1)) 0 65535 100 &&
      kCode (kDesc (kerD (i + 1)) 65535) == i + 1) = true ∧
    ((kCode (kDesc run 65535) ≠ 3 ∧ kCode (kDesc (kerD 3) 65535) = 3) ∧
      (let d := (kerD 3).setF (Reg.ttbCState 0) 0 2 3
       kernSeat d 0 65535 = some 100 ∧ kCan d 0 65535 100 = false)) ∧
    (eRole ((kerD 3).setF (Reg.eenEStatus 33) 0 2 1) 33 ≠ 0 ∧ (run.wn Reg.eenCtrl 0).enabled Reg.eenCtrl = false ∧ kDesc run 0 = [] ∧
      carRuns run (kCar (kDesc run 0)) = false ∧ isShed ((kerD 3).setF (Reg.ttbCState 0) 0 2 3) (kCar (kDesc (kerD 3) 65535)) = true ∧
      ranFor { KInst.start run with last := some 100 } 100 = true ∧ run.sau.declared = none ∧ (kerD 3).sau.declared = some 100) := by
  decide +kernel

/-- FAST_OC over channel 0 of entry 0, staged for index 65535. -/
def kstage : Dev := ((((carD stEnabled).wn (Reg.eenDescStage 0) (8 + 512)).wn (Reg.eenDescStage 3) 1).wn (Reg.eenDescStage 5) 1)

theorem witness_EngineFaults :
    (run.up = true ∧ 33 < 34 ∧ 16 < 17 ∧ eRole run 31 ≠ 3 ∧ eRole (run.setF (Reg.eenEStatus 33) 0 2 3) 33 = 3) ∧
    (let d := { (run.wn Reg.ttbInspCtrl 7) with tim := { run.tim with ns := 239 * 208334 } }
     let t := { d with ttb := { d.ttb with trial := [(1, 31, none)] } }
     1 < 3 ∧ inspUnit d 1 = some 31 ∧ d.tim.absLeg % 240 = 239 ∧ inspOn d 1 = true ∧ tfind d.ttb.trial 1 = none ∧
       inspUnit t 1 = some 31 ∧ tfind t.ttb.trial 1 = some (31, none) ∧ run.tim.absLeg % 240 ≠ 239) ∧
    (let w (d : Dev) := (List.range 16).map (fun k => d.rn (Reg.eenDescStage k))
     kReason run 65535 (w run) ≠ 0 ∧ kReason kstage 65535 (w kstage) = 0 ∧
     (let d := Sys2Proof.Machine.eenDescCommit 65535 kstage
      changedCars kstage d = [] ∧ (admitChanges kstage d).2 = 0) ∧
     (let s := (kstage.setF (Reg.ttbCState 0) 0 2 1).wn Reg.ttbCols 0
      (admitChanges s (Sys2Proof.Machine.eenDescCommit 65535 s)).2 ≠ 0)) := by decide +kernel

/-! Witnesses: the Harness, GOOSE subscription. -/

/-- The copy of a scan of carriage 0 on leg 100: W, one word of the writable areas, the stack. -/
def hX (w a v : Nat) (stack : List (Bool × Nat)) : HCtx := ⟨0, 100, false, true, w, stack, 0, [], [(a, v)], [], [], 256, 256⟩

/-- The device with that scan on engine 16. -/
def hD (x : HCtx) : Dev := setCtx 16 x run

/-- That scan is in progress. -/
def hOk (x : HCtx) : Bool := (hD x).up && decide (tfind (hD x).hle.ctx 16 = some x)

theorem witness_HarnessBits :
    let x := hX 0 0x10BF 0x80000000 [(true, 1)]
    hOk x = true ∧ 2 ^ 20 - 1 < 2 ^ 20 ∧ hBit (hX 0 0x800 1 []) (0x800 * 32) = true ∧
    (List.range 3).all (fun k => hOk (hX 0 0x800 1 [(true, k + 1)]) && decide ((hX 0 0x800 1 [(true, k + 1)]).stack = (true, k + 1) :: [])) = true ∧
    (hX 0 0x800 1 []).stack = [] ∧ hWritable ((0x10BF * 32 + 31) / 32) = true ∧ hBit x (0x10BF * 32 + 31) = true ∧
    hWritable (0x10C0 * 32 / 32) = false := by decide +kernel

theorem witness_HarnessBitWrite :
    let x := hX 0 0x15FF 0xFFFFFFFF []
    hWritable ((0x15FF * 32 + 31) / 32) = true ∧ tget 0 x.wr ((0x15FF * 32 + 31) / 32) < 2 ^ 32 ∧
    0x15FF * 32 + 30 ≠ 0x15FF * 32 + 31 ∧ (0x15FF * 32 + 30) / 32 < 0x1600 := by decide +kernel

theorem witness_HarnessWords :
    let x := hX 0xFFFFFFFF 0x800 0x80000000 []
    hOk x = true ∧ x.w < 2 ^ 32 ∧ 2 ^ 14 - 1 < 2 ^ 14 ∧ ((-2 ^ 19 : Int) ≤ -2 ^ 19 ∧ (-2 ^ 19 : Int) < 2 ^ 19) ∧ 4095 < 4096 ∧
    hWritable 0x15FF = true ∧ hWritable 0x1600 = false ∧ hWord x 0x800 < 2 ^ 32 ∧ 31 < 32 := by decide +kernel

theorem witness_HarnessNumbers :
    let x := hX 0x7FFFFFFF 0x800 0x7FFFFFFF []
    (hOk x = true ∧ 0x800 < 2 ^ 14 ∧ ((-2 ^ 19 : Int) ≤ 2 ^ 19 - 1 ∧ (2 ^ 19 - 1 : Int) < 2 ^ 19) ∧ hWritable 0x800 = true ∧ hWritable 0x10C0 = false ∧
      x.acc = true ∧ 5 < 6) ∧
    (let y := hX 0x3F800000 0x800 0x40000000 []
     hOk y = true ∧ f32Nan y.w = false ∧ f32Nan (hWord y 0x800) = false) ∧
    (let y := hX 0x80000000 0x800 0 []
     hOk y = true ∧ y.w = 0x80000000 ∧ hWord y 0x800 = 0) ∧
    (let y := hX 0 0x800 0x7FC00000 []
     hOk y = true ∧ (f32Nan y.w = true ∨ f32Nan (hWord y 0x800) = true)) := by decide +kernel

theorem witness_HarnessTimersCounters :
    let x := { hX 0 0x1200 5 [] with cnts := [(255, ⟨2 ^ 31 - 1, false, false⟩)] }
    hOk x = true ∧ 255 < 256 ∧ 2 < 3 ∧ -2 ^ 31 ≤ (hCnt x 255).cv ∧ (hCnt x 255).cv < 2 ^ 31 := by decide +kernel

theorem witness_HarnessWordsActAsRows :
    hOk (hX 0 0x800 1 [(true, 1)]) = true ∧ 2 ^ 20 - 1 < 2 ^ 20 ∧ 255 < 256 ∧ 2 < 3 ∧ 2 ^ 14 - 1 < 2 ^ 14 ∧ 5 < 6 ∧ 4095 < 4096 ∧ 31 < 32 ∧
    2 ^ 16 - 1 < 2 ^ 16 := by decide +kernel

/-- A program of some words, and carriage 0 with it and frozen inputs of leg 100, its Harness in mode `m`; engine 0 serves its scan now. -/
def prog1 (code : List Nat) : HProg := ⟨List.replicate 16 0, code, []⟩
def scanD (m : Nat) (code : List Nat) : Dev :=
  seated 2 0 (setHcar 0 { HCar.empty with prog := some (prog1 code), frz := [(100, [])], holdInp := (100, []) }
    ((setCarSt 0 stEnabled (inMode modeMaintenance)).setF (Reg.hleCMode 0) 0 2 m))

/-- The same on the shadow, of class 2. -/
def scanP2 : Dev :=
  { (scanD hRun [opEnd * 2 ^ 26]).wn Reg.brcStatus roleStandby with
    cars := [(0, ⟨⟨0, 0, [], [], [], [], 0, [], 0, 0, [], 0, [], [], [], 0, 0, 0, []⟩, 2, 2, [], false, false, false, false⟩)] }

theorem witness_HarnessProgramsAndScans :
    let code := [opEnd * 2 ^ 26]
    (hOk (hX 0 0x800 1 []) = true ∧ (hX 0 0x800 1 []).hold = false ∧ 1 ≠ (hX 0 0x800 1 []).car) ∧
    (let d := scanD hRun code
     d.up = true ∧ 0 < 17 ∧ 511 < 512 ∧ scanSeatNow d 0 0 = true ∧ scanGone d 0 0 = false ∧ (hcar d 0).prog = some (prog1 code) ∧
       (hcar d 0).frz = (100, []) :: [] ∧ scanCan d 0 0 = true ∧ isShadow d = false ∧ scanSeatNow d 16 0 = false ∧
       (scanRun code 1 (scanStart 0 100 false [] (prog1 code) (hcar d 0))).2.1 = true ∧
       (scanRun code 0 (scanStart 0 100 false [] (prog1 code) (hcar d 0))).2.1 = false) ∧
    (let d := (scanD hRun code).setF (Reg.hleEStatus 0) 0 2 3
     let e := (scanD hRun code).setF (Reg.hleEStatus 0) 0 2 1
     scanSeatNow d 0 0 = true ∧ scanGone d 0 0 = true ∧ scanGone e 0 0 = false ∧ scanCan e 0 0 = false) ∧
    ((hcar scanP2 0).frz = (100, []) :: [] ∧ scanGone scanP2 0 0 = false ∧ isShadow scanP2 = true ∧ carCls scanP2 0 = 2 ∧
      (100, 2, 0) ∉ scanP2.brc.p2) ∧
    (tfind run.hle.ctx 16 = none ∧ harnessEngine (.hEnd 16) = some 16) ∧
    (let d := scanD hHold code
     let b := scanD hHold [0x30 * 2 ^ 26]
     d.mode = modeMaintenance ∧ holdCan d 0 = true ∧ holdCan (scanD hRun code) 0 = false ∧ (inMode modeActive).mode ≠ modeBoot ∧
       (inMode modeActive).mode ≠ modeMaintenance ∧
       (scanRun code (code.length + 1) (scanStart 0 100 true [] (prog1 code) (hcar d 0))).2.1 = true ∧
       (hcar b 0).prog = some (prog1 [0x30 * 2 ^ 26]) ∧ holdCan b 0 = true ∧
       (scanRun [0x30 * 2 ^ 26] 2 (scanStart 0 100 true [] (prog1 [0x30 * 2 ^ 26]) (hcar b 0))).2.1 = false) := by decide +kernel

/-- A GOOSE subscription entry without authentication: port group 0, gocbRef of one byte, in a state; and a frame with its key. -/
def gsEntT (conf st : Nat) : List Nat := takePad 0 32 [st, 0, 0, conf, 2 ^ 24, 0, 0, 0, 0, 1, 0x41]
def gsF (conf : Nat) : GooseFrame := ⟨0, 0, [0x41], 1, 0, 100, conf, false, false, false, none, [], 100, 0, []⟩

/-- Entry 2047 alone in the table, its ALIVE running out in tick `t`. -/
def gsD (st t : Nat) : Dev := { run with hle := { run.hle with ents := [(2047, gsEntT 3 st)], alive := [(2047, t)] } }

/-- A Program whose image stands at the start of DRAM: one END, with the checksum that the loader computes. -/
def imgAt : Nat := 0x1000000000
def imgCode : List Nat := [opEnd * 2 ^ 26]
def imgCrc : Word := Config.crc32 (imgCode ++ [])
def imgHdr : List Nat := [0x484C4550, 0x10001, 1, 0, 0, 0, 0, imgCrc.toNat, 0, 0, 0, 0, 0, 0, 0, 0]
def imgMem : List Host.Cell :=
  [(imgAt, 0x50), (imgAt + 1, 0x45), (imgAt + 2, 0x4C), (imgAt + 3, 0x48), (imgAt + 4, 1), (imgAt + 6, 1), (imgAt + 8, 1),
   (imgAt + 28, imgCrc.setWidth 8), (imgAt + 29, (imgCrc >>> 8).setWidth 8), (imgAt + 30, (imgCrc >>> 16).setWidth 8),
   (imgAt + 31, (imgCrc >>> 24).setWidth 8), (imgAt + 67, 0xC4)]

/-- Carriage 0 defined with room for one instruction, and HLE_LOAD_ADDR at the image. -/
def loadD : Dev :=
  { (setCarSt 0 stDisabled run).wn Reg.hleLoadAddrHi 0x10 with
    cars := [(0, ⟨{ img0 with progWords := 1 }, 1, 2, [], false, false, false, false⟩)] }

theorem bytes_of_word (w : Word) :
    (w.setWidth 8).toNat + ((w >>> 8).setWidth 8).toNat * 2 ^ 8 + ((w >>> 16).setWidth 8).toNat * 2 ^ 16 +
      ((w >>> 24).setWidth 8).toNat * 2 ^ 24 = w.toNat := by
  have := w.isLt
  simp [BitVec.toNat_setWidth, BitVec.toNat_ushiftRight, Nat.shiftRight_eq_div_pow]
  omega

theorem imgMem_word7 : memWord imgMem (imgAt + 28) = imgCrc.toNat := by
  rw [← bytes_of_word imgCrc]
  simp [memWord, memRead, imgMem, imgAt, tfind]

theorem witness_GooseAndLoads :
    let hit (d : Dev) (f : GooseFrame) := d.hle.ents.find? (fun q => gsState q.2 != 0 && gsKey q.2 == gooseKey f)
    let cause (f : GooseFrame) := gsCause (gsAuthOk (gsEntT 3 1) f (gsD 1 0)).1 2047 0 (gsEntT 3 1) f (gsAuthOk (gsEntT 3 1) f (gsD 1 0)).2
    (run.up = true ∧ 10 < 11 ∧ 7 < 8 ∧ 2047 < 2048 ∧ 511 < 512 ∧ hit run (gsF 0) = none) ∧
    ((gsF 3).gocbRef.length ≤ 64 ∧ hit (gsD 2 0) (gsF 3) = some (2047, gsEntT 3 2) ∧ gsState (gsEntT 3 2) = 2 ∧
      hit (gsD 1 0) (gsF 3) = some (2047, gsEntT 3 1) ∧ gsState (gsEntT 3 1) ≠ 2 ∧ bitOf (gsGroups (gsEntT 3 1)) (portGroup 0) = true ∧ cause (gsF 3) = 0 ∧
      hit (gsD 1 0) { gsF 3 with sim := true } = some (2047, gsEntT 3 1) ∧ cause { gsF 3 with sim := true } = 4 ∧
      hit (gsD 1 0) (gsF 2) = some (2047, gsEntT 3 1) ∧ cause (gsF 2) = 3) ∧
    (tfind (gsD 1 0).hle.alive 2047 = some 0 ∧ 0 ≤ (gsD 1 0).tim.absTick ∧ tfind (gsD 1 9).hle.alive 2047 = some 9 ∧ (gsD 1 9).tim.absTick < 9 ∧
      tfind run.hle.alive 2047 = none) ∧
    (let w (d : Dev) := (List.range 26).map (fun k => d.rn (Reg.hleGsStage k))
     let b := run.wn (Reg.hleGsStage 0) 1
     let g := run.wn (Reg.hleGsStage 9) 1
     let n := g.wn (Reg.hleGsStage 0) (1 + 16)
     (gsState (w g) = 0 ∧ gsReason g 2047 (w g) = 0) ∧ gsReason b 2047 (w b) ≠ 0 ∧
     (gsReason n 2047 (w n) = 0 ∧ gsState (w n) ≠ 0 ∧ namesSlot n (gsAuth (w n)) (gsSlot (w n)) fnVerifyIn .livery liveryWho = false)) ∧
    (gmapLive run (run.fldR Reg.hleGmapIdx 0 16) = false ∧ gmapLive { run with hle := { run.hle with ents := [(0, setNth (gsEntT 3 1) 4 (2 ^ 24 + 2 ^ 16))] } } 0 = true) ∧
    (carSt run 0 = 0 ∧ carSt loadD 0 ≠ 0 ∧ carEnabled loadD 0 = false) ∧
    (let r := loadReason loadD 0 (readImage [] 0).1 (readImage [] 0).2.1 (readImage [] 0).2.2
     r.1 ≠ 0 ∧ changedCars loadD (loadD.wn Reg.hleLoadStatus (2 + r.1 * 16 + r.2 * 4096)) = []) := by decide +kernel

/-- The same carriage in the Timetable, with no cycles left for its scan. -/
def loadT : Dev := (loadD.setF (Reg.ttbCState 0) 0 2 1).wn Reg.ttbCols 0

theorem loadReason_ok (d : Dev) (h : d = loadD ∨ d = loadT) : loadReason d 0 imgHdr imgCode [] = (0, 0) := by
  have e : (entW imgHdr 7 == (Config.crc32 (imgCode ++ ([] : List (Nat × Nat)).flatMap (fun p => [p.1, p.2]))).toNat) = true := by
    simp [entW, nth, imgHdr, imgCrc]
  simp only [loadReason, e]
  rcases h with rfl | rfl <;> decide +kernel

theorem witness_HarnessLoad :
    loadD.up = true ∧ loadD.rn Reg.hleLoadAddrLo + loadD.fldR Reg.hleLoadAddrHi 0 8 * 2 ^ 32 = imgAt ∧
    readImage imgMem imgAt = (imgHdr, imgCode, []) ∧ loadReason loadD 0 imgHdr imgCode [] = (0, 0) ∧
    changedCars loadD (placeProg 0 false ⟨imgHdr, imgCode, []⟩ (loadD.wn Reg.hleLoadStatus 0)) = [] ∧
    loadReason loadT 0 imgHdr imgCode [] = (0, 0) ∧
    (admitChanges loadT (placeProg 0 false ⟨imgHdr, imgCode, []⟩ (loadT.wn Reg.hleLoadStatus 0))).2 ≠ 0 := by
  refine ⟨by decide +kernel, by decide +kernel, ?_, loadReason_ok _ (.inl rfl), by decide +kernel, loadReason_ok _ (.inr rfl), by decide +kernel⟩
  have h : (List.range 16).map (fun k => memWord imgMem (imgAt + 4 * k)) = imgHdr := by
    have h7 := imgMem_word7
    simp only [List.range, List.range.loop, List.map, Nat.reduceMul, h7, imgHdr]
    simp [memWord, memRead, imgMem, imgAt, tfind]
  simp only [readImage, h]
  simp [imgHdr, imgCode, memWord, memRead, imgMem, imgAt, tfind, entW, nth, fld, opEnd]

/-! Witnesses: the Timetable, publication, carriages' windows. -/

/-- Seat 0 of bank 0 arbitrates for element engines; its work item begins now. -/
def arbD : Dev :=
  let d := seated 1 3 run
  d.wn (Reg.ttbSeat 0 0 0) (d.rn (Reg.ttbSeat 0 0 0) + 4)

theorem witness_TimetableTables :
    (run.up = true ∧ ttbBank run = 0 ∧ 1 ≠ ttbBank run ∧ 8191 < 8192 ∧ 3 < 4 ∧ tsBank run = 0 ∧ 1 ≠ tsBank run ∧ 4095 < 4096) ∧
    (let d := run.setB Reg.ttbBankCtrl 1
     ttbBank d = 1 ∧ 1 < 2 ∧ tsBank (run.setB Reg.pubTsmapCtrl 1) = 1) ∧
    (let w := (List.range 4).map (seatW arbD (ttbBank arbD) 0)
     arbD.up = true ∧ colUnit arbD (stKind w) (stColumn w) = some 0 ∧
       ((arbNow arbD (stKind w) 0).find? (fun x => x.2 == w)).isSome = true) ∧
    (let w := (List.range 4).map (seatW run (ttbBank run) 8191)
     colUnit run (stKind w) (stColumn w) = some 0 ∧ (arbNow run (stKind w) 0).all (fun x => decide (x.2 ≠ w)) = true) ∧
    (let d := (run.setB Reg.ttbStatus 1).setB Reg.glbStatus 1
     d.up = true ∧ d.bitR Reg.ttbStatus 1 = true ∧ d.bitR Reg.glbStatus 1 = true) ∧
    run.bitR Reg.ttbStatus 1 = false := by decide +kernel

/-- A LIVE GOOSE publication entry 2047 of carriage 0 with values, sent in an earlier tick and due. -/
def geLive : List Nat := takePad 0 58 [1, 0, 0, 0, 0, 0, 1000, 2000]
def geD : Dev :=
  { run with cars := [(0, ⟨img0, 1, 2, [], false, false, false, false⟩)],
             pub := { run.pub with ge := [(2047, geLive)], run := [(2047, ⟨some [], 0, 100, 1000, some 50, false, 0⟩)] },
             tim := { run.tim with ns := 100 * 13021 } }

/-- A trip frame of tick 0 waiting in class 7 of port 10, a later tick running. -/
def tripFr : TxFrame := { kind := 1, src := 5, cls := 7, len := 100, tag := 0, body := [] }
def lateD : Dev := { setEgressQ 10 7 [tripFr] run with tim := { run.tim with ns := 13021 } }

/-- Staged words of entries that every check passes: a FREE GOOSE entry, an SV entry of one channel, a synchrophasor stream of one record. -/
def geStg : Dev :=
  (((((run.wn (Reg.pubGeStage 5) 0x10000).wn (Reg.pubGeStage 6) 16).wn (Reg.pubGeStage 7) 16).wn (Reg.pubGeStage 8) 2).wn (Reg.pubGeStage 9) 0x10101)
def svStg : Dev :=
  { (run.wn (Reg.pubSvStage 5) 1).wn (Reg.pubSvStage 18) 1 with fch := { run.fch with desc := [(fchKey 0 0, List.replicate 8 0)] } }
def pmuStg : Dev := { run with een := { run.een with desc := [(0, takePad 0 16 [1])] } }

theorem witness_Publication :
    (run.up = true ∧ 2047 < 2048 ∧ 10 < 11 ∧ 255 < 256 ∧ 31 < 32) ∧
    (geD.up = true ∧ geState (geEnt geD 2047) = 1 ∧ (geRun geD 2047).vals.isNone = false ∧ (geRun geD 2047).sent.isNone = false ∧
      (geRun geD 2047).sent ≠ some geD.tim.absTick ∧ (geRun geD 2047).due ≤ geD.tim.absTick ∧
      (isSafe geD (geCar (geEnt geD 2047)) && geSilent (geEnt geD 2047)) = false ∧ geD.pub.chg.contains 2047 = false) ∧
    geState (geEnt run 2047) ≠ 1 ∧
    (egressQ run 10 7).filter (tripStale run) = [] ∧
    (lateD.up = true ∧ (egressQ lateD 10 7).filter (tripStale lateD) = [tripFr]) ∧
    (let ge (d : Dev) := (List.range 58).map (fun k => d.rn (Reg.pubGeStage k))
     let sv (d : Dev) := (List.range 35).map (fun k => d.rn (Reg.pubSvStage k))
     let pm (d : Dev) := (List.range 16).map (fun k => d.rn (Reg.pubPmuStage k))
     geReason geStg liveryWho 2047 (ge geStg) = 0 ∧ geReason run liveryWho 2047 (ge run) ≠ 0 ∧
     svReason svStg liveryWho 255 (sv svStg) = 0 ∧ svReason run liveryWho 255 (sv run) ≠ 0 ∧
     pmuReason pmuStg (pm pmuStg) = 0 ∧ pmuReason run (pm run) ≠ 0) ∧
    (pmapLive run (run.fldR Reg.pubMapIdx 0 15) = false ∧
      pmapLive { run with pub := { run.pub with ge := [(2047, takePad 0 58 [1, 0, 0, 0, 0, 0x10000])] } } 0 = true) := by decide +kernel

/-- Carriage 511 ENABLED with 2,048 queues and a region of 2 MiB; queue 2047 is a ring of 16 with buffers of 256 bytes. -/
def qcD : Dev :=
  (((setCarSt 511 stEnabled run).wn (Reg.carId 511) (2047 * 65536)).wn (Reg.carDramSize 511) 1)
def qCtx : QCtx := { QCtx.empty with w0 := 1 + 4 + 4 * 512, w3 := 256, prod := 1 }
def qcE : Dev := qSet (qNum 511 2047) qCtx qcD

theorem witness_QueuesAndVectors :
    let w (d : Dev) := (List.range 4).map (fun i => d.rn (Reg.carQcStage 511 i))
    let x := qGet qcE (qNum 511 2047)
    let gen (d : Dev) := (qSet (qNum 511 2047) { x with cons := (x.cons + 1) % 2 ^ x.log2 } d).fldR (Reg.carGen 511) 0 16
    let dd (m : List Host.Cell) := descRead m (carBase qcE 511 + x.w1 + x.cons % 2 ^ x.log2 * 16)
    (qcD.up = true ∧ 511 < 512 ∧ 2047 < 2048 ∧ carSt qcD 511 ≠ 0 ∧ qcReason qcD 511 2047 (w qcD) = 0) ∧
    (let d := qcD.wn (Reg.carQcStage 511 0) 3
     qcReason d 511 2047 (w d) ≠ 0) ∧
    (15 < 65536 ∧ carEnabled qcE 511 = true ∧ x.en = true ∧ 15 < 2 ^ x.log2 ∧ 2 ^ x.log2 ≤ 16) ∧
    ((qGet qcD (qNum 511 2047)).en = false) ∧
    (qcE.up = true ∧ carSt qcE 511 ≠ 0 ∧ x.prod ≠ x.cons ∧ x.typ = 1 ∧ carLevel qcE 511 ≠ 1 ∧
      (dd []).gen = gen qcE ∧ inRegion qcE 511 (dd []).addr x.bufSize = true) ∧
    (dd [(10, 1)]).gen ≠ gen qcE ∧
    ((dd [(2, 0x20)]).gen = gen qcE ∧ inRegion qcE 511 (dd [(2, 0x20)]).addr x.bufSize = false) ∧
    ((qGet (qSet (qNum 511 2047) { qCtx with w0 := qCtx.w0 + 1 - 0 } qcD) (qNum 511 2047)).typ = 2) ∧
    (31 < 32 ∧ bitOf (1 : Word).toNat 0 = true ∧ bitOf (0 : Word).toNat 0 = false) ∧
    (qcE.bitR (Reg.carVecCtrl 511 31) 1 = false ∧ (qcE.setB (Reg.carVecCtrl 511 31) 1).bitR (Reg.carVecCtrl 511 31) 1 = true) ∧
    (let d := { qcE with cars := [(511, ⟨img0, 0, 1, [], false, false, false, false⟩)] }
     d.up = true ∧ carSt d 511 ≠ 0 ∧ carLevel d 511 = 1 ∧ 31 ≠ 0) ∧
    carSt run 511 = 0 := by decide +kernel

/-- Carriage 511 draining for a leg or more, with a record. -/
def drainD (k : Car) (ns : Nat) : Dev :=
  let d := (setCarSt 511 stDraining run).wn (Reg.carLastTc 511) 0
  { d with tim := { d.tim with ns := ns }, cars := [(511, k)] }

theorem witness_CarriageEnds :
    let legs (d : Dev) := legsSince d.tc (d.rn (Reg.carLastTc 511))
    let k : Car := ⟨img0, 0, 2, [], false, false, false, false⟩
    let after (d : Dev) := resetQueues 511 d
    let fly (d : Dev) : Dev := qSet (qNum 511 0) { QCtx.empty with flying := [⟨0, [], [], 0, 0, 0⟩] } d
    (carSt run 511 ≠ stDraining ∧ carSt run 511 ≠ stFrozen ∧ legs (drainD k 0) = 0 ∧ 511 < 512) ∧
    (let d := drainD k 208334
     d.up = true ∧ carSt d 511 = stDraining ∧ d.tim.absTick % 16 = 0 ∧ legs d = 1 ∧ inFlight d 511 = false ∧ carSt (after d) 511 ≠ stFrozen ∧
       destroyWaits (after d) 511 = false ∧ enablePending (after d) 511 = false) ∧
    (let d := drainD { k with destroyPend := true } 208334
     destroyWaits (after d) 511 = true) ∧
    (let d := (drainD k 208334).setB (Reg.carState 511) 3
     destroyWaits (after d) 511 = false ∧ enablePending (after d) 511 = true ∧ ttbState (after d) 511 ≠ 1 ∧
       ttbState (after (d.setF (Reg.ttbCState 511) 0 2 1)) 511 = 1) ∧
    (let d := setCarSt 511 stFrozen (drainD k 208334)
     carSt d 511 = stFrozen ∧ carSt (after d) 511 = stFrozen) ∧
    (inFlight (fly (drainD k 208334)) 511 = true ∧ legs (fly (drainD k 208334)) < 2 ∧ 2 ≤ legs (drainD k 416668)) ∧
    (let d := { setCarSt 511 stEnabled run with sup := { run.sup with fatalDis := [(511, 0)] }, tim := { run.tim with ns := 13021 } }
     d.up = true ∧ d.sup.fatalDis.filter (fun p => decide (p.2 < d.tim.absTick)) = [(511, 0)] ∧ carRuns d 511 = true) := by decide +kernel

/-! Witnesses: command sessions. Each clause's entry is taken by session 0 over the management port, and no check refuses it. -/

/-- The device once the entry is taken. -/
def adv (d : Dev) : Dev := cmdAdvance 0 d

/-- Protocol 2 on session 0. -/
def ses2 (m : Nat) : Dev := (sesD m).wn (Reg.cmdSState 0) 2

theorem witness_SessionsAndRings :
    let d := sesD modeActive
    let e := setProd 0 2 d
    let h := entry0 [0x0201]
    let v (d : Dev) (h : Cmd) := min (fld (entW (cmdP h d) 0) 8 8) (protoMax (adv d))
    let q : Dev := { d with cmd := { d.cmd with finals := [(0, [[]])] } }
    let hi : Dev := d.wn (Reg.cmdSRingCfg 63) 0x404
    let r : Dev := sesD modeRecovery
    (takes (spec0 0 [0xFFFF, mAll]) h d = true ∧ sesOut (adv d) 0 = 0 ∧ fld (entW (cmdP h d) 0) 0 8 ≤ v d h ∧ v d h ≠ 0) ∧
    (takes (spec0 0 [0xFFFF, mAll]) h e = true ∧ sesOut (adv e) 0 ≠ 0) ∧
    (let h := entry0 [0x0205]
     takes (spec0 0 [0xFFFF, mAll]) h d = true ∧ v d h < fld (entW (cmdP h d) 0) 0 8) ∧
    (takes (spec0 1 []) (entry0 []) d = true ∧ sesNonfinal (adv d) 0 = 0 ∧ takes (spec0 1 []) (entry0 []) q = true ∧ sesNonfinal (adv q) 0 ≠ 0) ∧
    takes (spec0 2 [mAll, mAll, mAll, mAll]) (entry0 [1, 2, 3, 0xFFFFFFFF]) d = true ∧
    takes (spec0 3 []) (entry0 []) d = true ∧
    (hi.up = true ∧ sesOpen hi 0 = true ∧ 15 < sesSize hi 0 ∧ 63 < 64 ∧ sesOpen hi 63 = false ∧ sesBusy hi 63 = false ∧ sesBusy d 0 = true ∧
      sesSize d 0 ≤ 16) ∧
    (4 ≤ fld (0x40C : Word).toNat 0 4 ∧ fld (0x40C : Word).toNat 0 4 ≤ 12 ∧ 4 ≤ fld (0x40C : Word).toNat 8 4 ∧ fld (0x40C : Word).toNat 8 4 ≤ 12 ∧
      ¬ fld (0x40D : Word).toNat 0 4 ≤ 12) ∧
    (let k := slotUse (d.fldR (Reg.cmdSCfg 0) 16 8) fnSession [2] .livery false d
     (k.1 && false) = false ∧ d.mode ≠ modeRecovery) ∧
    (let e := stageBytes 0 0 [] { r with cmd := { r.cmd with seqs := tset 0 r.cmd.seqs 0 1, froms := tset 0 r.cmd.froms 0 9 } }
     r.up = true ∧ r.mode = modeRecovery ∧ (recoverySlot r).isNone = true ∧ sesTransport r 0 = 2 ∧ sesOpen r 0 = true ∧ tget 0 r.cmd.seqs 0 < 1 ∧
       sesOut e 0 + 14 < sesSize e 0 ∧ sesSize e 0 ≤ sesOut e 0 + 15) := by decide +kernel

theorem witness_RefusedEntries_row : cmdRow (.cmdCarriageQuery (entry 0 [0])) = some (⟨0x109, true, [0xFFFF], [], noRange⟩, entry 0 [0]) := rfl

theorem witness_RefusedEntries :
    let d := sesD modeActive
    let c : CmdSpec := ⟨0x109, true, [0xFFFF], [], noRange⟩
    let h := entry 0 [0]
    let v := { h with version := 2 }
    let f := d.setB Reg.glbStatus 5
    let full := d.wn (Reg.cmdSRcons 0) 1
    let pcie : Dev := (d.wn (Reg.cmdSCfg 0) 0xFFF1).clrB Reg.hbrStatus 8
    (d.up = true ∧ cmdReady h run = false ∧ run.up = true) ∧
    (cmdReady h pcie = true ∧ sesTransport pcie h.session = 1 ∧ outRefused pcie = true) ∧
    (sesTransport d h.session ≠ 1 ∧ cmdReady h full = true ∧ sesTransport full h.session ≠ 1 ∧ repSpace full h.session = false) ∧
    (cmdReady h f = true ∧ sesTransport f h.session ≠ 1 ∧ repSpace f h.session = true ∧ (adv f).bitR Reg.glbStatus 5 = true) ∧
    (cmdReady v d = true ∧ repSpace d v.session = true ∧ (adv d).bitR Reg.glbStatus 5 = false ∧ (cmdCheck c v (adv d)).isSome = true) ∧
    (0xFFFF < 65536 ∧ catalogue.contains 0xFFFF = false ∧ (h.version = sesProto d h.session ∧ catalogue.contains 0x109 = true) ∧
      v.version ≠ sesProto d v.session ∧ v.version ≠ sesProto (adv d) v.session ∧ h.version = sesProto (adv d) h.session) ∧
    (let b := entry 511 [0x10000]
     b.version = sesProto (adv d) 0 ∧ b.flags < 2 ∧ b.resv = 0 ∧ b.carriage < 512 ∧
       paramBad c (sesTransport (adv d) 0) (cmdP b (adv d)) = some 0) ∧
    (let b := entry 511 [0xFFFF]
     paramBad c (sesTransport (adv d) 0) (cmdP b (adv d)) = none ∧ sesFamily (adv d) 0 1 = true ∧ fld (entW (cmdP b (adv d)) 0) 0 16 ≠ 0 ∧
       fld (entW (cmdP b (adv d)) 0) 0 16 ≠ (adv d).fldR (Reg.carGen 511) 0 16) := by decide +kernel

/-- A descriptor of one recorder of carriage 3: one channel of entry 0, 24 legs at most, a buffer above the carriage's region. -/
def recW : List Nat := takePad 0 96 [3 + 65536, 65536, 24 + 2 ^ 24, 0, 0x20, 1000]

/-- Carriage 3, ENABLED or in another state, granted entry 0, recorders ready. -/
def recG : Dev := { setCarSt 3 stEnabled (sesD modeActive) with cars := [(3, ⟨img0, 1, 2, [0], false, false, false, false⟩)] }

/-- Recorder 1 in a state, holding record 7. -/
def recD (st : Nat) : Dev := setRecState 1 st (setRecdr 1 { recdr (sesD modeActive) 1 with held := [(0, 7)] } (sesD modeActive))

theorem witness_RecorderCommands :
    let arm : CmdSpec := ⟨0x500, false, [0xF, mAll, 0xFF], [1], noRange⟩
    let ren : CmdSpec := ⟨0x503, false, [0xF, mAll, mAll, 0xFF, mAll], [2], noRange⟩
    let d := sesD modeActive
    let parts (d : Dev) (cfg : List Nat) := ((recRates d (recdr d 3).desc).zip (takePad [] 64 [cfg])).map (fun x => renderPart [] d 3 0 x.1 x.2)
    let rnd (len : Nat) : Dev :=
      { recG with drc := { recG.drc with recs := [(3, { Recdr.empty with desc := recW })], rend := [(5, (0, 0x1000000000, len, 3, 0))] } }
    (takes arm (entry0 [1]) recG = true ∧ recReason (adv recG) 1 (takePad 0 96 ((recW.map w32).map (fun x => x.toNat))) = 0) ∧
    (takes arm (entry0 [1]) d = true ∧ recReason (adv d) 1 (takePad 0 96 []) ≠ 0) ∧
    takes (spec0 0x501 [0xF]) (entry0 [1]) (recD rArmed) = true ∧
    (takes (spec0 0x502 [0xF]) (entry0 [1]) (recD rArmed) = true ∧ recState (adv (recD rArmed)) 1 = rArmed) ∧
    (takes (spec0 0x502 [0xF]) (entry0 [1]) (recD rIdle) = true ∧ recState (adv (recD rIdle)) 1 ≠ rArmed) ∧
    (takes ren (entry0 [1, 7]) (recD rIdle) = true ∧
      (recdr (adv (recD rIdle)) 1).held.find? (fun q => q.2 == entW (cmdP (entry0 [1, 7]) (recD rIdle)) 1) = some (0, 7)) ∧
    (takes ren (entry0 [1, 8]) (recD rIdle) = true ∧
      (recdr (adv (recD rIdle)) 1).held.find? (fun q => q.2 == entW (cmdP (entry0 [1, 8]) (recD rIdle)) 1) = none) ∧
    (tfind run.drc.rend 5 = none ∧ (rnd 100).up = true ∧ tfind (rnd 100).drc.rend 5 = some (0, 0x1000000000, 100, 3, 0) ∧
      (fitParts 100000 (parts (rnd 100000) [65])).2 = true ∧ (fitParts 1 (parts (rnd 1) [65])).2 = false) ∧
    takes (spec0 0x504 []) { entry0 [] with version := 2 } (ses2 modeActive) = true := by decide +kernel

/-- Carriage 3 in a state, of class 1. -/
def carIn (c st : Nat) (d : Dev) : Dev := { setCarSt c st d with cars := [(c, ⟨img0, 1, 2, [], false, false, false, false⟩)] }

/-- The region of 64 MiB at the start of DRAM mapped for carriage 511, and a CREATE of it. -/
def mapD : Dev := ((sesD modeActive).wn (Reg.tgtCBase 511) 0x8000).wn (Reg.tgtCSize 511) 32
def imgC : CoachImage := { img0 with queues := 1 }
def mkC : Cmd := entry 511 [1 + 2 * 4, 0, 0, 32, 0, 0x10]

/-- An image with a channel of entry 0, which a module without columns cannot seat; and what is placed of an image. -/
def imgK : CoachImage := { imgC with sv := [0], chans := [0], chanDesc := [[]] }
def shutD (d : Dev) : Dev := withEnt 0 (svEnt 2) (d.wn Reg.ttbCols 0)
def placed (i : CoachImage) (d : Dev) : Option Dev :=
  let p := cmdP mkC d
  placeImage 511 i (newCar 511 (fld (entW p 0) 0 2) (fld (entW p 0) 2 2) (addrP p 4 / 0x200000) (entW p 3) i (adv d))

theorem witness_CarriageLife :
    let cr : CmdSpec := ⟨0x100, true, [0x1F, mAll, 0xFF, 0xFFF, mAll, 0xFF], [1], createRange⟩
    let num (d : Dev) := createNumber (adv d) (bitOf (entW (cmdP mkC d) 0) 4) 511 (addrP (cmdP mkC d) 4 / 0x200000) (entW (cmdP mkC d) 3)
    let sup (d : Dev) (i : CoachImage) := poolsSupply (adv d) i (addrP (cmdP mkC d) 4 / 0x200000) (entW (cmdP mkC d) 3)
    let at_ (st : Nat) : Dev := carIn 3 st (sesD modeActive)
    let c (op : Nat) : CmdSpec := ⟨op, true, [0xFFFF], [], noRange⟩
    let h := entry 3 [0]
    let wait (d : Dev) : Dev := { d with cars := [(3, ⟨img0, 1, 2, [], true, false, false, false⟩)] }
    (takes cr mkC mapD = true ∧ num mapD = some 511 ∧ sup mapD imgC = true ∧ (placed imgC mapD).map (fun d1 => (runAdmission 511 d1).2) = some 0) ∧
    (num (shutD mapD) = some 511 ∧ takes cr mkC (shutD mapD) = true ∧ sup (shutD mapD) imgK = true ∧
      (placed imgK (shutD mapD)).map (fun d1 => (runAdmission 511 d1).2) ≠ some 0 ∧ (placed imgK (shutD mapD)).isSome = true) ∧
    (sup mapD { imgC with queues := 0 } = false) ∧
    (sup mapD { imgC with program := [0], progWords := 1 } = true ∧ placed { imgC with program := [0], progWords := 1 } mapD = none) ∧
    (takes cr mkC (sesD modeActive) = true ∧ num (sesD modeActive) = none) ∧
    ((List.range 6).all (fun st => [0x101, 0x102, 0x103, 0x104].all (fun op => takes (c op) h (at_ st) && projSt (adv (at_ st)) 3 == st &&
      carSt (adv (at_ st)) 3 == st && !destroyWaits (adv (at_ st)) 3))) = true ∧
    enablePending (adv (at_ stDraining)) 3 = false ∧
    (let d := (at_ stDraining).setB (Reg.carState 3) 3
     takes (c 0x102) h d = true ∧ takes (c 0x104) h d = true ∧ projSt (adv d) 3 = stDraining ∧ destroyWaits (adv d) 3 = false ∧
       enablePending (adv d) 3 = true) ∧
    (let d := wait (at_ stDraining)
     takes (c 0x102) h d = true ∧ takes (c 0x104) h d = true ∧ projSt (adv d) 3 = stDraining ∧ destroyWaits (adv d) 3 = true) ∧
    ttbState (adv (at_ stDisabled)) 3 ≠ 1 ∧
    (let d := (at_ stFrozen).setF (Reg.ttbCState 3) 0 2 1
     takes (c 0x102) h d = true ∧ takes (c 0x104) h d = true ∧ projSt (adv d) 3 = stFrozen ∧ carSt (adv d) 3 ≠ stEnabled ∧ ttbState (adv d) 3 = 1 ∧
       ttbState (bumpGen 3 (staleActs 3 (cancelEnable 3 (adv d)))) 3 = 1) ∧
    ttbState (bumpGen 3 (staleActs 3 (cancelEnable 3 (adv (at_ stDisabled))))) 3 ≠ 1 := by decide +kernel

/-- Slot 5 VALID, of TYPE 3 with IMAGE, for the Livery and carriage 3. -/
def slotD (d : Dev) : Dev :=
  (d.wn (Reg.sbxSAttr 5) (3 + 0x10 + 0x100 + 0x400 + 0x800 + 2 ^ 20)).wn (Reg.sbxSState 5) 1

/-- An image of an empty carriage of class 1 and level 2. -/
def imgR : CarImage := ⟨true, true, false, 2, 1, false, 0, 1, 1, 0, 0, 5, false, ⟨[], [], [], none, none, none, [], [], [], [], [], []⟩⟩

/-- The words of a Program of one END, with the checksum that the loader computes. -/
def progW : List Word := (imgHdr ++ imgCode).map w32
def progD : Dev :=
  { setCarSt 3 stDisabled (sesD modeActive) with cars := [(3, ⟨{ img0 with progWords := 1 }, 1, 2, [], false, false, false, false⟩)] }

theorem progW_parse : parseImage (progW.map (fun w => w.toNat)) = (imgHdr, imgCode, []) := by
  simp [parseImage, progW, imgHdr, imgCode, takePad, entW, nth, fld, w32, opEnd]

/-- The same carriage in the Timetable, with no cycles left for its scan. -/
def progT : Dev := (progD.setF (Reg.ttbCState 3) 0 2 1).wn Reg.ttbCols 0

theorem progD_load (d : Dev) (h : d = progD ∨ d = progT) : loadReason (adv d) 3 imgHdr imgCode [] = (0, 0) := by
  have e : (entW imgHdr 7 == (Config.crc32 (imgCode ++ ([] : List (Nat × Nat)).flatMap (fun p => [p.1, p.2]))).toNat) = true := by
    simp [entW, nth, imgHdr, imgCrc]
  simp only [loadReason, e]
  rcases h with rfl | rfl <;> decide +kernel

def saveSpec : CmdSpec := ⟨0x107, true, [0xFFFF, 0x3FF, mAll, 0xFF, mAll], [2], noRange⟩
def loadSpec : CmdSpec := ⟨0x106, true, [0xFFFF, mAll, 0xFF, 1], [1], noRange⟩

/-- What the clauses of a load that its checks pass and of a save that does not fit ask for: a checksum and a length are free values. -/
theorem witness_CarriageLoadAndSave :
    let r (d : Dev) := loadProg (parseImage (progW.map (fun w => w.toNat))) 3 false (adv d)
    let sd := (slotD (carIn 3 stEnabled (sesD modeActive))).setB Reg.sbxTrngStatus 0
    (takes loadSpec (entry 3 [0]) progD = true ∧ carSt (adv progD) 3 ≠ stFree ∧ projSt (adv progD) 3 ≠ stEnabled ∧ (r progD).2.1 = 0 ∧
      (admitChange 3 (adv progD) (r progD).1).2 = 0) ∧
    (takes loadSpec (entry 3 [0]) progT = true ∧ carSt (adv progT) 3 ≠ stFree ∧ projSt (adv progT) 3 ≠ stEnabled ∧ (r progT).2.1 = 0 ∧
      (admitChange 3 (adv progT) (r progT).1).2 ≠ 0) ∧
    (takes saveSpec (entry 3 [0, 5]) sd = true ∧ (tfind (adv sd).cars 3).map (fun k => k.img) = some img0 ∧ bitOf (entW (cmdP (entry 3 [0, 5]) sd) 1) 9 = false ∧
      entW (cmdP (entry 3 [0, 5]) sd) 4 < imageLen img0) := by
  have hr (d : Dev) (h : d = progD ∨ d = progT) : loadProg (parseImage (progW.map (fun w => w.toNat))) 3 false (adv d) =
      (placeProg 3 false ⟨imgHdr, imgCode, []⟩ ((adv d).wn Reg.hleLoadStatus 0), (0, 0)) := by
    simp only [progW_parse, loadProg, progD_load d h]
    rfl
  have h4 : entW (cmdP (entry 3 [0, 5]) ((slotD (carIn 3 stEnabled (sesD modeActive))).setB Reg.sbxTrngStatus 0)) 4 = 0 := by decide +kernel
  simp only [hr progD (.inl rfl), hr progT (.inr rfl), h4]
  refine ⟨by decide +kernel, by decide +kernel, by decide +kernel, by decide +kernel, by decide +kernel, ?_⟩
  unfold imageLen
  omega

theorem witness_CarriageCommands :
    let at_ (st m : Nat) : Dev := carIn 3 st (sesD m)
    let h := entry 3 [0]
    let hm : CmdSpec := ⟨0x105, true, [0xFFFF, 3], [], fun p => if entW p 1 = 3 then some 1 else none⟩
    let rs : CmdSpec := ⟨0x108, true, [0xFFFF, mAll, 0xFF, 0xFFFFF], [1], noRange⟩
    (let d := setHcar 3 { HCar.empty with modeReq := some hRun } (at_ stEnabled modeActive)
     takes hm h d = true ∧ carSt (adv d) 3 ≠ stFree ∧ projSt (adv d) 3 = stEnabled ∧ (hcar (adv d) 3).modeReq = some hRun ∧
       entW (cmdP h d) 1 = hStop ∧ entW (cmdP (entry 3 [0, hRun]) d) 1 = hRun ∧ takes hm (entry 3 [0, hRun]) d = true) ∧
    (takes hm h (at_ stFree modeActive) = true ∧ carSt (adv (at_ stFree modeActive)) 3 = stFree) ∧
    (takes loadSpec h (at_ stFree modeActive) = true ∧
      takes loadSpec h (at_ stDisabled modeActive) = true ∧ carSt (adv (at_ stDisabled modeActive)) 3 ≠ stFree ∧
      projSt (adv (at_ stDisabled modeActive)) 3 ≠ stEnabled ∧ (loadProg (parseImage []) 3 false (adv (at_ stDisabled modeActive))).2.1 ≠ 0) ∧
    (takes saveSpec h (at_ stFree modeActive) = true ∧ takes saveSpec h (at_ stDraining modeActive) = true ∧
      carSt (adv (at_ stDraining modeActive)) 3 = stDraining) ∧
    (let d := at_ stEnabled modeActive
     let e := d.setB Reg.sbxTrngStatus 0
     let f := (slotD d).setB Reg.sbxTrngStatus 0
     let b := entry 3 [0, 5 + 2 ^ 9]
     takes saveSpec b (d.clrB Reg.sbxTrngStatus 0) = true ∧ trngReady (adv (d.clrB Reg.sbxTrngStatus 0)) = false ∧ carSt (adv d) 3 ≠ stFree ∧
       carSt (adv d) 3 ≠ stDraining ∧ takes saveSpec b e = true ∧ trngReady (adv e) = true ∧
       (slotAskU 5 fnImage [3] (.carriage 3) (cmdWho (adv e) b) (adv e)).1 = false ∧ takes saveSpec b f = true ∧ trngReady (adv f) = true ∧
       (slotAskU 5 fnImage [3] (.carriage 3) (cmdWho (adv f) b) (adv f)).1 = true ∧ (tfind (adv f).cars 3).isSome = true ∧
       bitOf (entW (cmdP b f) 1) 9 = true) ∧
    (let d := slotD (at_ stDisabled modeActive)
     let b := entry 3 [0, 0, 0, 2]
     let a := slotAskU imgR.slot fnImage [3] (.carriage 3) (cmdWho (adv d) b) (adv d)
     takes rs b d = true ∧ takes rs b (at_ stEnabled modeActive) = true ∧ projSt (adv (at_ stEnabled modeActive)) 3 ≠ stDisabled ∧
       projSt (adv d) 3 = stDisabled ∧ imgR.slotBad = false ∧ imgR.tagOk = true ∧ a.1 = true ∧ imageFits a.2 3 imgR = true ∧
       imageFits a.2 3 { imgR with magicOk := false } = false ∧
       a.2.tim.absRoute + 1 < routeAhead a.2 (entW (cmdP b d) 3) ∧ routeAhead a.2 (entW (cmdP b d) 3) < a.2.tim.absRoute + 2 ^ 19 ∧
       takes rs (entry 3 [0, 0, 0, 1]) d = true ∧ routeAhead a.2 (entW (cmdP (entry 3 [0, 0, 0, 1]) d) 3) ≤ a.2.tim.absRoute + 1) ∧
    takes ⟨0x109, true, [0xFFFF], [], noRange⟩ h (at_ stFree modeActive) = true := by
  decide +kernel

theorem witness_CarriageParamUpdate :
    let pu : CmdSpec := ⟨0x10A, true, [0xFFFF, 0xFFFF, mAll, 0xFF], [2], noRange⟩
    let h := entry 3 [0]
    (takes pu h (carIn 3 stFree (sesD modeActive)) = true ∧ carSt (adv (carIn 3 stFree (sesD modeActive))) 3 = stFree) ∧
    (let d := setCarSt 0 stDisabled { kstage with regs := (sesD modeActive).regs, een := { run.een with desc := [(65535, takePad 0 16 [8 + 512, 0, 0, 1])] } }
     let d := { d with cmd := (sesD modeActive).cmd }
     let t := (d.setF (Reg.ttbCState 0) 0 2 1).wn Reg.ttbCols 0
     let b := entry 0 [0, 65535]
     let w := takePad 0 3 (kCommitted (adv d) 65535) ++ takePad 0 12 (([1, 0, 1] : List Word).map (fun w => w.toNat)) ++ [0]
     takes pu b d = true ∧ carSt (adv d) 0 ≠ stFree ∧ kCar (kCommitted (adv d) 65535) = 0 ∧ kReason (projStreams (adv d)) 65535 w = 0 ∧
       (admitChange 0 (adv d) (eenPlace 65535 w (adv d))).2 = 0 ∧
       kReason (projStreams (adv d)) 65535 (takePad 0 3 (kCommitted (adv d) 65535) ++ takePad 0 12 [] ++ [0]) ≠ 0 ∧
       (let w := takePad 0 3 (kCommitted (adv t) 65535) ++ takePad 0 12 (([3, 0, 1] : List Word).map (fun w => w.toNat)) ++ [0]
        takes pu b t = true ∧ carSt (adv t) 0 ≠ stFree ∧ kCar (kCommitted (adv t) 65535) = 0 ∧ kReason (projStreams (adv t)) 65535 w = 0 ∧
          (admitChange 0 (adv t) (eenPlace 65535 w (adv t))).2 ≠ 0)) ∧
    (let d := { carIn 3 stEnabled (sesD modeActive) with een := { run.een with desc := [(65535, takePad 0 16 [8 + 512])] } }
     takes pu (entry 3 [0, 65535]) d = true ∧ carSt (adv d) 3 ≠ stFree ∧ kCommitted (adv d) 65535 ≠ [] ∧ kCar (kCommitted (adv d) 65535) ≠ 3) := by
  decide +kernel

/-- An entry 4095 of the subscription table on session 0's device. -/
def strD (st : Nat) : Dev := { sesD modeActive with sau := { run.sau with entries := [(4095, svEnt st)] } }

/-- A LEARNED entry that may go live: eight channels, one ASDU, a count of 4,800. -/
def learnEnt : List Nat := takePad 0 24 [1 + 4 + 8 * 16 + 1 * 2048, 0, 0, 0x100, 0, 4800]
def strE (t : List (Nat × List Nat)) : Dev := { sesD modeActive with sau := { run.sau with entries := t } }
def learnD : Dev := strE [(4095, learnEnt)]

/-- Carriage 3 in a state with its granted entries. -/
def grantD (st : Nat) (sv : List Nat) (d : Dev) : Dev := { setCarSt 3 st d with cars := [(3, ⟨img0, 1, 2, sv, false, false, false, false⟩)] }

theorem witness_StreamCommands :
    let lv : CmdSpec := ⟨0x200, false, [0x80000FFF, mAll, 0xFF], [1], noRange⟩
    let h := entry0 [0xFFF]
    (let q := projStreams (adv learnD)
     takes lv h learnD = true ∧ liveBad q false 4095 (sauEnt q 4095) = false ∧
       lowestRun (rowRuns (tdel q.sau.entries 4095)) (entCost (sauEnt q 4095)) = some 0 ∧
       unitsUsed (tdel q.sau.entries 4095) + entCost (sauEnt q 4095) ≤ 4096 ∧
       namesSlot (adv learnD) (entAuth (sauEnt q 4095)) (entSlot (sauEnt q 4095)) fnVerifyIn .livery (cmdWho (adv learnD) h) = true) ∧
    (let d := strE [(4095, learnEnt.modify 0 (· + 2 ^ 18))]
     let q := projStreams (adv d)
     takes lv h d = true ∧ liveBad q false 4095 (sauEnt q 4095) = false ∧
       lowestRun (rowRuns (tdel q.sau.entries 4095)) (entCost (sauEnt q 4095)) = some 0 ∧
       unitsUsed (tdel q.sau.entries 4095) + entCost (sauEnt q 4095) ≤ 4096 ∧
       namesSlot (adv d) (entAuth (sauEnt q 4095)) (entSlot (sauEnt q 4095)) fnVerifyIn .livery (cmdWho (adv d) h) = false) ∧
    (let d := strE ((4095, learnEnt) :: (List.range 64).map (fun k => (k, takePad 0 24 [2, k + 1, 0, 0, 0, 0, 0, k * 64 + 64 * 4096])))
     let q := projStreams (adv d)
     takes lv h d = true ∧ liveBad q false 4095 (sauEnt q 4095) = false ∧
       lowestRun (rowRuns (tdel q.sau.entries 4095)) (entCost (sauEnt q 4095)) = none) ∧
    (takes (spec0 0x203 [0xFFF]) h (sesD modeActive) = true ∧ entState (sauEnt (projStreams (adv (sesD modeActive))) 4095) = esFree) ∧
    (takes lv h (sesD modeActive) = true ∧ liveBad (projStreams (adv (sesD modeActive))) false 4095 (sauEnt (sesD modeActive) 4095) = true) ∧
    (takes (spec0 0x201 [0xFFF]) h (strD esLive) = true ∧ entState (sauEnt (projStreams (adv (strD esLive))) 4095) = esLive) ∧
    (takes (spec0 0x201 [0xFFF]) h (strD esLearned) = true ∧ entState (sauEnt (projStreams (adv (strD esLearned))) 4095) ≠ esLive) ∧
    (takes (spec0 0x202 [0xFFF]) h (strD esSuspended) = true ∧ entState (sauEnt (projStreams (adv (strD esSuspended))) 4095) = esSuspended) ∧
    (takes (spec0 0x202 [0xFFF]) h (strD esLive) = true ∧ entState (sauEnt (projStreams (adv (strD esLive))) 4095) ≠ esSuspended) ∧
    (takes (spec0 0x203 [0xFFF]) h (strD esLive) = true ∧ entState (sauEnt (projStreams (adv (strD esLive))) 4095) ≠ esFree ∧
      (grantees (adv (strD esLive)) 4095).any (fun c => projSt (adv (strD esLive)) c == stEnabled) = false) ∧
    (let d := grantD stEnabled [4095] (strD esLive)
     takes (spec0 0x203 [0xFFF]) h d = true ∧ entState (sauEnt (projStreams (adv d)) 4095) ≠ esFree ∧
       (grantees (adv d) 4095).any (fun c => projSt (adv d) c == stEnabled) = true) ∧
    (let d := grantD stEnabled (List.range 63) (sesD modeActive)
     let f := grantD stEnabled (List.range 64) (sesD modeActive)
     let g (d : Dev) : Bool := takes ⟨0x204, true, [0xFFF], [], noRange⟩ (entry 3 [0xFFF]) d
     g d = true ∧ (tfind (adv d).cars 3).map (fun k => (k.sv.contains 4095, k.sv.length)) = some (false, 63) ∧
       g f = true ∧ (tfind (adv f).cars 3).map (fun k => (k.sv.contains 4095, k.sv.length)) = some (false, 64) ∧
       g (sesD modeActive) = true ∧ tfind (adv (sesD modeActive)).cars 3 = none ∧ g (grantD stEnabled [4095] d) = true ∧
       (tfind (adv (grantD stEnabled [4095] d)).cars 3).map (fun k => k.sv.contains 4095) = some true) ∧
    (let g (d : Dev) : Bool := takes ⟨0x205, true, [0xFFF], [], noRange⟩ (entry 3 [0xFFF]) d
     g (grantD stDisabled [4095] (sesD modeActive)) = true ∧ projSt (adv (grantD stDisabled [4095] (sesD modeActive))) 3 ≠ stEnabled ∧
       carSt (adv (grantD stDisabled [4095] (sesD modeActive))) 3 ≠ stRestoring ∧
       g (grantD stEnabled [4095] (sesD modeActive)) = true ∧ projSt (adv (grantD stEnabled [4095] (sesD modeActive))) 3 = stEnabled ∧
       carSt (adv (grantD stEnabled [4095] (sesD modeActive))) 3 ≠ stRestoring) ∧
    takes (spec0 0x206 [0xFFF]) h learnD = true := by decide +kernel

/-- Words of entries that the checks of a commit pass. -/
def geOk (st : Nat) : List Nat := takePad 0 58 [st, 0, 0, 0, 0, 0x10000, 16, 16, 2, 0x10101]
def svOk : List Nat := takePad 0 35 ([0, 0, 0, 0, 0, 1] ++ List.replicate 12 0 ++ [1])
def gsOk (st auth : Nat) : List Nat := takePad 0 26 [st + 16 * auth, 0, 0, 0, 0, 0, 0, 0, 0, 1]

theorem witness_CommitCommands :
    let d := sesD modeActive
    let gs : CmdSpec := ⟨0x207, false, [0x7FF, mAll, 0xFF, mAll, 0xFF, 0x7F], [1, 3], above 5 64⟩
    let gp : CmdSpec := ⟨0x300, false, [0x7FF, mAll, 0xFF, mAll, 0xFF, 0x7F], [1, 3], above 5 64⟩
    let gt : CmdSpec := ⟨0x301, false, [0x7FF, 3], [], above 1 2⟩
    let sp : CmdSpec := ⟨0x302, false, [0xFF, mAll, 0xFF], [1], noRange⟩
    let pm : CmdSpec := ⟨0x303, false, [0x1F, mAll, 0xFF], [1], noRange⟩
    let h := entry0 [0x7FF]
    let gsR (e : List Nat) := gsReason (writeMap gmapWrite (gsBase e) [] (adv d)) 0x7FF e
    let geR (e : List Nat) := geReason (writeMap pmapWrite (geBase e) [] (adv d)) (cmdWho (adv d) h) 0x7FF e
    (takes gs h d = true ∧ gsR (gsOk 0 0) = 0 ∧ gsState (gsOk 0 0) = 0 ∧ gsR (gsOk 1 1) = 0 ∧ gsState (gsOk 1 1) ≠ 0 ∧
      namesSlot (adv d) (gsAuth (gsOk 1 1)) (gsSlot (gsOk 1 1)) fnVerifyIn .livery (cmdWho (adv d) h) = false ∧ gsR (takePad 0 26 []) ≠ 0) ∧
    (takes gp h d = true ∧ geR (geOk 0) = 0 ∧ geR (takePad 0 58 []) ≠ 0) ∧
    (let use (st : Nat) (e : List Nat) : Dev := { grantD st [] (sesD modeActive) with pub := { run.pub with ge := [(0x7FF, e)] } }
     let b (st : Nat) := entry0 [0x7FF, st]
     let e (d : Dev) (st : Nat) := setNth (geCommitted (adv d) 0x7FF) 0 (putFld (entW (geCommitted (adv d) 0x7FF) 0) 0 2 st)
     let f := use stEnabled (takePad 0 58 [1 + 3 * 65536, 0, 0, 1 * 65536, 0, 0, 1000, 2000, 2, 1])
     takes gt (b 0) f = true ∧ entW (cmdP (b 0) f) 1 = 0 ∧ geState (geCommitted (adv f) 0x7FF) ≠ 0 ∧
       projSt (adv f) (geCar (geCommitted (adv f) 0x7FF)) = stEnabled ∧ takes gt (b 2) f = true ∧ entW (cmdP (b 2) f) 1 ≠ 0 ∧
       geReason (adv f) (cmdWho (adv f) (b 2)) 0x7FF (e f 2) ≠ 0 ∧
       takes gt (b 2) (use stEnabled (geOk 1)) = true ∧ entW (cmdP (b 2) (use stEnabled (geOk 1))) 1 ≠ 0 ∧
       geReason (adv (use stEnabled (geOk 1))) (cmdWho (adv (use stEnabled (geOk 1))) (b 2)) 0x7FF (e (use stEnabled (geOk 1)) 2) = 0) ∧
    (let f := { d with fch := svStg.fch }
     takes sp (entry0 [0xFF]) f = true ∧ svReason (adv f) (cmdWho (adv f) (entry0 [0xFF])) 0xFF svOk = 0 ∧
       svReason (adv f) (cmdWho (adv f) (entry0 [0xFF])) 0xFF (takePad 0 35 [3]) ≠ 0) ∧
    (let f := { d with een := pmuStg.een }
     takes pm (entry0 [0x1F]) f = true ∧ pmuReason (adv f) (takePad 0 16 []) = 0 ∧ pmuReason (adv f) (takePad 0 16 [3]) ≠ 0) ∧
    takes (spec0 0x304 [3]) (entry0 [3]) d = true := by decide +kernel

theorem witness_TimeCommands :
    let a := sesD modeActive
    let m := sesD modeMaintenance
    let ts : CmdSpec := ⟨0x400, false, [7], [], fun p => if fld (entW p 0) 0 2 = 3 then some 0 else none⟩
    let st : CmdSpec := ⟨0x402, false, [mAll, 0xFFFF, 0x3FFFFFFF], [], above 2 999999999⟩
    let pp : CmdSpec := ⟨0x404, false, [0xF, 7, mAll, mAll, mAll, mAll], [], above 0 10⟩
    let hb : CmdSpec := ⟨0x405, false, [0xF], [], fun p => if entW p 0 = 0 then some 0 else none⟩
    (let d := a.setB Reg.brcStatus 3
     takes ts (entry0 [2]) d = true ∧ paired (adv d) = true ∧ takes ts (entry0 [2]) a = true ∧ paired (adv a) = false) ∧
    (takes (spec0 0x401 []) (entry0 []) a = true ∧ (adv a).bitR Reg.timStatus 3 = false ∧
      takes (spec0 0x401 []) (entry0 []) (a.setB Reg.timStatus 3) = true ∧ (adv (a.setB Reg.timStatus 3)).bitR Reg.timStatus 3 = true) ∧
    (takes st (entry0 [0xFFFFFFFF, 0xFFFF, 999999999]) m = true ∧ (adv m).mode = modeMaintenance ∧ anyEnabled (adv m) = false ∧
      takes st (entry0 [0, 0, 0]) (grantD stEnabled [] m) = true ∧ anyEnabled (adv (grantD stEnabled [] m)) = true ∧
      (adv (grantD stEnabled [] m)).mode = modeMaintenance ∧
      takes st (entry0 [0, 0, 0]) a = true ∧ (adv a).mode ≠ modeMaintenance) ∧
    (takes ⟨0x403, false, [mAll, mAll, mAll], [], limitsBad⟩ (entry0 [200000, 1000000, 72000]) a = true ∧
      takes ⟨0x403, false, [mAll, mAll, mAll], [], limitsBad⟩ (entry0 [0, 0, 0]) a = true) ∧
    (takes pp (entry0 [10, 0]) a = true ∧ fld (entW (cmdP (entry0 [10, 0]) a) 1) 0 2 = 0) ∧
    (portsOfRole (adv a) 10 2 = [] ∧ takes pp (entry0 [10, 1]) a = true ∧ fld (entW (cmdP (entry0 [10, 1]) a) 1) 0 2 = 1) ∧
    (let d := a.wn (Reg.timPCfg 3) 2
     takes pp (entry0 [10, 1]) d = true ∧ fld (entW (cmdP (entry0 [10, 1]) d) 1) 0 2 = 1 ∧ portsOfRole (adv d) 10 2 ≠ []) ∧
    (takes hb (entry0 [15]) a = true ∧ (adv a).mode ≠ modeMaintenance ∧ takes hb (entry0 [15]) m = true ∧ (adv m).mode = modeMaintenance ∧
      (projStreams (adv m)).sau.entries.any (fun x => entState x.2 == esLive && asduBreaks 15 x.2) = false ∧
      allAdmitted ((adv m).setF Reg.ttbHoldback 0 4 15) = true) := by decide +kernel

/-! Witnesses: Stageline. -/

/-- A Waybill of a node with a version, heard on time. -/
def wb (node version : Nat) : Waybill :=
  ⟨false, version, node, 0, 0, 0, 1, false, 1, true, false, false, 31, 1, none, [0, 31, 31, 31], [], 1, 1, 0, 0, true⟩

/-- Stageline enabled with the Guard, channel B in a state with its node, in Active. -/
def stlD (st : Nat) (n : StlNode) : Dev :=
  setStlN 1 n (setNState 1 st ((((inMode modeActive).wn Reg.stlCtrl 0xF)).wn Reg.brcStatus 1))

theorem witness_Waybills :
    let e := StlNode.empty
    (let d := stlD nSync e
     d.up = true ∧ 1 < 2 ∧ stlOn d = true ∧ nState d 1 ≠ nOff ∧ ({ wb 2 1 with crcOk := false } : Waybill).crcOk = false ∧
       stlVmaxOwn d < (wb 2 15).version) ∧
    (let d := stlD nListen e
     d.up = true ∧ nState d 1 ≠ nOff ∧ (wb 2 1).crcOk = true ∧ (wb 2 1).version ≤ stlVmaxOwn d ∧ (wb 2 1).seat = 0 ∧ wbAstray d 1 (wb 2 1) = false ∧
       ({ wb 2 1 with seat := 1 } : Waybill).seat ≠ 0) ∧
    (stlOn (run.wn Reg.stlCtrl 0) = false ∧ ¬ 8 ≤ (stlN run 1).missed ∧ mayMaster run = false ∧ (stlN run 1).last = none) ∧
    (let d := stlD nIntegrating { e with missed := 8 }
     8 ≤ (stlN d 1).missed ∧ nIntegrating ≤ nState d 1) ∧
    (let d := stlD nSync e
     let c := stlD nCold e
     mayMaster d = true ∧ (stlN d 1).txLeg ≠ some d.tim.absLeg ∧ (stlN d 1).hand = none ∧ nState d 1 ≠ nCold ∧ (stlN d 1).master = false ∧
       claimsSeat0 d 1 = false ∧ (stlN d 1).takeFrom = none ∧ mayMaster c = true ∧ (stlN c 1).txLeg ≠ some c.tim.absLeg ∧ (stlN c 1).hand = none ∧
       nState c 1 = nCold) ∧
    (let d := stlD nSync { e with master := true }
     mayMaster d = true ∧ (stlN d 1).master = true ∧ (stlN d 1).txLeg ≠ some d.tim.absLeg ∧ (stlN d 1).hand = none ∧ nState d 1 ≠ nCold) := by decide +kernel

theorem witness_WaybillStarts :
    let e := StlNode.empty
    (let d := legOn 5 (stlD nSync { e with master := true, hand := some (4, 2) })
     mayMaster d = true ∧ (stlN d 1).master = true ∧ (stlN d 1).txLeg ≠ some d.tim.absLeg ∧ (stlN d 1).hand = some (4, 2) ∧ 4 < d.tim.absLeg) ∧
    (let d := legOn 4 (stlD nListen e)
     mayMaster d = true ∧ d.bitR Reg.stlCtrl 2 = true ∧ nState d 1 = nListen ∧
       (stlN d 1).since + (if selfNode d = 0 then 32 else 64) ≤ d.tim.absLeg * 16) ∧
    (let d := legOn 5 (stlD nSync { e with last := some (wb 2 1), missed := 1, lastLeg := 4 })
     mayMaster d = true ∧ (stlN d 1).last = some (wb 2 1) ∧ backupPos (wb 2 1).backup (selfNode d) = some 1 ∧ d.bitR Reg.stlCtrl 3 = true ∧
       nState d 1 = nSync ∧ (stlN d 1).missed ≠ 0 ∧ (stlN d 1).lastLeg ≠ d.tim.absLeg ∧ brcRole d = roleActive ∧
       (stlN d 1).txLeg ≠ some d.tim.absLeg ∧
       (let n := stlD nSync { e with last := some { wb 2 1 with backup := [] } }
        (stlN n 1).last = some { wb 2 1 with backup := [] } ∧ backupPos [] (selfNode n) = none)) := by decide +kernel

/-- Seat 47 of every leg on both channels, of an owner. -/
def seat47 (owner : Nat) : Nat := 47 + owner * 2 ^ 19 + 3 * 2 ^ 26

def sfr (node seat leg : Nat) : SeatFrame := ⟨1, node, seat, leg, 0, 0, 0, false, [1, 2], true⟩
def sgr (node : Nat) : StatusFrame := ⟨node, 4, true, 0, false, 1, 0, 0, 0, [47], 0, true⟩

theorem witness_SeatsAndStatus :
    let e := StlNode.empty
    let d := (stlD nSync { e with last := some (wb 2 1), table := some (1, [seat47 0]) }).setB (Reg.stlNStatus 1) 3
    (d.up = true ∧ 1 < 2 ∧ stlOn d = true ∧ 47 < 48 ∧ 255 < 256 ∧ seatEntry d 1 47 = some (seat47 0) ∧ nState d 1 = nSync ∧ loopOk d 1 = true ∧
      ownsSeat d (seat47 0) = true ∧ stlVersion d ≤ stlVmaxOwn d ∧ isTripSeat d 47 = false ∧ seatEntry d 1 46 = none) ∧
    (let t := d.wn (Reg.pubTsmapW0 (tsBank d) 0) (2 ^ 31 + 47 * 2 ^ 20)
     let o := t.wn Reg.pubCtrl 0
     seatEntry t 1 47 = some (seat47 0) ∧ isTripSeat t 47 = true ∧ tripTx t = true ∧ seatEntry o 1 47 = some (seat47 0) ∧ isTripSeat o 47 = true ∧ tripTx o = false) ∧
    (let l := d.clrB (Reg.stlNStatus 1) 3
     seatEntry l 1 47 = some (seat47 0) ∧ loopOk l 1 = false ∧ stlOn (run.wn Reg.stlCtrl 0) = false ∧ nState (stlD nIntegrating e) 1 ≠ nSync ∧
       stlOn (stlD nIntegrating e) = true) := by decide +kernel

theorem witness_SeatsReceived :
    let e := StlNode.empty
    let d := (stlD nSync { e with last := some (wb 2 1), table := some (1, [seat47 0]) }).setB (Reg.stlNStatus 1) 3
    (nIntegrating ≤ nState d 1 ∧ ({ sfr 2 47 0 with crcOk := false } : SeatFrame).crcOk = false) ∧
    ((sfr 2 47 0).crcOk = true ∧ (sfr 2 47 0).version ≤ stlVmaxOwn d ∧ (sfr 2 47 0).seat ≠ 0 ∧ (sfr 2 47 0).seat ≤ 47 ∧
      (sfr 2 47 0).route * 240 + (sfr 2 47 0).leg = busPos d 1 ∧ d.stl.got.contains 47 = false ∧ (sfr 2 0 0).seat = 0) ∧
    (let g := { d with stl := { d.stl with got := [47] } }
     (sfr 2 47 0).route * 240 + (sfr 2 47 0).leg = busPos g 1 ∧ g.stl.got.contains 47 = true) ∧
    (d.stl.got.contains 46 = false ∧ seatEntry d 1 46 = none ∧ (sfr 2 46 0).route * 240 + (sfr 2 46 0).leg = busPos d 1) ∧
    ((sgr 29).crcOk = true ∧ (sgr 29).node ≠ selfNode d ∧ (sgr 29).masterReq = false ∧ ({ sgr 29 with crcOk := false } : StatusFrame).crcOk = false) ∧
    (let m := setStlN 1 { stlN d 1 with master := true } d
     ({ sgr 29 with masterReq := true } : StatusFrame).masterReq = true ∧ (stlN m 1).master = true ∧ (stlN m 1).hand = none ∧ m.up = true ∧
       nIntegrating ≤ nState m 1 ∧ stlOn m = true) ∧
    ((stlN run 0).master = false ∧ (stlN run 1).master = false) ∧
    (let d := setStlN 0 { e with master := true } (d.setF Reg.stlStatus 8 4 2)
     let d := { d with stl := { d.stl with claimQ := [(2, 29, 0)], owners := [(0, 29, 29, 0)], heard := [(29, 0)] } }
     d.up = true ∧ stlOn d = true ∧ d.stl.claimQ = [(2, 29, 0)] ∧ d.stl.owners = [(0, 29, 29, 0)] ∧ (stlN d 0).master = true ∧ stlVersion d = 2 ∧
       29 ≠ 31 ∧ tget 0 d.stl.heard 29 + 8 > d.tim.absLeg) := by decide +kernel

/-- The Guard in a state with port 29 UP and enabled, seat 47 its exclusive seat. -/
def grdD (g : Nat) : Dev :=
  let d := (((stlD nSync StlNode.empty).setF Reg.stlStatus 0 2 g).setF (Reg.stlGPstat 29) 0 2 1).setB (Reg.stlGPcfg 29) 0
  modGuard (fun x => { x with table := [seat47 29] }) d

/-- The Guard with a Waybill of port 29 forwarded in the last leg; the Waybill that port sends in this one. -/
def grdW : Dev := legOn 5 (modGuard (fun x => { x with fwd := some (wb 29 1), fwdLeg := 4 }) (grdD gRun))
def wb29 : Waybill := { wb 29 1 with leg := 1 }

/-- The cause of a violation, as the statement has it. -/
def dataCause (d : Dev) (p slot : Nat) (off : Int) (inTime : Bool) (f : SeatFrame) (e : Nat) : Option Nat :=
  let mine : Bool := seKind e = 1 ∨ (seKind e = 0 ∧ seOwner e = p) ∨ (seKind e = 2 ∧ seOwner e = p ∧ stlVersion d = 2)
  firstCause [(!mine, 1), (!inTime, 2), (f.node != p, 3), (f.seat != slot || f.leg != guardLeg d, 4),
          (40 < off.natAbs, 5), (seKind e == 1 && f.prio < d.fldR (Reg.stlGPcfg p) 8 8, 6)]
def wbCause (d : Dev) (p slot : Nat) (off : Int) (inTime : Bool) (w : Waybill) : Option Nat :=
  let cls := seat0Class d p w
  let own := match cls with | some c => c.1 == 2 | none => false
  firstCause [(slot ≠ 0 || (cls.isNone && 1 < p), 1), (!inTime, 2), (w.node != p, 3),
        (w.seat != 0 || (!own && w.leg != guardLeg d), 4), (!own && 40 < off.natAbs, 5), (cls.isNone, 7)]

theorem witness_GuardForwards :
    (let d := grdD gRun
     let find (d : Dev) := d.stl.guard.table.find? (fun e => seApplies e (guardLeg d) 47 (selfNode d))
     let bench : Dev := modGuard (fun x => { x with table := [seat47 29 + 2 ^ 24] }) d
     let one : Dev := modGuard (fun x => { x with table := [seat47 1], roles := [(1, (0, roleResync))] }) (legOn 1 ((d.setF (Reg.stlGPstat 1) 0 2 1).setB (Reg.stlGPcfg 1) 0))
     d.up = true ∧ 29 < 30 ∧ portSt d 28 ≠ 1 ∧ portSt d 29 = 1 ∧ d.bitR (Reg.stlGPcfg 29) 0 = true ∧ gState d = gRun ∧ gState run = gOff ∧
       find d = some (seat47 29) ∧ dataCause d 29 47 (-40) true (sfr 29 47 (guardLeg d)) (seat47 29) = none ∧ ¬ 29 ≤ 1 ∧ seKind (seat47 29) ≠ 1 ∧
       dataCause d 29 47 (-41) true (sfr 29 47 (guardLeg d)) (seat47 29) = some 5 ∧
       portSt one 1 = 1 ∧ one.bitR (Reg.stlGPcfg 1) 0 = true ∧ gState one = gRun ∧ find one = some (seat47 1) ∧
       dataCause one 1 47 0 true (sfr 1 47 (guardLeg one)) (seat47 1) = none ∧ seKind (seat47 1) = 0 ∧ roleSaid one 1 = some roleResync ∧
       find bench = some (seat47 29 + 2 ^ 24) ∧ seKind (seat47 29 + 2 ^ 24) = 1 ∧
       dataCause bench 29 47 0 true { sfr 29 47 (guardLeg bench) with prio := 9 } (seat47 29 + 2 ^ 24) = none ∧
       bench.fldR (Reg.stlGPcfg 28) 8 8 ≤ (sfr 28 47 0).prio ∧ (sfr 28 47 0).prio < 9 ∧
       d.stl.guard.table.find? (fun e => seApplies e (guardLeg d) 46 (selfNode d)) = none) ∧
    (let c (off : Int) := firstCause [((77 : Nat) != 48 + 29, 1), (!true, 2), ((sgr 29).node != 29, 3), (decide (100 < off.natAbs), 5)]
     c 100 = none ∧ c (-101) = some 5) ∧
    (let d := grdW
     portSt d 29 = 1 ∧ d.bitR (Reg.stlGPcfg 29) 0 = true ∧ gState d = gRun ∧ seat0Class d 29 wb29 = some (3, 0) ∧
       wbCause d 29 0 (-40) true wb29 = none ∧ d.stl.guard.fwdLeg ≠ d.tim.absLeg ∧ wbCause d 29 0 (-41) true wb29 = some 5 ∧
       (let x := modGuard (fun g => { g with fwdLeg := 5 }) d
        wbCause x 29 0 0 true (wb 29 1) = none ∧ seat0Class x 29 (wb 29 1) = some (3, 0) ∧ x.stl.guard.fwdLeg = x.tim.absLeg)) ∧
    (let d := (grdD gCold).setB Reg.stlColdPorts 29
     d.up = true ∧ portSt d 29 = 1 ∧ d.bitR (Reg.stlGPcfg 29) 0 = true ∧ gState d = gCold ∧ bitOf (d.rn Reg.stlColdPorts) 29 = true ∧
       bitOf ((grdD gCold).rn Reg.stlColdPorts) 29 = false) ∧
    (let d := legOn 8 (grdD gRun)
     gState d = gRun ∧ d.stl.guard.fwdLeg + 8 ≤ d.tim.absLeg ∧ gState run ≠ gRun) ∧
    (portSt run 29 = 0 ∧ portSt (grdD gRun) 29 ≠ 0 ∧ ¬ 29 ≤ 1) ∧
    (let d := modGuard (fun x => { x with roles := [(1, (0, roleActive))] }) run
     1 ≤ 1 ∧ tfind d.stl.guard.roles 1 = some (0, roleActive)) := by decide +kernel

theorem witness_StagelineTables :
    let d := sesD modeActive
    (run.up = true ∧ 487 < 488 ∧ 0 = stlBank run ∧ 1 ≠ stlBank run) ∧
    ((tblReason run (nextTable run) 2).1 = 0 ∧ (tblReason run (nextTable run) (2 ^ 20 - 1)).1 ≠ 0) ∧
    (let d := legOn 239 (run.wn (Reg.stlSyncCfg 15) (2 ^ 31 + 239))
     d.up = true ∧ 15 < 16 ∧ bitOf (d.rn (Reg.stlSyncCfg 15)) 31 = true ∧ fld (d.rn (Reg.stlSyncCfg 15)) 0 8 = d.tim.absLeg % 240) ∧
    (let d := run.wn (Reg.stlSyncCfg 0) (2 ^ 31 + 255)
     bitOf (d.rn (Reg.stlSyncCfg 0)) 31 = true ∧ fld (d.rn (Reg.stlSyncCfg 0)) 0 8 = 255 ∧ bitOf (run.rn (Reg.stlSyncCfg 0)) 31 = false) ∧
    (let t := 1 - tsBank (adv d)
     let f (n : Nat) (ws : List Nat) : Dev := mapClear (Reg.pubTsmapW0 t) n (writeRegs (fun i => Reg.pubTsmapW0 t 0 + 4 * i) 0 (takePad 0 (2 * n) ws) (adv d))
     takes ⟨0x305, false, [0, mAll, 0xFF, 0x1FFF], [1], above 3 4096⟩ (entry0 [0, 0, 0, 1]) d = true ∧
       (tsReason (f 1 []) t (exclSeat (f 1 []))).1 = 0 ∧ (tsReason (f 1 [2 ^ 31]) t (exclSeat (f 1 [2 ^ 31]))).1 ≠ 0) ∧
    (let d1 := (writeRegs (Reg.stlTblEntry (1 - stlBank (adv d))) 0 (takePad 0 (min 0 488) []) (adv d)).setF Reg.stlTblCount 0 9 0
     takes ⟨0x800, false, [0xFFFFF, mAll, 0xFF, 0x1FF], [1], noRange⟩ (entry0 [2, 0, 0, 0]) d = true ∧ 488 ≤ 488 ∧
       (tblReason d1 (nextTable d1) 2).1 = 0 ∧ (tblReason d1 (takePad 0 0 []) 2).1 = 0) ∧
    (let t := takePad 0 489 []
     let d0 := writeRegs (Reg.stlTblEntry (1 - stlBank (adv d))) 0 (t.take 488) (adv d)
     takes ⟨0x800, false, [0xFFFFF, mAll, 0xFF, 0x1FF], [1], noRange⟩ (entry0 [2, 0, 0, 489]) d = true ∧ ¬ 489 ≤ 488 ∧ (tblReason d0 t 2).1 ≠ 0) ∧
    (let t := 1 - imBank (adv d)
     let f (n : Nat) (ws : List Nat) : Dev := mapClear (Reg.stlImapW0 t) n (writeRegs (fun i => Reg.stlImapW0 t 0 + 4 * i) 0 (takePad 0 (2 * n) ws) (adv d))
     takes ⟨0x801, false, [0, mAll, 0xFF, 0x1FFF], [1], above 3 4096⟩ (entry0 [0, 0, 0, 1]) d = true ∧
       (imReason (f 1 []) t).1 = 0 ∧ (imReason (f 1 [2 ^ 31]) t).1 ≠ 0) ∧
    takes ⟨0x802, false, [0x1F1F1F1F], [], backupBad⟩ (entry0 [0x1F1F1F1D]) d = true ∧
    (takes ⟨0x803, false, [0x1F, 3], [], portRange⟩ (entry0 [29, 1]) d = true ∧ bitOf 1 (selfNode (adv d)) = true ∧ bitOf 1 (1 - selfNode (adv d)) = false) ∧
    (let a := d.setB Reg.brcStatus 3
     takes ⟨0x803, false, [0x1F, 3], [], portRange⟩ (entry0 [29, 2]) d = true ∧ bitOf 2 (1 - selfNode (adv d)) = true ∧ bitOf 2 (selfNode (adv d)) = false ∧
       paired (adv d) = false ∧ takes ⟨0x803, false, [0x1F, 3], [], portRange⟩ (entry0 [29, 2]) a = true ∧ paired (adv a) = true ∧
       takes ⟨0x804, false, [0x1F, 3], [], portRange⟩ (entry0 [29, 2]) d = true) ∧
    (takes ⟨0x804, false, [0x1F, 3], [], portRange⟩ (entry0 [29, 1]) d = true ∧ orderRefused (adv d) 29 = false) ∧
    (let a := modGuard (fun x => { x with roles := [(1, (0, roleActive))] }) d
     takes ⟨0x804, false, [0x1F, 3], [], portRange⟩ (entry0 [1, 1]) a = true ∧ bitOf 1 (selfNode (adv a)) = true ∧ bitOf 1 (1 - selfNode (adv a)) = false ∧
       orderRefused (adv a) 1 = true) ∧
    (let a := d.setB Reg.brcStatus 3
     takes ⟨0x804, false, [0x1F, 3], [], portRange⟩ (entry0 [29, 2]) a = true ∧ bitOf 2 (selfNode (adv a)) = false ∧ bitOf 2 (1 - selfNode (adv a)) = true ∧
       paired (adv a) = true) := by decide +kernel

/-! Witnesses: the Brace pair. -/

/-- Brace enabled, link 1 UP, in a role. -/
def brcD (role : Nat) : Dev := setLink 1 true (((inMode modeStandby).wn Reg.brcCtrl 3).wn Reg.brcStatus role)

def bh (role : Nat) : BrcHdr := ⟨1, 7, true, 1, 1, role, 9⟩

theorem witness_BraceLinks :
    let d := brcD roleStandby
    let d1 := (setLink 1 true d).setF (Reg.brcLStatus 1) 1 3 (5 - (tget [] d.brc.lanes 1).length)
    let ret (d : Dev) (lane : Nat) : Dev :=
      let d2 := d.bumpBy (Reg.brcLErr 1) 0
      let gone := tget [] d2.brc.lanes 1
      retiredEvent 4 (1 * 5 + lane) (raise 299 none 1 lane
        ({ d2 with brc := { d2.brc with lanes := tput d2.brc.lanes 1 (lane :: gone) } }.setF (Reg.brcLStatus 1) 1 3 (4 - gone.length)))
    let busy : Dev := { d with brc := { d.brc with retrain := [(1, 0)] } }
    (d.up = true ∧ 1 < 2 ∧ brcOn d = true ∧ (d1.rn Reg.brcVersion) / 65536 = d1.rn Reg.brcVersion / 65536 ∧
      0xFFFFFFFF / 65536 ≠ d1.rn Reg.brcVersion / 65536 ∧ brcOn (run.wn Reg.brcCtrl 0) = false) ∧
    (4 < 5 ∧ (tget [] (d.bumpBy (Reg.brcLErr 1) 0).brc.lanes 1).contains 4 = false ∧ ¬ (d.bumpBy (Reg.brcLErr 1) 0).fldR (Reg.brcLErrLim 1) 0 16 < 0 ∧
      spareLane (ret d 4) 1 = 4 ∧ spareLane (ret d 3) 1 ≠ 3 ∧ spareLane (ret d 3) 1 ≠ 7 ∧ tfind (ret d 3).brc.retrain 1 = none ∧
      (tget [] (busy.bumpBy (Reg.brcLErr 1) 0).brc.lanes 1).contains 3 = false ∧ spareLane (ret busy 3) 1 ≠ 3 ∧ tfind (ret busy 3).brc.retrain 1 = some 0) ∧
    (let r := { d with brc := { d.brc with retrain := [(1, 3)] } }.setB (Reg.brcLStatus 1) 5
     r.up = true ∧ tfind r.brc.retrain 1 = some 3 ∧ r.bitR (Reg.brcLStatus 1) 5 = true ∧ tfind d.brc.retrain 1 = none) ∧
    (brcLinkUp d 1 = true ∧ brcLinkUp run 1 = false) ∧
    (let m (role : Nat) : Dev := tickOn 32 { brcD role with brc := { run.brc with lastMsg := some 0 } }
     let lost (d : Dev) : Dev := { raise 297 none 0 0 (d.clrB Reg.brcStatus 3) with brc := { (raise 297 none 0 0 (d.clrB Reg.brcStatus 3)).brc with lastMsg := none } }
     (m roleActive).up = true ∧ (m roleActive).brc.lastMsg = some 0 ∧ brcOn (m roleActive) = true ∧ 0 + 32 ≤ (m roleActive).tim.absTick ∧
       brcRole (lost (m roleActive)) ≠ roleStandby ∧ brcRole (lost (m roleStandby)) = roleStandby ∧ brcOn (m roleStandby) = true ∧ d.brc.lastMsg = none) ∧
    (let o := tickOn 2000 ({ d with brc := { d.brc with orphanAt := some 0 } }.setB Reg.brcStatus 9)
     o.up = true ∧ o.brc.orphanAt = some 0 ∧ orphan o = true ∧ 0 + o.fldR Reg.brcLtnTimeout 0 10 + 32 ≤ o.tim.absTick ∧ orphan d = false) := by decide +kernel

/-- The same, paired. -/
def pairD (role : Nat) : Dev := (brcD role).setB Reg.brcStatus 3

theorem witness_BraceMessages :
    let s := pairD roleStandby
    let h := bh roleActive
    (brcRow (.failMessage h) = some h ∧ s.up = true ∧ brcOn s = true ∧ h.link < 2 ∧ brcLinkUp s h.link = true ∧ h.crcOk = true ∧ s.brc.seq.contains h.seq = false ∧
      h.unit ≠ selfNode s ∧ brcOn (run.wn Reg.brcCtrl 0) = false) ∧
    (({ h with crcOk := false } : BrcHdr).crcOk = false ∧ ({ s with brc := { s.brc with seq := [7] } } : Dev).brc.seq.contains h.seq = true ∧
      ({ h with unit := selfNode s } : BrcHdr).unit = selfNode s ∧ ({ s with brc := { s.brc with badVer := true } } : Dev).brc.badVer = true) ∧
    (let at_ (d : Dev) : Dev :=
       let mine := d.brc.check.filter (fun p => p.2.leg == 0)
       let kept := d.sau.store.filter (fun p => p.2.leg != 0)
       let own := lateMerge (d.sau.store.filter (fun p => p.2.leg == 0)) (mine.foldl (fun t p => tput t p.1 p.2) kept)
       raise 301 none 0 0 ((shadowDeclare 0 { d with sau := { d.sau with store := own } }).bump Reg.brcUnmirroredCnt)
     let o := s.setB Reg.brcStatus 9
     isShadow s = true ∧ nextDeclare s = some 0 ∧ orphan (at_ s) = false ∧ brcRole (at_ s) = roleStandby ∧
       isShadow o = true ∧ nextDeclare o = some 0 ∧ orphan (at_ o) = true ∧
       isShadow (pairD roleResync) = true ∧ nextDeclare (pairD roleResync) = some 0 ∧ orphan (at_ (pairD roleResync)) = false ∧
       brcRole (at_ (pairD roleResync)) ≠ roleStandby ∧ isShadow run = false) := by decide +kernel

theorem witness_BraceMessagesHeard :
    let s := pairD roleStandby
    let h := bh roleActive
    let r := { carIn 3 stDisabled (pairD roleResync) with brc := { run.brc with seq := [] } }.setB Reg.brcXferStatus 29
    (heard h s = true ∧ isShadow (afterHdr h s) = true ∧ heard (bh roleStandby) (pairD roleActive) = true ∧
      isShadow (afterHdr (bh roleStandby) (pairD roleActive)) = false) ∧
    (let a := { s with brc := { s.brc with handed := some 5, own := some (5, List.replicate 512 0) } }
     heard h a = true ∧ isShadow (afterHdr h a) = true ∧ (afterHdr h a).brc.handed = some 5 ∧ (afterHdr h s).brc.handed ≠ some 5 ∧
       (afterHdr h a).brc.own = some (5, List.replicate 512 0) ∧ orphan (afterHdr h a) = false ∧
       firstDiff 0 (List.replicate 512 0) (takePad 0 512 []) = none ∧ firstDiff 0 (List.replicate 512 0) (takePad 0 512 [0, 1]) = some 1 ∧
       (afterHdr h s).brc.own = none) ∧
    (let x := afterHdr h r
     let k := afterHdr h (slotD (r.setF Reg.brcXferSlot 0 8 5))
     let use (d : Dev) := slotUse (d.fldR Reg.brcXferSlot 0 8) fnImage [3] (.carriage 3) false d
     heard h r = true ∧ brcRole x = roleResync ∧ x.bitR Reg.brcXferStatus 29 = true ∧ 3 < 512 ∧ (tfind x.cars 3).isSome = true ∧ (use x).1 = false ∧
       brcRole (afterHdr h s) ≠ roleResync ∧ tfind x.cars 4 = none ∧
       heard h (slotD (r.setF Reg.brcXferSlot 0 8 5)) = true ∧ brcRole k = roleResync ∧ k.bitR Reg.brcXferStatus 29 = true ∧ (tfind k.cars 3).isSome = true ∧
       (use k).1 = true ∧ imgR.tagOk = true ∧ imgR.slot = k.fldR Reg.brcXferSlot 0 8 ∧ imageFits (use k).2 3 imgR = true) ∧
    (brcRole (afterHdr h s) = roleStandby ∧ brcRole (afterHdr (bh roleStandby) (pairD roleActive)) ≠ roleStandby ∧
      brcRole (afterHdr (bh roleStandby) (pairD roleActive)) ≠ roleResync ∧ orderRefused (afterHdr h s) 29 = false ∧
      orderRefused (afterHdr h (modGuard (fun x => { x with roles := [(1, (0, roleActive))] }) s)) 1 = true ∧ (afterHdr h s).brc.proof = none ∧
      (let p := { s with brc := { s.brc with proof := some ⟨1, 1, false, true, true, 0, 0⟩ } }
       heard h p = true ∧ (afterHdr h p).brc.proof = some ⟨1, 1, false, true, true, 0, 0⟩)) := by decide +kernel

/-- A partner in a role, ready for what its role allows. -/
def peerOf (role : Nat) (maint : Bool) (d : Dev) : Peer :=
  ⟨role, 1, 9, ⟨0, d.rn Reg.brcEpoch, holdback d, true, maint, false, d.rn Reg.fchCoefCrc, d.rn Reg.eenKcatVer, d.rn Reg.hleIsaVer, []⟩⟩

/-- Session 0's device in Maintenance as the ACTIVE of a pair whose partner is in a role. -/
def actD (m role : Nat) : Dev :=
  let d := (sesD m).setB Reg.brcStatus 3
  { d with brc := { d.brc with peer := some (peerOf role true d) } }

theorem witness_BraceSwitchOver :
    (run.up = true ∧ run.tim.absTick < run.brc.ltn + run.fldR Reg.brcLtnTimeout 0 10 ∧ run.brc.waitFrom = none ∧ run.sup.fence = none ∧ run.brc.fenceDue = none ∧ run.brc.trig = none ∧
      run.brc.switchAt = none ∧ run.brc.proof = none ∧ brcRole run ≠ roleResync ∧ isFenced run = false ∧ isFenced (run.setB Reg.glbStatus 4) = true) ∧
    (let d := { run with brc := { run.brc with ltnRun := true } }
     let d := tickOn 1023 d
     d.brc.ltnRun = true ∧ d.brc.ltn + d.fldR Reg.brcLtnTimeout 0 10 ≤ d.tim.absTick) ∧
    (let d := ({ brcD roleNone with brc := { run.brc with waitFrom := some 0 } }.setF Reg.brcPairWait 0 11 0).setF Reg.glbMode 0 3 modeStandby
     d.up = true ∧ d.brc.waitFrom = some 0 ∧ roleOpen d = true ∧ 0 + d.fldR Reg.brcPairWait 0 11 ≤ d.tim.absRoute ∧ paired d = false) ∧
    (let d := { run with sup := { run.sup with fence := some 5 } }
     let e := d.wn Reg.brcStatus roleFenced
     d.sup.fence = some 5 ∧ brcRole d ≠ roleFenced ∧ e.sup.fence = some 5 ∧ brcRole e = roleFenced ∧
       (let f := { run with brc := { run.brc with fenceDue := some (0, roleResync) } }
        f.sup.fence = none ∧ f.brc.fenceDue = some (0, roleResync) ∧ f.tim.absTick ≤ 0 ∧ 0 < (tickOn 1 f).tim.absTick)) ∧
    (let t (role : Nat) : Dev := tickOn 1 { brcD role with brc := { run.brc with trig := some (2, 0) } }
     (t roleStandby).brc.trig = some (2, 0) ∧ 0 < (t roleStandby).tim.absTick ∧ brcRole (t roleStandby) = roleStandby ∧
       (t roleResync).brc.trig = some (2, 0) ∧ 0 < (t roleResync).tim.absTick ∧ brcRole (t roleResync) ≠ roleStandby ∧
       ({ run with brc := { run.brc with trig := some (2, 0) } } : Dev).tim.absTick ≤ 0) ∧
    (let t (role : Nat) : Dev := tickOn 40 { brcD role with brc := { run.brc with switchAt := some (1, 3) } }
     (t roleActive).brc.switchAt = some (1, 3) ∧ (1 - 1) * 16 + holdFor (t roleActive) (1 - 1) + 4 ≤ (t roleActive).tim.absTick ∧
       (t roleActive).cmd.jobs = [] ∧ brcRole (t roleActive) = roleActive ∧ brcRole (t roleStandby) ≠ roleActive ∧
       (1 - 1) * 16 + holdFor (t roleStandby) (1 - 1) + 4 ≤ (t roleStandby).tim.absTick ∧
       run.tim.absTick < (1 - 1) * 16 + holdFor run (1 - 1) + 4) := by decide +kernel

theorem witness_BraceSwitchOverEnds :
    (let d := brcD roleResync
     let d := { d with brc := { d.brc with peer := some (peerOf roleActive false d), xferDone := true, okLegs := 2 } }
     d.up = true ∧ brcRole d = roleResync ∧ resyncReady d = true ∧ 2 ≤ d.brc.okLegs ∧ resyncReady (brcD roleResync) = false ∧
       resyncReady { d with brc := { d.brc with okLegs := 1 } } = true) ∧
    (let d (ret : Bool) (left : Nat) : Dev :=
       { (brcD roleActive).setF Reg.brcProofStatus 16 11 left with brc := { run.brc with proof := some ⟨1, 1, ret, false, true, 0, 0⟩ } }
     (d false 0).brc.proof = some ⟨1, 1, false, false, true, 0, 0⟩ ∧ brcRole (d false 0) = roleActive ∧ proofCauses ⟨1, 1, false, false, true, 0, 0⟩ (d false 0) = 0 ∧
       (d false 0).fldR Reg.brcProofStatus 16 11 = 0 ∧ proofCauses ⟨1, 1, true, false, true, 0, 0⟩ (d true 0) = 0 ∧
       (d true 0).fldR Reg.brcProofStatus 16 11 = 0 ∧ proofCauses ⟨1, 1, false, false, true, 0, 0⟩ (d false 1) = 0 ∧
       (d false 1).fldR Reg.brcProofStatus 16 11 ≠ 0) ∧
    takes (spec0 0x700 [3]) (entry0 [3]) (sesD modeActive) = true ∧
    (let d := ((sesD modeStandby).setF Reg.brcStatus 0 3 roleResync).setB Reg.brcStatus 3
     let d := { d with brc := { d.brc with peer := some (peerOf roleActive false d) } }
     takes (spec0 0x701 []) (entry0 []) d = true ∧ isShadow (adv d) = true ∧ paired (adv d) = true ∧ peerIn (adv d) roleActive = true ∧
       takes (spec0 0x701 []) (entry0 []) (sesD modeActive) = true ∧ isShadow (adv (sesD modeActive)) = false) := by decide +kernel

theorem witness_BraceSwitchOverCommands :
    (let d := actD modeActive roleStandby
     let e := { d.setF Reg.brcStatus 0 3 roleStandby with brc := { d.brc with peer := some (peerOf roleActive true d) } }
     takes (spec0 0x702 []) (entry0 []) d = true ∧ brcRole (adv d) = roleActive ∧ paired (adv d) = true ∧ peerIn (adv d) roleStandby = true ∧
       takes (spec0 0x702 []) (entry0 []) e = true ∧ brcRole (adv e) = roleStandby ∧ paired (adv e) = true ∧ peerIn (adv e) roleActive = true ∧
       takes (spec0 0x702 []) (entry0 []) (sesD modeActive) = true ∧ paired (adv (sesD modeActive)) = false) ∧
    (let c : CmdSpec := ⟨0x703, false, [0xFFFFF, 0x7FF, 1], [], fun p => if entW p 1 = 0 || 1200 < entW p 1 then some 1 else none⟩
     let h := entry0 [2, 1200, 1]
     let d := actD modeMaintenance roleStandby
     let e := actD modeMaintenance roleResync
     takes c h d = true ∧ (adv d).brc.peer.map (fun q => q.st.maint) = some true ∧
       (adv d).mode = modeMaintenance ∧ brcRole (adv d) = roleActive ∧ paired (adv d) = true ∧ peerIn (adv d) roleStandby = true ∧
       (adv d).tim.absRoute + 2 ≤ routeAhead (adv d) (entW (cmdP h d) 0) ∧ routeAhead (adv d) (entW (cmdP h d) 0) < (adv d).tim.absRoute + 2 ^ 19 ∧
       takes c (entry0 [1, 1, 0]) d = true ∧ routeAhead (adv d) (entW (cmdP (entry0 [1, 1, 0]) d) 0) < (adv d).tim.absRoute + 2 ∧
       takes c h e = true ∧ (adv e).brc.peer.map (fun q => q.st.maint) = some true ∧ (adv e).mode = modeMaintenance ∧ peerIn (adv e) roleStandby = false ∧
       takes c h (sesD modeActive) = true ∧ (adv (sesD modeActive)).mode ≠ modeMaintenance) := by decide +kernel

/-! Witnesses: resets, release and modes. -/

/-- A running device with a reset that waits. -/
def pendR (level : Nat) : Dev := { run with rst := { run.rst with pend := some ⟨level, 4, 0, 0, 0⟩ } }

theorem witness_Resets :
    let late (d : Dev) : Dev := { d with rst := { d.rst with startTicks := 2304000 } }
    let part : Dev := late { Dev.reset with rst := { Dev.reset.rst with partway := true, pend := none } }
    (run.rst.held ≠ some 0 ∧ Dev.reset.rst.held = some 0) ∧
    (sysDue (pendR 1) = some ⟨1, 4, 0, 0, 0⟩ ∧ sysDue run = none) ∧
    (99 < 100 ∧ 1000 ≤ 1000 ∧ 100 ≤ 999 ∧ 999 < 1000 ∧ run.rst.park = false ∧ ({ run with rst := { run.rst with park := true } } : Dev).rst.park = true) ∧
    (startRuns (late (inMode modeBoot)) = true ∧ 2304000 ≤ (late (inMode modeBoot)).rst.startTicks ∧ (late (inMode modeBoot)).up = true ∧ startRuns (inMode modeActive) = false) ∧
    (startRuns part = true ∧ 2304000 ≤ part.rst.startTicks ∧ part.up = false ∧ part.rst.pend = none ∧
      (let p := { part with rst := { part.rst with pend := some ⟨1, 4, 0, 0, 0⟩ } }
       startRuns p = true ∧ 2304000 ≤ p.rst.startTicks ∧ p.up = false ∧ p.rst.pend ≠ none)) ∧
    (Dev.reset.rst.held ≠ none ∧ run.rst.held = none ∧ run.rst.pend = none ∧ brcRole run ≠ roleActive ∧ brcRole (run.wn Reg.brcStatus 1) = roleActive) ∧
    ((pendR 2).rst.held = none ∧ (pendR 2).rst.pend = some ⟨2, 4, 0, 0, 0⟩ ∧ 1 < 2 ∧ (pendR 2).tim.absTick = 0 ∧ (2 = 2 ∧ 3 < 4) ∧
      ¬ (2 < 2 ∨ (0 = (pendR 2).tim.absTick ∧ 2 = 2 ∧ 5 < 4)) ∧ (tickOn 1 (pendR 2)).rst.pend = some ⟨2, 4, 0, 0, 0⟩ ∧ 0 ≠ (tickOn 1 (pendR 2)).tim.absTick) ∧
    (run.up = true ∧ (pendR 2).up = true ∧ (pendR 1).rst.pend = some ⟨1, 4, 0, 0, 0⟩) ∧
    (bitOf (1 : Word).toNat 0 = true ∧ bitOf (0 : Word).toNat 0 = false) ∧
    (let d := { run.wn Reg.rstWdtCfg 0x10001 with rst := { run.rst with wdtTicks := 77 } }
     d.up = true ∧ wdtRuns d = true ∧ d.rst.warned = false ∧ wdtTimeout d * 768 ≤ d.rst.wdtTicks * 20 ∧ wdtTimeout d * 768 ≤ d.rst.wdtTicks * 10) ∧
    wdtRuns (run.wn Reg.rstWdtCfg 1) = false := by decide +kernel

/-- A release that finds its keys, its memory and its images, or not. -/
def rel (trained : Bool) (a : Option Nat) : Release := ⟨false, true, true, some 0, true, [], trained, [0x801, 0x801, 0x801, 0x801], [], a, none, 0⟩

/-- What a release comes to after its count. -/
def relTo (r : Release) (d : Dev) : Bool × Dev :=
  relCount r (relKeys r (relTime r (relClocks r { d with sbx := { d.sbx with bkNew := false } })))

theorem witness_ReleaseAndPower :
    let d := Dev.reset
    let f (n : Nat) : Dev := d.wn Reg.rstFailCnt n
    (run.up = true ∧ ({ d with rst := { d.rst with pfailPin := true } } : Dev).rst.pfailPin = true) ∧
    (d.up = false ∧ d.rst.park = false ∧ d.rst.partway = false ∧ d.rst.pfailPin = false ∧ d.rst.refLost = false) ∧
    ((f 4).up = false ∧ (relTo (rel true (some 0)) (f 4)).1 = true ∧ (relTo (rel true (some 0)) (f 3)).1 = false) ∧
    ((relTo (rel false (some 0)) d).1 = false ∧ memTrained (rel false (some 0)) = false ∧ memTrained (rel true (some 0)) = true) ∧
    (let r := rel true (some 0)
     let i := relImage r (relMem r ((relTo r d).2.setF Reg.stlStatus 0 2 gCold))
     let x := rel true none
     let y : Release := { x with imgB := some 0 }
     let at_ (r : Release) := relImage r (relMem r ([0, 1].foldl (fun d ch => setStlN ch { StlNode.empty with since := d.tim.absTick } d)
       ((relTo r d).2.setF Reg.stlStatus 0 2 gCold)))
     (relTo x d).1 = false ∧ memTrained x = true ∧ (at_ x).1 = 2 ∧ (relTo y d).1 = false ∧ memTrained y = true ∧ (at_ y).1 ≠ 2 ∧
     imgOk (bootRepairs (relDone y d.sbx.bkNew 0 (showBoot y (at_ y).1 ((at_ y).2.setF Reg.glbMode 0 3 modeBoot)))) y.imgA = false ∧
     i.1 ≠ 2 ∧ imgOk (bootRepairs (relDone r d.sbx.bkNew 0 (showBoot r i.1 (i.2.setF Reg.glbMode 0 3 modeBoot)))) r.imgA = true) ∧
    ((run.setB Reg.glbStatus 5).bitR Reg.glbStatus 5 = true ∧ run.bitR Reg.glbStatus 5 = false) ∧
    (let a := legOn 1 { run with rst := { run.rst with pfailLeg := some 0 } }
     a.up = true ∧ a.rst.pfailLeg = some 0 ∧ a.rst.acked = false ∧ 0 < a.tim.absLeg ∧ run.rst.pfailLeg = none ∧
       ({ a with rst := { a.rst with acked := true } } : Dev).rst.acked = true) ∧
    (let c (d : Dev) : Dev := { d with rst := { d.rst with coreGone := true } }
     let r := { pairD roleResync with brc := { (pairD roleResync).brc with peer := some (peerOf roleActive false (pairD roleResync)) } }.setB Reg.brcCtrl 2
     let up (d : Dev) : Dev := raise 35 none 0 0 { d.setB Reg.glbStatus 1 with rst := { (d.setB Reg.glbStatus 1).rst with coreGone := false } }
     (inMode modeBoot).mode ≠ modeRecovery ∧ (inMode modeBoot).bitR Reg.glbStatus 1 = false ∧ ((inMode modeBoot).setB Reg.glbStatus 1).rst.coreGone = false ∧
       ((c (inMode modeBoot)).setB Reg.glbStatus 1).rst.coreGone = true ∧ brcRole (up (c (inMode modeBoot))) ≠ roleResync ∧
       (c r).up = true ∧ (c r).mode ≠ modeRecovery ∧ (c r).bitR Reg.glbStatus 1 = false ∧ brcRole (up (c r)) = roleResync ∧
       (up (c r)).bitR Reg.brcCtrl 2 = true ∧ paired (up (c r)) = true ∧ peerIn (up (c r)) roleActive = true ∧ (inMode modeRecovery).mode = modeRecovery) ∧
    (let p := { (run.wn Reg.swcWakeCtrl (1 + 2 ^ 11)).wn (Reg.swcWakeLen 0) 0 with rst := { run.rst with park := true } }
     p.rst.park = true ∧ wakeHits p 10 (frame 64 true) ≠ [] ∧ run.rst.park = false) := by decide +kernel

theorem witness_ModesAndRecovery :
    let req (v : Nat) (m : Nat) : Dev := (inMode m).wn Reg.glbModeReq v
    ((req 2 modeBoot).up = true ∧ (req 2 modeBoot).mode = modeBoot ∧ (req 3 modeCommission).mode = modeCommission ∧
      fld (7 : Word).toNat 0 3 ≠ modeCommission ∧ fld (7 : Word).toNat 0 3 ≠ modeStandby) ∧
    (7 < 8 ∧ (inMode modeMaintenance).mode = modeMaintenance ∧ fld ((1 : Word).toNat % 2 ^ 22) 0 2 ≠ 3 ∧ fld ((3 : Word).toNat % 2 ^ 22) 0 2 = 3 ∧
      fld ((2 : Word).toNat % 2 ^ 22) 0 2 = 2 ∧ carSt (inMode modeMaintenance) 0 = stFree ∧ (inMode modeActive).mode ≠ modeMaintenance ∧
      (inMode modeActive).mode ≠ modeBoot) ∧
    (let c : CmdSpec := ⟨0x900, false, [3], [], fun p => if entW p 0 = 3 then some 0 else none⟩
     let a := sesD modeActive
     let m := sesD modeMaintenance
     let b := m.setF Reg.glbMode 4 3 modeStandby
     let b := b.wn Reg.brcStatus 2
     let w := setHcar 3 { HCar.empty with modeReq := some hHold } (carIn 3 stEnabled m)
     takes c (entry0 [0]) w = true ∧ projMode (adv w) = modeMaintenance ∧ anyHold (adv w) = true ∧ takes c (entry0 [0]) a = true ∧ projMode (adv a) ≠ modeMaintenance ∧
       takes c (entry0 [2]) b = true ∧ projMode (adv b) = modeMaintenance ∧ (adv b).mode = modeMaintenance ∧ (adv b).fldR Reg.glbMode 4 3 = modeStandby ∧
       brcRole (adv b) ≠ roleActive ∧ anyRuns (adv b) = false ∧ takes c (entry0 [2]) a = true ∧
     takes c (entry0 [1]) a = true ∧ projMode (adv a) = modeActive ∧
       takes c (entry0 [1]) m = true ∧ projMode (adv m) ≠ modeStandby ∧ projMode (adv m) ≠ modeActive ∧
       takes c (entry0 [0]) m = true ∧ projMode (adv m) = modeMaintenance ∧ anyHold (adv m) = false) ∧
    (takes (spec0 0x904 [1]) (entry0 [1]) (sesD modeMaintenance) = true ∧ (adv (sesD modeMaintenance)).mode = modeMaintenance ∧
      takes (spec0 0x904 [1]) (entry0 [1]) (sesD modeActive) = true ∧ (adv (sesD modeActive)).mode = modeActive) ∧
    (let r := sesD modeRecovery
     takes ⟨0x905, false, [mAll, mAll, mAll, 0xFF], [2], fun p => if entW p 1 = 0 || 65536 < entW p 1 then some 1 else none⟩ (entry0 [0, 65536]) r = true ∧
       (adv r).mode = modeRecovery ∧
       takes (spec0 0x906 [mAll]) (entry0 [4]) r = true ∧ lifeCycle (adv r) ≠ 4 ∧
       (let a := sesD modeActive
        takes ⟨0x905, false, [mAll, mAll, mAll, 0xFF], [2], fun p => if entW p 1 = 0 || 65536 < entW p 1 then some 1 else none⟩ (entry0 [0, 1]) a = true ∧
          (adv a).mode ≠ modeRecovery) ∧ imgOk (adv r) (some 0) = true ∧ imgOk (adv r) none = false) := by
  decide +kernel

/-! Witnesses: keys, tamper and debug. -/

/-- Slot 255 in a state with a TYPE, a function and LOCK or not, for the management cores in the Livery. -/
def keyD (st typ fn lock : Nat) : Dev :=
  (((sesD modeMaintenance).wn (Reg.sbxSAttr 255) (typ + 0x10 + 0x100 + 0x800 + 2 ^ fn + lock * 2 ^ 24)).wn (Reg.sbxSState 255) st)

/-- Slot 255 VALID, that no caller may name. -/
def keyX : Dev := (sesD modeMaintenance).wn (Reg.sbxSState 255) 1

theorem witness_KeyCommands :
    let m := sesD modeMaintenance
    let gen : CmdSpec := spec0 0x600 [0xFF, attrMask, 0xF]
    let may (h : Cmd) (d : Dev) : Bool := slotState (adv d) 255 == 0 || callerOk (adv d) 255 (cmdWho (adv d) h)
    let g (t : Nat) := entry0 [255, t, t]
    (takes gen (entry0 [255, 4, 3]) m = true ∧ takes gen (g 1) (keyD 1 1 22 1) = true ∧ slotLocked (adv (keyD 1 1 22 1)) 255 = true ∧
      takes gen (g 1) keyX = true ∧ slotLocked (adv keyX) 255 = false ∧ may (g 1) keyX = false ∧ takes gen (g 5) m = true ∧ slotLocked (adv m) 255 = false ∧
      may (g 5) m = true ∧ 5 ∉ [1, 2, 3, 4] ∧ takes gen (g 4) (m.clrB Reg.sbxTrngStatus 0) = true ∧ trngReady (adv (m.clrB Reg.sbxTrngStatus 0)) = false ∧
      may (g 4) (m.clrB Reg.sbxTrngStatus 0) = true ∧ slotLocked (adv (m.clrB Reg.sbxTrngStatus 0)) 255 = false ∧
      takes gen (g 4) (m.setB Reg.sbxTrngStatus 0) = true ∧ trngReady (adv (m.setB Reg.sbxTrngStatus 0)) = true ∧ 4 ∈ [1, 2, 3, 4] ∧
      may (g 4) (m.setB Reg.sbxTrngStatus 0) = true ∧ slotLocked (adv (m.setB Reg.sbxTrngStatus 0)) 255 = false) ∧
    (let h := entry0 [255]
     takes (spec0 0x603 [0xFF]) h m = true ∧ slotLocked (adv m) 255 = false ∧ may h m = true ∧
       takes (spec0 0x603 [0xFF]) h (keyD 2 1 22 1) = true ∧ slotState (adv (keyD 2 1 22 1)) 255 = 2 ∧ may h (keyD 2 1 22 1) = true ∧
       takes (spec0 0x603 [0xFF]) h (keyD 1 1 22 1) = true ∧ slotState (adv (keyD 1 1 22 1)) 255 ≠ 2 ∧
       takes (spec0 0x603 [0xFF]) h keyX = true ∧ may h keyX = false ∧ takes (spec0 0x604 [0xFF]) h keyX = true ∧
       takes (spec0 0x604 [0xFF]) h (keyD 1 1 22 1) = true ∧ may h (keyD 1 1 22 1) = true) ∧
    (let at_ (lc role : Nat) : Dev := (m.setF Reg.sbxLc 0 3 lc).wn Reg.brcStatus role
     takes (spec0 0x605 [7]) (entry0 [1]) (at_ 0 1) = true ∧ lcPermits (adv (at_ 0 1)) 1 = false ∧
       takes (spec0 0x605 [7]) (entry0 [2]) (at_ 1 1) = true ∧ lcPermits (adv (at_ 1 1)) 2 = true ∧
       takes (spec0 0x605 [7]) (entry0 [3]) (at_ 2 0) = true ∧ lcPermits (adv (at_ 2 0)) 3 = true) := by decide +kernel

theorem witness_KeysFromKeys :
    let unw : CmdSpec := ⟨0x601, false, [0xFF, 0xFF, mAll, 0xFF, mAll, attrMask], [2], noRange⟩
    let der : CmdSpec := ⟨0x602, false, [0xFF, 0xFF, mAll, 0xFF, mAll, attrMask], [2], fun p => if entW p 4 = 0 || 256 < entW p 4 then some 4 else none⟩
    let may (h : Cmd) (d : Dev) : Bool := slotState (adv d) 255 == 0 || callerOk (adv d) 255 (cmdWho (adv d) h)
    let x := entry0 [255, 0, 0, 0, 100, 3]
    (takes unw x (keyD 1 1 22 1) = true ∧ takes der x (keyD 1 1 22 1) = true ∧ slotLocked (adv (keyD 1 1 22 1)) 255 = true ∧
      takes unw x keyX = true ∧ takes der x keyX = true ∧ slotLocked (adv keyX) 255 = false ∧ may x keyX = false ∧
      takes unw (entry0 [0, 0, 0, 0, 100, 6]) keyX = true ∧ takes der (entry0 [0, 0, 0, 0, 100, 4]) keyX = true ∧ slotState (adv keyX) 0 = 0 ∧
      slotLocked (adv keyX) 0 = false ∧ 6 ∉ [1, 2, 3, 4, 5] ∧ 4 ∉ [1, 2, 3]) ∧
    (let h := entry0 [0, 255, 0, 0, 100, 5]
     let a (d : Dev) := slotAskU (entW (cmdP h d) 1) fnWrap [1] (cmdWho (adv d) h).world (cmdWho (adv d) h) (adv d)
     takes unw h (keyD 1 1 22 0) = true ∧ slotLocked (adv (keyD 1 1 22 0)) 0 = false ∧ slotState (adv (keyD 1 1 22 0)) 0 = 0 ∧
       fld (entW (cmdP h (keyD 1 1 22 0)) 5) 0 4 ∈ [1, 2, 3, 4, 5] ∧
       (a (keyD 1 1 22 0)).1 = true ∧ takes unw h (keyD 2 1 22 0) = true ∧ slotState (adv (keyD 2 1 22 0)) 0 = 0 ∧ (a (keyD 2 1 22 0)).1 = false) ∧
    (let h := entry0 [0, 255, 0, 0, 256, 3]
     let a (d : Dev) := slotAskU (entW (cmdP h d) 1) fnDerive [3] (cmdWho (adv d) h).world (cmdWho (adv d) h) (adv d)
     takes der h (keyD 1 3 21 0) = true ∧ slotLocked (adv (keyD 1 3 21 0)) 0 = false ∧ slotState (adv (keyD 1 3 21 0)) 0 = 0 ∧
       fld (entW (cmdP h (keyD 1 3 21 0)) 5) 0 4 ∈ [1, 2, 3] ∧ (a (keyD 1 3 21 0)).1 = true ∧
       takes der h keyX = true ∧ (a keyX).1 = false) := by decide +kernel

theorem witness_TamperAndRandom :
    let on (d : Dev) : Dev := d.wn Reg.sbxTamperCfg 0x1F
    (run.sbx.backup = false ∧ sensorOn (on run) 4 = true ∧ (on run).up = true ∧ (on Dev.reset).up = false ∧ sensorOn (on Dev.reset) 4 = true ∧
      Dev.reset.sbx.backup = false ∧ sensorOn run 5 = false) ∧
    (let d := { on run with sbx := { run.sbx with backup := true } }
     d.sbx.backup = true ∧ 4 ≠ 3 ∧ sensorOn d 4 = true) ∧
    (run.up = true ∧ run.sbx.armed = none ∧ (0xC0DE0024 : Word).toNat = 0xC0DE0024 ∧ (0xC0DE0028 : Word).toNat = 0xC0DE0028 ∧
      ¬ ((1 : Word).toNat = 0xC0DE0024 ∨ (1 : Word).toNat = 0xC0DE0028)) ∧
    (let a (o : Nat) : Dev := tickOn 8 { run with sbx := { run.sbx with armed := some (liveryWho.master, o, 7) } }
     (a 0x24).sbx.armed = some (liveryWho.master, 0x24, 7) ∧ (a 0x24).tim.absTick ≤ 7 + 1 ∧ (0x5A : Word).toNat = 0x5A ∧ (0x5B : Word).toNat ≠ 0x5A ∧
       (a 0x28).sbx.armed = some (liveryWho.master, 0x28, 7) ∧ (1 : Word).toNat = 1 ∧ (2 : Word).toNat ≠ 1 ∧
       ¬ (tickOn 9 (a 0x24)).tim.absTick ≤ 7 + 1) ∧
    (let on' (d : Dev) : Dev := ((d.setF Reg.sbxTrngStatus 0 3 1).setF Reg.sbxTrngStatus 8 8 128).setB Reg.glbStatus 2
     let d := ((inMode modeActive).wn (Reg.tgtDbgChal 0) 1).setB Reg.sbxTrngStatus 1
     let b := ((inMode modeBoot).wn (Reg.tgtDbgChal 0) 1).setB Reg.sbxTrngStatus 1
     d.bitR Reg.sbxTrngStatus 1 = true ∧ (firstChallenge (on' d)).mode ≠ modeBoot ∧ b.bitR Reg.sbxTrngStatus 1 = true ∧
       (firstChallenge (on' b)).mode = modeBoot ∧ (firstChallenge (on' b)).sbx.root = 0 ∧ (run.clrB Reg.sbxTrngStatus 1).bitR Reg.sbxTrngStatus 1 = false) ∧
    (let d := { run.setB Reg.sbxTrngStatus 1 with sbx := { run.sbx with trngTicks := 15360 } }
     d.bitR Reg.sbxTrngStatus 1 = true ∧ 153600 ≤ d.sbx.trngTicks * 10) ∧
    (trngReady (run.setB Reg.sbxTrngStatus 0) = true ∧ trngReady run = false) := by decide +kernel

/-- Firewall region 0 holds every page and permits master `m` in the Livery to read and write. -/
def openTo (m : Nat) (d : Dev) : Dev :=
  ((d.wn (Reg.tgtRCtrl 0) 3).wn (Reg.tgtRLimit 0) 0xFFFFFFF).wn (Reg.tgtRPerm 0) (2 ^ m + 2 ^ (m + 16))

theorem witness_DebugAccess :
    let lv (m l : Nat) : Dev := (inMode m).wn Reg.tgtDbgStatus (l + 4)
    let lc (n : Nat) (d : Dev) : Dev := d.setF Reg.sbxLc 0 3 n
    let yes (d : Dev) : Dev := d.clrB Reg.tgtDbgStatus 24
    (run.up = true ∧ 3 ≤ 3 ∧ 1 ≤ 3 ∧ 3 ≤ debugMax run ∧ debugMax (lc 4 run) < 3) ∧
    ((inMode modeActive).mode ≠ modeMaintenance ∧ debugLevel (lc 1 (inMode modeMaintenance)) < 2) ∧
    (let d := lv modeMaintenance 2
     let car (d : Dev) : Dev := ((yes d).setB Reg.tgtDbgStatus 4).setF Reg.tgtDbgStatus 8 9 3
     d.mode = modeMaintenance ∧ 2 ≤ debugLevel (lc 1 d) ∧ carSt (car d) 3 = stFree ∧ carSt (car (carIn 3 stEnabled d)) 3 ≠ stFree) ∧
    ((yes (run.setF Reg.tgtDbgStatus 8 9 3)).fldR Reg.tgtDbgStatus 8 9 = 3 ∧ (yes run).fldR Reg.tgtDbgStatus 8 9 ≠ 3) ∧
    ((lv modeMaintenance 2).bitR Reg.tgtDbgStatus 2 = true ∧ run.bitR Reg.tgtDbgStatus 2 = false) ∧
    ((lv modeRecovery 3).mode = modeRecovery ∧ debugLevel (lv modeRecovery 3) = 3 ∧ 2 ≤ debugLevel (lv modeRecovery 3) ∧ debugLevel (lc 1 (lv modeRecovery 2)) ≠ 3) ∧
    (debugReg 0xF0000000 = false ∧ debugLevel (lc 1 run) = 0 ∧ lifeCycle run ≤ 3 ∧ debugReg (0xF0000000 + Reg.tgtDbgStatus) = true) ∧
    (let d := openTo 9 (lv modeMaintenance 3)
     1 ≤ debugLevel d ∧ debugReg 0xF0100010 = false ∧ denial d ⟨9, .livery⟩ false 0xF0100010 = none ∧ ctlOff 0xF0100010 = some 0x100010 ∧
       debugReg 0x1000000000 = false ∧ denial d ⟨9, .livery⟩ false 0x1000000000 = none ∧ ctlOff 0x1000000000 = none ∧ inDram 0x1000000000 = true ∧
       (denial (lv modeMaintenance 3) ⟨9, .livery⟩ false 0x1000000000).isSome = true ∧ 1 ≤ debugLevel (lv modeMaintenance 3)) := by decide +kernel

/-! Witnesses: the bridge, the memory controllers, repair, the recorder's own events. -/

/-- Window 15 of BAR2 over its first page, at an address in 4 KiB units. -/
def barD (target ctrl : Nat) : Dev :=
  openTo 8 ((((run.wn Reg.hbrBar2Size 30).wn (Reg.hbrWCtrl 15) ctrl).wn (Reg.hbrWLimit 15) 0).wn (Reg.hbrWTarget 15) target)

theorem witness_BridgeRows :
    let d := run.setB Reg.clkStatus 3
    (d.up = true ∧ 1 ≤ 5 ∧ 5 ≤ 5 ∧ 1 ≤ 8 ∧ 8 ≤ 8 ∧ d.bitR Reg.clkStatus 3 = true ∧ (run.clrB Reg.clkStatus 3).bitR Reg.clkStatus 3 = false) ∧
    ((run.setB Reg.hbrStatus 0).bitR Reg.hbrStatus 0 = true ∧ run.bitR Reg.hbrStatus 0 = false) ∧
    (run.hbr.inq = [] ∧ ({ run with hbr := { run.hbr with inq := [(0, 1)] } } : Dev).hbr.inq ≠ []) ∧
    (0x3FFFFFF < 0x4000000 ∧ run.hbr.inq.length < 64 ∧ 64 ≤ ({ run with hbr := { run.hbr with inq := List.replicate 64 (0, 1) } } : Dev).hbr.inq.length) ∧
    (let b := barD 0x1000000 1
     2 ^ 30 - 4 + 4 ≤ 2 ^ b.fldR Reg.hbrBar2Size 0 6 ∧ 1 ≤ 4 ∧ barWin b ((2 ^ 30 - 4) / 4096) = none ∧ barWin b ((4092 + 8 - 1) / 4096) ≠ barWin b (4092 / 4096)) ∧
    (let b := barD 0x1000000 1
     let a := b.fldR (Reg.hbrWTarget 15) 0 28 * 4096 + 0 - b.fldR (Reg.hbrWBase 15) 0 28 * 4096
     barWin b (0 / 4096) = some 15 ∧ barWin b ((0 + 4096 - 1) / 4096) = some 15 ∧ 0 + 4096 ≤ 2 ^ b.fldR Reg.hbrBar2Size 0 6 ∧
       b.bitR (Reg.hbrWCtrl 15) 1 = false ∧ denial b (hostWho b) false a = none ∧ denial b (hostWho b) false (a + 4096 - 1) = none ∧ ctlOff a = none ∧
       inDram a = true ∧ inDram (a + 4096 - 1) = true ∧ (List.replicate 4096 0).length = 4096) ∧
    (let b := barD 0x1000000 3
     let a := b.fldR (Reg.hbrWTarget 15) 0 28 * 4096 + 0 - b.fldR (Reg.hbrWBase 15) 0 28 * 4096
     let e := disarm 8 b
     let c := disarm 8 (b.wn (Reg.tgtRCtrl 0) 0)
     b.bitR (Reg.hbrWCtrl 15) 1 = true ∧ denial e (hostWho b) true a = none ∧ denial e (hostWho b) true (a + 4096 - 1) = none ∧
       (denial c (hostWho b) true a).isSome = true ∧ (denial c (hostWho b) false a).isSome = true) ∧
    (let b := barD 0xF0100 1
     let a := b.fldR (Reg.hbrWTarget 15) 0 28 * 4096 + 0 - b.fldR (Reg.hbrWBase 15) 0 28 * 4096
     denial b (hostWho b) false a = none ∧ denial b (hostWho b) false (a + 4 - 1) = none ∧ (ctlOff a).isSome = true) ∧
    (let b := barD 0x100 1
     let a := b.fldR (Reg.hbrWTarget 15) 0 28 * 4096 + 0 - b.fldR (Reg.hbrWBase 15) 0 28 * 4096
     denial b (hostWho b) false a = none ∧ denial b (hostWho b) false (a + 4 - 1) = none ∧ ctlOff a = none ∧ inDram a = false) := by decide +kernel

/-- A row of channel 3, and the device once an uncorrectable error of it is counted. -/
def rowL : Nat := 2 ^ 27 - 1
def ueD (d : Dev) : Dev :=
  let err (d : Dev) : Dev := (((d.wn (Reg.memCErrLo 3) 768).wn (Reg.memCErrHi 3) (768 / 2 ^ 32 % 2 ^ 8)).wn (Reg.memCErrLoc 3) (rowL + 1 * 2 ^ 27))
  let u := raise (361 + 8 * 3) none rowL 0 (err (d.bump (Reg.memCUe 3)))
  { u with memx := { u.memx with due := u.memx.due ++ [3 * 2 ^ 27 + rowL] } }

theorem witness_MemoryErrors :
    (run.up = true ∧ 3 < 4 ∧ rowL < 2 ^ 27 ∧ 768 / 256 % 4 = 3 ∧ 99 ≤ 100 ∧ 100 ≤ 100) ∧
    (carSt (ueD (setCarSt 511 stEnabled run)) 511 ≠ stFree ∧ carSt (ueD run) 511 = stFree ∧
      (rmapOf (raise (361 + 8 * 3) none rowL 0 run) 3 rowL).isSome = false ∧ 3 * 2 ^ 27 + rowL ∉ run.memx.due) ∧
    (let d := { run with memx := { run.memx with due := [3 * 2 ^ 27 + rowL] } }
     let off (d : Dev) : Dev := { d with memx := { d.memx with due := d.memx.due.filter (fun x => x != 3 * 2 ^ 27 + rowL) } }
     let f := (List.range 16).foldl (fun d k => d.wn (Reg.memCRmap 3 k) (k + 2 ^ 31)) d
     3 * 2 ^ 27 + rowL ∈ d.memx.due ∧ rmapFree (off d) 3 = some 0 ∧ 3 * 2 ^ 27 + rowL ∈ f.memx.due ∧ rmapFree (off f) 3 = none) ∧
    (let d := run.wn (Reg.memCRmap 3 15) (rowL + 2 ^ 30 + 2 ^ 31)
     15 < 16 ∧ d.bitR (Reg.memCRmap 3 15) 31 = true ∧ d.bitR (Reg.memCRmap 3 15) 30 = true ∧ run.bitR (Reg.memCRmap 3 15) 30 = false) := by
  decide +kernel

theorem witness_RepairRows :
    let a := sesD modeActive
    let m := (sesD modeMaintenance).setF Reg.glbMode 4 3 modeStandby
    let h := entry0 [0]
    (takes (spec0 0x903 [0x7FF, 0x3FFFF]) h a = true ∧ (adv a).mode ≠ modeMaintenance) ∧
    (let e := m.wn (Reg.memCPpr 0 0) 0
     let f := m.wn (Reg.memCPpr 0 0) 1
     let x := (List.range 16).foldl (fun d k => d.wn (Reg.memCRmap 0 k) (k + 1 + 2 ^ 31)) f
     takes (spec0 0x903 [0x7FF, 0x3FFFF]) h e = true ∧ (adv e).mode = modeMaintenance ∧ baseMode (adv e) = modeStandby ∧
       fld (entW (cmdP h e) 0) 3 3 < ranksOf (adv e) 0 ∧ (adv e).fldR (Reg.memCPpr 0 (pprGroup (cmdP h e))) 0 4 = 0 ∧
       takes (spec0 0x903 [0x7FF, 0x3FFFF]) (entry0 [0x38]) e = true ∧ ¬ fld (entW (cmdP (entry0 [0x38]) e) 0) 3 3 < ranksOf (adv e) 0 ∧
       takes (spec0 0x903 [0x7FF, 0x3FFFF]) h f = true ∧ (adv f).fldR (Reg.memCPpr 0 (pprGroup (cmdP h f))) 0 4 ≠ 0 ∧
       rmapOf (adv f) 0 (pprLoc (cmdP h f)) = none ∧ rmapFree (adv f) 0 ≠ none ∧
       takes (spec0 0x903 [0x7FF, 0x3FFFF]) h x = true ∧ (adv x).fldR (Reg.memCPpr 0 (pprGroup (cmdP h x))) 0 4 ≠ 0 ∧
       rmapOf (adv x) 0 (pprLoc (cmdP h x)) = none ∧ rmapFree (adv x) 0 = none) ∧
    (let c : CmdSpec := ⟨0x901, false, [7, mAll, 3], [], retireRange⟩
     let t := { m with rpr := { m.rpr with cores := [48, 49] } }
     takes c (entry0 [2, 0, 0]) a = true ∧ takes c (entry0 [2, 16, 0]) m = true ∧ takes c (entry0 [1, 33, 0]) m = true ∧ takes c (entry0 [0, 63, 0]) m = true ∧
       takes c (entry0 [4, 0, 0]) m = true ∧
       takes c (entry0 [3, 0, 0]) t = true ∧ (adv t).mode = modeMaintenance ∧ coreRetire false 0 (adv t) = none ∧
       takes c (entry0 [3, 0, 0]) m = true ∧ (coreRetire false 0 (adv m)).isSome = true) ∧
    takes (spec0 0x902 [7]) (entry0 [7]) a = true := by decide +kernel

theorem witness_RepairEnds :
    (let d := { run.wn (Reg.memCRmap 3 15) (rowL + 2 ^ 31) with memx := { run.memx with ppr := [(5, 3, rowL)] } }
     let e : Dev := { run with memx := { run.memx with ppr := [(5, 3, rowL)] } }
     d.up = true ∧ d.memx.ppr = (5, 3, rowL) :: [] ∧ 15 < 16 ∧ rmapOf { d with memx := { d.memx with ppr := [] } } 3 rowL = some 15 ∧ run.memx.ppr = [] ∧
       e.memx.ppr = (5, 3, rowL) :: [] ∧ rmapOf { e with memx := { e.memx with ppr := [] } } 3 rowL = none) ∧
    (let put (d : Dev) : Dev := { d with rpr := { d.rpr with sramCe := tput d.rpr.sramCe (7 * 2 ^ 24 + 5) d.tim.absRoute } }
     let d := (run.wn Reg.rprCtrl 2).wn (Reg.rprSram 7) 1
     let e := { d with rpr := { d.rpr with sramCe := [(7 * 2 ^ 24 + 5, 0)] } }
     7 < 8 ∧ 5 < 2 ^ 24 ∧ (put d).bitR Reg.rprCtrl 1 = true ∧ (7, 5) ∉ (put d).rpr.copies ∧ sramLeft (put d) 7 ≠ 0 ∧
       tfind e.rpr.sramCe (7 * 2 ^ 24 + 5) = some e.tim.absRoute ∧
       sramLeft (put e) 7 ≠ 0 ∧ tfind d.rpr.sramCe (7 * 2 ^ 24 + 5) ≠ some d.tim.absRoute ∧ sramLeft (put (d.wn (Reg.rprSram 7) 0)) 7 = 0) ∧
    ((7, 5) ∈ ({ run with rpr := { run.rpr with copies := [(7, 5)] } } : Dev).rpr.copies ∧ (7, 5) ∉ run.rpr.copies) ∧
    (bitOf (1 : Word).toNat 0 = true ∧ (inMode modeMaintenance).mode = modeMaintenance ∧ (inMode modeActive).mode ≠ modeMaintenance ∧
      (inMode modeActive).mode ≠ modeBoot ∧ (inMode modeBoot).mode = modeBoot) ∧
    ((run.setB Reg.rprFuseStatus 0).bitR Reg.rprFuseStatus 0 = true ∧ run.bitR Reg.rprFuseStatus 0 = false) := by decide +kernel

/-- Recorder 15 in a state, leg 100 declared. -/
def recL (st : Nat) (x : Recdr) : Dev :=
  setRecState 15 st (setRecdr 15 x { run with sau := { run.sau with declared := some 100 } })

/-- Leg 100 taken without reports, late. -/
def takenL (d : Dev) : Dev :=
  completeUpTo 15 100 false (recRms [] 15 100 (keepTerms 15 100 (writeBlock 15 100 true (raise 331 none 15 100 (d.bump Reg.drcGapCnt)))))

theorem witness_RecorderEvents :
    (run.up = true ∧ 15 < 16 ∧ recState (recL rIdle Recdr.empty) 15 = rIdle ∧ run.sau.declared = none) ∧
    (let d := recL rArmed { Recdr.empty with next := some 101 }
     d.sau.declared = some 100 ∧ 100 < (recdr d 15).next.getD 100) ∧
    (let d := recL rFull { Recdr.empty with next := some 100 }
     (recdr d 15).next.getD 100 ≤ 100 ∧ recState d 15 = rFull) ∧
    (let d := recL rArmed { Recdr.empty with next := some 100 }
     let f (n : Nat) := recL rArmed { Recdr.empty with next := some 100, trig := some ⟨0, 0, false, false, 0, 0, 99, n⟩ }
     (recdr d 15).next.getD 100 ≤ 100 ∧ recState d 15 = rArmed ∧ reports d (recdr d 15) 100 = [] ∧ (recdr (takenL d) 15).trig = none ∧
       recState (f 100) 15 = rArmed ∧ reports (f 100) (recdr (f 100) 15) 100 = [] ∧
       (recdr (takenL (f 100)) 15).trig = some ⟨0, 0, false, false, 0, 0, 99, 100⟩ ∧
       reports (f 101) (recdr (f 101) 15) 100 = [] ∧ (recdr (takenL (f 101)) 15).trig = some ⟨0, 0, false, false, 0, 0, 99, 101⟩) ∧
    (let d := run.setB (Reg.drcTrigCfg 7) 8
     7 < 8 ∧ (run.clrB (Reg.drcTrigCfg 7) 8).bitR (Reg.drcTrigCfg 7) 8 = false ∧ d.bitR (Reg.drcTrigCfg 7) 8 = true) ∧
    (let d := (run.wn (Reg.drcItStatus 3) 2).wn (Reg.drcItCfg 3) 0
     3 < 4 ∧ itState run 3 ≠ 2 ∧ itState d 3 = 2 ∧ (itGet d 3).2.2 + d.fldR (Reg.drcItCfg 3) 16 16 ≤ d.tim.absLeg ∧
       (let e := d.wn (Reg.drcItCfg 3) 0x10000
        itState e 3 = 2 ∧ e.tim.absLeg < (itGet e 3).2.2 + e.fldR (Reg.drcItCfg 3) 16 16)) ∧
    (bitOf (255 : Word).toNat 31 = false ∧ bitOf (0x80000000 : Word).toNat 31 = true) := by decide +kernel

/-! Witnesses: supervision and accesses of the control space. -/

theorem witness_SupervisedCauses :
    run.up = true ∧ 1 < 2 ∧ run.bitR Reg.tgtDbgStatus 3 = false ∧ (run.setB Reg.tgtDbgStatus 3).bitR Reg.tgtDbgStatus 3 = true ∧
    (run.wn Reg.glbId 0).bitR Reg.glbId 16 = false ∧ (115 : Int) ≤ 115 ∧ ((105 : Int) ≤ 112 ∧ (112 : Int) ≤ 112) ∧
    ((102 : Int) < 103 ∧ (104 : Int) < 105) ∧ (102 : Int) ≤ 102 := by
  refine ⟨?_, ?_, ?_, ?_, ?_, ?_, ?_, ?_⟩
  · decide +kernel
  · decide +kernel
  · decide +kernel
  · decide +kernel
  · rw [Dev.bitR, Dev.rn_wn_same]; decide
  all_goals decide +kernel

/-- The running device after a raise of source 328. -/
def lat328 : Dev := raise 328 none 0 0 run

theorem witness_SourceLatches :
    (srcExists 328 = true ∧ 328 < 416 ∧ lat328.bitR (Reg.supSrcStatus 328) 1 = true ∧ lat328.up = true ∧ srcExists 415 = false) ∧
    (srcPresent lat328 328 = true ∧ srcPresent run 328 = false) ∧ 31 < 32 ∧
    (unitOf 328 < 32 ∧ lat328.bitR (Reg.supSrcStatus 328) 1 = true) ∧
    ((List.range 416).all (fun n => unitOf n != 6 || !run.bitR (Reg.supSrcStatus n) 1) = true ∧ privileged 6 = false) ∧
    (evtReg 328 ≠ some Reg.clkEvt ∧ Reg.clkEvt ≠ Reg.supSrcStatus 328 ∧ Reg.clkEvt ≠ Reg.supClrResult ∧ 31 ≠ evtBit 328 ∧ (evtReg 328).isSome = true) := by
  refine ⟨?_, ?_, ?_, ?_, ?_, ?_⟩ <;> decide +kernel

theorem witness_RegisterAccess :
    let host : Who := ⟨9, .livery⟩
    let row (d : Dev) (o : Nat) := (rowAt d o).map (fun r => r.acc)
    let act := inMode modeActive
    (run.up = true ∧ rowAt run 0xFFFFFC = none ∧ 2 ≠ 4 ∧ (rowAt run Reg.hbrCplTo).isSome = true) ∧
    (liveryWho.master ≠ 9 ∧ (denial (disarm 0 act) liveryWho true (ctlAddr Reg.hbrCplTo)).isSome = true ∧
      denial (disarm 0 (openTo 0 act)) liveryWho true (ctlAddr Reg.hbrCplTo) = none ∧ (denial act liveryWho true (ctlAddr Reg.sbxZero)).isSome = true ∧
      denial (openTo 0 act) liveryWho true (ctlAddr Reg.sbxZero) = none) ∧
    (host.master = 9 ∧ debugLevel (run.setF Reg.sbxLc 0 3 1) < 1 ∧ 2 ≤ debugLevel run) ∧
    ((regRow? (Reg.ethRxFrames 10)).map (fun r => r.acc) = some .rc ∧ (denial act liveryWho false (ctlAddr (Reg.ethRxFrames 10))).isSome = true ∧
      denial (openTo 0 act) liveryWho false (ctlAddr (Reg.ethRxFrames 10)) = none ∧ row run (Reg.ethRxFrames 10) = some .rc ∧
      freeWin run (Reg.ethRxFrames 10) = false ∧ (regRow? Reg.hbrCplTo).map (fun r => r.acc) ≠ some .rc) ∧
    ((rowAt run Reg.hbrCplTo).map (fun r => (r.acc, inRanges r 5, inRanges r 4)) = some (.rw, true, false) ∧ freeWin run Reg.hbrCplTo = false) ∧
    (row run Reg.clkStatus = some .ro ∧ freeWin run Reg.clkStatus = false ∧ Reg.clkStatus ≠ Reg.sbxStatus ∧ row run Reg.sbxStatus = some .ro ∧
      bitOf (8 : Word).toNat 3 = true) ∧
    ((rowAt run (Reg.carVecCtrl 511 0)).isSome = true ∧ freeWin run (Reg.carVecCtrl 511 0) = true) ∧
    (row run (Reg.cmdSCfg 0) = some .rwb ∧ freeWin run (Reg.cmdSCfg 0) = false ∧ (run.setB Reg.tgtStatus 0).bitR Reg.tgtStatus 0 = true ∧
      act.bitR Reg.tgtStatus 0 = false ∧ act.mode ≠ modeBoot) ∧
    ((rowAt run (Reg.ethMaxlen 10)).map (fun r => (r.acc, inRanges r 9216)) = some (.rwm, true) ∧ freeWin run (Reg.ethMaxlen 10) = false ∧
      act.mode ≠ modeMaintenance ∧ act.mode ≠ modeBoot) ∧
    (5 ≤ fld (5000 : Word).toNat 0 13 ∧ fld (5000 : Word).toNat 0 13 ≤ 5000) := by decide +kernel

theorem witness_DiagnosticCommands :
    let a := sesD modeActive
    let m := sesD modeMaintenance
    takes (spec0 0xA00 [mAll, 3]) (entry0 [0xFFFFFFFC, 3]) a = true ∧
    (takes (spec0 0xA01 [mAll, mAll]) (entry0 [0, 0]) m = true ∧ (adv m).mode = modeMaintenance ∧
      takes (spec0 0xA01 [mAll, mAll]) (entry0 [0, 0]) a = true ∧ (adv a).mode ≠ modeMaintenance) ∧
    (let c : CmdSpec := ⟨0xA02, false, [0xF, 1], [], fun p => if 10 < entW p 0 then some 0 else none⟩
     takes c (entry0 [10, 1]) m = true ∧ takes c (entry0 [10, 1]) a = true) ∧
    takes ⟨0xA03, false, [0xF, 0xFFFF], [], fun p => if 10 < entW p 0 then some 0 else none⟩ (entry0 [10, 0xFFFF]) a = true ∧
    (let c : CmdSpec := ⟨0xA04, false, [3, 1], [], fun p => if entW p 0 = 3 then some 0 else none⟩
     takes c (entry0 [2, 1]) m = true ∧ takes c (entry0 [2, 1]) a = true) := by decide +kernel

/-! Worked examples of the spec. -/

/-- 00 R13 and 02 R43: tick 5 of leg 37 of route 1,000; local time 1,700,000,000 s and 123,456,789 ns. -/
theorem test_tick_codes :
    tickCodeOf (1000 * 3840 + 37 * 16 + 5) = 0x003E8255 ∧
    ({ Tim.reset with sec := 1700000000, ns := 123456789 } : Tim).tickCode = 0xED402709 := by decide +kernel

/-- 03 R85: a port at 25GBASE-R with a longest frame of 1,522 has a GUARD of 379 cycles. -/
theorem test_guard_cycles : guardOf (run.setF (Reg.ethMaxlen 0) 0 14 1522) 0 = 379 := by decide +kernel

/-- 04 R104: units of streams of 8 channels at the three rates and of 24 channels at the highest. -/
theorem test_stream_units :
    [(8, 0), (8, 1), (8, 2), (24, 2)].map (fun p =>
      entCost ([putFld (putFld 0 4 5 p.1) 9 2 p.2] ++ List.replicate 23 0)) = [1, 3, 20, 60] := by decide +kernel

/-- The scan of the feeder carriage of 07: zone 2 operated, the timer one scan from its end. -/
def feederX : HCtx :=
  { hX 0 0x1200 0x5A00 [] with leg := 1540, inp := [(0x15, 0x40)], tims := [(0, ⟨0x59F0, false, true, some 1539⟩)] }

/-- 07: zone 2 sets the trip bit through TON in the scan where ET reaches 23,040, counts the edge, and a set blocking bit holds it. -/
theorem test_feeder_program :
    let code := [0x040002A6, 0x0A009005, 0x40000000, 0x0C000286, 0x0C000140, 0x0C000141, 0x0C000142, 0x2C020000, 0x38010000, 0x84000C00]
    (let y := code.foldl (fun x w => hInstr w x) feederX
     y.acc = true ∧ (hTim y 0).et = 23040 ∧ hBit y 0x20000 = true ∧ hBit y 0x10000 = true ∧ hWord y 0xC00 = 1) ∧
    hBit (code.foldl (fun x w => hInstr w x) { feederX with inp := [(0x15, 0x40), (0x480, 0x20)] }) 0x20000 = false ∧
    scanCost (setHcar 17 { HCar.empty with prog := some ⟨[], code ++ [0xC4000000], []⟩ } run) 17 = 35 := by decide +kernel

/-- 07: the TON of the monitoring carriage after the skipped scans of legs 503 to 505, and at leg 510. -/
theorem test_timer_after_skips :
    (hTmrStep 0 true 160 (hDelta { hX 0 0x800 0 [] with leg := 506 } ⟨32, false, true, some 502⟩) ⟨32, false, true, some 502⟩).et = 96 ∧
    (hTmrStep 0 true 160 (hDelta { hX 0 0x800 0 [] with leg := 510 } ⟨144, false, true, some 509⟩) ⟨144, false, true, some 509⟩).q = true := by
  decide +kernel

/-- 08 R249: the words of carriage 17's Harness stage seat. -/
theorem test_seat_words :
    let w := [0x80110302, 0x002303E8, 0x00000100, 0x00010000]
    (stKind w, stColumn w, stCar w, stStart w, stLen w, stBase w, stDiv w) = (2, 3, 17, 1000, 35, 0, 1) ∧ stClass w = 0 ∧ exclOk w = true := by
  decide +kernel

/-- 09 R271: timeAllowedToLive of the three intervals. -/
theorem test_time_allowed : [154, 308, 616].map (talOf 2) = [5, 9, 17] := by decide

/-- 07 R222: a time allowed to live of 5 ms is 384 ticks. -/
theorem test_alive : aliveUntil 1000 5 = 1384 := by decide

/-- 10 R297: queue 5 of carriage 17. -/
theorem test_queue_number : qNum 17 5 = 34821 := by decide

/-- 12 R362: the entry of the binary-input card. -/
theorem test_seat_entry :
    let e := 0x0C28C089
    (seSeat e, seBase e, seDiv e, seOwner e, seKind e) = (9, 2, 4, 5, 0) ∧ seApplies e 238 9 0 = true ∧ seApplies e 236 9 1 = false := by
  decide

/-- 14 R436: one channel at 4,800 samples/s and MAX_LEGS 960. -/
theorem test_slot_bytes :
    let w := ((takePad 0 152 []).set 2 960).set 0 65536
    rdMax w = 960 ∧ rdNch w = 1 ∧ blockBytes run w = 36 ∧ slotBytes run w = 35008 := by decide +kernel

/-- 05 R150: shift and factor of the two pre-decimators. -/
theorem test_normalising :
    (normS 27, normK 27) = (28, 9942054) ∧ (normS 8000, normK 8000) = (36, 8589935) := by decide +kernel

/-- 14 R428: a STOP 50 ms and 3 taps after the START. -/
theorem test_interval :
    let d := itDone 0 1228800003 run
    d.rn (Reg.drcItValLo 0) = 0x493E0003 ∧ d.rn (Reg.drcItValHi 0) = 0 ∧ itState d 0 = 3 := by decide +kernel

/-- 15 R443: LINK_DOWN of ETH block 3 is source 120 of unit 10. -/
theorem test_link_down_source :
    unitOf 120 = 10 ∧ (linkGoesDown 3 (run.setB (Reg.ethStatus 3) 0)).bitR (Reg.supSrcStatus 120) 1 = true := by decide +kernel

end Sys2Proof.Tests
end

section
/-! SUPPORT and PROOF. The batch of a tick: the operation that orders it is a stable insertion sort by `batchKey`, and that number
orders the inputs as class, source and unit do (02 R62 to R64, log 7). -/

namespace Sys2Proof.Machine

/-! The order of a batch. -/

theorem batchPut_perm (i : Instr) (l : List Instr) : (batchPut i l).Perm (i :: l) := by
  induction l with
  | nil => exact .refl _
  | cons j l ih =>
    rw [batchPut]
    split
    next => exact .refl _
    next => exact (ih.cons j).trans (.swap i j l)

theorem batchOrder_perm (l : List Instr) : (batchOrder l).Perm l := by
  induction l with
  | nil => exact .refl _
  | cons i l ih => exact (batchPut_perm i (batchOrder l)).trans (ih.cons i)

/-- A command put into an ordered batch stands after no larger key and before no smaller one. -/
theorem batchPut_pairwise (i : Instr) {l : List Instr} (h : l.Pairwise (fun a b => batchKey a ≤ batchKey b)) :
    (batchPut i l).Pairwise (fun a b => batchKey a ≤ batchKey b) := by
  induction l with
  | nil => exact List.pairwise_singleton _ i
  | cons j l ih =>
    obtain ⟨hj, hl⟩ := List.pairwise_cons.mp h
    rw [batchPut]
    split
    next hij =>
      refine List.pairwise_cons.mpr ⟨fun b hb => ?_, h⟩
      rcases List.mem_cons.mp hb with rfl | hb
      · exact hij
      · exact Nat.le_trans hij (hj b hb)
    next hij =>
      refine List.pairwise_cons.mpr ⟨fun b hb => ?_, ih hl⟩
      rcases List.mem_cons.mp ((batchPut_perm i l).mem_iff.mp hb) with rfl | hb
      · exact Nat.le_of_not_le hij
      · exact hj b hb

theorem batchOrder_pairwise (l : List Instr) : (batchOrder l).Pairwise (fun a b => batchKey a ≤ batchKey b) := by
  induction l with
  | nil => exact .nil
  | cons i l ih => exact batchPut_pairwise i ih

/-- A command is put before the commands of its own key: it passes smaller keys alone. -/
theorem filter_batchPut (k : Nat) (i : Instr) (l : List Instr) :
    (batchPut i l).filter (fun x => batchKey x == k) = (i :: l).filter (fun x => batchKey x == k) := by
  induction l with
  | nil => rfl
  | cons j l ih =>
    rw [batchPut]
    split
    next => rfl
    next hji =>
      rw [List.filter_cons, ih]
      by_cases hi : batchKey i = k
      · have hj : batchKey j ≠ k := by omega
        simp [hi, hj]
      · simp [hi, List.filter_cons]

/-- Commands of one key stay in the order of their arrival. -/
theorem filter_batchOrder (k : Nat) (l : List Instr) :
    (batchOrder l).filter (fun x => batchKey x == k) = l.filter (fun x => batchKey x == k) := by
  induction l with
  | nil => rfl
  | cons i l ih => rw [batchOrder, filter_batchPut, List.filter_cons, List.filter_cons, ih]

/-! The key of a batch. -/

theorem batchKey_of_rank {i : Instr} {c n u : Nat} (h : inputRank i = some (c, n, u)) :
    batchKey i = c * 2 ^ 20 + n % 2 ^ 10 * 2 ^ 10 + u % 2 ^ 10 := by
  rw [batchKey, h]

theorem batchKey_of_noRank {i : Instr} (h : inputRank i = none) : batchKey i = 0 := by
  rw [batchKey, h]

/-- The classes of R63 are counted from 1. -/
theorem inputRank_class_pos {i : Instr} {c n u : Nat} (h : inputRank i = some (c, n, u)) : 1 ≤ c := by
  unfold inputRank at h
  split at h <;> cases h <;> decide

theorem batchKey_lt_iff {a b : Instr} {c n u c' n' u' : Nat} (ha : inputRank a = some (c, n, u))
    (hb : inputRank b = some (c', n', u')) (hn : n < 1024) (hu : u < 1024) (hn' : n' < 1024) (hu' : u' < 1024) :
    batchKey a < batchKey b ↔ c < c' ∨ (c = c' ∧ (n < n' ∨ (n = n' ∧ u < u'))) := by
  rw [batchKey_of_rank ha, batchKey_of_rank hb]
  omega

theorem batchKey_lt_of_noRank {a b : Instr} {c n u : Nat} (ha : inputRank a = none) (hb : inputRank b = some (c, n, u)) :
    batchKey a < batchKey b := by
  have hc := inputRank_class_pos hb
  rw [batchKey_of_noRank ha, batchKey_of_rank hb]
  omega

/-- Settles O60: the batch is a stable insertion sort by `batchKey`, and that key orders the inputs of R62 as R63 does. -/
theorem tickBatchIsOrdered : Obligations.TickBatchIsOrdered := by
  unfold Obligations.TickBatchIsOrdered
  refine ⟨fun l => ⟨batchOrder_perm l, batchOrder_pairwise l, fun k => filter_batchOrder k l⟩, ?_, ?_, ?_⟩
  · intro a b c n u c' n' u' ha hb hn hu hn' hu'
    exact batchKey_lt_iff ha hb hn hu hn' hu'
  · intro a b c n u ha hb
    exact batchKey_lt_of_noRank ha hb
  · exact fun s l => ⟨rfl, rfl, rfl⟩

end Sys2Proof.Machine
end

section
/-! SUPPORT and PROOF. Register accesses (00_scope R7 to R11, R585; 17 R520 to R527): what the rows of an access do on a device that
runs, what the Tollgate lets through, and what a write or a read-to-clear does by the access code of its register. -/

namespace Sys2Proof.Machine

/-! The rows, on a device that runs. -/

theorem exec_reservedAccess_up {s : State} (h : s.dev.up = true) (off bytes : Nat) (w : Bool) :
    exec (.reservedAccess off bytes w) s = .next (s.commit (reservedHit off bytes w s.dev)) :=
  State.act_up s _ h

theorem exec_registerWrite_up {s : State} (h : s.dev.up = true) (who : Who) (off : Nat) (v : Word) :
    exec (.registerWrite who off v) s = .next (s.commit
      (if who.master = 9 && debugLevel s.dev < 2 then s.dev else gatedWrite who off v.toNat s.mem s.dev)) :=
  State.actM_up s (fun m d => if who.master = 9 && debugLevel d < 2 then d else gatedWrite who off v.toNat m d) h

theorem exec_rcRead_up {s : State} (h : s.dev.up = true) (who : Who) (off : Nat) :
    exec (.rcRead who off) s = .next (s.commit
      (onlyIf ((regRow? off).any (fun r => r.acc == .rc) && (who.master != 9 || 1 ≤ debugLevel s.dev)) (gatedRead who off) s.dev)) :=
  State.act_up s _ h

/-! Accesses that name no register (R7, R8). -/

theorem reservedHit_reserved {d : Dev} {off bytes : Nat} (h : bytes ≠ 4 ∨ rowAt d off = none) (w : Bool) :
    reservedHit off bytes w d =
      if w then raise 48 none off 1 d else (raise 48 none off 0 d).emit (.readData 0) := by
  have hb : (bytes != 4 || (rowAt d off).isNone) = true := by simpa using h
  rw [reservedHit, hb, onlyIf_true]
  cases w <;> rfl

theorem reservedHit_register {d : Dev} {off : Nat} (h : rowAt d off ≠ none) (w : Bool) : reservedHit off 4 w d = d := by
  have hb : ((4 : Nat) != 4 || (rowAt d off).isNone) = false := by simpa [Option.isSome_iff_ne_none] using h
  rw [reservedHit, hb, onlyIf_false]

/-! The debug port's levels, and the Tollgate before a write and a read (R520, R521, R525 to R527). -/

theorem exec_registerWrite_gated {s : State} (h : s.dev.up = true) {who : Who} (hd : who.master ≠ 9 ∨ 2 ≤ debugLevel s.dev)
    (off : Nat) (v : Word) :
    exec (.registerWrite who off v) s = .next (s.commit (gatedWrite who off v.toNat s.mem s.dev)) := by
  rw [exec_registerWrite_up h, if_neg]
  simp only [Bool.and_eq_true, decide_eq_true_eq]
  omega

theorem exec_registerWrite_noLevel {s : State} (h : s.dev.up = true) {who : Who} (hm : who.master = 9)
    (hl : debugLevel s.dev < 2) (off : Nat) (v : Word) :
    exec (.registerWrite who off v) s = .next (s.commit s.dev) := by
  rw [exec_registerWrite_up h, if_pos]
  simp [hm, hl]

theorem exec_rcRead_gated {s : State} (h : s.dev.up = true) {who : Who} (hd : who.master ≠ 9 ∨ 1 ≤ debugLevel s.dev)
    {off : Nat} {r : RegRow} (hr : regRow? off = some r) (hrc : r.acc = .rc) :
    exec (.rcRead who off) s = .next (s.commit (gatedRead who off s.dev)) := by
  have hb : ((regRow? off).any (fun r => r.acc == .rc) && (who.master != 9 || 1 ≤ debugLevel s.dev)) = true := by
    simpa [hr, hrc] using hd
  rw [exec_rcRead_up h, hb, onlyIf_true]

theorem exec_rcRead_noLevel {s : State} (h : s.dev.up = true) {who : Who} (hm : who.master = 9)
    (hl : debugLevel s.dev < 1) (off : Nat) : exec (.rcRead who off) s = .next (s.commit s.dev) := by
  have hb : ((regRow? off).any (fun r => r.acc == .rc) && (who.master != 9 || 1 ≤ debugLevel s.dev)) = false := by
    simp [hm, Nat.lt_one_iff.mp hl]
  rw [exec_rcRead_up h, hb, onlyIf_false]

theorem exec_rcRead_notRc {s : State} (h : s.dev.up = true) (who : Who) {off : Nat}
    (hr : ∀ r, regRow? off = some r → r.acc ≠ .rc) : exec (.rcRead who off) s = .next (s.commit s.dev) := by
  have hb : (regRow? off).any (fun r => r.acc == .rc) = false := by
    cases hrow : regRow? off with
    | none => rfl
    | some r => simpa using hr r hrow
  rw [exec_rcRead_up h, hb, Bool.false_and, onlyIf_false]

/-- The device as a write by a master meets the Tollgate: no sequence of that master armed, but at the registers of the sequence. -/
def beforeWrite (mst off : Nat) (d : Dev) : Dev :=
  if off = Reg.sbxUnlock ∨ off = Reg.sbxZero ∨ off = Reg.sbxTlogClr then d else disarm mst d

theorem gatedWrite_denied {d : Dev} {w : Who} {off n : Nat}
    (h : denial (beforeWrite w.master off d) w true (ctlAddr off) = some n) (v : Nat) (m : List Host.Cell) :
    gatedWrite w off v m d = denied n w true (ctlAddr off) (beforeWrite w.master off d) := by
  rw [beforeWrite] at h ⊢
  simp only [gatedWrite, Bool.or_eq_true, decide_eq_true_eq, or_assoc, h]

theorem gatedWrite_permitted {d : Dev} {w : Who} {off : Nat}
    (h : denial (beforeWrite w.master off d) w true (ctlAddr off) = none) (v : Nat) (m : List Host.Cell) :
    gatedWrite w off v m d = writeReg w.master off v m (beforeWrite w.master off d) := by
  rw [beforeWrite] at h ⊢
  simp only [gatedWrite, Bool.or_eq_true, decide_eq_true_eq, or_assoc, h]

theorem gatedRead_denied {d : Dev} {w : Who} {off n : Nat} (h : denial d w false (ctlAddr off) = some n) :
    gatedRead w off d = (denied n w false (ctlAddr off) d).emit (.readData 0) := by
  rw [gatedRead, h]

theorem gatedRead_permitted {d : Dev} {w : Who} {off : Nat} (h : denial d w false (ctlAddr off) = none) :
    gatedRead w off d = (if w.master = 9 then d else readEffect off d).emit (.readData (w32 (readReg d off))) := by
  rw [gatedRead, h]

/-! Writes and reads by access code (R11, R318, R522, R585). -/

theorem writeReg_reserved {d : Dev} {off : Nat} (h : rowAt d off = none) (mst v : Nat) (m : List Host.Cell) :
    writeReg mst off v m d = raise 48 none off 1 d := by
  rw [writeReg, h]

theorem writeReg_freeWin {d : Dev} {off : Nat} {r : RegRow} (hr : rowAt d off = some r) (hf : freeWin d off = true)
    (mst v : Nat) (m : List Host.Cell) : writeReg mst off v m d = d := by
  rw [writeReg, hr]
  exact if_pos hf

theorem rwbWrite_locked {d : Dev} (h : d.bitR Reg.tgtStatus 0 = true) (mst off v : Nat) (r : RegRow) :
    rwbWrite mst r off v d = raiseH 82 none off mst (mst * 16 + 256) ((0xF0000000 + off) / 4096) d :=
  if_pos h

/-- Unlocked RWB registers take writes of boot code alone. -/
theorem rwbWrite_notBoot {d : Dev} (h : d.bitR Reg.tgtStatus 0 = false) {mst : Nat} (hb : byBoot d mst = false) (off v : Nat)
    (r : RegRow) : rwbWrite mst r off v d = d := by
  rw [rwbWrite, if_neg (by simp [h]), if_pos (by simp [hb])]

theorem byBoot_false {d : Dev} {mst : Nat} (h : d.mode ≠ modeBoot ∨ 1 < mst) : byBoot d mst = false := by
  rcases h with h | h <;> simp [byBoot, h]

theorem rwm_refused {d : Dev} (hb : d.mode ≠ modeBoot) (hm : d.mode ≠ modeMaintenance) (f : Dev → Dev) :
    rwm d f = raise 49 none 0 0 d :=
  if_neg (by simp [hb, hm])

/-- Outside Maintenance an RWM register takes writes of boot code in Boot alone; any other in range latches source 49 (log 55). -/
theorem rwmReg_refused {d : Dev} {mst : Nat} {r : RegRow} {v : Nat} (hv : inRanges r v = true)
    (hm : d.mode ≠ modeMaintenance) (hb : d.mode ≠ modeBoot ∨ 1 < mst) (off : Nat) :
    rwmReg mst r off v d = raise 49 none 0 0 d := by
  by_cases h : d.mode = modeBoot
  · rw [rwmReg, if_pos (by simp [h, byBoot_false hb]), if_pos hv]
  · rw [rwmReg, if_neg (by simp [h])]
    simp only [cdrvSel, fuseCommit, rwm_refused h hm, hv, if_true, ite_self]

section
variable {d : Dev} {off : Nat} {r : RegRow} (hr : rowAt d off = some r) (hf : freeWin d off = false) (mst v : Nat)
  (m : List Host.Cell)
include hr hf

theorem writeReg_rc (ha : r.acc = .rc) : writeReg mst off v m d = d := by
  simp [writeReg, hr, hf, ha]

theorem writeReg_ro (ha : r.acc = .ro) :
    writeReg mst off v m d = if off = Reg.sbxStatus ∧ bitOf v 3 = true then d.clrB off 3 else d := by
  simp [writeReg, hr, hf, ha]

theorem writeReg_rw_inRange (ha : r.acc = .rw) (hv : inRanges r v = true) : writeReg mst off v m d = rwWrite r off v d := by
  simp [writeReg, hr, hf, ha, hv]

theorem writeReg_rw_outOfRange (ha : r.acc = .rw) (hv : inRanges r v = false) : writeReg mst off v m d = d := by
  simp [writeReg, hr, hf, ha, hv]

theorem writeReg_rwb_locked (ha : r.acc = .rwb) (hk : d.bitR Reg.tgtStatus 0 = true) :
    writeReg mst off v m d = raiseH 82 none off mst (mst * 16 + 256) ((0xF0000000 + off) / 4096) d := by
  simp [writeReg, hr, hf, ha, hk, rwbWrite_locked hk]

theorem writeReg_rwb_ignored (ha : r.acc = .rwb) (hk : d.bitR Reg.tgtStatus 0 = false)
    (hi : inRanges r v = false ∨ d.mode ≠ modeBoot ∨ 1 < mst) : writeReg mst off v m d = d := by
  rcases hi with hv | hb
  · simp [writeReg, hr, hf, ha, hk, hv]
  · simp [writeReg, hr, hf, ha, rwbWrite_notBoot hk (byBoot_false hb)]

theorem writeReg_rwm_refused (ha : r.acc = .rwm) (hv : inRanges r v = true) (hm : d.mode ≠ modeMaintenance)
    (hb : d.mode ≠ modeBoot ∨ 1 < mst) : writeReg mst off v m d = raise 49 none 0 0 d := by
  simp [writeReg, hr, hf, ha, rwmReg_refused hv hm hb off]

end

@[simp] theorem takeSnap_regs (d : Dev) : (takeSnap d).regs = d.regs := rfl

@[simp] theorem latchHigh_regs (off : Nat) (d : Dev) : (latchHigh off d).regs = d.regs := rfl

/-- A read of a read-to-clear register ends with the register cleared, or with SWC_FREE_MIN at the free cells; what comes before
touches the latched high words and the time snapshot, and no register. -/
theorem readEffect_rc {d : Dev} {off : Nat} {r : RegRow} (hr : rowAt d off = some r) (hf : freeWin d off = false)
    (hrc : r.acc = .rc) : ∃ e : Dev, e.regs = d.regs ∧
      readEffect off d = if off = Reg.swcFreeMin then e.wr off (e.rd Reg.swcFree) else e.wn off 0 := by
  rw [readEffect, hr]
  dsimp only
  rw [if_neg (by simp [hf]), if_neg (by simp [hrc])]
  refine ⟨_, ?_, rfl⟩
  simp only [apply_ite Dev.regs, takeSnap_regs, latchHigh_regs, ite_self]

theorem rn_readEffect_rc {d : Dev} {off : Nat} {r : RegRow} (hr : rowAt d off = some r) (hf : freeWin d off = false)
    (hrc : r.acc = .rc) : (readEffect off d).rn off = if off = Reg.swcFreeMin then d.rn Reg.swcFree else 0 := by
  obtain ⟨e, he, heq⟩ := readEffect_rc hr hf hrc
  have hfree : e.rd Reg.swcFree = d.rd Reg.swcFree := congrArg (rfRead · Reg.swcFree) he
  rw [heq]
  split
  · rw [Dev.rn, Dev.rd_wr_same, hfree, Dev.rn]
  · exact Dev.rn_wn_same e off 0

/-! The completion timeout, 13 bits with the range 5 to 5000 (R585). -/

theorem rowAt_hbrCplTo (d : Dev) :
    rowAt d Reg.hbrCplTo = some ⟨Reg.hbrCplTo, [], .rw, 0x3e8, 0x1fff, [(0, 13, 5, 5000)]⟩ := rfl

/-- HBR_CPL_TO has no effect of its own beside the store. -/
theorem rwWrite_hbrCplTo (r : RegRow) (v : Nat) (d : Dev) : rwWrite r Reg.hbrCplTo v d = store r Reg.hbrCplTo v d := rfl

theorem writeReg_hbrCplTo {v : Word} (hl : 5 ≤ fld v.toNat 0 13) (hu : fld v.toNat 0 13 ≤ 5000) (mst : Nat)
    (m : List Host.Cell) (d : Dev) :
    writeReg mst Reg.hbrCplTo v.toNat m d =
      d.wr Reg.hbrCplTo ((d.rd Reg.hbrCplTo &&& 0xFFFFE000#32) ||| (v &&& 0x1FFF#32)) := by
  rw [writeReg_rw_inRange (rowAt_hbrCplTo d) rfl mst v.toNat m rfl (by simp [inRanges, hl, hu]), rwWrite_hbrCplTo]
  simp [store, w32]

/-- Settles O58, clause by clause: the Tollgate's lemmas for the rows, the access code's for a write of a register. -/
theorem registerAccess : Obligations.RegisterAccess := by
  intro s who off bytes mst v hup d own d'
  have hd' : d' = beforeWrite who.master off d := rfl
  rw [hd']
  refine ⟨?reserved, ?register, ?gatedWrite, ?noWriteLevel, ?rcRead, ?notRc, ?writeReserved, ?freeWindow, ?byCode, ?cplTimeout⟩
  case reserved =>
    intro h
    rw [exec_reservedAccess_up hup, exec_reservedAccess_up hup, reservedHit_reserved h, reservedHit_reserved h]
    exact ⟨rfl, rfl⟩
  case register =>
    intro h4 hr w
    rw [exec_reservedAccess_up hup, h4, reservedHit_register hr]
  case gatedWrite =>
    intro hd
    rw [exec_registerWrite_gated hup hd]
    exact ⟨fun n hn => by rw [gatedWrite_denied hn], fun hn => by rw [gatedWrite_permitted hn]⟩
  case noWriteLevel => exact fun hm hl => exec_registerWrite_noLevel hup hm hl off v
  case rcRead =>
    intro r hr hrc
    refine ⟨fun hm hl => exec_rcRead_noLevel hup hm hl off, fun hd => ?_⟩
    rw [exec_rcRead_gated hup hd hr hrc]
    exact ⟨fun n hn => by rw [gatedRead_denied hn], fun hn => by rw [gatedRead_permitted hn]⟩
  case notRc => exact exec_rcRead_notRc hup who
  case writeReserved => exact fun hr => writeReg_reserved hr mst v.toNat s.mem
  case freeWindow => exact fun r hr hf => writeReg_freeWin hr hf mst v.toNat s.mem
  case byCode =>
    intro r hr hf
    exact ⟨rn_readEffect_rc hr hf, writeReg_rc hr hf mst v.toNat s.mem, writeReg_ro hr hf mst v.toNat s.mem,
      writeReg_rw_outOfRange hr hf mst v.toNat s.mem, writeReg_rwb_locked hr hf mst v.toNat s.mem,
      writeReg_rwb_ignored hr hf mst v.toNat s.mem, writeReg_rwm_refused hr hf mst v.toNat s.mem⟩
  case cplTimeout => exact fun hl hu => writeReg_hbrCplTo hl hu mst s.mem d

end Sys2Proof.Machine
end

section
/-! SUPPORT and PROOF. The time commands (01 R18; 02 R46, R49, R51, R55, R66): what the own part of each opcode does in each of its
cases, and the row of an opcode from its own part. -/

namespace Sys2Proof.Machine

/-- A row that is one opcode, on an entry taken and not refused, from what its own part does. -/
theorem act_takes_of_body {c : CmdSpec} {h : Cmd} {s : State} {body : List Nat → Dev → Dev × Ans} {d : Dev} {a : Ans}
    (ht : takes c h s.dev = true) (hb : body (cmdP h s.dev) (cmdAdvance h.session s.dev) = (d, a)) :
    s.act (runC c body h) = .next (s.commit (cmdReply c.op h a d)) := by
  rw [act_takes body ht, hb]

/-! TIME_STEP (R51). -/

theorem timeStepBody_stepped {p : List Nat} {d : Dev} (hm : d.mode = modeMaintenance) (he : anyEnabled d = false) :
    timeStepBody p d = (stepTo (entW p 0 + entW p 1 * 2 ^ 32) (entW p 2) d,
      okA [wrapN 32 (satS 32 ((((entW p 0 + entW p 1 * 2 ^ 32) * 1000000000 + entW p 2 : Nat) : Int) -
        ((d.tim.sec * 1000000000 + d.tim.ns : Nat) : Int)))]) := by
  simp only [timeStepBody, hm, he, ne_eq, not_true_eq_false, Bool.false_eq_true, if_false]

theorem timeStepBody_enabled {p : List Nat} {d : Dev} (hm : d.mode = modeMaintenance) (he : anyEnabled d = true) :
    timeStepBody p d = (d, noA cDenied) := by
  simp [timeStepBody, hm, he]

theorem timeStepBody_otherMode {p : List Nat} {d : Dev} (hm : d.mode ≠ modeMaintenance) :
    timeStepBody p d = (d, noA cWrongMode) :=
  if_pos hm

/-! PORT_PTP (R55): the role ordinary, 1, conflicts with a boundary role, 2, of another port. -/

theorem portPtpBody_taken {p : List Nat} {d : Dev} (hr : fld (entW p 1) 0 2 ≠ 1 ∨ portsOfRole d (entW p 0) 2 = []) :
    portPtpBody p d =
      ((((((writePtpCfg (entW p 0) (entW p 1) d).wrLagR (Reg.timPRxLat (entW p 0)) (w32 (entW p 2))).wrLagR
        (Reg.timPTxLat (entW p 0)) (w32 (entW p 3))).wrLagR (Reg.timPRxAsym (entW p 0)) (w32 (entW p 4))).wrLagR
        (Reg.timPTxAsym (entW p 0)) (w32 (entW p 5))), okA []) := by
  have hc : ¬ ((fld (entW p 1) 0 2 = 1 && portsOfRole d (entW p 0) 2 ≠ []) = true) := by
    rcases hr with h | h <;> simp [h]
  rw [portPtpBody, if_neg hc]

theorem portPtpBody_conflict {p : List Nat} {d : Dev} (hr : fld (entW p 1) 0 2 = 1) (hb : portsOfRole d (entW p 0) 2 ≠ []) :
    portPtpBody p d = (d.emit (.infoEvent 55), badP 1) :=
  if_pos (by simp [hr, hb])

/-! HOLDBACK (01 R18): its three refusals in their order, and its acceptance. -/

section
variable {p : List Nat} {d : Dev}

theorem holdbackBody_otherMode (hm : d.mode ≠ modeMaintenance) : holdbackBody p d = (d, noA cWrongMode) :=
  if_pos hm

theorem holdbackBody_asduBreaks (hm : d.mode = modeMaintenance)
    (ha : (projStreams d).sau.entries.any (fun x => entState x.2 == esLive && asduBreaks (entW p 0) x.2) = true) :
    holdbackBody p d = (d, badP 0) := by
  rw [holdbackBody, if_neg (not_not_intro hm), if_pos ha]

variable (hm : d.mode = modeMaintenance)
  (ha : (projStreams d).sau.entries.any (fun x => entState x.2 == esLive && asduBreaks (entW p 0) x.2) = false)
include hm ha

theorem holdbackBody_notAdmitted (hs : allAdmitted (d.setF Reg.ttbHoldback 0 4 (entW p 0)) = false) :
    holdbackBody p d = (d, noA cScheduleFull) := by
  rw [holdbackBody, if_neg (not_not_intro hm), if_neg (Bool.eq_false_iff.mp ha), if_pos (by simp [hs])]

theorem holdbackBody_taken (hs : allAdmitted (d.setF Reg.ttbHoldback 0 4 (entW p 0)) = true) :
    holdbackBody p d = (holdbackNext (entW p 0) d, okA [(d.tim.absRoute + 1) % 2 ^ 20]) := by
  rw [holdbackBody, if_neg (not_not_intro hm), if_neg (Bool.eq_false_iff.mp ha), if_neg (by simp [hs])]

end

/-- Settles O38, opcode by opcode: each clause is a case of the opcode's own part, on an entry that Phiash takes. The own parts of
TIME_SOURCE and FREE_RUN_ACCEPT are one condition each, which their rows write out. -/
theorem timeCommands : Obligations.TimeCommands := by
  intro h s d p
  refine ⟨?timeSource, ?freeRunAccept, ?timeStep, ?timeLimits, ?portPtp, ?holdback⟩
  case timeSource =>
    intro ht
    exact ⟨fun hp => act_takes_of_body ht (if_pos hp), fun hp => act_takes_of_body ht (if_neg (Bool.eq_false_iff.mp hp))⟩
  case freeRunAccept =>
    intro ht
    exact ⟨fun hf => act_takes_of_body ht (if_neg (Bool.eq_false_iff.mp hf)), fun hf => act_takes_of_body ht (if_pos hf)⟩
  case timeStep =>
    intro ht sec
    exact ⟨fun hm he => act_takes_of_body ht (timeStepBody_stepped hm he),
      fun hm he => act_takes_of_body ht (timeStepBody_enabled hm he),
      fun hm => act_takes_of_body ht (timeStepBody_otherMode hm)⟩
  case timeLimits =>
    intro ht a b
    -- The own part is these three writes in their order, so no case is told apart.
    exact act_takes_of_body ht rfl
  case portPtp =>
    intro ht n
    exact ⟨fun hr => act_takes_of_body ht (portPtpBody_taken hr),
      fun hr hb => act_takes_of_body ht (portPtpBody_conflict hr hb)⟩
  case holdback =>
    intro ht n
    exact ⟨fun hm => act_takes_of_body ht (holdbackBody_otherMode hm),
      fun hm ha => act_takes_of_body ht (holdbackBody_asduBreaks hm ha),
      fun hm ha hs => act_takes_of_body ht (holdbackBody_notAdmitted hm ha hs),
      fun hm ha hs => act_takes_of_body ht (holdbackBody_taken hm ha hs)⟩

end Sys2Proof.Machine
end

section
/-! SUPPORT and PROOF. Local time (02 R40, R41): counted as one number of 2^-48 ns, it gains what its cycles add, modulo its range. -/

namespace Sys2Proof.Machine

/-- Local time as one number, in units of 2^-48 ns. -/
def Tim.units (t : Tim) : Nat := (t.sec * 1000000000 + t.ns) * nsUnits + t.frac

/-- What `c` cycles add to local time, in units of 2^-48 ns (R41). -/
def Tim.gain (t : Tim) (c : Nat) : Nat := c * addend + extraUnits t.third c

theorem Tim.advance_frac (t : Tim) (c : Nat) : (t.advance c).frac = (t.frac + t.gain c) % nsUnits := by
  rw [Tim.gain, ← Nat.add_assoc]
  rfl

theorem Tim.advance_ns (t : Tim) (c : Nat) :
    (t.advance c).ns = (t.ns + (t.frac + t.gain c) / nsUnits) % 1000000000 := by
  rw [Tim.gain, ← Nat.add_assoc]
  rfl

theorem Tim.advance_sec (t : Tim) (c : Nat) :
    (t.advance c).sec = (t.sec + (t.ns + (t.frac + t.gain c) / nsUnits) / 1000000000) % 2 ^ 48 := by
  rw [Tim.gain, ← Nat.add_assoc]
  rfl

@[simp] theorem Tim.advance_third (t : Tim) (c : Nat) : (t.advance c).third = (t.third + c) % 3 := rfl

theorem Tim.advance_ns_lt (t : Tim) (c : Nat) : (t.advance c).ns < 1000000000 := Nat.mod_lt _ (by decide)

theorem Tim.advance_frac_lt (t : Tim) (c : Nat) : (t.advance c).frac < 2 ^ 48 := Nat.mod_lt _ (by decide)

/-- No unit is lost in the carries: fraction to nanoseconds, and those to seconds, of which whole turns of 2^48 fall away. -/
theorem Tim.units_advance (t : Tim) (c : Nat) :
    ∃ turns, t.units + t.gain c = (t.advance c).units + 2 ^ 48 * 1000000000 * 2 ^ 48 * turns := by
  refine ⟨(t.sec + (t.ns + (t.frac + t.gain c) / nsUnits) / 1000000000) / 2 ^ 48, ?_⟩
  rw [Tim.units, Tim.units, Tim.advance_sec, Tim.advance_ns, Tim.advance_frac, nsUnits]
  omega

/-- The extra unit falls in the first cycle of three, so a whole number of threes adds as many units. -/
theorem extraUnits_threes (k : Nat) : extraUnits 0 (3 * k) = k := by
  rw [extraUnits]
  omega

/-- Settles O9: the gain of `units_advance`, written out field by field. -/
theorem localTimeIsExact : Obligations.LocalTimeIsExact := by
  intro t c _ _ _ _ u
  have hu : t.advance c = u := rfl
  obtain ⟨turns, hturns⟩ := hu ▸ t.units_advance c
  refine ⟨t.advance_ns_lt c, t.advance_frac_lt c, Nat.mod_lt _ (by decide), rfl, ?exact, ?threes⟩
  case exact =>
    -- The difference that the statement writes out is that many whole turns below 0.
    simp only [Tim.units, Tim.gain, extraUnits, nsUnits, addend] at hturns
    omega
  case threes =>
    rintro k h0 rfl
    rw [h0]
    exact extraUnits_threes k

end Sys2Proof.Machine
end

section
/-! SUPPORT and PROOF. The tick, leg and route boundaries (00_scope R586; 02 R42, R43; 16 R478): their rows on a device that runs or is
held, and the EN bits that a leg boundary puts in force. -/

namespace Sys2Proof.Machine

theorem exec_tick (s : State) :
    exec .tick s = .next (s.commit (if s.dev.up then tickUp s.mem s.dev else tickHeld s.dev)) := rfl

theorem exec_tick_up {s : State} (h : s.dev.up = true) : exec .tick s = .next (s.commit (tickUp s.mem s.dev)) := by
  rw [exec_tick, if_pos h]

theorem exec_tick_held {s : State} (h : s.dev.up = false) : exec .tick s = .next (s.commit (tickHeld s.dev)) := by
  rw [exec_tick, if_neg (Bool.eq_false_iff.mp h)]

theorem exec_legBoundary_up {s : State} (h : s.dev.up = true) (bad : List Nat) :
    exec (.legBoundary bad) s = .next (s.commit (legBoundary bad s.mem s.dev)) :=
  State.actM_up s _ h

theorem exec_routeBoundary_up {s : State} (h : s.dev.up = true) (slots bad : List Nat) :
    exec (.routeBoundary slots bad) s = .next (s.commit (routeBoundary slots bad s.mem s.dev)) :=
  State.actM_up s _ h

@[simp] theorem restartChan_lagL (ch : Nat) (d : Dev) : (restartChan ch d).lagL = d.lagL := rfl

/-- A restart of the channels leaves the writes that wait for a leg boundary. -/
@[simp] theorem fchResume_lagL (d : Dev) : (fchResume d).lagL = d.lagL := by
  unfold fchResume
  induction tkeys d.fch.chans generalizing d with
  | nil => rfl
  | cons ch chs ih => rw [List.foldl_cons, ih, restartChan_lagL]

@[simp] theorem enTakesEffect_lagL (d : Dev) : (enTakesEffect d).lagL = [] := by
  unfold enTakesEffect
  extract_lets again e
  split
  · exact fchResume_lagL _
  · rfl

/-- With no write waiting for a leg boundary, a register is in force as it reads. -/
theorem Dev.effL_of_lagL_nil {d : Dev} (h : d.lagL = []) (off : Nat) : d.effL off = d.rd off := by
  rw [Dev.effL, h]
  rfl

/-- Settles O8: each row's order is that of `tickUp`, `legBoundary` and `routeBoundary`; no write lags past a leg boundary. -/
theorem ticksAndBoundaries : Obligations.TicksAndBoundaries := by
  refine ⟨fun _ => ⟨exec_tick_up, exec_tick_held⟩, fun s bad slots hup => ?boundaries⟩
  case boundaries =>
    exact ⟨exec_legBoundary_up hup bad, exec_routeBoundary_up hup slots bad, enTakesEffect_lagL s.dev,
      Dev.effL_of_lagL_nil (enTakesEffect_lagL s.dev)⟩

end Sys2Proof.Machine
end

section
/-! SUPPORT and PROOF. The servo and the PTP ports (02 R46, R50 to R57, R66): what each operation of the time unit does in each of its
cases, and its row on a device that runs. -/

namespace Sys2Proof.Machine

/-- A row on an operand in range has its effect on a device that runs. -/
theorem State.act_onlyIf {s : State} {b : Bool} (h : s.dev.up = true) (hb : b = true) (f : Dev → Dev) :
    s.act (onlyIf b f) = .next (s.commit (f s.dev)) := by
  rw [State.act_up s _ h, hb, onlyIf_true]

/-! Holdover (R53). -/

theorem enterHoldover_entered {d : Dev} (hs : timSrc d ≠ 0) (hf : timState d ≠ tsFree) (hh : timState d ≠ tsHoldover) :
    enterHoldover d = raise 17 none 0 0 (setTimState tsHoldover
      { d.wn Reg.timPhaseRate 0 with
          tim := { d.tim with phase := 0, target := rateTarget d.tim.freq 0, holdCnt := 0, good := 0 } }) :=
  if_neg (by simp [hs, hf, hh])

theorem holdLimit'_reached {d : Dev} (hh : timState d = tsHoldover) (hl : d.fldR Reg.timHoldLimit 0 17 ≤ d.tim.holdCnt) :
    holdLimit' d = raise 21 none 0 0 d :=
  if_pos (by simp [hh, hl])

theorem exec_holdoverEntry_up {s : State} (h : s.dev.up = true) :
    exec .holdoverEntry s = .next (s.commit (enterHoldover s.dev)) :=
  State.act_up s _ h

theorem exec_holdLimit_up {s : State} (h : s.dev.up = true) : exec .holdLimit s = .next (s.commit (holdLimit' s.dev)) :=
  State.act_up s _ h

/-! A measurement while LOCKED (R50, R52), and the row of the partner's time (R47). -/

theorem servoFeed_locked {o : Int} {d : Dev} (h : timState (servoTerms (setOffset o d)) = tsLocked) (settled : Bool) (sec ns : Nat) :
    servoFeed o settled sec ns d =
      if (servoTerms (setOffset o d)).rn Reg.timOfsWarn < o.natAbs then
        raise 19 none 0 0 (setTimState tsSlewing
          { servoTerms (setOffset o d) with tim := { (servoTerms (setOffset o d)).tim with good := 0 } })
      else setTimState tsLocked (servoTerms (setOffset o d)) := by
  have ha : tsLocked ≠ tsAcquiring := by decide
  have hh : tsLocked ≠ tsHoldover := by decide
  simp only [servoFeed, h, ha, hh, if_false, if_true]

theorem exec_braceTime_up {s : State} (h : s.dev.up = true) (o : Int) (settled : Bool) (sec ns : Nat) :
    exec (.braceTime o settled sec ns) s =
      .next (s.commit (if timSrc s.dev = 2 then servoFeed o settled sec ns s.dev else s.dev)) :=
  State.act_up s (fun d => if timSrc d = 2 then servoFeed o settled sec ns d else d) h

theorem exec_braceTime_brace {s : State} (h : s.dev.up = true) (hs : timSrc s.dev = 2) (o : Int) (settled : Bool) (sec ns : Nat) :
    exec (.braceTime o settled sec ns) s = .next (s.commit (servoFeed o settled sec ns s.dev)) := by
  rw [exec_braceTime_up h, if_pos hs]

/-! Messages at a port (R54 to R57). -/

theorem exec_ptpMessageRx_up {s : State} (h : s.dev.up = true) {p : Nat} (hp : p < 11) (m : PtpMsg) :
    exec (.ptpMessageRx p m) s = .next (s.commit (ptpRx p m s.dev)) :=
  State.act_onlyIf h (decide_eq_true hp) (ptpRx p m)

theorem ptpRx_passedOver {d : Dev} {p : Nat} {m : PtpMsg}
    (h : ptpRole d p = 0 ∨ m.domain = false ∨ ptpAdmitted d p m = false) : ptpRx p m d = d :=
  if_pos (by simpa [or_assoc] using h)

section
variable {d : Dev} {p : Nat} {m : PtpMsg} (hr : ptpRole d p ≠ 0) (hd : m.domain = true) (ha : ptpAdmitted d p m = true)
include hr hd ha

theorem ptpRx_twoStep (ht : m.twoStep = true) :
    ptpRx p m d = d.setF (Reg.timPStat p) 8 8 (min 255 (d.fldR (Reg.timPStat p) 8 8 + 1)) := by
  simp [ptpRx, hr, hd, ha, ht]

variable (ht : m.twoStep = false)
include ht

theorem ptpRx_sync (hk : m.kind = 0) (h3 : ptpRole (setPState p m.pstate d) p ≠ 3) :
    ptpRx p m d = ptpSync p m (setPState p m.pstate d) := by
  simp [ptpRx, hr, hd, ha, ht, hk, h3]

theorem ptpRx_sync_transparent (hk : m.kind = 0) (h3 : ptpRole (setPState p m.pstate d) p = 3) :
    ptpRx p m d = ptpSync p m (enqueueAll (portsOfRole (setPState p m.pstate d) p 3)
      { kind := 4, src := p, cls := 6, len := m.len, tag := 0, body := [0, m.origin, wrapN 64 m.corr],
        stamp := ingressStamp (setPState p m.pstate d) p m.off } (setPState p m.pstate d)) := by
  simp [ptpRx, hr, hd, ha, ht, hk, h3]

theorem ptpRx_pdelayReq (hk : m.kind = 1) :
    ptpRx p m d = (enqueue p
      { kind := 4, src := p, cls := 6, len := m.len, tag := 0, body := [2, 0, wrapN 64 m.corr],
        stamp := ingressStamp (setPState p m.pstate d) p m.off } (setPState p m.pstate d)).1 := by
  simp [ptpRx, hr, hd, ha, ht, hk]

theorem ptpRx_pdelayResp (hk : m.kind = 2) : ptpRx p m d = pdelayResp p m (setPState p m.pstate d) := by
  simp [ptpRx, hr, hd, ha, ht, hk]

theorem ptpRx_utc (hk : m.kind = 3) {u : Int} (hu : m.utc = some u) :
    ptpRx p m d = (setPState p m.pstate d).wn Reg.timUtcOffset (wrapN 16 u + 2 ^ 31) := by
  simp [ptpRx, hr, hd, ha, ht, hk, hu]

end

theorem pdelayResp_waiting {d : Dev} {p t1 : Nat} (h : tfind d.tim.pdT1 p = some t1) (m : PtpMsg) :
    pdelayResp p m d = { d with tim := { d.tim with pdT1 := tdel d.tim.pdT1 p } }.wn (Reg.timPPdelay p)
      (wrapN 32 (nearestAway (((ingressStamp d p m.off : Int) - t1 - m.corr * corrUnit) * 500) nsUnits)) := by
  rw [pdelayResp, h]

/-! The role of a port (R55, R66). -/

theorem exec_ptpRoleWrite_up {s : State} (h : s.dev.up = true) {p : Nat} (hp : p < 11) (v : Word) :
    exec (.ptpRoleWrite p v) s = .next (s.commit (writePtpCfg p v.toNat s.dev)) :=
  State.act_onlyIf h (decide_eq_true hp) (writePtpCfg p v.toNat)

/-- SECURE as a write of TIM_P_CFG leaves it: station ports alone have it. -/
def secureTaken (p v : Nat) (d : Dev) : Dev := if isStation p then d.putB (Reg.timPCfg p) 2 (bitOf v 2) else d

theorem writePtpCfg_clash {d : Dev} {p v : Nat} (hr : fld v 0 2 = 1) (hb : portsOfRole d p 2 ≠ []) :
    writePtpCfg p v d = (secureTaken p v d).emit (.infoEvent 55) :=
  if_pos (by simp [hr, hb])

theorem writePtpCfg_taken {d : Dev} {p v : Nat} (h : fld v 0 2 ≠ 1 ∨ portsOfRole d p 2 = []) :
    writePtpCfg p v d =
      if fld v 0 2 = 0 then ((secureTaken p v d).setF (Reg.timPCfg p) 0 2 (fld v 0 2)).setF (Reg.timPStat p) 0 4 0
      else if ptpRole (secureTaken p v d) p = 0 then
        ((secureTaken p v d).setF (Reg.timPCfg p) 0 2 (fld v 0 2)).setF (Reg.timPStat p) 0 4 1
      else (secureTaken p v d).setF (Reg.timPCfg p) 0 2 (fld v 0 2) :=
  if_neg (by rcases h with h | h <;> simp [h])

theorem writePtpCfg_off {d : Dev} {p v : Nat} (hr : fld v 0 2 = 0) :
    writePtpCfg p v d = ((secureTaken p v d).setF (Reg.timPCfg p) 0 2 0).setF (Reg.timPStat p) 0 4 0 := by
  rw [writePtpCfg_taken (by simp [hr]), if_pos hr, hr]

section
variable {d : Dev} {p v : Nat} (h : fld v 0 2 = 2 ∨ fld v 0 2 = 3 ∨ (fld v 0 2 = 1 ∧ portsOfRole d p 2 = []))
include h

/-- A role other than off that no boundary port forbids. -/
theorem writePtpCfg_on :
    writePtpCfg p v d =
      if ptpRole (secureTaken p v d) p = 0 then
        ((secureTaken p v d).setF (Reg.timPCfg p) 0 2 (fld v 0 2)).setF (Reg.timPStat p) 0 4 1
      else (secureTaken p v d).setF (Reg.timPCfg p) 0 2 (fld v 0 2) := by
  rcases h with h | h | ⟨h, hb⟩
  · rw [writePtpCfg_taken (.inl (by omega)), if_neg (by omega)]
  · rw [writePtpCfg_taken (.inl (by omega)), if_neg (by omega)]
  · rw [writePtpCfg_taken (.inr hb), if_neg (by omega)]

theorem writePtpCfg_changed (hw : ptpRole (secureTaken p v d) p ≠ 0) :
    writePtpCfg p v d = (secureTaken p v d).setF (Reg.timPCfg p) 0 2 (fld v 0 2) := by
  rw [writePtpCfg_on h, if_neg hw]

theorem writePtpCfg_leavesOff (hw : ptpRole (secureTaken p v d) p = 0) :
    writePtpCfg p v d = ((secureTaken p v d).setF (Reg.timPCfg p) 0 2 (fld v 0 2)).setF (Reg.timPStat p) 0 4 1 := by
  rw [writePtpCfg_on h, if_pos hw]

end

/-- Settles O10, row by row: each clause is a case of the row's operation. -/
theorem servoAndPtpPorts : Obligations.ServoAndPtpPorts := by
  refine ⟨?servo, ?messages, ?roles, ?rows⟩
  case servo =>
    intro s hup
    refine ⟨fun hs hf hh => ?entry, fun hh hl => ?limit, ?measurement⟩
    case entry => rw [exec_holdoverEntry_up hup, enterHoldover_entered hs hf hh]
    case limit => rw [exec_holdLimit_up hup, holdLimit'_reached hh hl]
    case measurement =>
      intro o settled sec ns hs m
      rw [exec_braceTime_brace hup hs]
      refine ⟨rfl, fun hm => ?_⟩
      rw [servoFeed_locked hm]
      exact ⟨fun hw => by rw [if_neg (Nat.not_lt.mpr hw)], fun hw => by rw [if_pos hw]⟩
  case messages =>
    intro s p m hup hp
    rw [exec_ptpMessageRx_up hup hp]
    refine ⟨fun h => by rw [ptpRx_passedOver h], ?_⟩
    intro hr hd ha d at'
    exact ⟨fun ht => by rw [ptpRx_twoStep hr hd ha ht],
      fun ht hk h3 => by rw [ptpRx_sync hr hd ha ht hk h3],
      fun ht hk h3 => by rw [ptpRx_sync_transparent hr hd ha ht hk h3],
      fun ht hk => by rw [ptpRx_pdelayReq hr hd ha ht hk],
      fun t1 ht hk hw => by rw [ptpRx_pdelayResp hr hd ha ht hk, pdelayResp_waiting hw],
      fun u ht hk hu => by rw [ptpRx_utc hr hd ha ht hk hu]⟩
  case roles =>
    intro s p v hup hp d role
    have hd : d = secureTaken p v.toNat s.dev := rfl
    rw [exec_ptpRoleWrite_up hup hp, hd]
    exact ⟨fun hr hb => by rw [writePtpCfg_clash hr hb], fun hr => by rw [writePtpCfg_off hr],
      fun h hw => by rw [writePtpCfg_changed h hw], fun h hw => by rw [writePtpCfg_leavesOff h hw]⟩
  case rows =>
    intro s hup
    exact ⟨exec_holdoverEntry_up hup, exec_holdLimit_up hup,
      fun p m v hp => ⟨exec_ptpMessageRx_up hup hp m, exec_ptpRoleWrite_up hup hp v⟩⟩

end Sys2Proof.Machine
end

section
/-! SUPPORT and PROOF. A frame at a port and a port's turn to transmit (03 R70, R71, R77, R80, R86, R90, R93; 09 R273; 10 R302): the row
of each on a device that runs, and what its operation does in each of its cases. -/

namespace Sys2Proof.Machine

/-! A received frame (R70, R71, R77, R93). -/

theorem exec_frameRx_up {s : State} (h : s.dev.up = true) {p : Nat} (hp : p < 11) (f : Frame) :
    exec (.frameRx p f) s = .next (s.commit (frameRx' p f s.dev)) :=
  State.act_onlyIf h (decide_eq_true hp) (frameRx' p f)

theorem frameRx'_closed {d : Dev} {p : Nat} (h : linkUp d p = false ∨ rxEn d p = false ∨ d.mode = modeParked) (f : Frame) :
    frameRx' p f d = d :=
  if_pos (by simpa only [Bool.or_eq_true, Bool.not_eq_true', beq_iff_eq, or_assoc] using h)

section
variable {d : Dev} {p : Nat} (hl : linkUp d p = true) (hr : rxEn d p = true) (hm : d.mode ≠ modeParked)
include hl hr hm

/-- A port that receives: length before FCS (log 26), and the rest for a good frame alone. -/
theorem frameRx'_open (f : Frame) :
    frameRx' p f d =
      if d.fldR (Reg.ethMaxlen p) 0 14 < f.len then d.bump (Reg.ethRxTooLong p)
      else if !f.fcsOk then d.bump (Reg.ethRxFcsErr p)
      else
        let s := sampleTurn p (d.bump (Reg.ethRxFrames p))
        let v := secVerify p f s.1
        let r := if v.2 then redHandle p f v.1 else (v.1, if isStation p then 5 else 3)
        if s.2 then placeSample p f r.2 r.1 else r.1 :=
  if_neg (by simp [hl, hr, hm])

variable {f : Frame}

theorem frameRx'_tooLong (hn : d.fldR (Reg.ethMaxlen p) 0 14 < f.len) : frameRx' p f d = d.bump (Reg.ethRxTooLong p) := by
  rw [frameRx'_open hl hr hm, if_pos hn]

variable (hn : f.len ≤ d.fldR (Reg.ethMaxlen p) 0 14)
include hn

theorem frameRx'_fcsErr (hf : f.fcsOk = false) : frameRx' p f d = d.bump (Reg.ethRxFcsErr p) := by
  rw [frameRx'_open hl hr hm, if_neg (Nat.not_lt.mpr hn), if_pos (by simp [hf])]

/-! A good frame, with its sample turn and what MACsec finds of it named. -/

variable (hf : f.fcsOk = true) {turn sec : Dev × Bool} (ht : sampleTurn p (d.bump (Reg.ethRxFrames p)) = turn)
  (hv : secVerify p f turn.1 = sec)
include hf ht hv

theorem frameRx'_passed (hs : sec.2 = true) :
    frameRx' p f d =
      if turn.2 then placeSample p f (redHandle p f sec.1).2 (redHandle p f sec.1).1 else (redHandle p f sec.1).1 := by
  rw [frameRx'_open hl hr hm, if_neg (Nat.not_lt.mpr hn), if_neg (by simp [hf]), ht]
  simp only [hv, hs, if_true]

theorem frameRx'_secDropped (hs : sec.2 = false) :
    frameRx' p f d = if turn.2 then placeSample p f (if isStation p then 5 else 3) sec.1 else sec.1 := by
  rw [frameRx'_open hl hr hm, if_neg (Nat.not_lt.mpr hn), if_neg (by simp [hf]), ht]
  simp only [hv, hs, Bool.false_eq_true, if_false]

end

/-! A port's turn to transmit (R76, R80, R86, R90; 02 R56, R57; 09 R273). -/

theorem exec_frameTx_up {s : State} (h : s.dev.up = true) {p : Nat} (hp : p < 11) (off : Nat) :
    exec (.frameTx p off) s = .next (s.commit (txStart p off s.dev)) :=
  State.act_onlyIf h (decide_eq_true hp) (txStart p off)

/-- The head `f` of class `c` goes on the line of a port whose turn begins at `d`; `e` is the device past its packet number. -/
def lineTaken (p off c : Nat) (f : TxFrame) (d e : Dev) : Dev :=
  let e := pdelaySent p (egressStamp d p off) (txOnLine d p off f) (popEgress p c true e)
  { e with swc := { e.swc with line := tput e.swc.line p (txOnLine d p off f) } }.emit
    (if e.bitR (Reg.ethCtrl p) 6 then .looped p (txOnLine d p off f) else .frame p (txOnLine d p off f))

section
variable {d e : Dev} {p : Nat} (off : Nat) (he : tripLate p d = e)
include he

theorem txStart_shut (hs : txShut e p = true) : txStart p off d = drainShut p e := by
  rw [txStart, he, if_pos hs]

variable (hs : txShut e p = false)
include hs

theorem txStart_noLine (hl : tfind e.swc.line p ≠ none ∨ linkUp e p = false) : txStart p off d = e := by
  rw [txStart, he, if_neg (by simp [hs]),
    if_pos (by simpa only [Bool.or_eq_true, Bool.not_eq_true', Option.isSome_iff_ne_none] using hl)]

variable (hn : tfind e.swc.line p = none) (hl : linkUp e p = true)
include hn hl

theorem txStart_noClass (hc : txClass e p (e.tim.tickInRoute % 16 * 10000 + off / 4) = none) : txStart p off d = e := by
  rw [txStart, he, if_neg (by simp [hs]), if_neg (by simp [hn, hl])]
  simp only [hc]

variable {c : Nat} {f : TxFrame} {l : List TxFrame} (hc : txClass e p (e.tim.tickInRoute % 16 * 10000 + off / 4) = some c)
  (hq : egressQ e p c = f :: l)
include hc hq

/-- The head of the class that may start: on the line, or dropped where it wants a packet number and its association has none. -/
theorem txStart_head :
    txStart p off d =
      let sec := if txProtected e p f then secTake p e else (e, true)
      if !sec.2 then frameDropped p f (popEgress p c false sec.1) else lineTaken p off c f e sec.1 := by
  rw [txStart, he, if_neg (by simp [hs]), if_neg (by simp [hn, hl])]
  simp only [hc, hq]
  rfl

theorem txStart_clear (hx : txProtected e p f = false) : txStart p off d = lineTaken p off c f e e := by
  rw [txStart_head off he hs hn hl hc hq, hx]
  rfl

theorem txStart_protected (hx : txProtected e p f = true) (hk : (secTake p e).2 = true) :
    txStart p off d = lineTaken p off c f e (secTake p e).1 := by
  rw [txStart_head off he hs hn hl hc hq, if_pos hx, if_neg (by simp [hk])]

theorem txStart_noPacketNumber (hx : txProtected e p f = true) (hk : (secTake p e).2 = false) :
    txStart p off d = frameDropped p f (popEgress p c false (secTake p e).1) := by
  rw [txStart_head off he hs hn hl hc hq, if_pos hx, if_pos (by simp [hk])]

end

/-! The end of a frame (R80; 10 R302). -/

theorem exec_frameTxEnd_up {s : State} (h : s.dev.up = true) {p : Nat} (hp : p < 11) :
    exec (.frameTxEnd p) s = .next (s.commit (txEnd p s.dev)) :=
  State.act_onlyIf h (decide_eq_true hp) (txEnd p)

theorem txEnd_idle {d : Dev} {p : Nat} (h : tfind d.swc.line p = none) : txEnd p d = d := by
  rw [txEnd, h]

theorem txEnd_onLine {d : Dev} {p : Nat} {f : TxFrame} (h : tfind d.swc.line p = some f) :
    txEnd p d =
      let e := { d with swc := { d.swc with line := tdel d.swc.line p } }
      let e := setOcc p f.cls (qOcc e p f.cls - cellsOf f.len) (e.bump (Reg.ethTxFrames p))
      if f.kind = 6 then txCopyDone f.src f.tag p 0 e else e := by
  rw [txEnd, h]

/-- Settles O11, row by row: each clause is a case of the row's operation. -/
theorem framesInAndOut : Obligations.FramesInAndOut := by
  refine ⟨?received, ?turn, ?finished⟩
  case received =>
    intro s p f hup hp
    rw [exec_frameRx_up hup hp]
    refine ⟨fun h => by rw [frameRx'_closed h], fun hl hr hm => ⟨?tooLong, ?fcsErr, ?good⟩⟩
    case tooLong => exact fun hn => by rw [frameRx'_tooLong hl hr hm hn]
    case fcsErr => exact fun hn hf => by rw [frameRx'_fcsErr hl hr hm hn hf]
    case good =>
      intro hn hf turn sec drop
      have passed := frameRx'_passed hl hr hm hn hf (turn := turn) (sec := sec) rfl rfl
      have dropped := frameRx'_secDropped hl hr hm hn hf (turn := turn) (sec := sec) rfl rfl
      exact ⟨fun hs ht => by rw [passed hs, if_neg (by simp [ht])], fun hs ht => by rw [passed hs, if_pos ht],
        fun hs ht => by rw [dropped hs, if_neg (by simp [ht])], fun hs ht => by rw [dropped hs, if_pos ht]⟩
  case turn =>
    intro s p off hup hp d
    have hd : tripLate p s.dev = d := rfl
    rw [exec_frameTx_up hup hp]
    refine ⟨fun hs => by rw [txStart_shut off hd hs], fun hs hl => by rw [txStart_noLine off hd hs hl], ?free⟩
    case free =>
      intro hs hn hl
      refine ⟨fun hc => by rw [txStart_noClass off hd hs hn hl hc], ?_⟩
      intro c f l hc hq go
      have hgo (e : Dev) : go e = .next (s.commit (lineTaken p off c f d e)) := rfl
      rw [hgo, hgo]
      exact ⟨fun hx => by rw [txStart_clear off hd hs hn hl hc hq hx],
        fun hx hk => by rw [txStart_protected off hd hs hn hl hc hq hx hk],
        fun hx hk => by rw [txStart_noPacketNumber off hd hs hn hl hc hq hx hk]⟩
  case finished =>
    intro s p hup hp
    rw [exec_frameTxEnd_up hup hp]
    refine ⟨fun h => by rw [txEnd_idle h], ?_⟩
    intro f h d e
    have hend : txEnd p s.dev = if f.kind = 6 then txCopyDone f.src f.tag p 0 e else e := txEnd_onLine h
    exact ⟨fun hk => by rw [hend, if_neg hk], fun hk => by rw [hend, if_pos hk]⟩

end Sys2Proof.Machine
end

section
/-! SUPPORT and PROOF. Pause frames, gate lists, the trip window, links and synthesisers (03 R83 to R90, R97): the row of each on a
device that runs, and what its operation does in each of its cases. -/

namespace Sys2Proof.Machine

/-! Pause frames (R87). -/

theorem exec_pfcPauseRx_up {s : State} (h : s.dev.up = true) {p prio : Nat} (hp : p < 11) (hq : prio < 8) (on : Bool) :
    exec (.pfcPauseRx p prio on) s = .next (s.commit (pauseRx p prio on s.dev)) :=
  State.act_onlyIf h (by simp [hp, hq]) (pauseRx p prio on)

theorem pauseRx_obeyed {d : Dev} {p prio : Nat} (hq : prio ≤ 5) (he : d.bitR (Reg.ethPfcEn p) prio = true) (on : Bool) :
    pauseRx p prio on d = d.putB (Reg.ethPauseState p) prio on :=
  if_pos (by simp [hq, he])

theorem pauseRx_ignored {d : Dev} {p prio : Nat} (h : 5 < prio ∨ d.bitR (Reg.ethPfcEn p) prio = false) (on : Bool) :
    pauseRx p prio on d = d.bump (Reg.ethPfcIgnored p) := by
  refine if_neg fun hb => ?_
  obtain ⟨hq, he⟩ := Bool.and_eq_true_iff.mp hb
  rcases h with h | h
  · exact Nat.not_le.mpr h (of_decide_eq_true hq)
  · exact Bool.eq_false_iff.mp h he

/-! PFC and scheduling exclude each other (R88): the written bits that the other register has set stay 0. -/

theorem exec_pfcEnWrite_pfc {s : State} (h : s.dev.up = true) {p : Nat} (hp : p < 11) (v : Word) :
    exec (.pfcEnWrite p false v) s = .next (s.commit (writePfcEn p v.toNat s.dev)) :=
  State.act_onlyIf h (decide_eq_true hp) (writePfcEn p v.toNat)

theorem exec_pfcEnWrite_sched {s : State} (h : s.dev.up = true) {p : Nat} (hp : p < 11) (v : Word) :
    exec (.pfcEnWrite p true v) s = .next (s.commit (writeGclSched p v.toNat s.dev)) :=
  State.act_onlyIf h (decide_eq_true hp) (writeGclSched p v.toNat)

@[simp] theorem clearBits_nil (a : Nat) : clearBits a [] = a := rfl

section
variable {d : Dev} {p v : Nat}

theorem writePfcEn_free (h : clashBits (v % 64) (d.rn (Reg.swcGclSched p)) = []) :
    writePfcEn p v d = d.wn (Reg.ethPfcEn p) (v % 64) := by
  rw [writePfcEn, h, if_pos rfl, clearBits_nil]

theorem writePfcEn_clash {b : Nat} {l : List Nat} (h : clashBits (v % 64) (d.rn (Reg.swcGclSched p)) = b :: l) :
    writePfcEn p v d = (d.wn (Reg.ethPfcEn p) (clearBits (v % 64) (b :: l))).emit (.infoEvent 88) := by
  rw [writePfcEn, h, if_neg (List.cons_ne_nil b l)]

theorem writeGclSched_free (h : clashBits (v % 256) (d.rn (Reg.ethPfcEn p)) = []) :
    writeGclSched p v d = d.wn (Reg.swcGclSched p) (v % 256) := by
  rw [writeGclSched, h, if_pos rfl, clearBits_nil]

theorem writeGclSched_clash {b : Nat} {l : List Nat} (h : clashBits (v % 256) (d.rn (Reg.ethPfcEn p)) = b :: l) :
    writeGclSched p v d = (d.wn (Reg.swcGclSched p) (clearBits (v % 256) (b :: l))).emit (.infoEvent 88) := by
  rw [writeGclSched, h, if_neg (List.cons_ne_nil b l)]

end

/-! Gate entries, the trip window and the swap (R83 to R85). -/

theorem exec_gateEntryStart_up {s : State} (h : s.dev.up = true) {p e : Nat} (hp : p < 11) (he : e < 64) :
    exec (.gateEntryStart p e) s = .next (s.commit (gateStart p e s.dev)) :=
  State.act_onlyIf h (by simp [hp, he]) (gateStart p e)

/-- The gates of an entry are its low byte. -/
theorem fld_gates (w : Nat) : fld w 0 8 = w % 256 := by
  simp [fld]

section
variable {d : Dev} {p e w : Nat} (hw : d.rn (Reg.swcGclEntry p (b2n (d.bitR (Reg.swcGclCtrl p) 1)) e) = w)
include hw

theorem gateStart_valid (he : d.bitR (Reg.swcGclCtrl p) 0 = true) (hv : bitOf w 31 = true) :
    gateStart p e d = { d with swc := { d.swc with gate := tset 0xFF d.swc.gate p (w % 256) } } := by
  rw [gateStart, hw, if_pos (by simp [he, hv]), fld_gates]

theorem gateStart_noEntry (h : d.bitR (Reg.swcGclCtrl p) 0 = false ∨ bitOf w 31 = false) : gateStart p e d = d := by
  rw [gateStart, hw, if_neg (by rcases h with h | h <;> simp [h])]

end

theorem exec_tripWindow_up {s : State} (h : s.dev.up = true) {p : Nat} (hp : p < 10) (opens : Bool) :
    exec (.tripWindow p opens) s = .next (s.commit (tripWindow' p opens s.dev)) :=
  State.act_onlyIf h (decide_eq_true hp) (tripWindow' p opens)

theorem exec_gclSwapRequest_up {s : State} (h : s.dev.up = true) {p : Nat} (hp : p < 11) :
    exec (.gclSwapRequest p) s = .next (s.commit (writeGclCtrl p (s.dev.rn (Reg.swcGclCtrl p) % 2 + 4) s.dev)) :=
  State.act_onlyIf h (decide_eq_true hp) (fun d => writeGclCtrl p (d.rn (Reg.swcGclCtrl p) % 2 + 4) d)

/-- The word of a swap request has EN as the register `n` has it. -/
theorem bitOf_swapWord_en (n : Nat) : bitOf (n % 2 + 4) 0 = bitOf n 0 := by
  have h : (n % 2 + 4) / 2 ^ 0 % 2 = n / 2 ^ 0 % 2 := by omega
  rw [bitOf, h, bitOf]

theorem bitOf_swapWord_swap (n : Nat) : bitOf (n % 2 + 4) 2 = true := by
  have h : (n % 2 + 4) / 2 ^ 2 = 1 := by omega
  rw [bitOf, h]
  rfl

/-- A swap request keeps EN, and asks for the exchange at the boundary. -/
theorem writeGclCtrl_swapWord (d : Dev) (p : Nat) :
    writeGclCtrl p (d.rn (Reg.swcGclCtrl p) % 2 + 4) d =
      ((d.putB (Reg.swcGclCtrl p) 0 (d.bitR (Reg.swcGclCtrl p) 0)).setB (Reg.swcGclCtrl p) 2).setB (Reg.swcGclStatus p) 1 := by
  rw [writeGclCtrl, bitOf_swapWord_en, if_pos (bitOf_swapWord_swap _), Dev.bitR]

/-! Links and synthesisers (R89 to R91, R97). -/

section
variable {s : State} (h : s.dev.up = true) {p : Nat} (hp : p < 11)
include h hp

theorem exec_linkDown_up : exec (.linkDown p) s = .next (s.commit (linkGoesDown p s.dev)) :=
  State.act_onlyIf h (decide_eq_true hp) (linkGoesDown p)

theorem exec_queueFlushDone_up : exec (.queueFlushDone p) s = .next (s.commit (flushDone p s.dev)) :=
  State.act_onlyIf h (decide_eq_true hp) (flushDone p)

theorem exec_linkUp_up : exec (.linkUp p) s = .next (s.commit (linkComesUp p s.dev)) :=
  State.act_onlyIf h (decide_eq_true hp) (linkComesUp p)

theorem exec_synthUnlock_up : exec (.synthUnlock p) s = .next (s.commit (synthUnlock' p s.dev)) :=
  State.act_onlyIf h (decide_eq_true hp) (synthUnlock' p)

theorem exec_synthLock_up : exec (.synthLock p) s = .next (s.commit (synthLock' p s.dev)) :=
  State.act_onlyIf h (decide_eq_true hp) (synthLock' p)

end

/-- Settles O12, row by row: each clause is a case of the row's operation; links and synthesisers have one case each. -/
theorem gatesAndLinks : Obligations.GatesAndLinks := by
  refine ⟨?gates, ?links⟩
  case gates =>
    intro s p prio e on opens v hup hp
    refine ⟨?obeyed, ?ignored, ?pfcFree, ?pfcClash, ?schedFree, ?schedClash, ?entry, ?window, ?swap⟩
    case obeyed =>
      intro hq he
      rw [exec_pfcPauseRx_up hup hp (by omega), pauseRx_obeyed hq he]
    case ignored =>
      intro hq h
      rw [exec_pfcPauseRx_up hup hp hq, pauseRx_ignored h]
    case pfcFree => exact fun h => by rw [exec_pfcEnWrite_pfc hup hp, writePfcEn_free h]
    case pfcClash => exact fun b l h => by rw [exec_pfcEnWrite_pfc hup hp, writePfcEn_clash h]
    case schedFree => exact fun h => by rw [exec_pfcEnWrite_sched hup hp, writeGclSched_free h]
    case schedClash => exact fun b l h => by rw [exec_pfcEnWrite_sched hup hp, writeGclSched_clash h]
    case entry =>
      intro he w
      rw [exec_gateEntryStart_up hup hp he]
      exact ⟨fun hen hv => by rw [gateStart_valid rfl hen hv], fun h => by rw [gateStart_noEntry rfl h]⟩
    case window => exact fun h => exec_tripWindow_up hup h opens
    case swap => rw [exec_gclSwapRequest_up hup hp, writeGclCtrl_swapWord]
  case links =>
    intro s p hup hp
    refine ⟨?down, ?flushed, ?up, ?unlock, ?lock⟩
    case down => rw [exec_linkDown_up hup hp, linkGoesDown]
    case flushed => rw [exec_queueFlushDone_up hup hp, flushDone]
    case up => rw [exec_linkUp_up hup hp, linkComesUp]
    case unlock => rw [exec_synthUnlock_up hup hp, synthUnlock']
    case lock => rw [exec_synthLock_up hup hp, synthLock']

end Sys2Proof.Machine
end

section
/-! SUPPORT and PROOF. The tables of the switch (03 R73, R77, R94, R95, R97): redundancy entries, ETH_SEC_CTRL and the address table, the
row of each on a device that runs, and what its operation does in each of its cases. -/

namespace Sys2Proof.Machine

/-! A redundancy entry and its time to live (R73, R74). -/

theorem exec_redEntryForget_up {s : State} (h : s.dev.up = true) {k : Nat} (hk : k < 5) (sa : Nat) :
    exec (.redEntryForget k sa) s = .next (s.commit (redForget k sa s.dev)) :=
  State.act_onlyIf h (decide_eq_true hk) (redForget k sa)

section
variable {d : Dev} {k sa : Nat}

theorem redForget_absent (h : (redList d k).find? (fun x => x.sa == sa) = none) : redForget k sa d = d := by
  simp only [redForget, h]

variable {e : RedSrc} (h : (redList d k).find? (fun x => x.sa == sa) = some e)
include h

theorem redForget_silent (ht : d.fldR (Reg.swcRedForget k) 0 12 * 768 ≤ (d.tim.absTick - e.last) * 10) :
    redForget k sa d = setRedList k ((redList d k).filter (fun x => x.sa != sa))
      (d.bumpBy (Reg.swcRedUnique k) (unpaired e.seen)) := by
  simp only [redForget, h]
  rw [if_neg (Nat.not_lt.mpr ht)]

theorem redForget_recent (ht : (d.tim.absTick - e.last) * 10 < d.fldR (Reg.swcRedForget k) 0 12 * 768) :
    redForget k sa d = d := by
  simp only [redForget, h]
  rw [if_pos ht]

end

/-! A write of ETH_SEC_CTRL (R77, R97). -/

theorem exec_macsecCtrlWrite_up {s : State} (h : s.dev.up = true) {p : Nat} (hp : isStation p = true) (v : Word) :
    exec (.macsecCtrlWrite p v) s = .next (s.commit (writeSecCtrl p v.toNat s.dev)) :=
  State.act_onlyIf h hp (writeSecCtrl p v.toNat)

/-- TX_AN as a write of ETH_SEC_CTRL leaves it, with the packet number of the association it names. -/
def txAnTaken (p v : Nat) (d : Dev) : Dev :=
  (d.setF (Reg.ethSecCtrl p) 2 2 (fld v 2 2)).wn (Reg.ethSecTxPn p) (min 0xFFFFFFFF (txPn d p (fld v 2 2)))

section
variable {d : Dev} {p v : Nat}

theorem writeSecCtrl_maintenance (hm : d.mode = modeMaintenance) :
    writeSecCtrl p v d = (txAnTaken p v d).setF (Reg.ethSecCtrl p) 0 2 (fld v 0 2) :=
  if_pos hm

variable (hm : d.mode ≠ modeMaintenance)
include hm

theorem writeSecCtrl_unchanged (hv : fld v 0 2 = d.fldR (Reg.ethSecCtrl p) 0 2) : writeSecCtrl p v d = txAnTaken p v d := by
  rw [writeSecCtrl, if_neg hm]
  exact if_pos hv

theorem writeSecCtrl_otherMode (hv : fld v 0 2 ≠ d.fldR (Reg.ethSecCtrl p) 0 2) :
    writeSecCtrl p v d = (txAnTaken p v d).emit (.infoEvent 97) := by
  rw [writeSecCtrl, if_neg hm]
  exact if_neg hv

end

/-! The address table (R94, R95). -/

section
variable {s : State} (h : s.dev.up = true) {i : Nat} (hi : i < 16384)
include h hi

theorem exec_fdbRead_up : exec (.fdbRead i) s = .next (s.commit (fdbRead' i s.dev)) :=
  State.act_onlyIf h (decide_eq_true hi) (fdbRead' i)

theorem exec_fdbWriteStatic_up : exec (.fdbWriteStatic i) s = .next (s.commit (fdbWrite i s.dev)) :=
  State.act_onlyIf h (decide_eq_true hi) (fdbWrite i)

theorem exec_fdbDelete_up : exec (.fdbDelete i) s = .next (s.commit (fdbDel i s.dev)) :=
  State.act_onlyIf h (decide_eq_true hi) (fdbDel i)

theorem exec_fdbAgeOut_up : exec (.fdbAgeOut i) s = .next (s.commit (fdbAge i s.dev)) :=
  State.act_onlyIf h (decide_eq_true hi) (fdbAge i)

end

section
variable {d : Dev} {i : Nat}

theorem fdbRead'_entry {e : FdbEntry} (h : tfind d.swc.fdb i = some e) :
    fdbRead' i d = ((d.wn Reg.swcFdbData0 (e.addr % 2 ^ 32)).wn Reg.swcFdbData1
      (e.addr / 2 ^ 32 % 65536 + e.vlan % 4096 * 65536 + b2n e.learned * 2 ^ 30 + 2 ^ 31)).wn Reg.swcFdbData2 e.dest := by
  rw [fdbRead', h]

theorem fdbRead'_empty (h : tfind d.swc.fdb i = none) :
    fdbRead' i d = ((d.wn Reg.swcFdbData0 0).wn Reg.swcFdbData1 0).wn Reg.swcFdbData2 0 := by
  rw [fdbRead', h]

theorem fdbAge_aged {e : FdbEntry} (h : tfind d.swc.fdb i = some e) (hl : e.learned = true)
    (hn : d.fldR Reg.swcAgeRoutes 0 20 ≠ 0) (ht : e.hit + d.fldR Reg.swcAgeRoutes 0 20 ≤ d.tim.absRoute) :
    fdbAge i d = fdbDel i d := by
  simp only [fdbAge, h]
  exact if_pos (by simp [hl, hn, ht])

/-- A static entry, any entry while ageing is off, and a learned one with a recent hit stay. -/
theorem fdbAge_stays {e : FdbEntry} (h : tfind d.swc.fdb i = some e)
    (hs : e.learned = false ∨ d.fldR Reg.swcAgeRoutes 0 20 = 0 ∨ d.tim.absRoute < e.hit + d.fldR Reg.swcAgeRoutes 0 20) :
    fdbAge i d = d := by
  simp only [fdbAge, h]
  refine if_neg fun hb => ?_
  simp only [Bool.and_eq_true, bne_iff_ne, decide_eq_true_eq] at hb
  obtain ⟨⟨hl, hn⟩, ht⟩ := hb
  rcases hs with hs | hs | hs
  · exact Bool.eq_false_iff.mp hs hl
  · exact hn hs
  · exact Nat.not_le.mpr hs ht

variable (hi : i < 16384)
include hi

theorem fdbWrite_valid (hv : bitOf (d.rn Reg.swcFdbData1) 31 = true) :
    fdbWrite i d = setFdb (tput d.swc.fdb i ⟨d.rn Reg.swcFdbData0 + d.fldR Reg.swcFdbData1 0 16 * 2 ^ 32,
      d.fldR Reg.swcFdbData1 16 12, false, d.rn Reg.swcFdbData2 % 2 ^ 26, 0⟩) d := by
  rw [fdbWrite, if_neg (Nat.not_le.mpr hi), if_pos hv, Dev.fldR, Dev.fldR]

theorem fdbWrite_notValid (hv : bitOf (d.rn Reg.swcFdbData1) 31 = false) : fdbWrite i d = setFdb (tdel d.swc.fdb i) d := by
  rw [fdbWrite, if_neg (Nat.not_le.mpr hi), if_neg (by simp [hv])]

end

/-- Settles O13, table by table: each clause is a case of the row's operation. -/
theorem switchTables : Obligations.SwitchTables := by
  intro s i hup
  refine ⟨?forget, ?macsec, ?fdb⟩
  case forget =>
    intro k sa hk
    rw [exec_redEntryForget_up hup hk]
    exact ⟨fun e he => ⟨fun ht => by rw [redForget_silent he ht], fun ht => by rw [redForget_recent he ht]⟩,
      fun he => by rw [redForget_absent he]⟩
  case macsec =>
    intro p v hp d
    have hd : d = txAnTaken p v.toNat s.dev := rfl
    rw [exec_macsecCtrlWrite_up hup hp, hd]
    exact ⟨fun hm => by rw [writeSecCtrl_maintenance hm], fun hm hv => by rw [writeSecCtrl_unchanged hm hv],
      fun hm hv => by rw [writeSecCtrl_otherMode hm hv]⟩
  case fdb =>
    intro hi
    rw [exec_fdbRead_up hup hi, exec_fdbWriteStatic_up hup hi, exec_fdbDelete_up hup hi, exec_fdbAgeOut_up hup hi]
    exact ⟨fun e he => by rw [fdbRead'_entry he], fun he => by rw [fdbRead'_empty he],
      fun hv => by rw [fdbWrite_valid hi hv], fun hv => by rw [fdbWrite_notValid hi hv], by rw [fdbDel],
      fun e he hl hn ht => by rw [fdbAge_aged he hl hn ht, fdbDel], fun e he hs => by rw [fdbAge_stays he hs]⟩

end Sys2Proof.Machine
end

section
/-! SUPPORT and PROOF. SV frames and the declaration of legs (04 R102, R105 to R107, R112, R129; 11 R330, R331; 00_scope R586): the two
rows on a device that runs, and what a frame and a declaration do in each of their cases. -/

namespace Sys2Proof.Machine

/-! A frame by the role of the module (11 R330, R331). -/

theorem exec_svFrame_up {s : State} (h : s.dev.up = true) {p : Nat} (hp : p < 11) (f : SvFrame) :
    exec (.svFrame p f) s = .next (s.commit (svFrameAny p f s.dev)) :=
  State.act_onlyIf h (decide_eq_true hp) (svFrameAny p f)

section
variable {d : Dev} (p : Nat) (f : SvFrame)

theorem svFrameAny_shadow (h : isShadow d = true) : svFrameAny p f d = shadowFrame p f d :=
  if_pos h

variable (h : isShadow d = false)
include h

theorem svFrameAny_active (hm : sendsMirror d = true) :
    svFrameAny p f d = (changedCells (svFrame' p f d).sau.store d.sau.store).foldl
      (fun d p => brcSend 0 (cellWords p.1 p.2) d) (svFrame' p f d) := by
  rw [svFrameAny, if_neg (Bool.eq_false_iff.mp h), if_pos hm]

theorem svFrameAny_alone (hm : sendsMirror d = false) : svFrameAny p f d = svFrame' p f d := by
  rw [svFrameAny, if_neg (Bool.eq_false_iff.mp h), if_neg (Bool.eq_false_iff.mp hm)]

end

/-! A frame at the alignment unit (R102 to R112). -/

/-- What the cache and the table answer for a frame (R99, R109): a longer svID than an entry holds matches none. -/
def svFound (p : Nat) (f : SvFrame) (d : Dev) : Dev × Option (Nat × List Nat) :=
  if f.svid.length ≤ 64 then svLookup (portGroup p) (svKey f) d else (d, none)

/-- A frame that matched entry `i`, LIVE or SUSPENDED: counted with the cause of its drop, or accepted under the profile that is known
by then (R105, R106). -/
def svChecked (p i : Nat) (e : List Nat) (f : SvFrame) (d : Dev) : Dev :=
  let a := svAuth e f d
  let q := svRecognise i e f a.1
  if svCause p e f a.2 ≠ 0 then (a.1.bump (Reg.sauSDrop i)).wn (Reg.sauSDropCause i) (svCause p e f a.2)
  else if !bitOf (entW q.2 0) 2 && entRate q.2 ≠ 0 then q.1 else svAccept p i q.2 f q.1

section
variable {d : Dev} {p : Nat} {f : SvFrame}

theorem svFrame'_off (he : d.enabled Reg.sauCtrl = false) : svFrame' p f d = d :=
  if_pos (by simp [he])

variable (he : d.enabled Reg.sauCtrl = true)
include he

theorem svFrame'_otherPort (hp : 10 ≤ p) : svFrame' p f d = d.bump Reg.sauBadport := by
  rw [svFrame', if_neg (by simp [he]), if_pos hp]

variable (hp : p < 10) {r : Dev × Option (Nat × List Nat)} (hr : svFound p f d = r)
include hp hr

theorem svFrame'_unmatched (hn : r.2 = none) : svFrame' p f d = svLearn p f r.1 := by
  subst hr
  rw [svFrame', if_neg (by simp [he]), if_neg (Nat.not_le.mpr hp)]
  simp only [svFound] at hn ⊢
  rw [hn]

variable {i : Nat} {e : List Nat} (hm : r.2 = some (i, e))
include hm

/-- A frame that matched goes by the state of its entry. -/
theorem svFrame'_matched :
    svFrame' p f d =
      if entState e = esFree then svLearn p f r.1
      else if entState e = esLearned then setStrm i { strm r.1 i with age := 0 } r.1
      else svChecked p i e f r.1 := by
  subst hr
  rw [svFrame', if_neg (by simp [he]), if_neg (Nat.not_le.mpr hp)]
  simp only [svFound] at hm ⊢
  rw [hm]
  rfl

theorem svFrame'_free (hs : entState e = esFree) : svFrame' p f d = svLearn p f r.1 := by
  rw [svFrame'_matched he hp hr hm, if_pos hs]

theorem svFrame'_learned (hs : entState e = esLearned) :
    svFrame' p f d = setStrm i { strm r.1 i with age := 0 } r.1 := by
  rw [svFrame'_matched he hp hr hm, if_neg (by rw [hs]; decide), if_pos hs]

theorem svFrame'_subscribed (hs : 2 ≤ entState e) : svFrame' p f d = svChecked p i e f r.1 := by
  have hfree : entState e ≠ esFree := by rw [esFree]; omega
  have hlearned : entState e ≠ esLearned := by rw [esLearned]; omega
  rw [svFrame'_matched he hp hr hm, if_neg hfree, if_neg hlearned]

end

section
variable {p i : Nat} {e : List Nat} {f : SvFrame} {d : Dev} {a : Dev × Bool} (ha : svAuth e f d = a)
include ha

theorem svChecked_dropped (hc : svCause p e f a.2 ≠ 0) :
    svChecked p i e f d = (a.1.bump (Reg.sauSDrop i)).wn (Reg.sauSDropCause i) (svCause p e f a.2) := by
  subst ha
  exact if_pos hc

variable {q : Dev × List Nat} (hq : svRecognise i e f a.1 = q) (hc : svCause p e f a.2 = 0)
include hq hc

/-- A frame that passes: 9-2LE, the profile with bit 2 clear, runs at the rate code of 4,800 samples/s alone. -/
theorem svChecked_passed :
    svChecked p i e f d = if !bitOf (entW q.2 0) 2 && entRate q.2 ≠ 0 then q.1 else svAccept p i q.2 f q.1 := by
  subst ha hq
  exact if_neg (not_not_intro hc)

theorem svChecked_accepted (h : bitOf (entW q.2 0) 2 = true ∨ entRate q.2 = 0) :
    svChecked p i e f d = svAccept p i q.2 f q.1 := by
  rw [svChecked_passed ha hq hc, if_neg (by rcases h with h | h <;> simp [h])]

theorem svChecked_otherRate (hb : bitOf (entW q.2 0) 2 = false) (h : entRate q.2 ≠ 0) : svChecked p i e f d = q.1 := by
  rw [svChecked_passed ha hq hc, if_pos (by simp [hb, h])]

end

/-! The declaration of a leg (R129; 11 R331). -/

theorem exec_legDeclare_up {s : State} (h : s.dev.up = true) : exec .legDeclare s = .next (s.commit (legDeclare s.dev)) :=
  State.act_up s _ h

section
variable {d : Dev}

theorem legDeclare_shadow (h : isShadow d = true) : legDeclare d = mirrorTry d :=
  if_pos h

variable (h : isShadow d = false)
include h

theorem legDeclare_next {leg : Nat} (hn : nextDeclare d = some leg) : legDeclare d = declareLeg leg (sendDecl leg d) := by
  rw [legDeclare, if_neg (Bool.eq_false_iff.mp h), hn]

theorem legDeclare_none (hn : nextDeclare d = none) : legDeclare d = d := by
  rw [legDeclare, if_neg (Bool.eq_false_iff.mp h), hn]

end

@[simp] theorem declareLeg_declared (leg : Nat) (d : Dev) : (declareLeg leg d).sau.declared = some leg := by
  rw [declareLeg]

/-- Settles O14: a frame by the module's role, the unit's state and the entry it matches; a declaration by the next leg. -/
theorem samplesAndLegs : Obligations.SamplesAndLegs := by
  refine ⟨?alone, ?paired, ?declared⟩
  case alone =>
    intro s p f hup hp hsh hmi
    rw [exec_svFrame_up hup hp, svFrameAny_alone p f hsh hmi]
    refine ⟨fun he => by rw [svFrame'_off he], fun he hb => by rw [svFrame'_otherPort he (Nat.le_of_eq hb.symm)], ?station⟩
    case station =>
      intro he hp r
      have hr : svFound p f s.dev = r := rfl
      refine ⟨fun hn => by rw [svFrame'_unmatched he hp hr hn], fun i e hm hs => by rw [svFrame'_free he hp hr hm hs],
        fun i e hm hs => by rw [svFrame'_learned he hp hr hm hs], ?subscribed⟩
      case subscribed =>
        intro i e hm hs a q
        have ha : svAuth e f r.1 = a := rfl
        have hq : svRecognise i e f a.1 = q := rfl
        rw [svFrame'_subscribed he hp hr hm hs]
        exact ⟨fun hc => by rw [svChecked_dropped ha hc], fun hc h => by rw [svChecked_accepted ha hq hc h],
          fun hc hb h => by rw [svChecked_otherRate ha hq hc hb h]⟩
  case paired =>
    intro s p f hup hp
    rw [exec_svFrame_up hup hp]
    exact ⟨fun hsh => by rw [svFrameAny_shadow p f hsh], fun hsh hmi => by rw [svFrameAny_active p f hsh hmi]⟩
  case declared =>
    intro s hup
    rw [exec_legDeclare_up hup]
    exact ⟨fun hsh => by rw [legDeclare_shadow hsh],
      fun hsh leg hn => ⟨by rw [legDeclare_next hsh hn], declareLeg_declared leg _⟩,
      fun hsh hn => by rw [legDeclare_none hsh hn]⟩

end Sys2Proof.Machine
end

section
/-! SUPPORT and PROOF. Entries of the subscription table and gathers (04 R107, R108, R111, R112, R132 to R134): the rows on a device
that runs, and what a commit, an age-out and a gather do in each of their cases. -/

namespace Sys2Proof.Machine

section
variable {s : State} (h : s.dev.up = true)
include h

theorem exec_sauInvalDone_up : exec .sauInvalDone s = .next (s.commit (s.dev.wn Reg.sauInvalStatus 0)) :=
  State.act_up s (fun d => d.wn Reg.sauInvalStatus 0) h

theorem exec_gatherDone_up : exec .gatherDone s = .next (s.commit (s.dev.clrB Reg.sauGatherStatus 0)) :=
  State.act_up s (fun d => d.clrB Reg.sauGatherStatus 0) h

theorem exec_gather_up {count : Nat} (h1 : 1 ≤ count) (h16 : count ≤ 16) (corr ecc : List Nat) :
    exec (.gather count corr ecc) s = .next (s.commit
      (sauGather count (corr.filter (fun x => x < count)) (ecc.filter (fun x => x < count)) s.dev)) :=
  State.act_onlyIf h (by simp [h1, h16]) (sauGather count (corr.filter (fun x => x < count)) (ecc.filter (fun x => x < count)))

variable {i : Nat} (hi : i < 4096)
include hi

theorem exec_sauEntryRead_up : exec (.sauEntryRead i) s = .next (s.commit (sauEntRead i s.dev)) :=
  State.act_onlyIf h (decide_eq_true hi) (sauEntRead i)

theorem exec_sauEntryCommit_up : exec (.sauEntryCommit i) s = .next (s.commit (sauEntCommit i s.dev)) :=
  State.act_onlyIf h (decide_eq_true hi) (sauEntCommit i)

theorem exec_sauInvalidate_up (all : Bool) : exec (.sauInvalidate i all) s = .next (s.commit (sauInval i all s.dev)) :=
  State.act_onlyIf h (decide_eq_true hi) (sauInval i all)

theorem exec_svEntryAgeOut_up : exec (.svEntryAgeOut i) s = .next (s.commit (entAge i s.dev)) :=
  State.act_onlyIf h (decide_eq_true hi) (entAge i)

end

/-! A commit of the staged words (R107, R108). -/

section
variable {i : Nat} {w : List Nat} {d : Dev}

/-- The 24 words staged for a commit. -/
def stagedEnt (d : Dev) : List Nat := (List.range 24).map (fun k => d.rn (Reg.sauEntStage k))

theorem sauEntCommit_refused (hw : stagedEnt d = w) (hb : sauCommitBad d liveryWho i w = true) :
    sauEntCommit i d = d.wn Reg.sauEntStatus 2 := by
  subst hw
  exact if_pos hb

theorem sauEntCommit_taken (hw : stagedEnt d = w) (hb : sauCommitBad d liveryWho i w = false) :
    sauEntCommit i d = sauEntPut i w (journal 0 i w (d.wn Reg.sauEntStatus 0)) := by
  subst hw
  exact if_neg (Bool.eq_false_iff.mp hb)

theorem sauEntPut_free (h : entState w = 0) : sauEntPut i w d = freeEnt i d :=
  if_pos h

/-- An entry that has a timing model keeps it. -/
theorem sauEntPut_subscribed (h : 2 ≤ entState w) (hwas : 2 ≤ entState (sauEnt d i)) :
    sauEntPut i w d = setEnt i (entClean w) d := by
  rw [sauEntPut, if_neg (by omega), if_pos h, if_pos hwas]

end

/-! Invalidation (R111). -/

theorem sauInval_all (i : Nat) (d : Dev) :
    sauInval i true d = { d with sau := { d.sau with cache := [] } }.wn Reg.sauInvalStatus 1 := by
  rw [sauInval, if_pos rfl]

theorem sauInval_one (i : Nat) (d : Dev) :
    sauInval i false d = { d with sau := { d.sau with
      cache := (tmap (fun _ (l : List (Nat × List Nat)) => l.filter (fun (x : Nat × List Nat) => x.1 != i)) d.sau.cache).filter
        (fun p => p.2 != []) } }.wn Reg.sauInvalStatus 1 := by
  rw [sauInval, if_neg Bool.false_ne_true]

/-! The age of a LEARNED entry (R112). -/

theorem entAge_aged {i : Nat} {d : Dev} (hs : entState (sauEnt d i) = esLearned) (hl : d.fldR Reg.sauAgeRoutes 0 20 ≠ 0)
    (ha : d.fldR Reg.sauAgeRoutes 0 20 ≤ (strm d i).age) : entAge i d = delStrm i (setEnt i sauZero d) :=
  if_neg (by simp [hs, hl, ha])

theorem entAge_stays {i : Nat} {d : Dev} (h : entState (sauEnt d i) ≠ esLearned ∨ d.fldR Reg.sauAgeRoutes 0 20 = 0 ∨
    (strm d i).age < d.fldR Reg.sauAgeRoutes 0 20) : entAge i d = d :=
  if_pos (by simpa [or_assoc] using h)

/-! Gathers (R132 to R134). -/

theorem gatherElem_declared {d : Dev} {w m : Nat} (hm : d.sau.declared = some m) (hw : fld w 17 6 ≤ m) :
    gatherElem d w = some (fld w 0 12, fld w 12 5, m - fld w 17 6, fld w 23 5) := by
  simp only [gatherElem, hm]
  exact if_neg (Nat.not_lt.mpr hw)

/-- An element of an entry that is neither LIVE nor SUSPENDED has no row. -/
theorem gatherRow_unsubscribed {d : Dev} {g : GElem} (h : entState (sauEnt d g.1) < 2) (who : Requester) :
    gatherRow d who g = none := by
  unfold gatherRow
  extract_lets e granted
  split
  next => rfl
  next => exact if_pos (by simp [e, h])

theorem gatherAt_unsubscribed {d : Dev} {g : GElem} (h : entState (sauEnt d g.1) < 2) (who : Requester) :
    gatherAt d who g = gatherBad := by
  rw [gatherAt, gatherRow_unsubscribed h]

theorem gatherEcc_none {d : Dev} (h : d.sau.ecc = []) (who : Requester) (l : List GElem) : gatherEcc who l d = d :=
  if_pos h

/-- A gather of one element that faults, with no ECC error known: the fault's value and quality, one fault at position 0. -/
theorem sauGather_oneFault {d : Dev} {g : GElem} (he : gatherElem d (d.rn (Reg.sauGatherIdx 0)) = some g)
    (hb : gatherAt d none g = gatherBad) (hc : d.sau.ecc = []) :
    sauGather 1 [] [] d =
      ((d.wn (Reg.sauGatherVal 0) 0x80000000).setF (Reg.sauGatherQual 0) 0 8 1).wn Reg.sauGatherStatus 3 := by
  simp [sauGather, eccFound, he, hb, gatherBad, gatherEcc_none hc, wrapN, List.range_succ]

/-- Settles O15, row by row: each clause is a case of the row's operation. -/
theorem subscriptionsAndGathers : Obligations.SubscriptionsAndGathers := by
  refine ⟨?entries, ?gathers⟩
  case entries =>
    intro s i hup hi
    rw [exec_sauEntryRead_up hup hi, exec_sauEntryCommit_up hup hi, exec_sauInvalidate_up hup hi,
      exec_sauInvalidate_up hup hi, exec_sauInvalDone_up hup, exec_svEntryAgeOut_up hup hi]
    refine ⟨by rw [sauEntRead], ?commit, by rw [sauInval_all], by rw [sauInval_one], rfl,
      fun hs hl ha => by rw [entAge_aged hs hl ha], fun h => by rw [entAge_stays h]⟩
    case commit =>
      intro w d
      have hw : stagedEnt s.dev = w := rfl
      have taken (hb : sauCommitBad s.dev liveryWho i w = false) : sauEntCommit i s.dev = sauEntPut i w d :=
        sauEntCommit_taken hw hb
      exact ⟨fun hb => by rw [sauEntCommit_refused hw hb], fun hb => by rw [taken hb],
        fun hb h0 => by rw [taken hb, sauEntPut_free h0], fun hb h2 hwas => by rw [taken hb, sauEntPut_subscribed h2 hwas]⟩
  case gathers =>
    intro s hup
    refine ⟨fun m hm hc hs hle => ?fault, fun count corr ecc h1 h16 => ?any, exec_gatherDone_up hup⟩
    case fault =>
      have he := gatherElem_declared hm hle
      rw [exec_gather_up hup (Nat.le_refl 1) (by decide), List.filter_nil,
        sauGather_oneFault he (gatherAt_unsubscribed (by exact hs) none) hc]
    case any =>
      -- The statement writes out the operation's own steps.
      exact exec_gather_up hup h1 h16 corr ecc

end Sys2Proof.Machine
end

section
/-! SUPPORT and PROOF. The stream commands (04 R100, R103, R104; 13 R413): what the own part of each opcode does in each of its cases. -/

namespace Sys2Proof.Machine

/-! STREAM_LIVE (04 R103): its refusals in their order, and its acceptance. The entry and the projected table are named. -/

/-- The words of the entry that a STREAM_LIVE makes live: those it supplies, or the committed ones. -/
def liveWords (data : List Word) (p : List Nat) (q : Dev) : List Nat :=
  if bitOf (entW p 0) 31 then takePad 0 24 (data.map (fun x => x.toNat)) else sauEnt q (fld (entW p 0) 0 12)

section
variable {h : Cmd} {data : List Word} {p : List Nat} {d q : Dev} {i : Nat} {w : List Nat} (hq : projStreams d = q)
  (hi : fld (entW p 0) 0 12 = i) (hw : liveWords data p q = w)
include hq hi hw

theorem streamLiveBody_bad (hb : liveBad q (bitOf (entW p 0) 31) i w = true) :
    streamLiveBody h data p d = (d, badP (liveParam q (bitOf (entW p 0) 31) i)) := by
  subst hq hi hw
  exact if_pos hb

variable (hb : liveBad q (bitOf (entW p 0) 31) i w = false)
include hb

theorem streamLiveBody_noRows (hr : lowestRun (rowRuns (tdel q.sau.entries i)) (entCost w) = none) :
    streamLiveBody h data p d = (d, noA cNoResource) := by
  subst hq hi hw
  simp only [liveWords] at hb hr
  simp only [streamLiveBody, hb, hr]
  exact if_neg Bool.false_ne_true

/-- With rows free, the units and then the key slot decide. -/
theorem streamLiveBody_rows {b : Nat} (hr : lowestRun (rowRuns (tdel q.sau.entries i)) (entCost w) = some b) :
    streamLiveBody h data p d =
      if 4096 < unitsUsed (tdel q.sau.entries i) + entCost w then (d, noA cNoResource)
      else if !namesSlot d (entAuth w) (entSlot w) fnVerifyIn .livery (cmdWho d h) then (d, noA cDenied)
      else (d.atRoute (.stream 0 i w), okA [b + entCost w * 4096]) := by
  subst hq hi hw
  simp only [liveWords] at hb hr ⊢
  simp only [streamLiveBody, hb, hr]
  exact if_neg Bool.false_ne_true

theorem streamLiveBody_noResource
    (hn : lowestRun (rowRuns (tdel q.sau.entries i)) (entCost w) = none ∨ 4096 < unitsUsed (tdel q.sau.entries i) + entCost w) :
    streamLiveBody h data p d = (d, noA cNoResource) := by
  cases hr : lowestRun (rowRuns (tdel q.sau.entries i)) (entCost w) with
  | none => exact streamLiveBody_noRows hq hi hw hb hr
  | some b => rw [streamLiveBody_rows hq hi hw hb hr, if_pos (hn.resolve_left (by simp [hr]))]

variable {b : Nat} (hr : lowestRun (rowRuns (tdel q.sau.entries i)) (entCost w) = some b)
  (hu : unitsUsed (tdel q.sau.entries i) + entCost w ≤ 4096)
include hr hu

theorem streamLiveBody_denied (hn : namesSlot d (entAuth w) (entSlot w) fnVerifyIn .livery (cmdWho d h) = false) :
    streamLiveBody h data p d = (d, noA cDenied) := by
  rw [streamLiveBody_rows hq hi hw hb hr, if_neg (Nat.not_lt.mpr hu), if_pos (by simp [hn])]

theorem streamLiveBody_taken (hn : namesSlot d (entAuth w) (entSlot w) fnVerifyIn .livery (cmdWho d h) = true) :
    streamLiveBody h data p d = (d.atRoute (.stream 0 i w), okA [b + entCost w * 4096]) := by
  rw [streamLiveBody_rows hq hi hw hb hr, if_neg (Nat.not_lt.mpr hu), if_neg (by simp [hn])]

end

/-! STREAM_SUSPEND, STREAM_RESUME, STREAM_RETIRE (04 R100, R104). -/

theorem streamChange_taken {op st : Nat} {p : List Nat} {d : Dev}
    (hs : entState (sauEnt (projStreams d) (fld (entW p 0) 0 12)) = st) :
    streamChange op st p d = (d.atRoute (.stream op (fld (entW p 0) 0 12) []), okA []) :=
  if_neg (not_not_intro hs)

theorem streamChange_otherState {op st : Nat} {p : List Nat} {d : Dev}
    (hs : entState (sauEnt (projStreams d) (fld (entW p 0) 0 12)) ≠ st) : streamChange op st p d = (d, badP 0) :=
  if_pos hs

theorem streamRetire_free {p : List Nat} {d : Dev} (hs : entState (sauEnt (projStreams d) (fld (entW p 0) 0 12)) = esFree) :
    streamRetire p d = (d, badP 0) :=
  if_pos hs

section
variable {p : List Nat} {d : Dev} (hs : entState (sauEnt (projStreams d) (fld (entW p 0) 0 12)) ≠ esFree)
include hs

theorem streamRetire_granted (hg : (grantees d (fld (entW p 0) 0 12)).any (fun c => projSt d c == stEnabled) = true) :
    streamRetire p d = (d, noA cDenied) := by
  rw [streamRetire, if_neg hs, if_pos hg]

theorem streamRetire_taken (hg : (grantees d (fld (entW p 0) 0 12)).any (fun c => projSt d c == stEnabled) = false) :
    streamRetire p d = (d.atRoute (.stream 3 (fld (entW p 0) 0 12) []), okA []) := by
  rw [streamRetire, if_neg hs, if_neg (Bool.eq_false_iff.mp hg)]

end

/-! STREAM_GRANT, STREAM_REVOKE (13 R413). -/

theorem streamGrant_noCarriage {c : Nat} {p : List Nat} {d : Dev} (hk : tfind d.cars c = none) :
    streamGrant c p d = (d, noA cWrongMode) := by
  rw [streamGrant, hk]

section
variable {c : Nat} {p : List Nat} {d : Dev} {k : Car} (hk : tfind d.cars c = some k)
include hk

theorem streamGrant_held (hc : k.sv.contains (fld (entW p 0) 0 12) = true) : streamGrant c p d = (d, okA []) := by
  simp only [streamGrant, hk]
  exact if_pos hc

variable (hc : k.sv.contains (fld (entW p 0) 0 12) = false)
include hc

theorem streamGrant_full (hl : 64 ≤ k.sv.length) : streamGrant c p d = (d, noA cNoResource) := by
  simp only [streamGrant, hk]
  rw [if_neg (Bool.eq_false_iff.mp hc), if_pos hl]

theorem streamGrant_added (hl : k.sv.length < 64) :
    streamGrant c p d = (modCar c (fun k => { k with sv := k.sv ++ [fld (entW p 0) 0 12] }) d, okA []) := by
  simp only [streamGrant, hk]
  rw [if_neg (Bool.eq_false_iff.mp hc), if_neg (Nat.not_le.mpr hl)]

end

theorem streamRevoke_denied {c : Nat} {p : List Nat} {d : Dev} (hs : projSt d c = stEnabled ∨ carSt d c = stRestoring) :
    streamRevoke c p d = (d, noA cDenied) :=
  if_pos (by simpa using hs)

theorem streamRevoke_taken {c : Nat} {p : List Nat} {d : Dev} (he : projSt d c ≠ stEnabled) (hr : carSt d c ≠ stRestoring) :
    streamRevoke c p d = (modCar c (fun k => { k with sv := k.sv.filter (fun x => x != fld (entW p 0) 0 12) }) d, okA []) :=
  if_neg (by simp [he, hr])

/-- Settles O36, opcode by opcode: each clause is a case of the opcode's own part, on an entry that Phiash takes. -/
theorem streamCommands : Obligations.StreamCommands := by
  intro h data s d p i q c
  refine ⟨?live, ?suspend, ?resume, ?retire, ?grant, ?revoke, ?learnList⟩
  case live =>
    intro ht w
    have hq : projStreams d = q := rfl
    have hi : fld (entW p 0) 0 12 = i := rfl
    have hw : liveWords data p q = w := rfl
    exact ⟨fun b hb hr hu hn => act_takes_of_body ht (streamLiveBody_taken hq hi hw hb hr hu hn),
      fun b hb hr hu hn => act_takes_of_body ht (streamLiveBody_denied hq hi hw hb hr hu hn),
      fun hb hn => act_takes_of_body ht (streamLiveBody_noResource hq hi hw hb hn),
      fun hb => act_takes_of_body ht (streamLiveBody_bad hq hi hw hb)⟩
  case suspend =>
    intro ht
    exact ⟨fun hs => act_takes_of_body ht (streamChange_taken hs), fun hs => act_takes_of_body ht (streamChange_otherState hs)⟩
  case resume =>
    intro ht
    exact ⟨fun hs => act_takes_of_body ht (streamChange_taken hs), fun hs => act_takes_of_body ht (streamChange_otherState hs)⟩
  case retire =>
    intro ht
    exact ⟨fun hs => act_takes_of_body ht (streamRetire_free hs),
      fun hs hg => act_takes_of_body ht (streamRetire_taken hs hg),
      fun hs hg => act_takes_of_body ht (streamRetire_granted hs hg)⟩
  case grant =>
    intro ht
    exact ⟨fun hk => act_takes_of_body ht (streamGrant_noCarriage hk),
      fun k hk hc => act_takes_of_body ht (streamGrant_held hk hc),
      fun k hk hc hl => act_takes_of_body ht (streamGrant_added hk hc hl),
      fun k hk hc hl => act_takes_of_body ht (streamGrant_full hk hc hl)⟩
  case revoke =>
    intro ht
    exact ⟨fun he hr => act_takes_of_body ht (streamRevoke_taken he hr),
      fun hs => act_takes_of_body ht (streamRevoke_denied hs)⟩
  case learnList =>
    intro ht
    -- The own part is this one answer, so no case is told apart.
    exact act_takes_of_body ht rfl

end Sys2Proof.Machine
end

section
/-! SUPPORT and PROOF. The filter chain (05 R136 to R140, R149, R158, R165): a channel's turn on a lane, the end of a HOLD, the
descriptor tables and the swap of bank 4, each row on a device that runs and in each of its cases. -/

namespace Sys2Proof.Machine

/-! The rows. -/

section
variable {s : State} (h : s.dev.up = true)
include h

theorem exec_filterStageRun_up {lane ch : Nat} (hl : lane < 64) (hc : ch < 32768) :
    exec (.filterStageRun lane ch) s = .next (s.commit (filterStage lane ch s.mem s.dev)) :=
  State.act_onlyIf h (by simp only [hl, hc, decide_true, Bool.and_self]) (filterStage lane ch s.mem)

theorem exec_trackHoldTimeout_up {g : Nat} (hg : g < 1024) :
    exec (.trackHoldTimeout g) s = .next (s.commit (holdTimeout g s.dev)) :=
  State.act_onlyIf h (decide_eq_true hg) (holdTimeout g)

theorem exec_fchDescRead_up {t i : Nat} (ht : t < 3) (hi : i < 32768) :
    exec (.fchDescRead t i) s = .next (s.commit (fchDescRead t i s.dev)) :=
  State.act_onlyIf h (by simp only [ht, hi, decide_true, Bool.and_self]) (fchDescRead t i)

theorem exec_fchDescCommit_up {t i : Nat} (ht : t < 3) (hi : i < 32768) :
    exec (.fchDescCommit t i) s = .next (s.commit (fchCommitCmd t i s.dev)) :=
  State.act_onlyIf h (by simp only [ht, hi, decide_true, Bool.and_self]) (fchCommitCmd t i)

theorem exec_coefSwapRequest_up :
    exec .coefSwapRequest s = .next (s.commit (rwm s.dev (fun d => d.setB Reg.fchCoefCtrl 0))) :=
  State.act_up s (fun d => rwm d (fun d => d.setB Reg.fchCoefCtrl 0)) h

end

/-! The leg that a channel processes next (R139): only a channel 48 legs behind skips, and a trip channel of a P0 carriage never. -/

section
variable {d : Dev} {ch now n : Nat} {w : List Nat}

theorem nextLeg_fresh (hn : (fchan d ch).next = none) : nextLeg d ch now w = (now, false) := by
  rw [nextLeg, hn]

theorem nextLeg_inOrder (hn : (fchan d ch).next = some n)
    (hb : now ≤ n + 48 ∨ (chTrip w = true ∧ carCls d (chCar w) = 0)) : nextLeg d ch now w = (n, false) := by
  simp only [nextLeg, hn]
  refine if_neg (fun hskip => ?_)
  obtain ⟨hlt, hfree⟩ := (Bool.and_eq_true _ _).mp hskip
  rcases hb with hle | ⟨ht, hp⟩
  · exact absurd (of_decide_eq_true hlt) (Nat.not_lt.mpr hle)
  · simp only [ht, hp, beq_self_eq_true, Bool.and_self, Bool.not_true, Bool.false_eq_true] at hfree

theorem nextLeg_behind (hn : (fchan d ch).next = some n) (hb : n + 48 < now)
    (hc : chTrip w = false ∨ carCls d (chCar w) ≠ 0) : nextLeg d ch now w = (now, true) := by
  simp only [nextLeg, hn]
  refine if_pos ((Bool.and_eq_true _ _).mpr ⟨decide_eq_true hb, ?_⟩)
  rcases hc with hc | hc
  · rw [hc, Bool.false_and, Bool.not_false]
  · rw [beq_false_of_ne hc, Bool.and_false, Bool.not_false]

end

/-! A channel's turn on a lane (R136, R137, R140; 08 R243, R258). -/

section
variable {m : List Host.Cell} {lane ch l now : Nat} {d : Dev}

theorem filterRun_unable (hc : laneCan d lane (fchDesc d 0 ch) = false) : filterRun m lane ch l d = d :=
  if_pos (by rw [hc, Bool.not_false])

theorem filterRun_undeclared (hd : d.sau.declared = none) : filterRun m lane ch l d = d := by
  simp only [filterRun, hd, ite_self]

/-- A channel's turn by the leg it takes and whether it skips to it. -/
theorem filterRun_able {n : Nat} {skip : Bool} (hc : laneCan d lane (fchDesc d 0 ch) = true) (hd : d.sau.declared = some now)
    (hn : nextLeg d ch now (fchDesc d 0 ch) = (n, skip)) :
    filterRun m lane ch l d =
      if min now l < n then (if skip then chanSkip ch d else d)
      else chanLeg m lane ch n (fchDesc d 0 ch) (if skip then chanSkip ch d else d) := by
  simp only [filterRun, hc, hd, hn, Bool.not_true, Bool.false_eq_true, if_false]

theorem filterStage_seated (hs : chanSeat d lane ch = some l) : filterStage lane ch m d = filterRun m lane ch l d := by
  rw [filterStage, hs]

theorem filterStage_noSeat (hs : chanSeat d lane ch = none) : filterStage lane ch m d = d := by
  rw [filterStage, hs]

/-- A lane with no leg for the channel, one that may not run it, or no leg declared. -/
theorem filterStage_idle
    (h : chanSeat d lane ch = none ∨ laneCan d lane (fchDesc d 0 ch) = false ∨ d.sau.declared = none) :
    filterStage lane ch m d = d := by
  cases hs : chanSeat d lane ch with
  | none => exact filterStage_noSeat hs
  | some l =>
    rw [filterStage_seated hs]
    rcases h with h | h | h
    · exact absurd (hs.symm.trans h) (Option.some_ne_none l)
    · exact filterRun_unable h
    · exact filterRun_undeclared h

variable (hs : chanSeat d lane ch = some l) (hc : laneCan d lane (fchDesc d 0 ch) = true) (hd : d.sau.declared = some now)
include hs hc hd

/-- A turn without a skip waits for a leg past the declared or the served one, and runs any other. -/
theorem filterStage_waits {n : Nat} (hn : nextLeg d ch now (fchDesc d 0 ch) = (n, false)) (hlt : min now l < n) :
    filterStage lane ch m d = d := by
  rw [filterStage_seated hs, filterRun_able hc hd hn, if_pos hlt, if_neg Bool.false_ne_true]

theorem filterStage_runs {n : Nat} (hn : nextLeg d ch now (fchDesc d 0 ch) = (n, false)) (hle : n ≤ min now l) :
    filterStage lane ch m d = chanLeg m lane ch n (fchDesc d 0 ch) d := by
  rw [filterStage_seated hs, filterRun_able hc hd hn, if_neg (Nat.not_lt.mpr hle), if_neg Bool.false_ne_true]

/-- A skip to the declared leg: the lane runs it where it serves that leg. -/
theorem filterStage_skipsAndRuns (hn : nextLeg d ch now (fchDesc d 0 ch) = (now, true)) (hle : now ≤ l) :
    filterStage lane ch m d = chanLeg m lane ch now (fchDesc d 0 ch) (chanSkip ch d) := by
  rw [filterStage_seated hs, filterRun_able hc hd hn, if_neg (by omega), if_pos rfl]

theorem filterStage_skips (hn : nextLeg d ch now (fchDesc d 0 ch) = (now, true)) (hlt : l < now) :
    filterStage lane ch m d = chanSkip ch d := by
  rw [filterStage_seated hs, filterRun_able hc hd hn, if_pos (by omega), if_pos rfl]

end

/-! The end of a HOLD (R158). -/

section
variable {d : Dev} {g l : Nat} {b : Bool}

theorem holdTimeout_over (hh : (fgrp d g).hold = some (l, b)) (hs : grpState d g = tHold)
    (hl : l + tgHold (fchDesc d 2 g) * 240 ≤ d.tim.absLeg) :
    holdTimeout g d = (d.wn (Reg.fchTFreq g) (tgNom (fchDesc d 2 g))).clrB (Reg.fchTStatus g) 2 := by
  simp only [holdTimeout, hh]
  exact if_pos ((Bool.and_eq_true _ _).mpr ⟨beq_iff_eq.mpr hs, decide_eq_true hl⟩)

theorem holdTimeout_early (hh : (fgrp d g).hold = some (l, b))
    (h : grpState d g ≠ tHold ∨ d.tim.absLeg < l + tgHold (fchDesc d 2 g) * 240) : holdTimeout g d = d := by
  simp only [holdTimeout, hh]
  refine if_neg (fun hend => ?_)
  obtain ⟨hs, hl⟩ := (Bool.and_eq_true _ _).mp hend
  rcases h with h | h
  · exact h (eq_of_beq hs)
  · exact absurd (of_decide_eq_true hl) (Nat.not_le.mpr h)

theorem holdTimeout_noHold (hh : (fgrp d g).hold = none) : holdTimeout g d = d := by
  rw [holdTimeout, hh]

end

/-! A commit of the staged words (R165), and its admission (08 R253; log 17). -/

section
variable {t i : Nat} {w : List Nat} {d : Dev}

/-- The 8 words staged for a commit. -/
def stagedFch (d : Dev) : List Nat := (List.range 8).map (fun k => d.rn (Reg.fchDescStage k))

theorem fchDescCommit_refused (hw : stagedFch d = w) (hr : fchReason d t i w ≠ 0) :
    fchDescCommit t i d = d.wn Reg.fchDescStatus (2 + fchReason d t i w * 16) := by
  subst hw
  exact if_pos hr

theorem fchDescCommit_pends (hw : stagedFch d = w) (hr : fchReason d t i w = 0) :
    fchDescCommit t i d = { journal 1 (fchKey t i) w (d.wn Reg.fchDescStatus 0) with
      fch := { d.fch with pend := tput d.fch.pend (fchKey t i) (fchWords t w) } } := by
  subst hw
  exact if_neg (not_not_intro hr)

/-- A commit that changes no carriage's cost or work needs no admission. -/
theorem admitChanges_unchanged {d' : Dev} (h : changedCars d d' = []) : admitChanges d d' = (d', 0) := by
  rw [admitChanges, h, List.foldl_nil]

theorem fchCommitCmd_admitted (h : (admitChanges d (fchDescCommit t i d)).2 = 0) :
    fchCommitCmd t i d = (admitChanges d (fchDescCommit t i d)).1 :=
  if_pos h

theorem fchCommitCmd_notAdmitted (h : (admitChanges d (fchDescCommit t i d)).2 ≠ 0) :
    fchCommitCmd t i d = d.wn Reg.fchDescStatus 2 :=
  if_neg h

theorem fchCommitCmd_unchanged (h : changedCars d (fchDescCommit t i d) = []) : fchCommitCmd t i d = fchDescCommit t i d := by
  have ha := admitChanges_unchanged h
  rw [fchCommitCmd_admitted (by rw [ha]), ha]

end

/-- Boot and Maintenance take a write of an RWM register (00_scope R11). -/
theorem rwm_taken {d : Dev} (h : d.mode = modeBoot ∨ d.mode = modeMaintenance) (f : Dev → Dev) : rwm d f = f d :=
  if_pos h

/-- Settles O16, row by row: a channel's turn splits by the leg it takes next, and every other clause is a case of the row's operation. -/
theorem filterStagesAndTables : Obligations.FilterStagesAndTables := by
  refine ⟨?turn, ?idle, ?tables⟩
  case turn =>
    intro s lane ch l now hup hl hc hseat hcan hdecl w cut
    rw [exec_filterStageRun_up hup hl hc]
    refine ⟨fun n hn hlt hb => ?waits, fun n hn hle hb => ?runs, fun n hn hb hcls => ⟨fun hle => ?skipsAndRuns, fun hlt => ?skips⟩,
      fun hn hle => ?fresh⟩
    case waits => rw [filterStage_waits hseat hcan hdecl (nextLeg_inOrder hn hb) hlt]
    case runs => rw [filterStage_runs hseat hcan hdecl (nextLeg_inOrder hn hb) hle]
    case skipsAndRuns => rw [filterStage_skipsAndRuns hseat hcan hdecl (nextLeg_behind hn hb hcls) hle]
    case skips => rw [filterStage_skips hseat hcan hdecl (nextLeg_behind hn hb hcls) hlt]
    case fresh => rw [filterStage_runs hseat hcan hdecl (nextLeg_fresh hn) (Nat.le_min.mpr ⟨Nat.le_refl now, hle⟩)]
  case idle =>
    intro s lane ch hup hl hc h
    rw [exec_filterStageRun_up hup hl hc, filterStage_idle h]
  case tables =>
    intro s t i g hup ht hi
    rw [exec_fchDescRead_up hup ht hi, exec_fchDescCommit_up hup ht hi, exec_coefSwapRequest_up hup]
    refine ⟨fun l b hg hh => ?hold, fun hg hh => ?noHold, by rw [fchDescRead], ?commit, fun hm => by rw [rwm_taken hm],
      fun hb hm => by rw [rwm_refused hb hm]⟩
    case hold =>
      rw [exec_trackHoldTimeout_up hup hg]
      exact ⟨fun hs hl => by rw [holdTimeout_over hh hs hl], fun h => by rw [holdTimeout_early hh h]⟩
    case noHold => rw [exec_trackHoldTimeout_up hup hg, holdTimeout_noHold hh]
    case commit =>
      intro w d r
      have hw : stagedFch s.dev = w := rfl
      exact ⟨fchDescCommit_pends hw, fchDescCommit_refused hw, fun hu => by rw [fchCommitCmd_unchanged hu],
        fun ha => by rw [fchCommitCmd_admitted ha], fun ha => by rw [fchCommitCmd_notAdmitted ha]⟩

end Sys2Proof.Machine
end

section
/-! SUPPORT and PROOF. The kernel rows (06 R170 to R172, R180 to R195; 08 R243): every row is one operation under its code, which runs
the kernel of that code and does nothing else; what a run is for each kernel, and what keeps an engine from a run. -/

namespace Sys2Proof.Machine

/-! The rows: each is `kernelRun` under its own code. -/

/-- The kernel rows with the codes of R182. -/
def kernelRows : List (Nat × (Nat → Nat → Instr)) :=
  [(1, .kPhasorDft), (2, .kPhasorCos), (3, .kSeq), (4, .kImped), (5, .kMho), (6, .kQuad), (7, .kDiff), (8, .kFastOc), (9, .kFastDiff),
    (10, .kIdmt), (11, .kFreq), (12, .kPower), (13, .kSync)]

theorem exec_kernelRow {r : Nat × (Nat → Nat → Instr)} (hr : r ∈ kernelRows) (e k : Nat) (s : State) :
    exec (r.2 e k) s = kernelRow r.1 e k s := by
  simp only [kernelRows, List.mem_cons, List.not_mem_nil, or_false] at hr
  rcases hr with rfl | rfl | rfl | rfl | rfl | rfl | rfl | rfl | rfl | rfl | rfl | rfl | rfl <;> rfl

theorem exec_kernelRow_up {s : State} {e k code : Nat} {row : Nat → Nat → Instr}
    (hr : kernelRows.find? (fun r => r.1 == code) = some (code, row)) (h : s.dev.up = true) (he : e < 34) (hk : k < 65536) :
    exec (row e k) s = .next (s.commit (kernelRun code e k s.mem s.dev)) := by
  rw [exec_kernelRow (List.mem_of_find?_eq_some hr)]
  exact State.act_onlyIf h (by simp only [kOk, he, hk, decide_true, Bool.and_self]) (kernelRun code e k s.mem)

section
variable {m : List Host.Cell} {e k n code : Nat} {d : Dev}

theorem kernelRun_runs (hs : kernSeat d e k = some n) (hc : kCan d e k n = true) (hcode : kCode (kDesc d k) = code) :
    kernelRun code e k m d = kRun m e k n d := by
  simp only [kernelRun, hs, hc, hcode, decide_true, Bool.and_self, if_true]

/-- A descriptor of another kernel, no leg served, or a leg that the engine may not run. -/
theorem kernelRun_idle (h : kCode (kDesc d k) ≠ code ∨ ∀ n, kernSeat d e k = some n → kCan d e k n = false) :
    kernelRun code e k m d = d := by
  cases hs : kernSeat d e k with
  | none => rw [kernelRun, hs]
  | some n =>
    simp only [kernelRun, hs]
    refine if_neg (fun hrun => ?_)
    obtain ⟨hcode, hcan⟩ := (Bool.and_eq_true _ _).mp hrun
    rcases h with h | h
    · exact h (of_decide_eq_true hcode)
    · exact Bool.false_ne_true ((h n hs).symm.trans hcan)

end

/-! What a run is: the phasor kernels keep windows of samples, and every other kernel stores what `kResultOf` gives. -/

section
variable {m : List Host.Cell} {e k n : Nat} {d : Dev} {w : List Nat} (hw : kDesc d k = w)
include hw

theorem kRun_dft (hc : kCode w = 1) :
    kRun m e k n d = kRan e k n w (phasorRun m k n w kDft (gatherEcc (some (kCar w)) (fastElems d n w) d)) := by
  subst hw
  exact if_pos hc

theorem kRun_cos (hc : kCode w = 2) :
    kRun m e k n d = kRan e k n w (phasorRun m k n w kCos (gatherEcc (some (kCar w)) (fastElems d n w) d)) := by
  subst hw
  rw [kRun, if_neg (by omega), if_pos hc]

theorem kRun_stores {dg : Dev} (hg : gatherEcc (some (kCar w)) (fastElems d n w) d = dg) {o : KOut} {x : KInst} (hc : 2 < kCode w)
    (ho : kResultOf m dg n w (kInst dg k) = (o, x)) :
    kRun m e k n d = kRan e k n w (kStore w n o (setInst k x dg)) := by
  subst hw hg
  rw [kRun, if_neg (by omega), if_neg (by omega), ho]

end

section
variable {m : List Host.Cell} {d : Dev} {n : Nat} {w : List Nat} {x : KInst}

theorem kResultOf_seq (h : kCode w = 3) : kResultOf m d n w x = (kSeq n (runIns m d w) w, x) := by
  simp only [kResultOf, h]

theorem kResultOf_imped (h : kCode w = 4) : kResultOf m d n w x = (kImped n (runIns m d w) w, x) := by
  simp only [kResultOf, h]

theorem kResultOf_mho (h : kCode w = 5) : kResultOf m d n w x = (kMho n (runIns m d w) w, x) := by
  simp only [kResultOf, h]

theorem kResultOf_quad (h : kCode w = 6) : kResultOf m d n w x = (kQuad n (runIns m d w) w, x) := by
  simp only [kResultOf, h]

theorem kResultOf_diff (h : kCode w = 7) : kResultOf m d n w x = (kDiff n (runIns m d w) w, x) := by
  simp only [kResultOf, h]

theorem kResultOf_fastOc (h : kCode w = 8) : kResultOf m d n w x = ((kFastOc d n w x).1, (kFastOc d n w x).2) := by
  simp only [kResultOf, h]

theorem kResultOf_fastDiff (h : kCode w = 9) : kResultOf m d n w x = ((kFastDiff d n w x).1, (kFastDiff d n w x).2) := by
  simp only [kResultOf, h]

theorem kResultOf_idmt (h : kCode w = 10) : 
      kResultOf m d n w x = ((kIdmt n (nth [] (runIns m d w) 0) w x).1, (kIdmt n (nth [] (runIns m d w) 0) w x).2) := by
  simp only [kResultOf, h]

theorem kResultOf_freq (h : kCode w = 11) :
    kResultOf m d n w x = ((kFreq d n w x (recSeen m d (kCar w) (kResult w) (isBg d w))).1,
      (kFreq d n w x (recSeen m d (kCar w) (kResult w) (isBg d w))).2) := by
  simp only [kResultOf, h]

theorem kResultOf_power (h : kCode w = 12) : kResultOf m d n w x = (kPower n (runIns m d w) w, x) := by
  simp only [kResultOf, h]

theorem kResultOf_sync (h : kCode w = 13) :
    kResultOf m d n w x = (kSync n (nth [] (runIns m d w) 0) (nth [] (runIns m d w) 1) w, x) := by
  simp only [kResultOf, h]

end

/-! What keeps an engine from a run (R170; 08 R258). -/

/-- What an engine needs for a run of a descriptor for a leg. -/
structure EngineMay (d : Dev) (e k n : Nat) : Prop where
  desc : kDesc d k ≠ []
  inUse : kEn (kDesc d k) = true
  active : eRole d e = 0
  enabled : d.enabled Reg.eenCtrl = true
  runs : carRuns d (kCar (kDesc d k)) = true
  notShed : isShed d (kCar (kDesc d k)) = false
  declared : ∃ m, d.sau.declared = some m ∧ n ≤ m
  notRan : ranFor (kInst d k) n = false
  inOrder : (kList d (kDesc d k)).all (fun p => kResult p.2 ≤ kResult (kDesc d k) || !ranFor (kInst d p.1) n) = true

theorem engineMay_of_kCan {d : Dev} {e k n : Nat} (h : kCan d e k n = true) : EngineMay d e k n := by
  simp only [kCan, Bool.and_eq_true, Bool.not_eq_true', bne_iff_ne, beq_iff_eq] at h
  obtain ⟨⟨⟨⟨⟨⟨⟨⟨hdesc, huse⟩, hactive⟩, henabled⟩, hruns⟩, hshed⟩, hleg⟩, hran⟩, horder⟩ := h
  refine ⟨hdesc, huse, hactive, henabled, hruns, hshed, ?_, hran, horder⟩
  cases hd : d.sau.declared with
  | none => rw [hd] at hleg; exact absurd hleg Bool.false_ne_true
  | some m => rw [hd] at hleg; exact ⟨m, rfl, of_decide_eq_true hleg⟩

theorem kCan_eq_false {d : Dev} {e k n : Nat} (h : ¬ EngineMay d e k n) : kCan d e k n = false :=
  Bool.eq_false_iff.mpr (fun hc => h (engineMay_of_kCan hc))

/-- Settles O17: a row runs by `kernelRun`, a run is `kRun`, and each kernel's clause is an equation of `kResultOf`. -/
theorem kernelRuns : Obligations.KernelRuns := by
  refine ⟨?runs, ?idle, ?unable⟩
  case runs =>
    intro s e k n hup he hk hs hc w d x rs done
    have hw : kDesc s.dev k = w := rfl
    have hd : gatherEcc (some (kCar w)) (fastElems s.dev n w) s.dev = d := rfl
    have row {code : Nat} {r : Nat → Nat → Instr} (hr : kernelRows.find? (fun r => r.1 == code) = some (code, r))
        (hcode : kCode w = code) : exec (r e k) s = .next (s.commit (kRun s.mem e k n s.dev)) := by
      rw [exec_kernelRow_up hr hup he hk, kernelRun_runs hs hc hcode]
    have stores {code : Nat} {r : Nat → Nat → Instr} (hr : kernelRows.find? (fun r => r.1 == code) = some (code, r))
        (hcode : kCode w = code) (hlt : 2 < code) {o : KOut} {x' : KInst} (ho : kResultOf s.mem d n w x = (o, x')) :
        exec (r e k) s = done o x' := by
      rw [row hr hcode, kRun_stores hw hd (hcode ▸ hlt) ho]
    exact ⟨fun h => by rw [row rfl h, kRun_dft hw h], fun h => by rw [row rfl h, kRun_cos hw h],
      fun h => stores rfl h (by decide) (kResultOf_seq h), fun h => stores rfl h (by decide) (kResultOf_imped h),
      fun h => stores rfl h (by decide) (kResultOf_mho h), fun h => stores rfl h (by decide) (kResultOf_quad h),
      fun h => stores rfl h (by decide) (kResultOf_diff h), fun h => stores rfl h (by decide) (kResultOf_fastOc h),
      fun h => stores rfl h (by decide) (kResultOf_fastDiff h), fun h => stores rfl h (by decide) (kResultOf_idmt h),
      fun h => stores rfl h (by decide) (kResultOf_freq h), fun h => stores rfl h (by decide) (kResultOf_power h),
      fun h => stores rfl h (by decide) (kResultOf_sync h)⟩
  case idle =>
    intro s e k code row hup he hk hr h
    rw [exec_kernelRow_up hr hup he hk, kernelRun_idle h]
  case unable =>
    intro d e k n
    refine ⟨fun h => kCan_eq_false fun c => h c.active, fun h => kCan_eq_false fun c => Bool.false_ne_true (h.symm.trans c.enabled),
      fun h => kCan_eq_false fun c => c.desc h, fun h => kCan_eq_false fun c => Bool.false_ne_true (h.symm.trans c.runs),
      fun h => kCan_eq_false fun c => Bool.false_ne_true (c.notShed.symm.trans h),
      fun h => kCan_eq_false fun c => Bool.false_ne_true (c.notRan.symm.trans h), fun h => kCan_eq_false fun c => ?undeclared,
      fun m h hlt => kCan_eq_false fun c => ?notYet⟩
    case undeclared =>
      obtain ⟨m, hm, _⟩ := c.declared
      exact Option.some_ne_none m (hm.symm.trans h)
    case notYet =>
      obtain ⟨m', hm, hle⟩ := c.declared
      obtain rfl : m' = m := Option.some.inj (hm.symm.trans h)
      exact absurd hlt (Nat.not_lt.mpr hle)

end Sys2Proof.Machine
end

section
/-! SUPPORT and PROOF. Faults of the engines, the inspection's result and the kernel descriptors (06 R169, R177, R179, R200; 07 R211;
08 R253, R262): each row on a device that runs and in each of its cases. -/

namespace Sys2Proof.Machine

/-! Overruns and failures of an engine's memory (R169, R200; 07 R211). -/

/-! The rows of faults are taken apart by rewriting: checked definitionally, `retireUnit` and `runsLost` would be unfolded in the kernel. -/

theorem exec_seatOverrun (e : Nat) (s : State) : exec (.seatOverrun e) s = execSeatOverrun e s := rfl

theorem exec_engineFault (harness : Bool) (e : Nat) (s : State) :
    exec (.engineFault harness e) s = execEngineFault harness e s := rfl

section
variable {s : State} (h : s.dev.up = true) {e : Nat}
include h

theorem exec_seatOverrun_up (he : e < 34) :
    exec (.seatOverrun e) s = .next (s.commit (if eRole s.dev e = 3 then s.dev
      else retireUnit 1 e 3 (raise 234 none e 0 (runsLost s.mem e (s.dev.bump (Reg.eenEFaults e)))))) := by
  rw [exec_seatOverrun, execSeatOverrun, State.actM_up _ _ h, decide_eq_true he, onlyIf_true]

theorem exec_engineFault_element_up (he : e < 34) :
    exec (.engineFault false e) s = .next (s.commit (if eRole s.dev e = 3 then s.dev
      else retireUnit 1 e 2 (runsLost s.mem e (s.dev.bump (Reg.eenEFaults e))))) := by
  rw [exec_engineFault, execEngineFault, State.actM_up _ _ h, if_neg Bool.false_ne_true, decide_eq_true he, onlyIf_true,
    if_neg Bool.false_ne_true]

theorem exec_engineFault_harness_up (he : e < 17) :
    exec (.engineFault true e) s = .next (s.commit (retireUnit 2 e 2 s.dev)) := by
  rw [exec_engineFault, execEngineFault, State.actM_up _ _ h, if_pos rfl, decide_eq_true he, onlyIf_true, if_pos rfl]

theorem exec_inspectionResult_up {k : Nat} (hk : k < 3) (pass : Bool) :
    exec (.inspectionResult k pass) s = .next (s.commit (inspResult k pass s.dev)) :=
  State.act_onlyIf h (decide_eq_true hk) (inspResult k pass)

theorem exec_eenDescRead_up {i : Nat} (hi : i < 65536) :
    exec (.eenDescRead i) s = .next (s.commit (eenDescRead i s.dev)) :=
  State.act_onlyIf h (decide_eq_true hi) (eenDescRead i)

theorem exec_eenDescCommit_up {i : Nat} (hi : i < 65536) :
    exec (.eenDescCommit i) s = .next (s.commit (eenCommitCmd i s.dev)) :=
  State.act_onlyIf h (decide_eq_true hi) (eenCommitCmd i)

end

/-! The inspection's result (08 R262). -/

/-- The device with the result of unit `u` recorded, and the mismatch's source raised. -/
def inspRecorded (k u : Nat) (pass : Bool) (d : Dev) : Dev :=
  let w := u + b2n pass * 2 ^ 8 + d.tim.absRoute % 2 ^ 20 * 2 ^ 12
  let d := if k = 1 then d.wn Reg.eenInspectLast w else if k = 2 then d.wn Reg.hleInspectLast w else d
  if pass then d else if k = 1 then raise 237 none u 0 d else if k = 2 then raise 254 none u 0 d else d

section
variable {k u : Nat} {pass : Bool} {d : Dev}

/-- No unit in inspection, another leg, or a kind that does not inspect. -/
theorem inspResult_idle (h : inspUnit d k = none ∨ d.tim.absLeg % 240 ≠ 239 ∨ inspOn d k = false) : inspResult k pass d = d := by
  cases hu : inspUnit d k with
  | none => rw [inspResult, hu]
  | some u =>
    simp only [inspResult, hu]
    refine if_pos ?_
    rcases h with h | h | h
    · exact absurd (hu.symm.trans h) (Option.some_ne_none u)
    · rw [decide_eq_true h, Bool.true_or]
    · rw [h, Bool.not_false, Bool.or_true]

variable {d' : Dev} (hr : inspRecorded k u pass d = d') (hu : inspUnit d k = some u) (hl : d.tim.absLeg % 240 = 239)
  (hi : inspOn d k = true)
include hr hu hl hi

theorem inspResult_trial {x : Nat} {o : Option Bool} (ht : tfind d'.ttb.trial k = some (x, o)) :
    inspResult k pass d = { d' with ttb := { d'.ttb with trial := tput d'.ttb.trial k (x, some pass) } } := by
  subst hr
  simp only [inspRecorded] at ht ⊢
  simp only [inspResult, hu, hl, hi, ht, ne_eq, not_true_eq_false, decide_false, Bool.not_true, Bool.or_self, Bool.false_eq_true,
    if_false]

theorem inspResult_noTrial (ht : tfind d'.ttb.trial k = none) :
    inspResult k pass d = if pass then d' else { d' with ttb := { d'.ttb with retire := d'.ttb.retire ++ [(k, u)] } } := by
  subst hr
  simp only [inspRecorded] at ht ⊢
  simp only [inspResult, hu, hl, hi, ht, ne_eq, not_true_eq_false, decide_false, Bool.not_true, Bool.or_self, Bool.false_eq_true,
    if_false]

end

/-! A commit of the staged words (R179), and its admission (08 R253; log 17). -/

section
variable {i : Nat} {w : List Nat} {d : Dev}

/-- The 16 words staged for a commit. -/
def stagedEen (d : Dev) : List Nat := (List.range 16).map (fun k => d.rn (Reg.eenDescStage k))

theorem eenDescCommit_refused (hw : stagedEen d = w) (hr : kReason d i w ≠ 0) :
    eenDescCommit i d = d.wn Reg.eenDescStatus (2 + kReason d i w * 16) := by
  subst hw
  exact if_pos hr

theorem eenDescCommit_placed (hw : stagedEen d = w) (hr : kReason d i w = 0) :
    eenDescCommit i d = eenPlace i w (journal 2 i w (d.wn Reg.eenDescStatus 0)) := by
  subst hw
  exact if_neg (not_not_intro hr)

theorem eenCommitCmd_admitted (h : (admitChanges d (eenDescCommit i d)).2 = 0) :
    eenCommitCmd i d = (admitChanges d (eenDescCommit i d)).1 :=
  if_pos h

theorem eenCommitCmd_notAdmitted (h : (admitChanges d (eenDescCommit i d)).2 ≠ 0) :
    eenCommitCmd i d = d.wn Reg.eenDescStatus 2 :=
  if_neg h

theorem eenCommitCmd_unchanged (h : changedCars d (eenDescCommit i d) = []) : eenCommitCmd i d = eenDescCommit i d := by
  have ha := admitChanges_unchanged h
  rw [eenCommitCmd_admitted (by rw [ha]), ha]

end

/-- Settles O18, row by row: each clause is a case of the row's operation. -/
theorem engineFaults : Obligations.EngineFaults := by
  intro s e i hup
  refine ⟨fun he hr => ?overrun, fun he hr => ?memory, fun he hr => ⟨?overrunRetired, ?memoryRetired⟩,
    fun he => exec_engineFault_harness_up hup he, ?inspected, fun k pass hk h => ?notInspected, fun hi => ?read, ?commit⟩
  case overrun => rw [exec_seatOverrun_up hup he, if_neg hr]
  case memory => rw [exec_engineFault_element_up hup he, if_neg hr]
  case overrunRetired => rw [exec_seatOverrun_up hup he, if_pos hr]
  case memoryRetired => rw [exec_engineFault_element_up hup he, if_pos hr]
  case inspected =>
    intro k u pass hk hu hl hi w d d'
    have hr : inspRecorded k u pass s.dev = d' := rfl
    rw [exec_inspectionResult_up hup hk]
    exact ⟨fun x o ht => by rw [inspResult_trial hr hu hl hi ht], fun ht => by rw [inspResult_noTrial hr hu hl hi ht]⟩
  case notInspected => rw [exec_inspectionResult_up hup hk, inspResult_idle h]
  case read => rw [exec_eenDescRead_up hup hi, eenDescRead]
  case commit =>
    intro w d r
    have hw : stagedEen s.dev = w := rfl
    exact ⟨eenDescCommit_refused hw, eenDescCommit_placed hw,
      fun hi hu => by rw [exec_eenDescCommit_up hup hi, eenCommitCmd_unchanged hu],
      fun hi ha => by rw [exec_eenDescCommit_up hup hi, eenCommitCmd_admitted ha],
      fun hi ha => by rw [exec_eenDescCommit_up hup hi, eenCommitCmd_notAdmitted ha]⟩

end Sys2Proof.Machine
end

section
/-! SUPPORT and PROOF. The commands of a carriage's program, parameters and images (06 R180; 07 R237, R240; 10 R312, R315; 13 R412): what
the own part of each opcode does in each of its cases. -/

namespace Sys2Proof.Machine

/-! HARNESS_MODE (07 R237, R238): the mode that the next leg boundary would find, and what refuses a request. -/

/-- The mode of a carriage with a request that waits. -/
def modeDue (d : Dev) (c : Nat) : Nat :=
  if projSt d c = stEnabled then (hcar d c).modeReq.getD (if carSt d c = stEnabled then hMode d c else hRun) else hStop

/-- A request that the carriage or the module does not permit. -/
@[reducible] def ModeWrong (d : Dev) (c req : Nat) : Prop :=
  carSt d c = stFree ∨ (req = hHold ∧ d.mode ≠ modeMaintenance) ∨ (req ≠ hStop ∧ ¬ projSt d c = stEnabled) ∨
    (req = hRun ∧ modeDue d c = hHold)

theorem harnessModeBody_eq (c : Nat) (p : List Nat) (d : Dev) :
    harnessModeBody c p d =
      if ModeWrong d c (entW p 1) then (d, noA cWrongMode)
      else if entW p 1 = modeDue d c then (d, okA [])
      else (setHcar c { hcar d c with modeReq := some (entW p 1) } d, okA []) := by
  by_cases hon : projSt d c = stEnabled
  · cases hm : (hcar d c).modeReq <;> simp [harnessModeBody, ModeWrong, modeDue, hon, hm, or_assoc]
  · simp [harnessModeBody, ModeWrong, modeDue, hon, or_assoc]

section
variable {c : Nat} {p : List Nat} {d : Dev}

theorem harnessModeBody_wrong (hw : ModeWrong d c (entW p 1)) : harnessModeBody c p d = (d, noA cWrongMode) := by
  rw [harnessModeBody_eq, if_pos hw]

variable (hw : ¬ ModeWrong d c (entW p 1))
include hw

theorem harnessModeBody_same (hc : entW p 1 = modeDue d c) : harnessModeBody c p d = (d, okA []) := by
  rw [harnessModeBody_eq, if_neg hw, if_pos hc]

theorem harnessModeBody_asked (hc : entW p 1 ≠ modeDue d c) :
    harnessModeBody c p d = (setHcar c { hcar d c with modeReq := some (entW p 1) } d, okA []) := by
  rw [harnessModeBody_eq, if_neg hw, if_neg hc]

end

/-! PROGRAM_LOAD (07 R240, R241; 08 R253). -/

section
variable {c : Nat} {data : List Word} {p : List Nat} {d : Dev}

theorem programLoadBody_wrongMode (h : carSt d c = stFree ∨ (projSt d c = stEnabled ∧ bitOf (entW p 3) 0 = false)) :
    programLoadBody c data p d = (d, noA cWrongMode) :=
  if_pos (by simpa using h)

variable {r : Dev × Nat × Nat} (hl : loadProg (parseImage (data.map (fun w => w.toNat))) c (bitOf (entW p 3) 0) d = r)
  (hf : carSt d c ≠ stFree) (hs : projSt d c ≠ stEnabled ∨ bitOf (entW p 3) 0 = true)
include hl hf hs

/-- A load that the carriage's state permits: the image's check decides, and then admission. -/
theorem programLoadBody_permitted :
    programLoadBody c data p d =
      if r.2.1 ≠ 0 then (r.1, refA cBadParam r.2.1 0xFF (r.2.2 % 65536))
      else ((admitChange c d r.1).1, if (admitChange c d r.1).2 = 0 then okA [] else noA (admStatus (admitChange c d r.1).2)) := by
  subst hl
  refine if_neg ?_
  rcases hs with hs | hs
  · simp [hf, hs]
  · simp [hf, hs]

theorem programLoadBody_refused (hr : r.2.1 ≠ 0) :
    programLoadBody c data p d = (r.1, refA cBadParam r.2.1 0xFF (r.2.2 % 65536)) := by
  rw [programLoadBody_permitted hl hf hs, if_pos hr]

variable (hr : r.2.1 = 0) {a : Dev × Nat} (ha : admitChange c d r.1 = a)
include hr ha

theorem programLoadBody_admitted (h : a.2 = 0) : programLoadBody c data p d = (a.1, okA []) := by
  rw [programLoadBody_permitted hl hf hs, if_neg (not_not_intro hr), ha, if_pos h]

theorem programLoadBody_notAdmitted (h : a.2 ≠ 0) : programLoadBody c data p d = (a.1, noA (admStatus a.2)) := by
  rw [programLoadBody_permitted hl hf hs, if_neg (not_not_intro hr), ha, if_neg h]

end

/-! PARAM_UPDATE (06 R179, R180; 08 R253). -/

/-- The descriptor of index `i` with the parameters that a PARAM_UPDATE supplies, for carriage `c`. -/
def updatedDesc (d : Dev) (c i : Nat) (data : List Word) : List Nat :=
  takePad 0 3 (kCommitted d i) ++ takePad 0 12 (data.map (fun w => w.toNat)) ++ [c]

section
variable {c : Nat} {data : List Word} {p : List Nat} {d : Dev}

theorem paramUpdateBody_free (hf : carSt d c = stFree) : paramUpdateBody c data p d = (d, noA cWrongMode) :=
  if_pos hf

variable {i : Nat} (hi : entW p 1 = i) (hf : carSt d c ≠ stFree)
include hi hf

theorem paramUpdateBody_foreign (ho : kCommitted d i ≠ []) (hc : kCar (kCommitted d i) ≠ c) :
    paramUpdateBody c data p d = (d, refA cBadParam 8 1 0) := by
  subst hi
  rw [paramUpdateBody, if_neg hf, if_pos (by simp [ho, hc])]

variable (hc : kCommitted d i = [] ∨ kCar (kCommitted d i) = c) {w : List Nat} (hw : updatedDesc d c i data = w)
include hc hw

/-- An update of a descriptor that is the carriage's, or of none: the commit check decides, and then admission. -/
theorem paramUpdateBody_permitted :
    paramUpdateBody c data p d =
      if kReason (projStreams d) i w ≠ 0 then (d, refA cBadParam (kReason (projStreams d) i w) 1 0)
      else ((admitChange c d (eenPlace i w d)).1,
        if (admitChange c d (eenPlace i w d)).2 = 0 then okA [] else noA (admStatus (admitChange c d (eenPlace i w d)).2)) := by
  subst hi hw
  rw [paramUpdateBody, if_neg hf]
  refine if_neg ?_
  rcases hc with hc | hc
  · simp [hc]
  · simp [hc]

theorem paramUpdateBody_refused {r : Nat} (hk : kReason (projStreams d) i w = r) (hr : r ≠ 0) :
    paramUpdateBody c data p d = (d, refA cBadParam r 1 0) := by
  rw [paramUpdateBody_permitted hi hf hc hw, hk, if_pos hr]

variable (hr : kReason (projStreams d) i w = 0) {a : Dev × Nat} (ha : admitChange c d (eenPlace i w d) = a)
include hr ha

theorem paramUpdateBody_admitted (h : a.2 = 0) : paramUpdateBody c data p d = (a.1, okA []) := by
  rw [paramUpdateBody_permitted hi hf hc hw, if_neg (not_not_intro hr), ha, if_pos h]

theorem paramUpdateBody_notAdmitted (h : a.2 ≠ 0) : paramUpdateBody c data p d = (a.1, noA (admStatus a.2)) := by
  rw [paramUpdateBody_permitted hi hf hc hw, if_neg (not_not_intro hr), ha, if_neg h]

end

/-! SAVE (R309, R312). -/

/-- Where a saved image goes: the partner, or the target of the session's transport. -/
def saveDest (d : Dev) (session : Nat) (brace : Bool) : Nat :=
  if brace then 3 else match sesTransport d session with | 1 => 0 | 2 => 2 | _ => 1

section
variable {h : Cmd} {p : List Nat} {d : Dev}

theorem saveBody_free (hf : carSt d h.carriage = stFree) : saveBody h p d = (d, noA cWrongMode) :=
  if_pos hf

theorem saveBody_draining (hs : carSt d h.carriage = stDraining) : saveBody h p d = (d, noA cBusyDraining) := by
  rw [saveBody, if_neg (by rw [hs]; decide), if_pos hs]

variable (hf : carSt d h.carriage ≠ stFree) (hs : carSt d h.carriage ≠ stDraining)
include hf hs

theorem saveBody_notReady (ht : trngReady d = false) : saveBody h p d = (d, noA cNotReady) := by
  rw [saveBody, if_neg hf, if_neg hs, if_pos (by rw [ht]; rfl)]

variable (ht : trngReady d = true) {a : Bool × Dev}
  (ha : slotAskU (fld (entW p 1) 0 8) fnImage [3] (.carriage h.carriage) (cmdWho d h) d = a)
include ht ha

theorem saveBody_denied (hn : a.1 = false) : saveBody h p d = (a.2, noA cDenied) := by
  subst ha
  rw [saveBody, if_neg hf, if_neg hs, if_neg (by simp [ht]), if_pos (by simp [hn])]

variable (hn : a.1 = true) {k : Car} (hk : tfind a.2.cars h.carriage = some k)
include hn hk

theorem saveBody_noRoom (hb : bitOf (entW p 1) 9 = false) (hl : entW p 4 < imageLen k.img) :
    saveBody h p d = (a.2, refA cNoResource 0 4 0) := by
  subst ha
  rw [saveBody, if_neg hf, if_neg hs, if_neg (by simp [ht]), if_neg (by simp [hn])]
  exact if_pos (by simp [hk, hb, hl])

theorem saveBody_taken (hl : bitOf (entW p 1) 9 = true ∨ imageLen k.img ≤ entW p 4) :
    saveBody h p d = (a.2.atRoute (.save h.carriage a.2.cmd.nextJob (fld (entW p 1) 0 8) (bitOf (entW p 1) 8)
      (saveDest a.2 h.session (bitOf (entW p 1) 9)) (addrP p 2)), pendA [(a.2.tim.absRoute + 1) % 2 ^ 20]) := by
  subst ha
  rw [saveBody, if_neg hf, if_neg hs, if_neg (by simp [ht]), if_neg (by simp [hn])]
  exact if_neg (by rcases hl with hl | hl <;> simp [hk, hl])

end

/-! RESTORE (R315): its refusals in their order, and its acceptance. -/

section
variable {h : Cmd} {m : CarImage} {p : List Nat} {d : Dev}

theorem restoreBody_wrongMode (hs : projSt d h.carriage ≠ stDisabled) : restoreBody h m p d = (d, noA cWrongMode) :=
  if_pos hs

variable (hs : projSt d h.carriage = stDisabled) {d' : Dev} (hd : (if m.slotBad then slotGoesBad m.slot d else d) = d')
  {a : Bool × Dev} (ha : slotAskU m.slot fnImage [3] (.carriage h.carriage) (cmdWho d' h) d' = a)
include hs hd ha

theorem restoreBody_denied (hn : a.1 = false ∨ m.tagOk = false) : restoreBody h m p d = (a.2, noA cDenied) := by
  subst hd ha
  rw [restoreBody, if_neg (not_not_intro hs)]
  exact if_pos (by simpa using hn)

variable (hn : a.1 = true) (ht : m.tagOk = true)
include hn ht

theorem restoreBody_otherImage (hf : imageFits a.2 h.carriage m = false) :
    restoreBody h m p d = (a.2, refA cBadParam 0 1 0) := by
  subst hd ha
  rw [restoreBody, if_neg (not_not_intro hs), if_neg (by simp [hn, ht])]
  exact if_pos (by simp [hf])

variable (hf : imageFits a.2 h.carriage m = true) {r : Nat} (hr : routeAhead a.2 (entW p 3) = r)
include hf hr

theorem restoreBody_tooSoon (hr' : r ≤ a.2.tim.absRoute + 1 ∨ a.2.tim.absRoute + 2 ^ 19 ≤ r) :
    restoreBody h m p d = (a.2, refA cBadParam 0 3 0) := by
  subst hd ha hr
  rw [restoreBody, if_neg (not_not_intro hs), if_neg (by simp [hn, ht]), if_neg (by simp [hf])]
  exact if_pos (by simpa using hr')

theorem restoreBody_taken (hr' : ¬ (r ≤ a.2.tim.absRoute + 1 ∨ a.2.tim.absRoute + 2 ^ 19 ≤ r)) :
    restoreBody h m p d = (restoreNow h.carriage a.2.cmd.nextJob r m a.2, pendA []) := by
  subst hd ha hr
  rw [restoreBody, if_neg (not_not_intro hs), if_neg (by simp [hn, ht]), if_neg (by simp [hf])]
  exact if_neg (by simpa using hr')

end

/-- Settles O35, opcode by opcode: each clause is a case of the opcode's own part, on an entry that Phiash takes. -/
theorem carriageCommands : Obligations.CarriageCommands := by
  intro h data img s d p c
  refine ⟨?harnessMode, ?programLoad, ?save, ?restore, ?query, ?paramUpdate⟩
  case harnessMode =>
    intro ht on cur wrong
    exact ⟨fun hw => act_takes_of_body ht (harnessModeBody_wrong hw),
      fun hw hc => act_takes_of_body ht (harnessModeBody_same hw hc),
      fun hw hc => act_takes_of_body ht (harnessModeBody_asked hw hc)⟩
  case programLoad =>
    intro ht swap r a
    have hl : loadProg (parseImage (data.map (fun w => w.toNat))) c (bitOf (entW p 3) 0) d = r := rfl
    have ha : admitChange c d r.1 = a := rfl
    exact ⟨fun hw => act_takes_of_body ht (programLoadBody_wrongMode hw), fun hf hs =>
      ⟨fun hr h0 => act_takes_of_body ht (programLoadBody_admitted hl hf hs hr ha h0),
        fun hr h0 => act_takes_of_body ht (programLoadBody_notAdmitted hl hf hs hr ha h0),
        fun hr => act_takes_of_body ht (programLoadBody_refused hl hf hs hr)⟩⟩
  case save =>
    intro ht slot a dest
    have ha : slotAskU (fld (entW p 1) 0 8) fnImage [3] (.carriage c) (cmdWho d h) d = a := rfl
    exact ⟨fun hf => act_takes_of_body ht (saveBody_free hf), fun hs => act_takes_of_body ht (saveBody_draining hs), fun hf hs =>
      ⟨fun hn => act_takes_of_body ht (saveBody_notReady hf hs hn),
        fun hr hn => act_takes_of_body ht (saveBody_denied hf hs hr ha hn), fun k hr hn hk =>
        ⟨fun hb hl => act_takes_of_body ht (saveBody_noRoom hf hs hr ha hn hk hb hl),
          fun hl => act_takes_of_body ht (saveBody_taken hf hs hr ha hn hk hl)⟩⟩⟩
  case restore =>
    intro ht d' a r soon
    have hd : (if img.slotBad then slotGoesBad img.slot d else d) = d' := rfl
    have ha : slotAskU img.slot fnImage [3] (.carriage c) (cmdWho d' h) d' = a := rfl
    have hr : routeAhead a.2 (entW p 3) = r := rfl
    exact ⟨fun hs => act_takes_of_body ht (restoreBody_wrongMode hs), fun hs =>
      ⟨fun hn => act_takes_of_body ht (restoreBody_denied hs hd ha hn),
        fun hn hk hf => act_takes_of_body ht (restoreBody_otherImage hs hd ha hn hk hf),
        fun hn hk hf h' => act_takes_of_body ht (restoreBody_tooSoon hs hd ha hn hk hf hr h'),
        fun hn hk hf h' => act_takes_of_body ht (restoreBody_taken hs hd ha hn hk hf hr h')⟩⟩
  case query =>
    intro ht
    -- The own part is this one answer, so no case is told apart.
    exact act_takes_of_body ht rfl
  case paramUpdate =>
    intro ht i w r a
    have hi : entW p 1 = i := rfl
    have hw : updatedDesc d c i data = w := rfl
    have hk : kReason (projStreams d) i w = r := rfl
    have ha : admitChange c d (eenPlace i w d) = a := rfl
    exact ⟨fun hf => act_takes_of_body ht (paramUpdateBody_free hf),
      fun hf ho hc => act_takes_of_body ht (paramUpdateBody_foreign hi hf ho hc), fun hf hc =>
      ⟨fun hr => act_takes_of_body ht (paramUpdateBody_refused hi hf hc hw hk hr),
        fun hr h0 => act_takes_of_body ht (paramUpdateBody_admitted hi hf hc hw (hk.trans hr) ha h0),
        fun hr h0 => act_takes_of_body ht (paramUpdateBody_notAdmitted hi hf hc hw (hk.trans hr) ha h0)⟩⟩

end Sys2Proof.Machine
end

section
/-! SUPPORT. The Harness instruction rows (07 R225): each acts on the scan in progress of its engine by one function of the copy; and
what signed words, fields and writes of a word are, for the statements that follow. -/

namespace Sys2Proof.Machine

/-! The rows. -/

/-- The engine of an instruction row other than END, and what the row does to the copy of the scan in progress. -/
def harnessFn : Instr → Option (Nat × (HCtx → HCtx))
  | .hNop e => some (e, hNext)
  | .hLd e b neg => some (e, hLd b neg)
  | .hAnd e b neg => some (e, hAnd b neg)
  | .hOr e b neg => some (e, hOr b neg)
  | .hXor e b neg => some (e, hXor b neg)
  | .hApush e => some (e, hPush 1)
  | .hOpush e => some (e, hPush 2)
  | .hXpush e => some (e, hPush 3)
  | .hPop e neg => some (e, hPop neg)
  | .hNot e => some (e, hNot)
  | .hSeta e v => some (e, hSeta v)
  | .hSt e b neg => some (e, hSt b neg)
  | .hSet e b => some (e, hSet b)
  | .hRst e b => some (e, hRst b)
  | .hRise e b => some (e, hRise b)
  | .hFall e b => some (e, hFall b)
  | .hTmr e n kind => some (e, hTmr n kind)
  | .hCtu e n => some (e, hCtu n)
  | .hCtd e n => some (e, hCtd n)
  | .hCrst e n => some (e, hCrst n)
  | .hCld e n => some (e, hCld n)
  | .hLdw e a => some (e, hLdw a)
  | .hLdi e imm => some (e, hLdi imm)
  | .hLdhi e v => some (e, hLdhi v)
  | .hStw e a cond => some (e, hStw a cond)
  | .hAdd e a wrap => some (e, hAdd a wrap)
  | .hSub e a wrap => some (e, hSub a wrap)
  | .hAddi e imm wrap => some (e, hAddi imm wrap)
  | .hCmp e a rel float neg => some (e, hCmp a rel float neg)
  | .hCmpi e imm rel neg => some (e, hCmpi imm rel neg)
  | .hInc e a => some (e, hInc a)
  | .hDec e a => some (e, hDec a)
  | .hAndw e a => some (e, hAndw a)
  | .hOrw e a => some (e, hOrw a)
  | .hXorw e a => some (e, hXorw a)
  | .hShf e n right => some (e, hShf right n)
  | .hTstb e bit neg => some (e, hTstb bit neg)
  | .hJmp e k cond => some (e, hJmp k cond)
  | _ => none

theorem exec_harnessFn {c : Instr} {e : Nat} {f : HCtx → HCtx} (hf : harnessFn c = some (e, f)) (s : State) :
    exec c s = s.act (onCtx e f) := by
  unfold harnessFn at hf
  split at hf <;> cases hf <;> rfl

/-- Every row of R225 but END is such a function. -/
theorem harnessFn_of_engine {c : Instr} {e : Nat} (hc : harnessEngine c = some e) : c = .hEnd e ∨ ∃ f, harnessFn c = some (e, f) := by
  unfold harnessEngine at hc
  split at hc
  case h_39 =>
    cases hc
    exact .inl rfl
  all_goals cases hc
  all_goals exact .inr ⟨_, rfl⟩

section
variable {s : State} {c : Instr} {e : Nat} {f : HCtx → HCtx} (hup : s.dev.up = true) (hf : harnessFn c = some (e, f))
include hup hf

/-- A row on an engine with a scan in progress: its function on the copy, for one cycle. -/
theorem exec_onScan {x y : HCtx} (hx : tfind s.dev.hle.ctx e = some x) (hy : f x = y) :
    exec c s = .next (s.commit (setCtx e y (useCyc e 1 s.dev))) := by
  rw [exec_harnessFn hf, State.act_up _ _ hup, onCtx, hx, ← hy]

theorem exec_noScan (hx : tfind s.dev.hle.ctx e = none) : exec c s = .next (s.commit s.dev) := by
  rw [exec_harnessFn hf, State.act_up _ _ hup, onCtx, hx]

end

/-! Signed words and fields. -/

theorem sx_eq_toInt (n w : Nat) : sx n w = (BitVec.ofNat n w).toInt := by
  have hw : (BitVec.ofNat n w).toNat = w % 2 ^ n := BitVec.toNat_ofNat w n
  rw [sx, BitVec.toInt_eq_toNat_cond, hw]
  cases n with
  | zero => simp [Nat.mod_one]
  | succ n =>
    rw [Nat.add_sub_cancel, Nat.pow_succ]
    exact ite_congr (propext (by omega)) (fun _ => rfl) (fun _ => rfl)

theorem sx_toNat {n : Nat} (v : BitVec n) : sx n v.toNat = v.toInt := by
  rw [sx_eq_toInt, BitVec.ofNat_toNat, BitVec.setWidth_eq]

theorem wrapN_eq_ofInt (n : Nat) (i : Int) : wrapN n i = (BitVec.ofInt n i).toNat := by
  rw [wrapN, BitVec.toNat_ofInt]

theorem wrapN_lt (n : Nat) (i : Int) : wrapN n i < 2 ^ n := by
  rw [wrapN_eq_ofInt]
  exact BitVec.isLt _

theorem bitOf_eq_testBit (w i : Nat) : bitOf w i = w.testBit i := by
  rw [bitOf, Nat.testBit_eq_decide_div_mod_eq]
  rfl

/-! Writes of a word and of a bit (R225). -/

section
variable {a b v : Nat} {x : HCtx}

theorem hPut_writable (ha : hWritable a = true) (hv : v < 2 ^ 32) : hPut a v x = { x with wr := tset 0 x.wr a v } := by
  rw [hPut, if_pos ha, Nat.mod_eq_of_lt hv]

theorem hPut_notWritable (ha : hWritable a = false) : hPut a v x = x :=
  if_neg (Bool.eq_false_iff.mp ha)

theorem hPutBit_notWritable (hb : hWritable (b / 32) = false) (v : Bool) : hPutBit b v x = x :=
  hPut_notWritable hb

/-- A write changes nothing of the copy but the writable words. -/
@[simp] theorem hPut_pc (a v : Nat) (x : HCtx) : (hPut a v x).pc = x.pc := by
  unfold hPut
  split <;> rfl

@[simp] theorem hPutBit_pc (b : Nat) (v : Bool) (x : HCtx) : (hPutBit b v x).pc = x.pc := hPut_pc ..

end

end Sys2Proof.Machine
end

section
/-! SUPPORT and PROOF. Bits of the operand space (07 R225, R232): loads, logic, groups, stores and edges. -/

namespace Sys2Proof.Machine

section
variable {x : HCtx} {a : Bool} {st : List (Bool × Nat)}

theorem hPop_group {op : Nat} (hs : x.stack = (a, op) :: st) (neg : Bool) :
    hPop neg x = { x with pc := x.pc + 1, stack := st, acc := hOp op a (xor x.acc neg) } := by
  rw [hPop, hs]
  rfl

theorem hPop_noGroup (hs : x.stack = []) (neg : Bool) : hPop neg x = { x with pc := x.pc + 1 } := by
  simp only [hPop, hs, hNext]

end

section
variable {b : Nat} (x : HCtx) (hb : hWritable (b / 32) = false)
include hb

theorem hSt_notWritable (neg : Bool) : hSt b neg x = { x with pc := x.pc + 1 } := by
  rw [hSt, hPutBit_notWritable hb, hNext]

theorem hSet_notWritable : hSet b x = { x with pc := x.pc + 1 } := by
  rw [hSet, hPutBit_notWritable hb, ite_self, hNext]

theorem hRst_notWritable : hRst b x = { x with pc := x.pc + 1 } := by
  rw [hRst, hPutBit_notWritable hb, ite_self, hNext]

theorem hRise_notWritable : hRise b x = { x with pc := x.pc + 1, acc := x.acc && !hBit x b } := by
  rw [hRise, hPutBit_notWritable hb]
  rfl

theorem hFall_notWritable : hFall b x = { x with pc := x.pc + 1, acc := !x.acc && hBit x b } := by
  rw [hFall, hPutBit_notWritable hb]
  rfl

end

section
variable (b : Nat) (x : HCtx)

theorem hSt_eq (neg : Bool) : hSt b neg x = { hPutBit b (xor x.acc neg) x with pc := x.pc + 1 } := by
  rw [hSt, hNext, hPutBit_pc]

theorem hSet_eq : hSet b x = { (if x.acc then hPutBit b true x else x) with pc := x.pc + 1 } := by
  rw [hSet, hNext, apply_ite HCtx.pc, hPutBit_pc, ite_self]

theorem hRst_eq : hRst b x = { (if x.acc then hPutBit b false x else x) with pc := x.pc + 1 } := by
  rw [hRst, hNext, apply_ite HCtx.pc, hPutBit_pc, ite_self]

theorem hRise_eq : hRise b x = { hPutBit b x.acc x with pc := x.pc + 1, acc := x.acc && !hBit x b } := by
  rw [hRise, hNext, hPutBit_pc]

theorem hFall_eq : hFall b x = { hPutBit b x.acc x with pc := x.pc + 1, acc := !x.acc && hBit x b } := by
  rw [hFall, hNext, hPutBit_pc]

end

/-- Settles O19, row by row: each clause is the row's function of the copy; a write is one of `hPutBit`, which an area that is not
writable keeps off. -/
theorem harnessBits : Obligations.HarnessBits := by
  refine ⟨?logic, ?groups, ?stores, ?outside⟩
  case logic =>
    intro s e x hup hx
    exact ⟨exec_onScan hup rfl hx rfl, exec_onScan hup rfl hx rfl, fun v => exec_onScan hup rfl hx rfl, fun b neg _ =>
      ⟨exec_onScan hup rfl hx rfl, exec_onScan hup rfl hx rfl, exec_onScan hup rfl hx rfl, exec_onScan hup rfl hx rfl⟩⟩
  case groups =>
    intro s e x hup hx
    exact ⟨exec_onScan hup rfl hx rfl, exec_onScan hup rfl hx rfl, exec_onScan hup rfl hx rfl, fun a st neg =>
      ⟨fun hs => exec_onScan hup rfl hx (hPop_group hs neg), fun hs => exec_onScan hup rfl hx (hPop_group hs neg),
        fun hs => exec_onScan hup rfl hx (hPop_group hs neg), fun hs => exec_onScan hup rfl hx (hPop_noGroup hs neg)⟩⟩
  case stores =>
    intro s e x b hup hx _
    exact ⟨fun neg => exec_onScan hup rfl hx (hSt_eq b x neg), exec_onScan hup rfl hx (hSet_eq b x),
      exec_onScan hup rfl hx (hRst_eq b x), exec_onScan hup rfl hx (hRise_eq b x), exec_onScan hup rfl hx (hFall_eq b x)⟩
  case outside =>
    intro s e x b hup hx hb
    exact ⟨fun neg => exec_onScan hup rfl hx (hSt_notWritable x hb neg), exec_onScan hup rfl hx (hSet_notWritable x hb),
      exec_onScan hup rfl hx (hRst_notWritable x hb), exec_onScan hup rfl hx (hRise_notWritable x hb),
      exec_onScan hup rfl hx (hFall_notWritable x hb)⟩

end Sys2Proof.Machine
end

section
/-! SUPPORT and PROOF. Words, numbers, comparisons, timers and counters of the Harness (07 R225, R226, R229 to R231). -/

namespace Sys2Proof.Machine

/-! Moves, logic and shifts of words (R225). -/

/-- LDI's word: the two's complement of its immediate. -/
theorem wrapN_imm {imm : Int} (hl : -2 ^ 19 ≤ imm) (hu : imm < 2 ^ 19) :
    wrapN 32 imm = (if imm < 0 then imm + 2 ^ 32 else imm).toNat := by
  unfold wrapN
  split <;> omega

theorem putFld_high {w v : Nat} (hw : w < 2 ^ 32) (hv : v < 4096) : putFld w 20 12 v = v * 2 ^ 20 + w % 2 ^ 20 := by
  unfold putFld fld
  omega

theorem hStw_writable {a : Nat} {x : HCtx} (ha : hWritable a = true) (hw : x.w < 2 ^ 32) (cond : Bool) :
    hStw a cond x =
      if cond && !x.acc then { x with pc := x.pc + 1 } else { x with pc := x.pc + 1, wr := tset 0 x.wr a x.w } := by
  rw [hStw, hPut_writable ha hw, apply_ite hNext]
  rfl

theorem hStw_notWritable {a : Nat} (ha : hWritable a = false) (cond : Bool) (x : HCtx) :
    hStw a cond x = { x with pc := x.pc + 1 } := by
  rw [hStw, hPut_notWritable ha, ite_self]
  rfl

theorem toNat_w32 {w : Nat} (hw : w < 2 ^ 32) : (w32 w).toNat = w := Nat.mod_eq_of_lt hw

theorem wrapN_shrI (w n : Nat) : wrapN 32 (shrI (sx 32 w) n) = ((w32 w).sshiftRight n).toNat := by
  have hshift : shrI (sx 32 w) n = ((w32 w).sshiftRight n).toInt := by
    rw [shrI, sx_eq_toInt, BitVec.toInt_sshiftRight, Int.shiftRight_eq_div_pow]
    rfl
  rw [hshift, wrapN_eq_ofInt, BitVec.ofInt_toInt]

theorem mul_pow_mod_eq_shiftLeft {w : Nat} (hw : w < 2 ^ 32) (n : Nat) : w * 2 ^ n % 2 ^ 32 = (w32 w <<< n).toNat := by
  rw [BitVec.toNat_shiftLeft, toNat_w32 hw, Nat.shiftLeft_eq]

/-- Settles O21, row by row: a word's logic and shifts are those of its bit vector. -/
theorem harnessWords : Obligations.HarnessWords := by
  refine ⟨?moves, ?logic⟩
  case moves =>
    intro s e x hup hx hw
    refine ⟨fun a _ => exec_onScan hup rfl hx rfl, fun imm hl hu => exec_onScan hup rfl hx ?_,
      fun v hv => exec_onScan hup rfl hx ?_, fun a cond ha => exec_onScan hup rfl hx (hStw_writable ha hw cond),
      fun a cond ha => exec_onScan hup rfl hx (hStw_notWritable ha cond x)⟩
    · rw [hLdi, wrapN_imm hl hu, hNext]
    · rw [hLdhi, putFld_high hw hv, hNext]
  case logic =>
    intro s e x hup hx hw
    refine ⟨fun a _ ha => ⟨exec_onScan hup rfl hx ?_, exec_onScan hup rfl hx ?_, exec_onScan hup rfl hx ?_⟩, fun n hn =>
      ⟨exec_onScan hup rfl hx ?_, exec_onScan hup rfl hx ?_, fun neg => exec_onScan hup rfl hx ?_⟩⟩
    · rw [hAndw, BitVec.toNat_and, toNat_w32 hw, toNat_w32 ha, hNext]
    · rw [hOrw, BitVec.toNat_or, toNat_w32 hw, toNat_w32 ha, hNext]
    · rw [hXorw, BitVec.toNat_xor, toNat_w32 hw, toNat_w32 ha, hNext]
    · rw [hShf, if_neg Bool.false_ne_true, mul_pow_mod_eq_shiftLeft hw, hNext]
    · rw [hShf, if_pos rfl, wrapN_shrI, hNext]
    · rw [hTstb, bitOf_eq_testBit, hNext]

/-! Arithmetic and comparisons (R226). -/

theorem hArith_eq_sum32 (wrap : Bool) (r : Int) : hArith wrap r = sum32 wrap r := by
  cases wrap
  · simp only [hArith, sum32, wrapN, satS, Bool.false_eq_true, if_false]
    repeat' split
    all_goals omega
  · rfl

section
variable (a : Nat) (wrap : Bool) (x : HCtx)

theorem hAdd_eq : hAdd a wrap x = { x with pc := x.pc + 1, w := sum32 wrap (sx 32 x.w + sx 32 (hWord x a)) } := by
  rw [hAdd, hArith_eq_sum32, hNext]

theorem hSub_eq : hSub a wrap x = { x with pc := x.pc + 1, w := sum32 wrap (sx 32 x.w - sx 32 (hWord x a)) } := by
  rw [hSub, hArith_eq_sum32, hNext]

theorem hAddi_eq (imm : Int) : hAddi imm wrap x = { x with pc := x.pc + 1, w := sum32 wrap (sx 32 x.w + imm) } := by
  rw [hAddi, hArith_eq_sum32, hNext]

end

/-- A saturated sum written to a word. -/
theorem hPut_sum {a : Nat} (ha : hWritable a = true) (r : Int) (x : HCtx) :
    hPut a (wrapN 32 (satS 32 r)) x = { x with wr := tset 0 x.wr a (sum32 false r) } := by
  rw [hPut_writable ha (wrapN_lt 32 _), ← hArith_eq_sum32]
  rfl

section
variable {a : Nat} (x : HCtx)

theorem hInc_writable (ha : hWritable a = true) :
    hInc a x = if x.acc then { x with pc := x.pc + 1, wr := tset 0 x.wr a (sum32 false (sx 32 (hWord x a) + 1)) }
      else { x with pc := x.pc + 1 } := by
  rw [hInc, hPut_sum ha, apply_ite hNext]
  rfl

theorem hDec_writable (ha : hWritable a = true) :
    hDec a x = if x.acc then { x with pc := x.pc + 1, wr := tset 0 x.wr a (sum32 false (sx 32 (hWord x a) - 1)) }
      else { x with pc := x.pc + 1 } := by
  rw [hDec, hPut_sum ha, apply_ite hNext]
  rfl

theorem hInc_notWritable (ha : hWritable a = false) : hInc a x = { x with pc := x.pc + 1 } := by
  rw [hInc, hPut_notWritable ha, ite_self]
  rfl

theorem hDec_notWritable (ha : hWritable a = false) : hDec a x = { x with pc := x.pc + 1 } := by
  rw [hDec, hPut_notWritable ha, ite_self]
  rfl

end

/-- The order and the equality that a comparison takes decide each relation of two integers. -/
theorem hRel_eq_relation {rel : Nat} (hr : rel < 6) (a b : Int) : hRel rel (a == b) (decide (a < b)) = relation rel a b := by
  obtain rfl | rfl | rfl | rfl | rfl | rfl : rel = 0 ∨ rel = 1 ∨ rel = 2 ∨ rel = 3 ∨ rel = 4 ∨ rel = 5 := by omega
  all_goals rw [Bool.eq_iff_iff]
  all_goals simp only [hRel, relation, Bool.and_eq_true, Bool.or_eq_true, Bool.not_eq_true', decide_eq_true_eq,
    decide_eq_false_iff_not, beq_iff_eq, beq_eq_false_iff_ne]
  all_goals omega

theorem hCmp_int {rel : Nat} (hr : rel < 6) (a : Nat) (neg : Bool) (x : HCtx) :
    hCmp a rel false neg x = { x with pc := x.pc + 1, acc := xor (relation rel (sx 32 x.w) (sx 32 (hWord x a))) neg } := by
  rw [hCmp, if_neg Bool.false_ne_true, hRel_eq_relation hr, hNext]

theorem hCmpi_eq {rel : Nat} (hr : rel < 6) (imm : Int) (neg : Bool) (x : HCtx) :
    hCmpi imm rel neg x = { x with pc := x.pc + 1, acc := xor (relation rel (sx 32 x.w) imm) neg } := by
  rw [hCmpi, hRel_eq_relation hr, hNext]

section
variable {a rel : Nat} {x : HCtx}

theorem hCmp_float (hr : rel < 6) (hw : f32Nan x.w = false) (ha : f32Nan (hWord x a) = false) (neg : Bool) :
    hCmp a rel true neg x = { x with pc := x.pc + 1, acc := xor (relation rel (f32Key x.w) (f32Key (hWord x a))) neg } := by
  rw [hCmp, if_pos rfl, hRel_eq_relation hr, hw, ha, hNext]
  rfl

/-- -0.0 and +0.0 have one place in the order. -/
theorem hCmp_zeros (hr : rel < 6) (hw : x.w = 0x80000000) (ha : hWord x a = 0) (neg : Bool) :
    hCmp a rel true neg x = { x with pc := x.pc + 1, acc := xor (relation rel 0 0) neg } := by
  have hneg : f32Key 0x80000000 = 0 := by decide
  have hpos : f32Key 0 = 0 := by decide
  rw [hCmp_float hr (by rw [hw]; decide) (by rw [ha]; decide), hw, ha, hneg, hpos]

theorem hCmp_nan (h : f32Nan x.w = true ∨ f32Nan (hWord x a) = true) (rel : Nat) (neg : Bool) :
    hCmp a rel true neg x = { x with pc := x.pc + 1, acc := neg } := by
  have hno : (!f32Nan x.w && !f32Nan (hWord x a)) = false := by
    rcases h with h | h <;> simp [h]
  rw [hCmp, if_pos rfl, hno, Bool.false_and, Bool.false_bne, hNext]

end

/-- Settles O22, row by row: sums by `hArith_eq_sum32`, comparisons by `hRel_eq_relation`. -/
theorem harnessNumbers : Obligations.HarnessNumbers := by
  refine ⟨?sums, ?comparisons⟩
  case sums =>
    intro s e x hup hx
    exact ⟨fun a wrap _ => ⟨exec_onScan hup rfl hx (hAdd_eq a wrap x), exec_onScan hup rfl hx (hSub_eq a wrap x)⟩,
      fun imm wrap _ _ => exec_onScan hup rfl hx (hAddi_eq wrap x imm),
      fun a ha => ⟨exec_onScan hup rfl hx (hInc_writable x ha), exec_onScan hup rfl hx (hDec_writable x ha)⟩,
      fun a ha => ⟨exec_onScan hup rfl hx (hInc_notWritable x ha), exec_onScan hup rfl hx (hDec_notWritable x ha)⟩⟩
  case comparisons =>
    intro s e x rel neg hup hx hr
    exact ⟨fun a _ => exec_onScan hup rfl hx (hCmp_int hr a neg x), fun imm _ _ => exec_onScan hup rfl hx (hCmpi_eq hr imm neg x),
      fun a _ hw ha => exec_onScan hup rfl hx (hCmp_float hr hw ha neg),
      fun a _ hw ha => exec_onScan hup rfl hx (hCmp_zeros hr hw ha neg),
      fun a _ h => exec_onScan hup rfl hx (hCmp_nan h rel neg)⟩

/-! Timers and counters (R229 to R231). -/

theorem hTmrStep_eq_timerSpec {kind : Nat} (hk : kind < 3) (inp : Bool) (pt delta : Nat) (t : HTim) :
    hTmrStep kind inp pt delta t =
      { t with et := (timerSpec kind inp pt delta t.et t.q t.p).1, q := (timerSpec kind inp pt delta t.et t.q t.p).2 } := by
  obtain ⟨et, q, p, last⟩ := t
  obtain rfl | rfl | rfl : kind = 0 ∨ kind = 1 ∨ kind = 2 := by omega
  -- TON and TOF go by the input now and before; TP also by its own output.
  · cases inp <;> cases p <;> rfl
  · cases inp <;> cases p <;> rfl
  · cases inp <;> cases p <;> cases q <;> rfl

theorem hTmr_eq {kind : Nat} (hk : kind < 3) (n : Nat) (x : HCtx) {delta : Nat} (hd : hDelta x (hTim x n) = delta) {r : Nat × Bool}
    (hr : timerSpec kind x.acc (hPt x n) delta (hTim x n).et (hTim x n).q (hTim x n).p = r) :
    hTmr n kind x = { x with pc := x.pc + 1, acc := r.2, tims := tput x.tims n ⟨r.1, r.2, x.acc, some x.leg⟩ } := by
  subst hd hr
  rw [hTmr, hTmrStep_eq_timerSpec hk, hNext]

/-- Up by one on a rising edge, and not past the largest number. -/
theorem countUp_eq {c : Int} (hl : -2 ^ 31 ≤ c) (hu : c < 2 ^ 31) (edge : Bool) :
    (if edge then satS 32 (c + 1) else c) = if edge && decide (c < 2 ^ 31 - 1) then c + 1 else c := by
  cases edge
  · rfl
  · simp only [if_true, Bool.true_and, decide_eq_true_eq, satS]
    repeat' split
    all_goals omega

/-- Down by one on a rising edge, and not past the smallest number. -/
theorem countDown_eq {c : Int} (hl : -2 ^ 31 ≤ c) (hu : c < 2 ^ 31) (edge : Bool) :
    (if edge then satS 32 (c - 1) else c) = if edge && decide (-2 ^ 31 < c) then c - 1 else c := by
  cases edge
  · rfl
  · simp only [if_true, Bool.true_and, decide_eq_true_eq, satS]
    repeat' split
    all_goals omega

/-- Settles O23, row by row: a timer is `timerSpec`, a counter's step saturates as `countUp_eq` and `countDown_eq` say. -/
theorem harnessTimersCounters : Obligations.HarnessTimersCounters := by
  intro s e n x hup hx _
  refine ⟨?timer, ?counters⟩
  case timer =>
    intro kind hk t delta r
    have hd : hDelta x t = delta := rfl
    have hr : timerSpec kind x.acc (hPt x n) delta t.et t.q t.p = r := rfl
    exact exec_onScan hup rfl hx (hTmr_eq hk n x hd hr)
  case counters =>
    intro c up down hl hu
    have hcu : (if x.acc && !c.pu then satS 32 (c.cv + 1) else c.cv) = up := countUp_eq hl hu _
    have hcd : (if x.acc && !c.pd then satS 32 (c.cv - 1) else c.cv) = down := countDown_eq hl hu _
    refine ⟨exec_onScan hup rfl hx ?_, exec_onScan hup rfl hx ?_, exec_onScan hup rfl hx ?_, exec_onScan hup rfl hx ?_⟩
    · rw [← hcu]
      rfl
    · rw [← hcd]
      rfl
    · rw [hCrst, hNext]
      split <;> rfl
    · rw [hCld, hNext]
      split <;> rfl

end Sys2Proof.Machine
end

section
/-! SUPPORT and PROOF. Instruction words (07 R224, R225): the fields of a word, and what each word does in a scan. -/

namespace Sys2Proof.Machine

/-! The fields of a word. -/

section
variable {op arg ad : Nat} (neg : Bool)

@[simp] theorem fld_word_op (ho : op < 64) (ha : arg < 32) (hd : ad < 2 ^ 20) : fld (hWordOf op neg arg ad) 26 6 = op := by
  cases neg <;> simp only [fld, hWordOf] <;> grind

@[simp] theorem bitOf_word_neg (ha : arg < 32) (hd : ad < 2 ^ 20) : bitOf (hWordOf op neg arg ad) 25 = neg := by
  have hbit : hWordOf op neg arg ad / 2 ^ 25 = 2 * op + b2n neg := by
    cases neg <;> simp only [hWordOf, b2n] <;> grind
  rw [bitOf, hbit]
  cases neg <;> simp [b2n]

@[simp] theorem fld_word_arg (ha : arg < 32) (hd : ad < 2 ^ 20) : fld (hWordOf op neg arg ad) 20 5 = arg := by
  cases neg <;> simp only [fld, hWordOf] <;> grind

theorem word_mod_addr (op arg ad : Nat) {n : Nat} (hn : n ≤ 20) : hWordOf op neg arg ad % 2 ^ n = ad % 2 ^ n := by
  obtain ⟨k, hk⟩ : 2 ^ n ∣ 2 ^ 20 := Nat.pow_dvd_pow 2 hn
  have hw : hWordOf op neg arg ad = ad + 2 ^ 20 * (op * 64 + (if neg then 32 else 0) + arg) := by
    cases neg <;> simp only [hWordOf] <;> grind
  rw [hw, hk, Nat.mul_assoc, Nat.add_mul_mod_self_left]

@[simp] theorem fld_word_addr {n : Nat} (hn : n ≤ 20) (hd : ad < 2 ^ n) : fld (hWordOf op neg arg ad) 0 n = ad := by
  rw [fld, Nat.pow_zero, Nat.div_one, word_mod_addr neg op arg ad hn, Nat.mod_eq_of_lt hd]

@[simp] theorem bitOf_word_dir : bitOf (hWordOf op neg arg ad) 0 = bitOf ad 0 := by
  have hmod : hWordOf op neg arg ad % 2 = ad % 2 := word_mod_addr neg op arg ad (n := 1) (by decide)
  rw [bitOf, bitOf, Nat.pow_zero, Nat.div_one, Nat.div_one, hmod]

end

/-- A flag as bit 0 of ARG. -/
@[simp] theorem bitOf_flag (f : Bool) : bitOf (if f then 1 else 0) 0 = f := by
  cases f <;> rfl

/-- CMP's ARG: REL below FLOAT. -/
@[simp] theorem fld_cmpArg {rel : Nat} (hr : rel < 6) (f : Bool) : fld (rel + if f then 8 else 0) 0 3 = rel := by
  cases f <;> simp only [fld] <;> grind

@[simp] theorem bitOf_cmpArg {rel : Nat} (hr : rel < 6) (f : Bool) : bitOf (rel + if f then 8 else 0) 3 = f := by
  cases f <;> simp only [bitOf] <;> grind

theorem flag_lt (f : Bool) : (if f then 1 else 0) < 32 := by
  cases f <;> decide

theorem cmpArg_lt {rel : Nat} (hr : rel < 6) (f : Bool) : (rel + if f then 8 else 0) < 32 := by
  cases f <;> grind

@[simp] theorem fld_small {v n : Nat} (hv : v < 2 ^ n) : fld v 0 n = v := by
  rw [fld, Nat.pow_zero, Nat.div_one, Nat.mod_eq_of_lt hv]

/-! The words, by the kind of their operand: each has the function of its row. -/

theorem hInstr_noOperand (x : HCtx) :
    hInstr (hWordOf 0x00 false 0 0) x = hNext x ∧ hInstr (hWordOf 0x05 false 0 0) x = hPush 1 x ∧
    hInstr (hWordOf 0x06 false 0 0) x = hPush 2 x ∧ hInstr (hWordOf 0x07 false 0 0) x = hPush 3 x ∧
    hInstr (hWordOf 0x09 false 0 0) x = hNot x ∧ hInstr (hWordOf 0x0A false 0 0) x = hSeta false x ∧
    hInstr (hWordOf 0x0A false 1 0) x = hSeta true x :=
  ⟨rfl, rfl, rfl, rfl, rfl, rfl, rfl⟩

theorem hInstr_bitOperand (neg : Bool) {b : Nat} (hb : b < 2 ^ 20) (x : HCtx) :
    hInstr (hWordOf 0x01 neg 0 b) x = hLd b neg x ∧ hInstr (hWordOf 0x02 neg 0 b) x = hAnd b neg x ∧
    hInstr (hWordOf 0x03 neg 0 b) x = hOr b neg x ∧ hInstr (hWordOf 0x04 neg 0 b) x = hXor b neg x ∧
    hInstr (hWordOf 0x08 neg 0 0) x = hPop neg x ∧ hInstr (hWordOf 0x0B neg 0 b) x = hSt b neg x ∧
    hInstr (hWordOf 0x0C false 0 b) x = hSet b x ∧ hInstr (hWordOf 0x0D false 0 b) x = hRst b x ∧
    hInstr (hWordOf 0x0E false 0 b) x = hRise b x ∧ hInstr (hWordOf 0x0F false 0 b) x = hFall b x := by
  refine ⟨?_, ?_, ?_, ?_, ?_, ?_, ?_, ?_, ?_, ?_⟩ <;> simp (disch := omega) [hInstr]

theorem hInstr_number {n kind : Nat} (hn : n < 256) (hk : kind < 3) (x : HCtx) :
    hInstr (hWordOf 0x10 false kind n) x = hTmr n kind x ∧ hInstr (hWordOf 0x11 false 0 n) x = hCtu n x ∧
    hInstr (hWordOf 0x12 false 0 n) x = hCtd n x ∧ hInstr (hWordOf 0x13 false 0 n) x = hCrst n x ∧
    hInstr (hWordOf 0x14 false 0 n) x = hCld n x := by
  refine ⟨?_, ?_, ?_, ?_, ?_⟩ <;> simp (disch := omega) [hInstr]

theorem hInstr_wordOperand {a : Nat} (ha : a < 2 ^ 14) (x : HCtx) :
    hInstr (hWordOf 0x18 false 0 a) x = hLdw a x ∧ hInstr (hWordOf 0x23 false 0 a) x = hAndw a x ∧
    hInstr (hWordOf 0x24 false 0 a) x = hOrw a x ∧ hInstr (hWordOf 0x25 false 0 a) x = hXorw a x ∧
    hInstr (hWordOf 0x21 false 0 a) x = hInc a x ∧ hInstr (hWordOf 0x22 false 0 a) x = hDec a x := by
  refine ⟨?_, ?_, ?_, ?_, ?_, ?_⟩ <;> simp (disch := omega) [hInstr]

theorem hInstr_wordFlag {a : Nat} (ha : a < 2 ^ 14) (f : Bool) (x : HCtx) :
    hInstr (hWordOf 0x1B false (if f then 1 else 0) a) x = hStw a f x ∧
    hInstr (hWordOf 0x1C false (if f then 1 else 0) a) x = hAdd a f x ∧
    hInstr (hWordOf 0x1D false (if f then 1 else 0) a) x = hSub a f x := by
  have hf := flag_lt f
  refine ⟨?_, ?_, ?_⟩ <;> simp (disch := omega) [hInstr]

theorem hInstr_cmp {a rel : Nat} (ha : a < 2 ^ 14) (hr : rel < 6) (f neg : Bool) (x : HCtx) :
    hInstr (hWordOf 0x1F neg (rel + if f then 8 else 0) a) x = hCmp a rel f neg x := by
  have hf := cmpArg_lt hr f
  simp (disch := omega) [hInstr]

theorem hInstr_immediate (v : BitVec 20) (x : HCtx) :
    hInstr (hWordOf 0x19 false 0 v.toNat) x = hLdi v.toInt x ∧
    (∀ f : Bool, hInstr (hWordOf 0x1E false (if f then 1 else 0) v.toNat) x = hAddi v.toInt f x) ∧
    ∀ rel neg, rel < 6 → hInstr (hWordOf 0x20 neg rel v.toNat) x = hCmpi v.toInt rel neg x := by
  have hv := v.isLt
  refine ⟨?_, fun f => ?_, fun rel neg hr => ?_⟩
  · simp (disch := omega) [hInstr, sx_toNat]
  · have hf := flag_lt f
    simp (disch := omega) [hInstr, sx_toNat]
  · simp (disch := omega) [hInstr, sx_toNat]

theorem hInstr_high {v : Nat} (hv : v < 4096) (x : HCtx) : hInstr (hWordOf 0x1A false 0 v) x = hLdhi v x := by
  simp (disch := omega) [hInstr]

theorem hInstr_ofW {n : Nat} (hn : n < 32) (neg : Bool) (x : HCtx) :
    hInstr (hWordOf 0x26 false n 0) x = hShf false n x ∧ hInstr (hWordOf 0x26 false n 1) x = hShf true n x ∧
    hInstr (hWordOf 0x27 neg n 0) x = hTstb n neg x := by
  have hleft : bitOf 0 0 = false := rfl
  have hright : bitOf 1 0 = true := rfl
  refine ⟨?_, ?_, ?_⟩ <;> simp (disch := omega) [hInstr, hleft, hright]

theorem hInstr_jump {k cond : Nat} (hk : k < 2 ^ 16) (hc : cond < 3) (x : HCtx) :
    hInstr (hWordOf 0x30 false cond k) x = hJmp k cond x := by
  simp (disch := omega) [hInstr]

/-- Settles O24, by the kind of the operand: a word has the function of its row on the copy. -/
theorem harnessWordsActAsRows : Obligations.HarnessWordsActAsRows := by
  intro s e x hup hx runs word
  have run {c : Instr} {f : HCtx → HCtx} {w : Nat} (hf : harnessFn c = some (e, f)) (hw : hInstr w x = f x) : runs w c :=
    exec_onScan hup hf hx hw.symm
  obtain ⟨nop, apush, opush, xpush, not, seta0, seta1⟩ := hInstr_noOperand x
  refine ⟨run rfl nop, run rfl apush, run rfl opush, run rfl xpush, run rfl not, run rfl seta0, run rfl seta1, ?bits, ?numbers,
    ?words, ?immediates, ?high, ?ofW, ?jumps⟩
  case bits =>
    intro neg b hb
    obtain ⟨ld, and, or, xor, pop, st, set, rst, rise, fall⟩ := hInstr_bitOperand neg hb x
    exact ⟨run rfl ld, run rfl and, run rfl or, run rfl xor, run rfl pop, run rfl st, run rfl set, run rfl rst, run rfl rise,
      run rfl fall⟩
  case numbers =>
    intro n kind hn hk
    obtain ⟨tmr, ctu, ctd, crst, cld⟩ := hInstr_number hn hk x
    exact ⟨run rfl tmr, run rfl ctu, run rfl ctd, run rfl crst, run rfl cld⟩
  case words =>
    intro a ha
    obtain ⟨ldw, andw, orw, xorw, inc, dec⟩ := hInstr_wordOperand ha x
    refine ⟨run rfl ldw, run rfl andw, run rfl orw, run rfl xorw, run rfl inc, run rfl dec, fun f => ?flagged⟩
    case flagged =>
      obtain ⟨stw, add, sub⟩ := hInstr_wordFlag ha f x
      exact ⟨run rfl stw, run rfl add, run rfl sub, fun rel neg hr => run rfl (hInstr_cmp ha hr f neg x)⟩
  case immediates =>
    intro v
    obtain ⟨ldi, addi, cmpi⟩ := hInstr_immediate v x
    exact ⟨run rfl ldi, fun f => run rfl (addi f), fun rel neg hr => run rfl (cmpi rel neg hr)⟩
  case high => exact fun v hv => run rfl (hInstr_high hv x)
  case ofW =>
    intro n neg hn
    obtain ⟨shl, shr, tstb⟩ := hInstr_ofW hn neg x
    exact ⟨run rfl shl, run rfl shr, run rfl tstb⟩
  case jumps => exact fun k cond hk hc => run rfl (hInstr_jump hk hc x)

end Sys2Proof.Machine
end

section
/-! SUPPORT and PROOF. Jumps, commits and scans of the Harness (07 R208, R210, R211, R225, R237, R238; 11 R333). -/

namespace Sys2Proof.Machine

/-! Jumps (R225). -/

theorem hJmp_always (k : Nat) (x : HCtx) : hJmp k 0 x = { x with pc := x.pc + k } := rfl

theorem hJmp_ifAcc (k : Nat) (x : HCtx) : hJmp k 1 x = { x with pc := x.pc + if x.acc then k else 1 } := by
  cases h : x.acc <;> simp [hJmp, hNext, h]

theorem hJmp_ifNotAcc (k : Nat) (x : HCtx) : hJmp k 2 x = { x with pc := x.pc + if x.acc then 1 else k } := by
  cases h : x.acc <;> simp [hJmp, hNext, h]

/-! A carriage's Harness, and what a commit does (R208). -/

@[simp] theorem hcar_setHcar_same (c : Nat) (x : HCar) (d : Dev) : hcar (setHcar c x d) c = x :=
  tget_tput_same ..

theorem hcar_setHcar_other {c j : Nat} (h : j ≠ c) (x : HCar) (d : Dev) : hcar (setHcar c x d) j = hcar d j :=
  tget_tput_other _ _ _ _ _ h

@[simp] theorem hcar_commit (s : State) (d : Dev) (c : Nat) : hcar (s.commit d).dev c = hcar d c := rfl

@[simp] theorem hcar_wn (d : Dev) (off n c : Nat) : hcar (d.wn off n) c = hcar d c := rfl

@[simp] theorem hcar_dropCtx (e c : Nat) (d : Dev) : hcar (dropCtx e d) c = hcar d c := rfl

@[simp] theorem hcar_useCyc (e n c : Nat) (d : Dev) : hcar (useCyc e n d) c = hcar d c := rfl

@[simp] theorem tfind_dropCtx_same (e : Nat) (d : Dev) : tfind (dropCtx e d).hle.ctx e = none := tfind_tdel_same ..

/-- A completed item of P2 touches the Brace's lists alone. -/
theorem p2Done_brc (leg kind item : Nat) (d : Dev) : ∃ b, p2Done leg kind item d = { d with brc := b } := by
  unfold p2Done
  split
  · exact ⟨_, rfl⟩
  · split
    · exact ⟨_, rfl⟩
    · exact ⟨d.brc, rfl⟩

/-- A carriage's Harness once the copy of a scan in Run is committed to it. -/
def committedCar (k : HCtx) (x : HCar) : HCar :=
  { x with wr := k.wr, tims := k.tims, cnts := k.cnts, dirty := x.dirty || retOf k.wr != retOf x.wr, swapped := false,
           last := some k.leg, out := outOf k.wr, inp := k.inp, fresh := true }

/-- The device with a commit in Run: the carriage's Harness, the list of commits, and what the Brace keeps. -/
def commitDev (k : HCtx) (x : HCar) (b : Brc) (d : Dev) : Dev :=
  setHcar k.car x { d with pub := { d.pub with commits := d.pub.commits ++ [k.car] }, brc := b }

section
variable (k : HCtx) (x : HCar) (b : Brc) (d : Dev)

@[simp] theorem hcar_commitDev_same : hcar (commitDev k x b d) k.car = x := hcar_setHcar_same ..

theorem hcar_commitDev_other {c : Nat} (hc : c ≠ k.car) : hcar (commitDev k x b d) c = hcar d c := hcar_setHcar_other hc ..

@[simp] theorem commitDev_commits : (commitDev k x b d).pub.commits = d.pub.commits ++ [k.car] := rfl
@[simp] theorem commitDev_rd (off : Nat) : (commitDev k x b d).rd off = d.rd off := rfl
@[simp] theorem commitDev_sau : (commitDev k x b d).sau = d.sau := rfl
@[simp] theorem commitDev_fch : (commitDev k x b d).fch = d.fch := rfl
@[simp] theorem commitDev_cars : (commitDev k x b d).cars = d.cars := rfl

end

/-- The image of a commit and its completion, where the scan is one of P2, stay with the Brace. -/
theorem digImage_p2Done_brc (k : HCtx) (d : Dev) (isP2 : Dev → Prop) [DecidablePred isP2] :
    ∃ b, (if isP2 (digImage k.car k.leg (outOf k.wr) d) then p2Done k.leg 2 k.car (digImage k.car k.leg (outOf k.wr) d)
      else digImage k.car k.leg (outOf k.wr) d) = { d with brc := b } := by
  split
  · exact p2Done_brc ..
  · exact ⟨_, rfl⟩

/-- A commit in Run writes HLE_C_LAST_TC and is `commitDev`. -/
theorem scanCommit_run {k : HCtx} (hk : k.hold = false) (d : Dev) : ∃ b, scanCommit k d =
    commitDev k (committedCar k (hcar d k.car)) b (d.wn (Reg.hleCLastTc k.car) d.tc) := by
  unfold scanCommit
  rw [if_neg (Bool.eq_false_iff.mp hk)]
  exact (digImage_p2Done_brc k _ (fun d => carCls d k.car = 2)).imp fun b hb => congrArg (setHcar k.car _) hb

section
variable {k : HCtx} (hk : k.hold = false) (d : Dev)
include hk

theorem hcar_scanCommit_same : hcar (scanCommit k d) k.car = committedCar k (hcar d k.car) := by
  obtain ⟨b, hb⟩ := scanCommit_run hk d
  rw [hb, hcar_commitDev_same]

theorem hcar_scanCommit_other {c : Nat} (hc : c ≠ k.car) : hcar (scanCommit k d) c = hcar d c := by
  obtain ⟨b, hb⟩ := scanCommit_run hk d
  rw [hb, hcar_commitDev_other _ _ _ _ hc, hcar_wn]

theorem scanCommit_commits : (scanCommit k d).pub.commits = d.pub.commits ++ [k.car] := by
  obtain ⟨b, hb⟩ := scanCommit_run hk d
  rw [hb, commitDev_commits, Dev.wn_pub]

theorem scanCommit_rd_lastTc : (scanCommit k d).rd (Reg.hleCLastTc k.car) = w32 d.tc := by
  obtain ⟨b, hb⟩ := scanCommit_run hk d
  rw [hb, commitDev_rd, Dev.wn, Dev.rd_wr_same]

theorem scanCommit_sau : (scanCommit k d).sau = d.sau := by
  obtain ⟨b, hb⟩ := scanCommit_run hk d
  rw [hb, commitDev_sau, Dev.wn_sau]

theorem scanCommit_fch : (scanCommit k d).fch = d.fch := by
  obtain ⟨b, hb⟩ := scanCommit_run hk d
  rw [hb, commitDev_fch, Dev.wn_fch]

theorem scanCommit_cars : (scanCommit k d).cars = d.cars := by
  obtain ⟨b, hb⟩ := scanCommit_run hk d
  rw [hb, commitDev_cars, Dev.wn_cars]

end

/-! END. -/

theorem exec_hEnd (e : Nat) (s : State) : exec (.hEnd e) s = execHEnd e s := rfl

section
variable {s : State} (hup : s.dev.up = true) {e : Nat}
include hup

theorem exec_hEnd_onScan {x : HCtx} (hx : tfind s.dev.hle.ctx e = some x) :
    exec (.hEnd e) s = .next (s.commit (dropCtx e (scanCommit x (useCyc e 1 s.dev)))) := by
  rw [exec_hEnd, execHEnd, State.act_up _ _ hup, hx]

theorem exec_hEnd_noScan (hx : tfind s.dev.hle.ctx e = none) : exec (.hEnd e) s = .next (s.commit s.dev) := by
  rw [exec_hEnd, execHEnd, State.act_up _ _ hup, hx]

/-! Scans in a seat (R208, R210, R211). -/

theorem exec_harnessScan_up {c : Nat} (he : e < 17) (hc : c < 512) (n : Nat) :
    exec (.harnessScan e c n) s = .next (s.commit (harnessRow e c n s.dev)) :=
  State.act_onlyIf hup (by simp [he, hc]) (harnessRow e c n)

theorem exec_holdStep_up {c : Nat} (hc : c < 512) :
    exec (.holdStep c) s = .next (s.commit (rwm s.dev (holdStep c))) :=
  State.act_onlyIf hup (decide_eq_true hc) (fun d => rwm d (holdStep c))

end

section
variable {e c n : Nat} {d : Dev}

theorem harnessRow_gone (hs : scanSeatNow d e c = true) (hg : scanGone d e c = true) :
    harnessRow e c n d =
      raise 250 (some c) c 0 ((scanSkipped c (setHcar c { hcar d c with frz := (hcar d c).frz.tail } d)).bump Reg.hleScanLost) := by
  rw [harnessRow, if_pos hs, scanSeat, if_pos hg]

theorem harnessRow_scan (hs : scanSeatNow d e c = true) (hg : scanGone d e c = false) : harnessRow e c n d = scanOn e c n d := by
  rw [harnessRow, if_pos hs, scanSeat, if_neg (Bool.eq_false_iff.mp hg)]

theorem harnessRow_notServed (hs : scanSeatNow d e c = false) : harnessRow e c n d = d :=
  if_neg (Bool.eq_false_iff.mp hs)

/-- A scan that runs: to its commit, or as far as the steps go. -/
theorem scanOn_runs {p : HProg} {leg : Nat} {inp : Tbl Nat} {fs : List (Nat × Tbl Nat)} {x : HCar} (hx : hcar d c = x)
    (hp : x.prog = some p) (hf : x.frz = (leg, inp) :: fs) (hc : scanCan d e c = true)
    (hn : isShadow d = false ∨ carCls d c ≠ 2 ∨ (leg, 2, c) ∈ d.brc.p2) {r : HCtx × Bool × Nat}
    (hr : scanRun p.code n (scanStart c leg false inp p x) = r) :
    scanOn e c n d =
      let d' := useCyc e (24 + r.2.2) ((setHcar c { x with frz := fs } d).wn (Reg.hleCEngine c) e)
      if r.2.1 then scanCommit r.1 d' else setCtx e r.1 d' := by
  subst hx hr
  have hno : ¬ ((!scanCan d e c || (isShadow d && carCls d c == 2 && !d.brc.p2.contains (leg, 2, c))) = true) := by
    rcases hn with h | h | h <;> simp [hc, h]
  simp only [scanOn, hp, hf]
  rw [if_neg hno]

theorem scanOn_cannot (hc : scanCan d e c = false) : scanOn e c n d = d := by
  unfold scanOn
  extract_lets x
  split
  · exact if_pos (by simp [hc])
  · rfl

/-- On the shadow, a P2 scan that the active's list does not name. -/
theorem scanOn_notNamed {leg : Nat} {inp : Tbl Nat} {fs : List (Nat × Tbl Nat)} (hf : (hcar d c).frz = (leg, inp) :: fs)
    (hs : isShadow d = true) (hp2 : carCls d c = 2) (hn : (leg, 2, c) ∉ d.brc.p2) : scanOn e c n d = d := by
  simp only [scanOn, hf]
  cases (hcar d c).prog with
  | none => rfl
  | some p => exact if_pos (by simp [hs, hp2, hn])

end

/-! A step in Hold (R238). -/

section
variable {c : Nat} {d : Dev} {p : HProg} {x : HCar}

theorem holdStep_idle (h : (hcar d c).prog = none ∨ holdCan d c = false) : holdStep c d = d := by
  unfold holdStep
  extract_lets x
  split
  · rfl
  next p hp =>
    have hc : holdCan d c = false := h.resolve_left (by simp [x, hp])
    exact if_pos (by simp [hc])

theorem holdStep_runs (hx : hcar d c = x) (hp : x.prog = some p) (hc : holdCan d c = true) {r : HCtx × Bool × Nat}
    (hr : scanRun p.code (p.code.length + 1) (scanStart c x.holdInp.1 true x.holdInp.2 p x) = r) :
    holdStep c d = if r.2.1 then scanCommit r.1 d else d := by
  subst hx hr
  simp only [holdStep, hp]
  exact if_neg (by simp [hc])

end

/-- Settles O25: jumps and END on a copy, a scan by whether its engine serves it and can run it, and a step in Hold; a commit's
effect is `scanCommit_run`. -/
theorem harnessProgramsAndScans : Obligations.HarnessProgramsAndScans := by
  refine ⟨?flow, ?scans, ?noScan, ?hold⟩
  case flow =>
    intro s e x hup hx
    refine ⟨fun k => ⟨exec_onScan hup rfl hx (hJmp_always k x), exec_onScan hup rfl hx (hJmp_ifAcc k x),
      exec_onScan hup rfl hx (hJmp_ifNotAcc k x)⟩, exec_hEnd_onScan hup hx, fun hk => ⟨_, exec_hEnd_onScan hup hx, ?_⟩⟩
    have hcar_t : hcar (s.commit (dropCtx e (scanCommit x (useCyc e 1 s.dev)))).dev x.car = committedCar x (hcar s.dev x.car) := by
      rw [hcar_commit, hcar_dropCtx, hcar_scanCommit_same hk, hcar_useCyc]
    exact ⟨tfind_dropCtx_same .., congrArg HCar.wr hcar_t, congrArg HCar.tims hcar_t, congrArg HCar.cnts hcar_t,
      congrArg HCar.last hcar_t, scanCommit_commits hk _, scanCommit_rd_lastTc hk _,
      fun c hc => by rw [hcar_commit, hcar_dropCtx, hcar_scanCommit_other hk _ hc, hcar_useCyc], scanCommit_sau hk _,
      scanCommit_fch hk _, scanCommit_cars hk _⟩
  case scans =>
    intro s e c n hup he hc x
    rw [exec_harnessScan_up hup he hc]
    refine ⟨?runs, fun hs hg => by rw [harnessRow_gone hs hg], fun h => ?idle,
      fun leg inp fs hf hg hsh hp2 hn => ?notNamed⟩
    case runs =>
      intro p leg inp fs hs hg hp hf hcan hn r d
      rw [harnessRow_scan hs hg, scanOn_runs rfl hp hf hcan hn rfl]
      exact ⟨fun h => by rw [if_pos h], fun h => by rw [if_neg (Bool.eq_false_iff.mp h)]⟩
    case idle =>
      rcases h with hs | ⟨hg, hcan⟩
      · rw [harnessRow_notServed hs]
      · cases hs : scanSeatNow s.dev e c
        · rw [harnessRow_notServed hs]
        · rw [harnessRow_scan hs hg, scanOn_cannot hcan]
    case notNamed =>
      cases hs : scanSeatNow s.dev e c
      · rw [harnessRow_notServed hs]
      · rw [harnessRow_scan hs hg, scanOn_notNamed hf hsh hp2 hn]
  case noScan =>
    intro s e c hup hx hc
    rcases harnessFn_of_engine hc with rfl | ⟨f, hf⟩
    · exact exec_hEnd_noScan hup hx
    · exact exec_noScan hup hf hx
  case hold =>
    intro s c hup hc x
    rw [exec_holdStep_up hup hc]
    refine ⟨fun hm => ?inMode, fun hb hm => by rw [rwm_refused hb hm]⟩
    rw [rwm_taken hm]
    refine ⟨?_, fun h => by rw [holdStep_idle h]⟩
    intro p hp hcan r
    rw [holdStep_runs rfl hp hcan rfl]
    exact ⟨fun h => by rw [if_pos h], fun h => by rw [if_neg (Bool.eq_false_iff.mp h)]⟩

end Sys2Proof.Machine
end

section
/-! SUPPORT and PROOF. GOOSE subscription and program loads (07 R215, R218 to R223, R239 to R241; 08 R253; 11 R334): the rows on a device
that runs, and what each operation does in each of its cases. -/

namespace Sys2Proof.Machine

section
variable {s : State} (hup : s.dev.up = true)
include hup

theorem exec_gooseFrameRx_up {p cls : Nat} (hp : p < 11) (hc : cls < 8) (full : Bool) (f : GooseFrame) :
    exec (.gooseFrameRx p cls full f) s = .next (s.commit (gooseRx p cls full f s.dev)) :=
  State.act_onlyIf hup (by simp [hp, hc]) (gooseRx p cls full f)

theorem exec_gmapWrite_up (v : Word) :
    exec (.gmapWrite v) s = .next (s.commit (gmapCommit (s.dev.fldR Reg.hleGmapIdx 0 16) v.toNat s.dev)) :=
  State.act_up s (fun d => gmapCommit (d.fldR Reg.hleGmapIdx 0 16) v.toNat d) hup

theorem exec_hleLoad_up {c : Nat} (hc : c < 512) (swap : Bool) :
    exec (.hleLoad c swap) s = .next (s.commit (hleLoadCmd c swap s.mem s.dev)) :=
  State.act_onlyIf hup (decide_eq_true hc) (hleLoadCmd c swap s.mem)

variable {i : Nat} (hi : i < 2048)
include hi

theorem exec_gooseAliveExpiry_up : exec (.gooseAliveExpiry i) s = .next (s.commit (aliveExpiry i s.dev)) :=
  State.act_onlyIf hup (decide_eq_true hi) (aliveExpiry i)

theorem exec_gsubEntryRead_up : exec (.gsubEntryRead i) s = .next (s.commit (gsRead i s.dev)) :=
  State.act_onlyIf hup (decide_eq_true hi) (gsRead i)

theorem exec_gsubEntryCommit_up : exec (.gsubEntryCommit i) s = .next (s.commit (gsCommit i s.dev)) :=
  State.act_onlyIf hup (decide_eq_true hi) (gsCommit i)

end

/-! A frame at the decoder (R215, R219, R223). -/

section
variable {d : Dev} {f : GooseFrame} {i : Nat} {e : List Nat}

/-- The first entry that is not FREE and whose key is the frame's. -/
def gsHit (f : GooseFrame) (d : Dev) : Option (Nat × List Nat) :=
  d.hle.ents.find? (fun q => gsState q.2 != 0 && gsKey q.2 == gooseKey f)

theorem gooseRx_full (p cls : Nat) (f : GooseFrame) (d : Dev) :
    gooseRx p cls true f d = raise 252 none p 0 (d.bump Reg.hleGQfull) :=
  if_pos rfl

theorem gooseRx_noMatch (h : gsHit f d = none ∨ 64 < f.gocbRef.length) (p cls : Nat) :
    gooseRx p cls false f d = d.bump Reg.hleGNomatch := by
  have hnone : (if 64 < f.gocbRef.length then none else gsHit f d) = none := by
    rcases h with h | h <;> simp [h]
  rw [gsHit] at hnone
  simp only [gooseRx, Bool.false_eq_true, if_false, hnone]

section
variable (hl : f.gocbRef.length ≤ 64) (hh : gsHit f d = some (i, e))
include hl hh

theorem gooseRx_hit (p cls : Nat) :
    gooseRx p cls false f d = if gsState e = 2 then d.bump (Reg.hleGsDrop i) else gsFrame i p cls e f d := by
  rw [gsHit] at hh
  simp only [gooseRx, Bool.false_eq_true, if_false, hh, Nat.not_lt.mpr hl]

theorem gooseRx_suspended (hs : gsState e = 2) (p cls : Nat) : gooseRx p cls false f d = d.bump (Reg.hleGsDrop i) := by
  rw [gooseRx_hit hl hh, if_pos hs]

theorem gooseRx_live (hs : gsState e ≠ 2) (p cls : Nat) : gooseRx p cls false f d = gsFrame i p cls e f d := by
  rw [gooseRx_hit hl hh, if_neg hs]

end

section
variable {p : Nat} {a : Dev × Bool} (ha : (if bitOf (gsGroups e) (portGroup p) then gsAuthOk e f d else (d, true)) = a)
  {cause : Nat} (hc : gsCause a.1 i p e f a.2 = cause)
include ha hc

theorem gsFrame_accepted (h0 : cause = 0) (cls : Nat) : gsFrame i p cls e f d = gsAccept i p cls e f a.1 := by
  subst ha hc
  exact if_pos h0

theorem gsFrame_dropped (h0 : cause ≠ 0) (h3 : cause ≠ 3) (cls : Nat) :
    gsFrame i p cls e f d = (a.1.bump (Reg.hleGsDrop i)).setF (Reg.hleGsSt i) 8 4 cause := by
  subst ha hc
  rw [gsFrame, if_neg h0, if_neg h3]

/-- The third check sets the flags of what it found. -/
theorem gsFrame_flagged (h3 : cause = 3) (cls : Nat) {drop rev : Dev}
    (hdrop : (a.1.bump (Reg.hleGsDrop i)).setF (Reg.hleGsSt i) 8 4 cause = drop)
    (hrev : (if f.confRev ≠ entW e 3 then drop.setB (Reg.hleGsSt i) 2 else drop) = rev) :
    gsFrame i p cls e f d = gsFlagsOut i (if f.ndsCom then rev.setB (Reg.hleGsSt i) 3 else rev) := by
  subst hrev hdrop ha hc
  rw [gsFrame, if_neg (by rw [h3]; decide), if_pos h3]

end

end

/-! ALIVE runs out (R222). -/

section
variable {i t : Nat} {d : Dev}

theorem aliveExpiry_none (h : tfind d.hle.alive i = none) : aliveExpiry i d = d := by
  rw [aliveExpiry, h]

theorem aliveExpiry_early (h : tfind d.hle.alive i = some t) (ht : d.tim.absTick < t) : aliveExpiry i d = d := by
  simp only [aliveExpiry, h]
  exact if_pos ht

theorem aliveExpiry_expired (h : tfind d.hle.alive i = some t) (ht : t ≤ d.tim.absTick) {d' : Dev}
    (hd : { d.clrB (Reg.hleGsSt i) 0 with hle := { d.hle with alive := tdel d.hle.alive i } } = d') :
    aliveExpiry i d = raise 253 none i 0 (gsFlagsOut i (if bitOf (entW (gsEnt d i) 0) 14 then gsClear i d' else d')) := by
  subst hd
  simp only [aliveExpiry, h]
  exact if_neg (Nat.not_lt.mpr ht)

end

/-! A commit of the staged words (R218; 11 R334), and a map word. -/

section
variable {i : Nat} {w : List Nat} {d : Dev}

/-- The 26 words staged for a commit. -/
def stagedGs (d : Dev) : List Nat := (List.range 26).map (fun k => d.rn (Reg.hleGsStage k))

/-- REFUSED, bit 1, with a REASON. -/
theorem bitR_refused (d : Dev) (off r : Nat) : (d.wn off (2 + r * 16)).bitR off 1 = true := by
  rw [Dev.bitR, Dev.rn_wn_same, bitOf, beq_iff_eq]
  omega

theorem gsCommitW_refused {who : Who} (hr : gsReason d i w ≠ 0) :
    gsCommitW who i w d = d.wn Reg.hleGsCstat (2 + gsReason d i w * 16) :=
  if_pos hr

theorem gsCommitW_denied {who : Who} (hr : gsReason d i w = 0) (hs : gsState w ≠ 0)
    (hn : namesSlot d (gsAuth w) (gsSlot w) fnVerifyIn .livery who = false) : gsCommitW who i w d = d.wn Reg.hleGsCstat 2 := by
  rw [gsCommitW, if_neg (not_not_intro hr), if_pos (by simp [hs, hn])]

theorem gsCommitW_taken {who : Who} (hr : gsReason d i w = 0)
    (hn : gsState w = 0 ∨ namesSlot d (gsAuth w) (gsSlot w) fnVerifyIn .livery who = true) :
    gsCommitW who i w d =
      { d.wn Reg.hleGsCstat 0 with hle := { d.hle with pend := tput d.hle.pend i (takePad 0 32 w) } } := by
  rw [gsCommitW, if_neg (not_not_intro hr), if_neg (by rcases hn with hn | hn <;> simp [hn])]

section
variable (hw : stagedGs d = w)
include hw

/-- A commit that sets REFUSED stays out of the journal. -/
theorem gsCommit_of_refused {d' : Dev} (hd : gsCommitW liveryWho i w d = d') (hb : d'.bitR Reg.hleGsCstat 1 = true) :
    gsCommit i d = d' := by
  subst hw hd
  exact if_pos hb

theorem gsCommit_of_taken {d' : Dev} (hd : gsCommitW liveryWho i w d = d') (hb : d'.bitR Reg.hleGsCstat 1 = false) :
    gsCommit i d = journal 3 i w d' := by
  subst hw hd
  exact if_neg (Bool.eq_false_iff.mp hb)

theorem gsCommit_refused (hr : gsReason d i w ≠ 0) : gsCommit i d = d.wn Reg.hleGsCstat (2 + gsReason d i w * 16) :=
  gsCommit_of_refused hw (gsCommitW_refused hr) (bitR_refused ..)

theorem gsCommit_denied (hr : gsReason d i w = 0) (hs : gsState w ≠ 0)
    (hn : namesSlot d (gsAuth w) (gsSlot w) fnVerifyIn .livery liveryWho = false) : gsCommit i d = d.wn Reg.hleGsCstat 2 :=
  gsCommit_of_refused hw (gsCommitW_denied hr hs hn) (bitR_refused d Reg.hleGsCstat 0)

theorem gsCommit_taken (hr : gsReason d i w = 0)
    (hn : gsState w = 0 ∨ namesSlot d (gsAuth w) (gsSlot w) fnVerifyIn .livery liveryWho = true) :
    gsCommit i d = journal 3 i w
      { d.wn Reg.hleGsCstat 0 with hle := { d.hle with pend := tput d.hle.pend i (takePad 0 32 w) } } := by
  refine gsCommit_of_taken hw (gsCommitW_taken hr hn) ?_
  have hrn : (d.wn Reg.hleGsCstat 0).rn Reg.hleGsCstat = 0 := Dev.rn_wn_same ..
  exact congrArg (bitOf · 1) hrn

end

/-- The journal is a message of the Brace: no table changes. -/
@[simp] theorem journal_hle (kind index : Nat) (w : List Nat) (d : Dev) : (journal kind index w d).hle = d.hle := by
  unfold journal brcSend
  split <;> rfl

theorem gmapCommit_live {v : Nat} (h : gmapLive d i = true) : gmapCommit i v d = d.emit (.infoEvent 218) := by
  rw [gmapCommit, if_pos h, gmapWrite, if_pos h]

theorem gmapCommit_free {v : Nat} (h : gmapLive d i = false) {d' : Dev} (hd : journal 7 i [v] d = d') :
    gmapCommit i v d = { d' with hle := { d'.hle with gmap := tset 0 d'.hle.gmap i v } } := by
  subst hd
  have hj : gmapLive (journal 7 i [v] d) i = false := by
    rw [gmapLive, journal_hle]
    exact h
  rw [gmapCommit, if_neg (Bool.eq_false_iff.mp h), gmapWrite, if_neg (Bool.eq_false_iff.mp hj)]

end

/-! A load of a program (R240, R241; 08 R253). -/

section
variable {c : Nat} {swap : Bool} {m : List Host.Cell} {d d' : Dev}

theorem hleLoadCmd_notPermitted (h : carSt d c = 0 ∨ (carEnabled d c = true ∧ swap = false)) :
    hleLoadCmd c swap m d = d.wn Reg.hleLoadStatus 2 :=
  if_pos (by rcases h with h | ⟨he, hs⟩ <;> simp [*])

/-- A load placed, or refused with its REASON and INDEX. -/
theorem loadProg_fst {img : List Nat × List Nat × List (Nat × Nat)} {r : Nat × Nat}
    (hr : loadReason d c img.1 img.2.1 img.2.2 = r) :
    (loadProg img c swap d).1 =
      if r.1 = 0 then placeProg c swap ⟨img.1, img.2.1, img.2.2⟩ (d.wn Reg.hleLoadStatus 0)
      else d.wn Reg.hleLoadStatus (2 + r.1 * 16 + r.2 * 4096) := by
  subst hr
  by_cases h : (loadReason d c img.1 img.2.1 img.2.2).1 = 0
  · rw [loadProg, if_neg (not_not_intro h), if_pos h]
  · rw [loadProg, if_pos h, if_neg h]

section
variable (hs : carSt d c ≠ 0) (he : carEnabled d c = false ∨ swap = true)
  (hd : (loadProg (readImage m (d.rn Reg.hleLoadAddrLo + d.fldR Reg.hleLoadAddrHi 0 8 * 2 ^ 32)) c swap d).1 = d')
include hs he hd

theorem hleLoadCmd_permitted :
    hleLoadCmd c swap m d = if (admitChanges d d').2 = 0 then (admitChanges d d').1 else d.wn Reg.hleLoadStatus 2 := by
  subst hd
  exact if_neg (by rcases he with he | he <;> simp [hs, he])

theorem hleLoadCmd_admitted (ha : (admitChanges d d').2 = 0) : hleLoadCmd c swap m d = (admitChanges d d').1 := by
  rw [hleLoadCmd_permitted hs he hd, if_pos ha]

theorem hleLoadCmd_notAdmitted (ha : (admitChanges d d').2 ≠ 0) : hleLoadCmd c swap m d = d.wn Reg.hleLoadStatus 2 := by
  rw [hleLoadCmd_permitted hs he hd, if_neg ha]

theorem hleLoadCmd_unchanged (hu : changedCars d d' = []) : hleLoadCmd c swap m d = d' := by
  have ha := admitChanges_unchanged hu
  rw [hleLoadCmd_admitted hs he hd (by rw [ha]), ha]

end

end

/-- Settles O26, row by row: each clause is a case of the row's operation. -/
theorem gooseAndLoads : Obligations.GooseAndLoads := by
  refine ⟨?frames, ?tables⟩
  case frames =>
    intro s p cls i f hup hp hc
    rw [exec_gooseFrameRx_up hup hp hc, exec_gooseFrameRx_up hup hp hc]
    refine ⟨by rw [gooseRx_full], ?decoder, ?alive, ?noAlive⟩
    case decoder =>
      intro hit
      have hh : gsHit f s.dev = hit := rfl
      refine ⟨fun h => by rw [gooseRx_noMatch (hh ▸ h)], fun e hl hf hs => by rw [gooseRx_suspended hl (hh.trans hf) hs], ?live⟩
      case live =>
        intro e hl hf hs a cause drop rev
        have ha : (if bitOf (gsGroups e) (portGroup p) then gsAuthOk e f s.dev else (s.dev, true)) = a := rfl
        have hcause : gsCause a.1 i p e f a.2 = cause := rfl
        rw [gooseRx_live hl (hh.trans hf) hs]
        exact ⟨fun h0 => by rw [gsFrame_accepted ha hcause h0], fun h0 h3 => by rw [gsFrame_dropped ha hcause h0 h3],
          fun h3 => by rw [gsFrame_flagged ha hcause h3 cls rfl rfl]⟩
    case alive =>
      intro t hi ha d
      rw [exec_gooseAliveExpiry_up hup hi]
      exact ⟨fun ht => by rw [aliveExpiry_expired ha ht rfl], fun ht => by rw [aliveExpiry_early ha ht]⟩
    case noAlive => exact fun hi ha => by rw [exec_gooseAliveExpiry_up hup hi, aliveExpiry_none ha]
  case tables =>
    intro s i c hup hi hc
    rw [exec_gsubEntryRead_up hup hi, exec_gsubEntryCommit_up hup hi]
    refine ⟨by rw [gsRead], ?commit, ?mapWord, ?load⟩
    case commit =>
      intro w named d
      have hw : stagedGs s.dev = w := rfl
      have hn : namesSlot s.dev (gsAuth w) (gsSlot w) fnVerifyIn .livery liveryWho = named := rfl
      exact ⟨fun h hr => by rw [gsCommit_taken hw hr (hn ▸ h)], fun hr => by rw [gsCommit_refused hw hr],
        fun hr hs h => by rw [gsCommit_denied hw hr hs (hn.trans h)]⟩
    case mapWord =>
      intro v k d
      rw [exec_gmapWrite_up hup v]
      exact ⟨fun h => by rw [gmapCommit_free h rfl], fun h => by rw [gmapCommit_live h]⟩
    case load =>
      intro img r swap d a
      have hd : (loadProg img c swap s.dev).1 = d := loadProg_fst rfl
      rw [exec_hleLoad_up hup hc]
      exact ⟨fun h => by rw [hleLoadCmd_notPermitted h], fun hs he =>
        ⟨fun hu => by rw [hleLoadCmd_unchanged hs he hd hu], fun ha => by rw [hleLoadCmd_admitted hs he hd ha],
          fun ha => by rw [hleLoadCmd_notAdmitted hs he hd ha]⟩⟩

end Sys2Proof.Machine
end

section
/-! SUPPORT and PROOF. The commits of a session (07 R218; 09 R268, R285, R288; 13 R414): what the own part of each opcode does in each of
its cases. -/

namespace Sys2Proof.Machine

/-! GSUB_COMMIT (07 R218): the entry `e` named, on the device `d1` with its map written. -/

section
variable {h : Cmd} {ent map : List Word} {p e : List Nat} {d d1 : Dev} (he : takePad 0 26 (ent.map (fun w => w.toNat)) = e)
  (hd : writeMap gmapWrite (gsBase e) (takePad 0 (entW p 5) (map.map (fun w => w.toNat))) d = d1)
include he hd

theorem gsubCommitBody_refused (hr : gsReason d1 (entW p 0) e ≠ 0) :
    gsubCommitBody h ent map p d = (d, refA cBadParam (gsReason d1 (entW p 0) e) 0xFF 0) := by
  subst he hd
  exact if_pos hr

theorem gsubCommitBody_denied (hr : gsReason d1 (entW p 0) e = 0) (hs : gsState e ≠ 0)
    (hn : namesSlot d (gsAuth e) (gsSlot e) fnVerifyIn .livery (cmdWho d h) = false) :
    gsubCommitBody h ent map p d = (d, noA cDenied) := by
  subst he hd
  rw [gsubCommitBody, if_neg (not_not_intro hr), if_pos (by simp [hs, hn])]

theorem gsubCommitBody_taken (hr : gsReason d1 (entW p 0) e = 0)
    (hn : gsState e = 0 ∨ namesSlot d (gsAuth e) (gsSlot e) fnVerifyIn .livery (cmdWho d h) = true) :
    gsubCommitBody h ent map p d = (gsCommitW (cmdWho d h) (entW p 0) e d1, okA []) := by
  subst he hd
  rw [gsubCommitBody, if_neg (not_not_intro hr), if_neg (by rcases hn with hn | hn <;> simp [hn])]

end

/-! GPUB_COMMIT (09 R268), likewise. -/

section
variable {h : Cmd} {ent map : List Word} {p e : List Nat} {d d1 : Dev} (he : takePad 0 58 (ent.map (fun w => w.toNat)) = e)
  (hd : writeMap pmapWrite (geBase e) (takePad 0 (entW p 5) (map.map (fun w => w.toNat))) d = d1)
include he hd

theorem gpubCommitBody_refused (hr : geReason d1 (cmdWho d h) (entW p 0) e ≠ 0) :
    gpubCommitBody h ent map p d = (d, refA (pubStatus (geReason d1 (cmdWho d h) (entW p 0) e))
      (geReason d1 (cmdWho d h) (entW p 0) e) 0xFF 0) := by
  subst he hd
  exact if_pos hr

theorem gpubCommitBody_taken (hr : geReason d1 (cmdWho d h) (entW p 0) e = 0) :
    gpubCommitBody h ent map p d = (geCommitW (cmdWho d h) (entW p 0) e d1, okA []) := by
  subst he hd
  exact if_neg (not_not_intro hr)

end

/-! GPUB_STATE (13 R414): the committed words with another STATE. -/

section
variable {h : Cmd} {p e : List Nat} {d : Dev}

/-- STATE 0 of an entry in use whose carriage is ENABLED. -/
def FreesUsed (p : List Nat) (d : Dev) : Prop :=
  entW p 1 = 0 ∧ geState (geCommitted d (entW p 0)) ≠ 0 ∧ projSt d (geCar (geCommitted d (entW p 0))) = stEnabled

theorem gpubStateBody_used (hu : FreesUsed p d) : gpubStateBody h p d = (d, badP 1) := by
  obtain ⟨h0, hs, hc⟩ := hu
  exact if_pos (by simp [h0, hs, hc])

variable (he : setNth (geCommitted d (entW p 0)) 0 (putFld (entW (geCommitted d (entW p 0)) 0) 0 2 (entW p 1)) = e)
  (hu : ¬ FreesUsed p d)
include he hu

theorem gpubStateBody_free :
    gpubStateBody h p d =
      if geReason d (cmdWho d h) (entW p 0) e ≠ 0 then
        (d, refA (pubStatus (geReason d (cmdWho d h) (entW p 0) e)) (geReason d (cmdWho d h) (entW p 0) e) 0xFF 0)
      else (geCommitW (cmdWho d h) (entW p 0) e d, okA []) := by
  subst he
  exact if_neg (fun hb => hu (by simpa [FreesUsed, and_assoc] using hb))

theorem gpubStateBody_refused (hr : geReason d (cmdWho d h) (entW p 0) e ≠ 0) :
    gpubStateBody h p d = (d, refA (pubStatus (geReason d (cmdWho d h) (entW p 0) e))
      (geReason d (cmdWho d h) (entW p 0) e) 0xFF 0) := by
  rw [gpubStateBody_free he hu, if_pos hr]

theorem gpubStateBody_taken (hr : geReason d (cmdWho d h) (entW p 0) e = 0) :
    gpubStateBody h p d = (geCommitW (cmdWho d h) (entW p 0) e d, okA []) := by
  rw [gpubStateBody_free he hu, if_neg (not_not_intro hr)]

end

/-! SVPUB_COMMIT (09 R285) and PMU_COMMIT (09 R288). -/

section
variable {h : Cmd} {ent : List Word} {p e : List Nat} {d : Dev}

theorem svpubCommitBody_refused (he : takePad 0 35 (ent.map (fun w => w.toNat)) = e)
    (hr : svReason d (cmdWho d h) (entW p 0) e ≠ 0) :
    svpubCommitBody h ent p d = (d, refA (pubStatus (svReason d (cmdWho d h) (entW p 0) e))
      (svReason d (cmdWho d h) (entW p 0) e) 0xFF 0) := by
  subst he
  exact if_pos hr

theorem svpubCommitBody_taken (he : takePad 0 35 (ent.map (fun w => w.toNat)) = e)
    (hr : svReason d (cmdWho d h) (entW p 0) e = 0) :
    svpubCommitBody h ent p d = (svCommitW (cmdWho d h) (entW p 0) e d, okA []) := by
  subst he
  exact if_neg (not_not_intro hr)

theorem pmuCommitBody_refused (he : takePad 0 16 (ent.map (fun w => w.toNat)) = e) (hr : pmuReason d e ≠ 0) :
    pmuCommitBody ent p d = (d, refA cBadParam (pmuReason d e) 0xFF 0) := by
  subst he
  exact if_pos hr

theorem pmuCommitBody_taken (he : takePad 0 16 (ent.map (fun w => w.toNat)) = e) (hr : pmuReason d e = 0) :
    pmuCommitBody ent p d = (pmuCommitW (entW p 0) e d, okA []) := by
  subst he
  exact if_neg (not_not_intro hr)

end

/-- Settles O37, opcode by opcode: each clause is a case of the opcode's own part, on an entry that Phiash takes. -/
theorem commitCommands : Obligations.CommitCommands := by
  intro h ent map s d p i mw
  refine ⟨?gsub, ?gpub, ?state, ?svpub, ?pmu, ?pmuCtrl⟩
  case gsub =>
    intro ht e d1
    have he : takePad 0 26 (ent.map (fun w => w.toNat)) = e := rfl
    have hd : writeMap gmapWrite (gsBase e) (takePad 0 (entW p 5) (map.map (fun w => w.toNat))) d = d1 := rfl
    exact ⟨fun hr hn => act_takes_of_body ht (gsubCommitBody_taken he hd hr hn),
      fun hr hs hn => act_takes_of_body ht (gsubCommitBody_denied he hd hr hs hn),
      fun hr => act_takes_of_body ht (gsubCommitBody_refused he hd hr)⟩
  case gpub =>
    intro ht e d1
    have he : takePad 0 58 (ent.map (fun w => w.toNat)) = e := rfl
    have hd : writeMap pmapWrite (geBase e) (takePad 0 (entW p 5) (map.map (fun w => w.toNat))) d = d1 := rfl
    exact ⟨fun hr => act_takes_of_body ht (gpubCommitBody_taken he hd hr),
      fun hr => act_takes_of_body ht (gpubCommitBody_refused he hd hr)⟩
  case state =>
    intro ht e used
    have he : setNth (geCommitted d (entW p 0)) 0 (putFld (entW (geCommitted d (entW p 0)) 0) 0 2 (entW p 1)) = e := rfl
    exact ⟨fun hu hr => act_takes_of_body ht (gpubStateBody_taken he hu hr),
      fun hu hr => act_takes_of_body ht (gpubStateBody_refused he hu hr),
      fun hu => act_takes_of_body ht (gpubStateBody_used hu)⟩
  case svpub =>
    intro ht e
    have he : takePad 0 35 (ent.map (fun w => w.toNat)) = e := rfl
    exact ⟨fun hr => act_takes_of_body ht (svpubCommitBody_taken he hr),
      fun hr => act_takes_of_body ht (svpubCommitBody_refused he hr)⟩
  case pmu =>
    intro ht e
    have he : takePad 0 16 (ent.map (fun w => w.toNat)) = e := rfl
    exact ⟨fun hr => act_takes_of_body ht (pmuCommitBody_taken he hr),
      fun hr => act_takes_of_body ht (pmuCommitBody_refused he hr)⟩
  case pmuCtrl =>
    intro ht
    -- The own part is these two bits written, so no case is told apart.
    exact act_takes_of_body ht rfl

end Sys2Proof.Machine
end

section
/-! SUPPORT and PROOF. The Timetable (08 R247, R251, R257; 09 R284; the arbiter and the instant of the re-plan: log 34): the rows on a
device that runs, and what a write of a bank, an arbitrating seat and a re-admission do in each of their cases. -/

namespace Sys2Proof.Machine

section
variable {s : State} (hup : s.dev.up = true)
include hup

theorem exec_seatEntryWrite_up {b i j : Nat} (hb : b < 2) (hi : i < 8192) (hj : j < 4) (v : Word) :
    exec (.seatEntryWrite b i j v) s = .next (s.commit (seatWrite b i j v.toNat s.dev)) :=
  State.act_onlyIf hup (by simp [hb, hi, hj]) (seatWrite b i j v.toNat)

theorem exec_tsmapEntryWrite_up {b k j : Nat} (hb : b < 2) (hk : k < 4096) (hj : j < 2) (v : Word) :
    exec (.tsmapEntryWrite b k j v) s = .next (s.commit (tsWrite b k j v.toNat s.dev)) :=
  State.act_onlyIf hup (by simp [hb, hk, hj]) (tsWrite b k j v.toNat)

theorem exec_arbSeatStart_up {i : Nat} (hi : i < 8192) :
    exec (.arbSeatStart i) s = .next (s.commit (arbSeat i s.mem s.dev)) :=
  State.act_onlyIf hup (decide_eq_true hi) (arbSeat i s.mem)

theorem exec_seatBankSwapRequest_up :
    exec .seatBankSwapRequest s = .next (s.commit (s.dev.setB Reg.ttbBankCtrl 0)) :=
  State.act_up s (fun d => d.setB Reg.ttbBankCtrl 0) hup

theorem exec_tsmapSwapRequest_up : exec .tsmapSwapRequest s = .next (s.commit (s.dev.setB Reg.pubTsmapCtrl 0)) :=
  State.act_up s (fun d => d.setB Reg.pubTsmapCtrl 0) hup

theorem exec_readmission_up : exec .readmission s = .next (s.commit (readmission s.dev)) :=
  State.act_up s readmission hup

end

/-! A write of the seat table and of the trip-seat map (R247, R248; 09 R284). -/

section
variable {d : Dev} {b : Nat}

theorem seatWrite_active (h : b = ttbBank d) (i j v : Nat) : seatWrite b i j v d = d.emit (.infoEvent 247) := if_pos h

theorem seatWrite_inactive (h : b ≠ ttbBank d) (i j v : Nat) :
    seatWrite b i j v d = d.wn (Reg.ttbSeat b i j) (v &&& seatMask j) := if_neg h

/-- Word 3 of a seat entry has no reserved bits. -/
theorem toNat_and_seatMask_three (v : Word) : v.toNat &&& seatMask 3 = v.toNat :=
  (Nat.and_two_pow_sub_one_eq_mod v.toNat 32).trans (Nat.mod_eq_of_lt v.isLt)

theorem tsWrite_active (h : b = tsBank d) (k j v : Nat) : tsWrite b k j v d = d.emit (.infoEvent 284) := if_pos h

theorem tsWrite_inactive_zero (h : b ≠ tsBank d) (k v : Nat) :
    tsWrite b k 0 v d = d.wn (Reg.pubTsmapW0 b k) (v &&& 0x83FFFFFF) := if_neg h

theorem tsWrite_inactive_one (h : b ≠ tsBank d) (k v : Nat) :
    tsWrite b k 1 v d = d.wn (Reg.pubTsmapW1 b k) (v &&& 0x3FFFFF) := if_neg h

end

/-! The start of an arbitrating seat of the active bank, whose words are `w` (R251). -/

section
variable {d : Dev} {i u : Nat} {w : List Nat} (hw : (List.range 4).map (seatW d (ttbBank d) i) = w)
include hw

theorem arbSeat_noUnit (hu : colUnit d (stKind w) (stColumn w) = none) (m : List Host.Cell) : arbSeat i m d = d := by
  simp only [arbSeat, hw, hu]

variable (hu : colUnit d (stKind w) (stColumn w) = some u)
include hu

theorem arbSeat_begins {n : Nat} (hf : (arbNow d (stKind w) u).find? (fun x => x.2 == w) = some (n, w)) (m : List Host.Cell) :
    arbSeat i m d = arbRun m (stKind w) u n (stLen w) (stLen w) none d := by
  simp only [arbSeat, hw, hu, hf]

theorem arbSeat_notServed (hn : ∀ x ∈ arbNow d (stKind w) u, x.2 ≠ w) (m : List Host.Cell) : arbSeat i m d = d := by
  have hf : (arbNow d (stKind w) u).find? (fun x => x.2 == w) = none := List.find?_eq_none.mpr (by simpa using hn)
  simp only [arbSeat, hw, hu, hf]

end

/-! Re-admission (R257): it plans while TTB_STATUS.REPLAN and GLB_STATUS.LIVERY_UP are set. -/

theorem readmission_due {d : Dev} (hr : d.bitR Reg.ttbStatus 1 = true) (hl : d.bitR Reg.glbStatus 1 = true) :
    readmission d = { d with ttb := { d.ttb with
      replan := some ((readmit d (newCols d)).1, (readmit d (newCols d)).2.2, [newCols d 0, newCols d 1, newCols d 2]) } } :=
  if_neg (by simp [hr, hl])

theorem readmission_notDue {d : Dev} (h : d.bitR Reg.ttbStatus 1 = false ∨ d.bitR Reg.glbStatus 1 = false) :
    readmission d = d :=
  if_pos (by simpa using h)

/-- Settles O27, row by row: each clause is a case of the row's operation. A re-admission's second premise is GLB_STATUS.LIVERY_UP. -/
theorem timetableTables : Obligations.TimetableTables := by
  intro s b i j k v hup hb
  refine ⟨?seatActive, ?seatInactive, exec_seatBankSwapRequest_up hup, ?tripActive, ?tripInactive, exec_tsmapSwapRequest_up hup,
    ?arbitration, ?replan, ?noReplan⟩
  case seatActive =>
    intro hi hj ha
    rw [exec_seatEntryWrite_up hup hb hi hj, seatWrite_active ha]
  case seatInactive =>
    intro hi ha
    have hwrite (j : Nat) (hj : j < 4) : exec (.seatEntryWrite b i j v) s =
        .next (s.commit (s.dev.wn (Reg.ttbSeat b i j) (v.toNat &&& seatMask j))) := by
      rw [exec_seatEntryWrite_up hup hb hi hj, seatWrite_inactive ha]
    have hthree := hwrite 3 (by decide)
    rw [toNat_and_seatMask_three] at hthree
    exact ⟨hwrite 0 (by decide), hwrite 1 (by decide), hwrite 2 (by decide), hthree⟩
  case tripActive =>
    intro hk hj ha
    rw [exec_tsmapEntryWrite_up hup hb hk hj, tsWrite_active ha]
  case tripInactive =>
    intro hk ha
    rw [exec_tsmapEntryWrite_up hup hb hk (by decide), exec_tsmapEntryWrite_up hup hb hk (by decide), tsWrite_inactive_zero ha,
      tsWrite_inactive_one ha]
    exact ⟨rfl, rfl⟩
  case arbitration =>
    intro hi w
    rw [exec_arbSeatStart_up hup hi]
    constructor
    · intro u n hu hf
      rw [arbSeat_begins rfl hu hf]
    · intro hidle
      cases hu : colUnit s.dev (stKind w) (stColumn w) with
      | none => rw [arbSeat_noUnit rfl hu]
      | some u =>
        have hn : ∀ x ∈ arbNow s.dev (stKind w) u, x.2 ≠ w := by
          rcases hidle with hnone | hnow
          · simp [hnone] at hu
          · exact hnow u hu
        rw [arbSeat_notServed rfl hu hn]
  case replan =>
    intro hr hl r
    rw [exec_readmission_up hup, readmission_due hr hl]
  case noReplan =>
    intro h
    rw [exec_readmission_up hup, readmission_notDue h]

end Sys2Proof.Machine
end

section
/-! SUPPORT and PROOF. Publication (09 R265, R268, R271, R273, R285, R288, R290; 11 R334; refusals: log 33): the rows on a device that runs,
and what a repetition, a late trip frame, a commit and a map word do in each of their cases. -/

namespace Sys2Proof.Machine

section
variable {s : State} (hup : s.dev.up = true)
include hup

theorem exec_handOff_up : exec .handOff s = .next (s.commit (handOffAll s.dev)) :=
  State.act_up s handOffAll hup

theorem exec_tripFrameLate_up {p : Nat} (hp : p < 11) : exec (.tripFrameLate p) s = .next (s.commit (tripLate p s.dev)) :=
  State.act_onlyIf hup (decide_eq_true hp) (tripLate p)

theorem exec_pubMapWrite_up (v : Word) :
    exec (.pubMapWrite v) s = .next (s.commit (pmapCommit (s.dev.fldR Reg.pubMapIdx 0 15) v.toNat s.dev)) :=
  State.act_up s (fun d => pmapCommit (d.fldR Reg.pubMapIdx 0 15) v.toNat d) hup

variable {i : Nat}

section
variable (hi : i < 2048)
include hi

theorem exec_gooseRepetition_up : exec (.gooseRepetition i) s = .next (s.commit (geRepeat i s.dev)) :=
  State.act_onlyIf hup (decide_eq_true hi) (geRepeat i)

theorem exec_gpubEntryRead_up : exec (.gpubEntryRead i) s = .next (s.commit (geRead i s.dev)) :=
  State.act_onlyIf hup (decide_eq_true hi) (geRead i)

theorem exec_gpubEntryCommit_up : exec (.gpubEntryCommit i) s = .next (s.commit (geCommit i s.dev)) :=
  State.act_onlyIf hup (decide_eq_true hi) (geCommit i)

end

section
variable (hi : i < 256)
include hi

theorem exec_svpubEntryRead_up : exec (.svpubEntryRead i) s = .next (s.commit (svRead i s.dev)) :=
  State.act_onlyIf hup (decide_eq_true hi) (svRead i)

theorem exec_svpubEntryCommit_up : exec (.svpubEntryCommit i) s = .next (s.commit (svCommit i s.dev)) :=
  State.act_onlyIf hup (decide_eq_true hi) (svCommit i)

end

section
variable (hi : i < 32)
include hi

theorem exec_pmuEntryRead_up : exec (.pmuEntryRead i) s = .next (s.commit (pmuRead i s.dev)) :=
  State.act_onlyIf hup (decide_eq_true hi) (pmuRead i)

theorem exec_pmuEntryCommit_up : exec (.pmuEntryCommit i) s = .next (s.commit (pmuCommit i s.dev)) :=
  State.act_onlyIf hup (decide_eq_true hi) (pmuCommit i)

end

end

/-! A scheduled repetition (R271): the entry `e` and its run `x`. -/

section
variable {i : Nat} {d : Dev} {e : List Nat} {x : GeRun} (he : geEnt d i = e) (hx : geRun d i = x)
include he hx

theorem geRepeat_due (hs : geState e = 1) (hv : x.vals.isNone = false) (hf : x.sent.isNone = false)
    (hn : x.sent ≠ some d.tim.absTick) (hd : x.due ≤ d.tim.absTick) (hq : (isSafe d (geCar e) && geSilent e) = false)
    (hc : d.pub.chg.contains i = false) : geRepeat i d = geSend i 6 (min (2 * x.ivl) (geTmax e)) d := by
  subst he hx
  exact if_neg (by simp only [hs, hv, hf, hn, hq, hc, Nat.not_lt.mpr hd]; decide)

theorem geRepeat_notDue (h : geState e ≠ 1 ∨ x.vals = none ∨ x.sent = none ∨ x.sent = some d.tim.absTick ∨
      d.tim.absTick < x.due ∨ (isSafe d (geCar e) = true ∧ geSilent e = true) ∨ i ∈ d.pub.chg) : geRepeat i d = d := by
  subst he hx
  exact if_pos (by rcases h with h | h | h | h | h | ⟨hs, hq⟩ | h <;> simp [*])

end

/-! Trip frames left over from earlier ticks (R273). -/

section
variable {p : Nat} {d : Dev} {late : List TxFrame} (hl : (egressQ d p 7).filter (tripStale d) = late)
include hl

theorem tripLate_none (h : late = []) : tripLate p d = d := by
  simp only [tripLate, hl, h, if_true, List.foldl_nil]

theorem tripLate_some (h : late ≠ []) :
    tripLate p d = late.foldl (fun d f => raiseH 281 none f.src p (f.src * 65536) 0 (d.bump Reg.pubTripLateCnt))
      (late.foldl (fun d f => setOcc p 7 (qOcc d p 7 - cellsOf f.len) d)
        (setEgressQ p 7 ((egressQ d p 7).filter (fun f => !tripStale d f)) d)) := by
  simp only [tripLate, hl, h, if_false]

end

/-! A commit of the staged words (R268, R285, R288; 11 R334). The three tables share their ending: the journal takes the words of a
commit unless the status, now written, says REFUSED. -/

/-- The ending of a commit through registers, with the status register `cstat`. -/
def journalUnlessRefused (cstat kind i : Nat) (w : List Nat) (d : Dev) : Dev :=
  if d.bitR cstat 1 then d else journal kind i w d

theorem journalUnlessRefused_refused (cstat kind i r : Nat) (w : List Nat) (d : Dev) :
    journalUnlessRefused cstat kind i w (d.wn cstat (2 + r * 16)) = d.wn cstat (2 + r * 16) :=
  if_pos (bitR_refused d cstat r)

theorem journalUnlessRefused_taken (cstat kind i : Nat) (w : List Nat) (d : Dev) (pub : Pub) :
    journalUnlessRefused cstat kind i w { d.wn cstat 0 with pub := pub } = journal kind i w { d.wn cstat 0 with pub := pub } := by
  have hrn : (d.wn cstat 0).rn cstat = 0 := Dev.rn_wn_same ..
  have hbit : Dev.bitR { d.wn cstat 0 with pub := pub } cstat 1 = false := congrArg (bitOf · 1) hrn
  exact if_neg (Bool.eq_false_iff.mp hbit)

/-- The `n` words staged for a commit. -/
def stagedPub (reg : Nat → Nat) (n : Nat) (d : Dev) : List Nat := (List.range n).map (fun k => d.rn (reg k))

section
variable {who : Who} {i : Nat} {w : List Nat} {d : Dev}

theorem geCommitW_refused (hr : geReason d who i w ≠ 0) :
    geCommitW who i w d = d.wn Reg.pubGeCstat (2 + geReason d who i w * 16) :=
  if_pos hr

theorem geCommitW_taken (hr : geReason d who i w = 0) :
    geCommitW who i w d =
      { d.wn Reg.pubGeCstat 0 with pub := { d.pub with gePend := tput d.pub.gePend i (takePad 0 58 w) } } :=
  if_neg (not_not_intro hr)

theorem svCommitW_refused (hr : svReason d who i w ≠ 0) :
    svCommitW who i w d = d.wn Reg.pubSvCstat (2 + svReason d who i w * 16) :=
  if_pos hr

theorem svCommitW_taken (hr : svReason d who i w = 0) :
    svCommitW who i w d =
      { d.wn Reg.pubSvCstat 0 with pub := { d.pub with svPend := tput d.pub.svPend i (takePad 0 35 w) } } :=
  if_neg (not_not_intro hr)

theorem pmuCommitW_refused (hr : pmuReason d w ≠ 0) :
    pmuCommitW i w d = d.wn Reg.pubPmuCstat (2 + pmuReason d w * 16) :=
  if_pos hr

theorem pmuCommitW_taken (hr : pmuReason d w = 0) :
    pmuCommitW i w d =
      { d.wn Reg.pubPmuCstat 0 with pub := { d.pub with pmuPend := tput d.pub.pmuPend i (takePad 0 16 w) } } :=
  if_neg (not_not_intro hr)

theorem geCommit_staged (hw : stagedPub Reg.pubGeStage 58 d = w) :
    geCommit i d = journalUnlessRefused Reg.pubGeCstat 4 i w (geCommitW liveryWho i w d) := by
  subst hw
  rfl

theorem svCommit_staged (hw : stagedPub Reg.pubSvStage 35 d = w) :
    svCommit i d = journalUnlessRefused Reg.pubSvCstat 5 i w (svCommitW liveryWho i w d) := by
  subst hw
  rfl

theorem pmuCommit_staged (hw : stagedPub Reg.pubPmuStage 16 d = w) :
    pmuCommit i d = journalUnlessRefused Reg.pubPmuCstat 6 i w (pmuCommitW i w d) := by
  subst hw
  rfl

end

/-! A map word (R269, R290; 11 R334). -/

/-- The journal is a message of the Brace: the tables of publication stay. -/
@[simp] theorem journal_pub (kind index : Nat) (w : List Nat) (d : Dev) : (journal kind index w d).pub = d.pub := by
  unfold journal brcSend
  split <;> rfl

section
variable {i v : Nat} {d : Dev}

theorem pmapCommit_live (h : pmapLive d i = true) : pmapCommit i v d = d.emit (.infoEvent 290) := by
  rw [pmapCommit, if_pos h, pmapWrite, if_pos h]

theorem pmapCommit_free (h : pmapLive d i = false) {d' : Dev} (hd : journal 8 i [v] d = d') :
    pmapCommit i v d = { d' with pub := { d'.pub with map := tset 0 d'.pub.map i (v &&& 0x1F3FFF) } } := by
  subst hd
  have hj : pmapLive (journal 8 i [v] d) i = false := by
    rw [pmapLive, journal_pub]
    exact h
  rw [pmapCommit, if_neg (Bool.eq_false_iff.mp h), pmapWrite, if_neg (Bool.eq_false_iff.mp hj)]

end

/-- Settles O28, row by row: each clause is a case of the row's operation. -/
theorem publication : Obligations.Publication := by
  refine ⟨?frames, ?tables⟩
  case frames =>
    intro s i p hup
    refine ⟨by rw [exec_handOff_up hup, handOffAll], ?repetition, ?tripFrames⟩
    case repetition =>
      intro e x hi
      have he : geEnt s.dev i = e := rfl
      have hx : geRun s.dev i = x := rfl
      rw [exec_gooseRepetition_up hup hi]
      exact ⟨fun hs hv hf hn hd hq hc => by rw [geRepeat_due he hx hs hv hf hn hd hq hc],
        fun h => by rw [geRepeat_notDue he hx h]⟩
    case tripFrames =>
      intro hp late
      have hl : (egressQ s.dev p 7).filter (tripStale s.dev) = late := rfl
      rw [exec_tripFrameLate_up hup hp]
      exact ⟨fun h => by rw [tripLate_none hl h], fun h => by rw [tripLate_some hl h]⟩
  case tables =>
    intro s i hup
    refine ⟨fun hi => by rw [exec_gpubEntryRead_up hup hi, geRead], fun hi => by rw [exec_svpubEntryRead_up hup hi, svRead],
      fun hi => by rw [exec_pmuEntryRead_up hup hi, pmuRead], ?goose, ?sv, ?pmu, ?mapWord⟩
    case goose =>
      intro w hi
      have hw : stagedPub Reg.pubGeStage 58 s.dev = w := rfl
      rw [exec_gpubEntryCommit_up hup hi, geCommit_staged hw]
      exact ⟨fun hr => by rw [geCommitW_taken hr, journalUnlessRefused_taken],
        fun hr => by rw [geCommitW_refused hr, journalUnlessRefused_refused]⟩
    case sv =>
      intro w hi
      have hw : stagedPub Reg.pubSvStage 35 s.dev = w := rfl
      rw [exec_svpubEntryCommit_up hup hi, svCommit_staged hw]
      exact ⟨fun hr => by rw [svCommitW_taken hr, journalUnlessRefused_taken],
        fun hr => by rw [svCommitW_refused hr, journalUnlessRefused_refused]⟩
    case pmu =>
      intro w hi
      have hw : stagedPub Reg.pubPmuStage 16 s.dev = w := rfl
      rw [exec_pmuEntryCommit_up hup hi, pmuCommit_staged hw]
      exact ⟨fun hr => by rw [pmuCommitW_taken hr, journalUnlessRefused_taken],
        fun hr => by rw [pmuCommitW_refused hr, journalUnlessRefused_refused]⟩
    case mapWord =>
      intro v k d
      rw [exec_pubMapWrite_up hup v]
      exact ⟨fun h => by rw [pmapCommit_free h rfl], fun h => by rw [pmapCommit_live h]⟩

end Sys2Proof.Machine
end

section
/-! SUPPORT and PROOF. A carriage's window (10 R298, R299, R302, R305, R318, R319; 00_scope R7): the rows on a device that runs, and what a
commit, a doorbell, a fetched descriptor and a vector's mask do in each of their cases. -/

namespace Sys2Proof.Machine

/-! The window of a carriage that exists, and of a FREE one (R318). -/

section
variable {s : State} (hup : s.dev.up = true) {c : Nat}
include hup

theorem State.act_onCar {ok : Bool} (hc : carSt s.dev c ≠ 0) (hok : ok = true) (f : Dev → Dev) :
    s.act (onCar c ok f) = .next (s.commit (f s.dev)) := by
  rw [State.act_up s _ hup, onCar, if_pos (by simp [hok, hc])]

theorem State.act_onCar_free (hc : carSt s.dev c = 0) (ok : Bool) (f : Dev → Dev) :
    s.act (onCar c ok f) = .next (s.commit s.dev) := by
  rw [State.act_up s _ hup, onCar, if_neg (by simp [hc])]

section
variable {q : Nat} (hc : c < 512) (hq : q < 2048) (hs : carSt s.dev c ≠ 0)
include hc hq hs

theorem exec_queueContextRead_up : exec (.queueContextRead c q) s = .next (s.commit (qcRead c q s.dev)) :=
  State.act_onCar hup hs (by simp [hc, hq]) (qcRead c q)

theorem exec_queueContextCommit_up : exec (.queueContextCommit c q) s = .next (s.commit (qcCommit c q s.dev)) :=
  State.act_onCar hup hs (by simp [hc, hq]) (qcCommit c q)

theorem exec_queueReset_up : exec (.queueReset c q) s = .next (s.commit (qcReset c q s.dev)) :=
  State.act_onCar hup hs (by simp [hc, hq]) (qcReset c q)

theorem exec_queueDoorbell_up {prod : Nat} (hp : prod < 65536) :
    exec (.queueDoorbell c q prod) s = .next (s.commit (doorbell c q prod s.dev)) :=
  State.act_onCar hup hs (by simp [hc, hq, hp]) (doorbell c q prod)

theorem exec_descriptorFetch_up {n : Nat} (hn : n < 32768) :
    exec (.descriptorFetch c q n) s = .next (s.commit (descFetches s.mem c q n s.dev)) :=
  State.act_onCar hup hs (by simp [hc, hq, hn]) (descFetches s.mem c q n)

theorem exec_descriptorFetch_one : exec (.descriptorFetch c q 1) s = .next (s.commit (descFetch s.mem c q s.dev)) :=
  exec_descriptorFetch_up hup hc hq hs (by decide)

end

section
variable {v : Nat} (hc : c < 512) (hv : v < 32) (hs : carSt s.dev c ≠ 0)
include hc hv hs

/-- A vector that the carriage's level has. -/
theorem exec_vecCtrlWrite_inLevel (hl : carLevel s.dev c ≠ 1 ∨ v = 0) (w : Word) :
    exec (.vecCtrlWrite c v w) s = .next (s.commit (writeVecCtrl c v w.toNat s.dev)) := by
  rw [exec, execVecCtrlWrite, State.act_onCar hup hs (by simp [hc, hv]), if_neg (not_and_or.mpr (hl.imp_right not_not_intro))]

/-- A vector past those of level 1. -/
theorem exec_vecCtrlWrite_pastLevel (hl : carLevel s.dev c = 1) (hn : v ≠ 0) (w : Word) :
    exec (.vecCtrlWrite c v w) s = .next (s.commit (raise 48 none (Reg.carVecCtrl c v) 1 s.dev)) := by
  rw [exec, execVecCtrlWrite, State.act_onCar hup hs (by simp [hc, hv]), if_pos ⟨hl, hn⟩]

end

end

/-! A commit of the staged words (R298), and a doorbell (R319). -/

section
variable {c q : Nat} {d : Dev}

theorem qcCommit_taken {w : List Nat} (hw : (List.range 4).map (fun i => d.rn (Reg.carQcStage c i)) = w) (hr : qcReason d c q w = 0) :
    qcCommit c q d = (qSet (qNum c q) { qGet d (qNum c q) with
      w0 := nth 0 w 0, w1 := nth 0 w 1, w2 := nth 0 w 2, w3 := nth 0 w 3 } d).wn (Reg.carQcStatus c) 0 := by
  rw [qcCommit, hw, if_pos hr]

theorem qcCommit_refused {w : List Nat} (hw : (List.range 4).map (fun i => d.rn (Reg.carQcStage c i)) = w) (hr : qcReason d c q w ≠ 0) :
    qcCommit c q d = d.wn (Reg.carQcStatus c) (2 + qcReason d c q w * 16) := by
  rw [qcCommit, hw, if_neg hr]

variable {x : QCtx} (hx : qGet d (qNum c q) = x) {prod : Nat}
include hx

theorem doorbell_taken (hc : carEnabled d c = true) (he : x.en = true) (hp : prod < 2 ^ x.log2) :
    doorbell c q prod d = qSet (qNum c q) { x with prod := prod } d := by
  rw [doorbell, hx, if_neg (by simp [hc, he, hp])]

theorem doorbell_ignored (h : carEnabled d c = false ∨ x.en = false ∨ 2 ^ x.log2 ≤ prod) :
    doorbell c q prod d = d.bump (Reg.carDbIgnored c) := by
  rw [doorbell, hx, if_pos (by simpa [or_assoc] using h)]

end

/-! The descriptor at CONS (R299, R302, R305): the context `x`, the descriptor `dd` at index `idx`, and the device `d'` with CONS moved on. -/

section
variable {m : List Host.Cell} {c q : Nat} {d : Dev} {x : QCtx} (hx : qGet d (qNum c q) = x)
include hx

theorem descFetch_idle (h : carEnabled d c = false ∨ x.en = false ∨ x.prod = x.cons ∨ x.typ = 0 ∨ x.typ = 3) :
    descFetch m c q d = d := by
  rw [descFetch, hx, if_pos (by simpa [or_assoc] using h)]

variable {idx : Nat} (hidx : x.cons % 2 ^ x.log2 = idx) {dd : QDesc} (hdd : descRead m (carBase d c + x.w1 + idx * 16) = dd)
  {d' : Dev} (hd : qSet (qNum c q) { x with cons := (x.cons + 1) % 2 ^ x.log2 } d = d')
  (hc : carEnabled d c = true) (he : x.en = true) (hp : x.prod ≠ x.cons)
include hidx hdd hd hc he hp

/-- A descriptor that waits is consumed: its generation, the queue's type and, of a receive buffer, its place decide. -/
theorem descFetch_waiting (ht : x.typ = 1 ∨ x.typ = 2) :
    descFetch m c q d =
      if dd.gen ≠ d'.fldR (Reg.carGen c) 0 16 then descDone c q idx dd 2 (d'.bump (Reg.carStaleDesc c))
      else if x.typ = 2 then txBuffer m c q ⟨idx, dd⟩ d'
      else if !inRegion d' c dd.addr x.bufSize then descDone c q idx dd 3 d'
      else qSet (qNum c q) { qGet d' (qNum c q) with posted := x.posted ++ [⟨idx, dd⟩] } d' := by
  subst hidx hdd hd
  rw [descFetch, hx]
  refine if_neg ?_
  rcases ht with ht | ht <;> simp [hc, he, hp, ht]

theorem descFetch_stale (ht : x.typ = 1 ∨ x.typ = 2) (hg : dd.gen ≠ d'.fldR (Reg.carGen c) 0 16) :
    descFetch m c q d = descDone c q idx dd 2 (d'.bump (Reg.carStaleDesc c)) := by
  rw [descFetch_waiting hx hidx hdd hd hc he hp ht, if_pos hg]

variable (hg : dd.gen = d'.fldR (Reg.carGen c) 0 16)
include hg

theorem descFetch_transmit (ht : x.typ = 2) : descFetch m c q d = txBuffer m c q ⟨idx, dd⟩ d' := by
  rw [descFetch_waiting hx hidx hdd hd hc he hp (.inr ht), if_neg (not_not_intro hg), if_pos ht]

theorem descFetch_outside (ht : x.typ = 1) (hr : inRegion d' c dd.addr x.bufSize = false) :
    descFetch m c q d = descDone c q idx dd 3 d' := by
  rw [descFetch_waiting hx hidx hdd hd hc he hp (.inl ht), if_neg (not_not_intro hg), if_neg (by simp [ht]), if_pos (by simp [hr])]

theorem descFetch_posted (ht : x.typ = 1) (hr : inRegion d' c dd.addr x.bufSize = true) :
    descFetch m c q d = qSet (qNum c q) { qGet d' (qNum c q) with posted := x.posted ++ [⟨idx, dd⟩] } d' := by
  rw [descFetch_waiting hx hidx hdd hd hc he hp (.inl ht), if_neg (not_not_intro hg), if_neg (by simp [ht]), if_neg (by simp [hr])]

end

/-! A write of a vector's mask (R319). -/

section
variable {c v val : Nat} {d : Dev}

theorem writeVecCtrl_masked (hm : bitOf val 0 = true) : writeVecCtrl c v val d = d.putB (Reg.carVecCtrl c v) 0 true :=
  if_pos hm

theorem writeVecCtrl_unmasked (hm : bitOf val 0 = false) (hp : d.bitR (Reg.carVecCtrl c v) 1 = false) :
    writeVecCtrl c v val d = d.putB (Reg.carVecCtrl c v) 0 false := by
  rw [writeVecCtrl, if_neg (Bool.eq_false_iff.mp hm), if_neg (Bool.eq_false_iff.mp hp)]

theorem writeVecCtrl_sends (hm : bitOf val 0 = false) (hp : d.bitR (Reg.carVecCtrl c v) 1 = true) :
    writeVecCtrl c v val d = vecSignal c v ((d.putB (Reg.carVecCtrl c v) 0 false).putB (Reg.carVecCtrl c v) 1 false) := by
  rw [writeVecCtrl, if_neg (Bool.eq_false_iff.mp hm), if_pos hp]

end

/-- Settles O29, row by row: each clause is a case of the row's operation; a FREE carriage's window shuts every row out. -/
theorem queuesAndVectors : Obligations.QueuesAndVectors := by
  refine ⟨?contexts, ?fetches, ?free⟩
  case contexts =>
    intro s c q prod hup hc hq hs x w
    have hx : qGet s.dev (qNum c q) = x := rfl
    have hw : (List.range 4).map (fun i => s.dev.rn (Reg.carQcStage c i)) = w := rfl
    refine ⟨by rw [exec_queueContextRead_up hup hc hq hs, qcRead, QCtx.words], ?_, ?_,
      by rw [exec_queueReset_up hup hc hq hs, qcReset, queueReset], ?_, ?_⟩
    · exact fun hr => by rw [exec_queueContextCommit_up hup hc hq hs, qcCommit_taken hw hr]
    · exact fun hr => by rw [exec_queueContextCommit_up hup hc hq hs, qcCommit_refused hw hr]
    · exact fun hp hn he hr => by rw [exec_queueDoorbell_up hup hc hq hs hp, doorbell_taken hx hn he hr]
    · exact fun hp h => by rw [exec_queueDoorbell_up hup hc hq hs hp, doorbell_ignored hx h]
  case fetches =>
    intro s c q hup hc hq hs
    refine ⟨?descriptor, fun n hn => exec_descriptorFetch_up hup hc hq hs hn, fun n d => ⟨rfl, rfl⟩, ?mask,
      fun v w hv hl hn => exec_vecCtrlWrite_pastLevel hup hc hv hs hl hn w⟩
    case descriptor =>
      intro x idx dd d
      have hx : qGet s.dev (qNum c q) = x := rfl
      have hidx : x.cons % 2 ^ x.log2 = idx := rfl
      have hdd : descRead s.mem (carBase s.dev c + x.w1 + idx * 16) = dd := rfl
      have hd : qSet (qNum c q) { x with cons := (x.cons + 1) % 2 ^ x.log2 } s.dev = d := rfl
      rw [exec_descriptorFetch_one hup hc hq hs]
      refine ⟨fun h => by rw [descFetch_idle hx h], fun hn he hp ht => ⟨?_, ?_, ?_, ?_⟩⟩
      · exact fun hg => by rw [descFetch_stale hx hidx hdd hd hn he hp ht hg]
      · exact fun hg h2 => by rw [descFetch_transmit hx hidx hdd hd hn he hp hg h2]
      · exact fun hg h1 hr => by rw [descFetch_outside hx hidx hdd hd hn he hp hg h1 hr]
      · exact fun hg h1 hr => by rw [descFetch_posted hx hidx hdd hd hn he hp hg h1 hr]
    case mask =>
      intro v w hv hl
      rw [exec_vecCtrlWrite_inLevel hup hc hv hs hl w]
      exact ⟨fun hm => by rw [writeVecCtrl_masked hm], fun hm hp => by rw [writeVecCtrl_unmasked hm hp],
        fun hm hp => by rw [writeVecCtrl_sends hm hp]⟩
  case free =>
    intro s c q v prod n w hup hfree i hi
    simp only [List.mem_cons, List.not_mem_nil, or_false] at hi
    rcases hi with rfl | rfl | rfl | rfl | rfl | rfl
    all_goals exact State.act_onCar_free hup hfree _ _

end Sys2Proof.Machine
end

section
/-! SUPPORT and PROOF. The end of a drain (10 R308, R311, R312) and the Carriage-fatal disable (15 R449): their rows on a device that runs,
and what each does in each of its cases. -/

namespace Sys2Proof.Machine

theorem exec_drainEnd_up {s : State} (hup : s.dev.up = true) {c : Nat} (hc : c < 512) (bad : Bool) :
    exec (.drainEnd c bad) s = .next (s.commit (drainEnd c bad s.dev)) :=
  State.act_onlyIf hup (decide_eq_true hc) (drainEnd c bad)

theorem exec_carriageFatalDisable_up {s : State} (hup : s.dev.up = true) :
    exec .carriageFatalDisable s = .next (s.commit (fatalDisable s.dev)) :=
  State.act_up s fatalDisable hup

/-! The end of a drain: `n` legs after the carriage's last activity, on the device `d'` with its queues reset. -/

section
variable {c : Nat} {bad : Bool} {d : Dev} {n : Nat} (hn : legsSince d.tc (d.rn (Reg.carLastTc c)) = n)
include hn

theorem drainEnd_notQuiet (h : (carSt d c ≠ stDraining ∧ carSt d c ≠ stFrozen) ∨ d.tim.absTick % 16 ≠ 0 ∨ n = 0 ∨
    (inFlight d c = true ∧ n < 2)) : drainEnd c bad d = d := by
  rw [drainEnd, hn, if_pos (by simpa [or_assoc] using h)]

variable {d' : Dev} (hd : resetQueues c d = d') (hs : carSt d c = stDraining ∨ carSt d c = stFrozen) (ht : d.tim.absTick % 16 = 0)
  (h0 : n ≠ 0) (hf : inFlight d c = false ∨ 2 ≤ n)
include hd hs ht h0 hf

/-- A quiet carriage's queues are reset; then its state, and what waits, decide. -/
theorem drainEnd_quiet :
    drainEnd c bad d =
      if carSt d' c = stFrozen then d'
      else if destroyWaits d' c then finishJobs c [0x101] cOk [] (destroyNow c (setCarSt c stDisabled d'))
      else if enablePending d' c then
        if ttbState d' c = 1 then
          modCar c (fun k => { k with enablePlan := true }) (setCarSt c stDisabled (d'.clrB (Reg.carState c) 3))
        else enableNow bad c d'
      else setCarSt c stDisabled d' := by
  subst hd
  have hstate : carSt d c ≠ stDraining → carSt d c = stFrozen := hs.resolve_left
  have hwork : inFlight d c = true → 2 ≤ n := fun h => hf.resolve_left (by simp [h])
  rw [drainEnd, hn]
  exact if_neg (by simpa [ht, h0] using ⟨hstate, hwork⟩)

theorem drainEnd_frozen (hz : carSt d' c = stFrozen) : drainEnd c bad d = d' := by
  rw [drainEnd_quiet hn hd hs ht h0 hf, if_pos hz]

variable (hz : carSt d' c ≠ stFrozen)
include hz

theorem drainEnd_destroys (hw : destroyWaits d' c = true) :
    drainEnd c bad d = finishJobs c [0x101] cOk [] (destroyNow c (setCarSt c stDisabled d')) := by
  rw [drainEnd_quiet hn hd hs ht h0 hf, if_neg hz, if_pos hw]

variable (hw : destroyWaits d' c = false)
include hw

theorem drainEnd_plansEnable (he : enablePending d' c = true) (hp : ttbState d' c = 1) :
    drainEnd c bad d = modCar c (fun k => { k with enablePlan := true }) (setCarSt c stDisabled (d'.clrB (Reg.carState c) 3)) := by
  rw [drainEnd_quiet hn hd hs ht h0 hf, if_neg hz, if_neg (Bool.eq_false_iff.mp hw), if_pos he, if_pos hp]

theorem drainEnd_enables (he : enablePending d' c = true) (hp : ttbState d' c ≠ 1) : drainEnd c bad d = enableNow bad c d' := by
  rw [drainEnd_quiet hn hd hs ht h0 hf, if_neg hz, if_neg (Bool.eq_false_iff.mp hw), if_pos he, if_neg hp]

theorem drainEnd_disabled (he : enablePending d' c = false) : drainEnd c bad d = setCarSt c stDisabled d' := by
  rw [drainEnd_quiet hn hd hs ht h0 hf, if_neg hz, if_neg (Bool.eq_false_iff.mp hw), if_neg (Bool.eq_false_iff.mp he)]

end

/-! The Carriage-fatal disable: `d'` is the device without the sources that are due. -/

theorem fatalDisable_single {c t : Nat} {d d' : Dev}
    (hd : { d with sup := { d.sup with fatalDis := d.sup.fatalDis.filter (fun p => !decide (p.2 < d.tim.absTick)) } } = d')
    (hdue : d.sup.fatalDis.filter (fun p => decide (p.2 < d.tim.absTick)) = [(c, t)]) (hr : carRuns d' c = true) :
    fatalDisable d = disableCar c d' := by
  rw [fatalDisable, hd, hdue, List.foldl_cons, List.foldl_nil, if_pos hr]

/-- Settles O30, row by row: each clause is a case of the row's operation. -/
theorem carriageEnds : Obligations.CarriageEnds := by
  intro s c bad hup hc
  refine ⟨?drain, ?fatal⟩
  case drain =>
    intro n d
    have hn : legsSince s.dev.tc (s.dev.rn (Reg.carLastTc c)) = n := rfl
    have hd : resetQueues c s.dev = d := rfl
    rw [exec_drainEnd_up hup hc bad]
    refine ⟨fun h => by rw [drainEnd_notQuiet hn h], fun hs ht h0 hf => ⟨?_, ?_, ?_, ?_⟩⟩
    · exact fun hz => by rw [drainEnd_frozen hn hd hs ht h0 hf hz]
    · exact fun hz hw => by rw [drainEnd_destroys hn hd hs ht h0 hf hz hw]
    · exact fun hz hw he => ⟨fun hp => by rw [drainEnd_plansEnable hn hd hs ht h0 hf hz hw he hp],
        fun hp => by rw [drainEnd_enables hn hd hs ht h0 hf hz hw he hp]⟩
    · exact fun hz hw he => by rw [drainEnd_disabled hn hd hs ht h0 hf hz hw he]
  case fatal =>
    intro due d
    rw [exec_carriageFatalDisable_up hup]
    exact ⟨by rw [fatalDisable], fun t hdue hr => by rw [fatalDisable_single rfl hdue hr]⟩

end Sys2Proof.Machine
end

section
/-! SUPPORT and PROOF. The commands of a carriage's life (10 R291, R307, R309 to R311; 13 R412): what the own part of each opcode does in
each of its cases. -/

namespace Sys2Proof.Machine

/-! CREATE (R291 to R293): its refusals in their order, and its acceptance. -/

section
variable {h : Cmd} {img : CoachImage} {p : List Nat} {d : Dev}

theorem createBody_noNumber (hn : createNumber d (bitOf (entW p 0) 4) h.carriage (addrP p 4 / 0x200000) (entW p 3) = none) :
    createBody h img p d = (d, noA cNoResource) := by
  rw [createBody, hn]

variable {n : Nat} (hn : createNumber d (bitOf (entW p 0) 4) h.carriage (addrP p 4 / 0x200000) (entW p 3) = some n)
include hn

theorem createBody_noPool (hp : poolsSupply d img (addrP p 4 / 0x200000) (entW p 3) = false) :
    createBody h img p d = (d, noA cNoResource) := by
  simp only [createBody, hn, hp, Bool.not_false, if_true]

variable (hp : poolsSupply d img (addrP p 4 / 0x200000) (entW p 3) = true)
include hp

theorem createBody_notPlaced
    (hi : placeImage n img (newCar n (fld (entW p 0) 0 2) (fld (entW p 0) 2 2) (addrP p 4 / 0x200000) (entW p 3) img d) = none) :
    createBody h img p d = (d, refA cBadParam 0 1 0) := by
  simp only [createBody, hn, hp, hi, Bool.not_true, Bool.false_eq_true, if_false]

variable {d1 : Dev}
  (hi : placeImage n img (newCar n (fld (entW p 0) 0 2) (fld (entW p 0) 2 2) (addrP p 4 / 0x200000) (entW p 3) img d) = some d1)
include hi

theorem createBody_notAdmitted (ha : (runAdmission n d1).2 ≠ 0) :
    createBody h img p d = (d, noA (admStatus (runAdmission n d1).2)) := by
  simp only [createBody, hn, hp, hi, Bool.not_true, Bool.false_eq_true, if_false]
  exact if_pos ha

theorem createBody_taken {d2 : Dev} (ha : runAdmission n d1 = (d2, 0)) {d3 : Dev} (hd : askSafe n (setCarSt n stDisabled d2) = d3) :
    createBody h img p d = (d3, okA [n, d3.rn (Reg.carGen n), d3.rn (Reg.ttbCSeq n)]) := by
  subst hd
  simp only [createBody, hn, hp, hi, ha, Bool.not_true, Bool.false_eq_true, if_false, ne_eq, not_true_eq_false]

end

/-! DESTROY (R309, R311). -/

section
variable {c : Nat} {d : Dev}

theorem destroyBody_free (hs : projSt d c = stFree) : destroyBody c d = (d, noA cWrongMode) :=
  if_pos hs

theorem destroyBody_denied (hs : projSt d c = stEnabled ∨ projSt d c = stRestoring) : destroyBody c d = (d, noA cDenied) := by
  have hf : projSt d c ≠ stFree := by rcases hs with hs | hs <;> rw [hs] <;> decide
  rw [destroyBody, if_neg hf, if_pos (by simpa using hs)]

theorem destroyBody_draining (hs : projSt d c = stDraining) :
    destroyBody c d = (modCar c (fun k => { k with destroyPend := true }) (cancelEnable c d), pendA []) := by
  rw [destroyBody, if_neg (by rw [hs]; decide), if_neg (by rw [hs]; decide), if_pos hs]

theorem destroyBody_gone (hf : projSt d c ≠ stFree) (he : projSt d c ≠ stEnabled) (hr : projSt d c ≠ stRestoring)
    (hd : projSt d c ≠ stDraining) : destroyBody c d = (destroyNow c (staleActs c (cancelEnable c d)), okA []) := by
  rw [destroyBody, if_neg hf, if_neg (by simp [he, hr]), if_neg hd]

end

/-! ENABLE (R309, R310). -/

section
variable {c : Nat} {d : Dev}

theorem enableAsk_planned (ht : ttbState d c = 1) :
    enableAsk c d = (modCar c (fun k => { k with enablePlan := true }) d, pendA []) :=
  if_pos ht

theorem enableAsk_nextLeg (ht : ttbState d c ≠ 1) :
    enableAsk c d = ({ d with cmd := { d.cmd with legEn := d.cmd.legEn ++ [c] } }, okA []) :=
  if_neg ht

theorem enableBody_enabled (hs : projSt d c = stEnabled) : enableBody c d = (d, okA []) :=
  if_pos hs

theorem enableBody_asks (hs : projSt d c = stDisabled ∨ projSt d c = stFrozen) : enableBody c d = enableAsk c d := by
  have he : projSt d c ≠ stEnabled := by rcases hs with hs | hs <;> rw [hs] <;> decide
  have hd : projSt d c ≠ stDraining := by rcases hs with hs | hs <;> rw [hs] <;> decide
  rw [enableBody, if_neg he, if_neg hd, if_pos (by simpa using hs)]

section
variable (hs : projSt d c = stDraining)
include hs

/-- A draining carriage waits for its destroy, for the enable asked for before, or for this one. -/
theorem enableBody_draining :
    enableBody c d =
      if destroyWaits d c then (d, noA cWrongMode)
      else if enablePending d c then (d, noA cBusyDraining)
      else (d.setB (Reg.carState c) 3, pendA []) := by
  rw [enableBody, if_neg (by rw [hs]; decide), if_pos hs]

theorem enableBody_destroyWaits (hw : destroyWaits d c = true) : enableBody c d = (d, noA cWrongMode) := by
  rw [enableBody_draining hs, if_pos hw]

variable (hw : destroyWaits d c = false)
include hw

theorem enableBody_busy (he : enablePending d c = true) : enableBody c d = (d, noA cBusyDraining) := by
  rw [enableBody_draining hs, if_neg (Bool.eq_false_iff.mp hw), if_pos he]

theorem enableBody_waits (he : enablePending d c = false) : enableBody c d = (d.setB (Reg.carState c) 3, pendA []) := by
  rw [enableBody_draining hs, if_neg (Bool.eq_false_iff.mp hw), if_neg (Bool.eq_false_iff.mp he)]

end

theorem enableBody_otherState (hs : projSt d c = stFree ∨ projSt d c = stRestoring) : enableBody c d = (d, noA cWrongMode) := by
  rcases hs with hs | hs <;> simp only [enableBody, hs] <;> rfl

end

/-! DISABLE (R307, R309), by the state at present. -/

/-- An answer OK with the carriage's generation. -/
def okGen (c : Nat) (d : Dev) : Ans := okA [d.fldR (Reg.carGen c) 0 16]

section
variable {c : Nat} {d : Dev}

theorem disableBody_free (hs : carSt d c = stFree) : disableBody c d = (d, noA cWrongMode) :=
  if_pos hs

theorem disableBody_runs (hs : carSt d c = stEnabled ∨ carSt d c = stRestoring) :
    disableBody c d = (disableCar c d, okGen c (disableCar c d)) := by
  have hf : carSt d c ≠ stFree := by rcases hs with hs | hs <;> rw [hs] <;> decide
  rw [disableBody, if_neg hf, if_pos (by simpa using hs)]
  rfl

theorem disableBody_draining (hs : carSt d c = stDraining) :
    disableBody c d = (cancelEnable c d, okGen c (cancelEnable c d)) := by
  rw [disableBody, if_neg (by rw [hs]; decide), if_neg (by rw [hs]; decide), if_pos hs]
  rfl

theorem disableBody_rests (hf : carSt d c ≠ stFree) (he : carSt d c ≠ stEnabled) (hr : carSt d c ≠ stRestoring)
    (hd : carSt d c ≠ stDraining) {d' : Dev} (hd' : bumpGen c (staleActs c (cancelEnable c d)) = d') :
    disableBody c d = (d', okGen c d') := by
  rw [disableBody, if_neg hf, if_neg (by simp [he, hr]), if_neg hd, hd']
  rfl

end

/-! RESET (R309, R310): ENABLE's answer, with the generation where it is taken. -/

/-- What an enable did and answered, with the carriage's generation in an answer that takes it. -/
def genTaken (c : Nat) (r : Dev × Ans) : Dev × Ans :=
  (r.1, if r.2.st = cOk || r.2.st = cPending then { r.2 with ds := [r.1.fldR (Reg.carGen c) 0 16] } else r.2)

@[simp] theorem genTaken_ok (c : Nat) (d : Dev) (ds : List Nat) : genTaken c (d, okA ds) = (d, okGen c d) := rfl

@[simp] theorem genTaken_pending (c : Nat) (d : Dev) (ds : List Nat) :
    genTaken c (d, pendA ds) = (d, pendA [d.fldR (Reg.carGen c) 0 16]) := rfl

@[simp] theorem genTaken_wrongMode (c : Nat) (d : Dev) : genTaken c (d, noA cWrongMode) = (d, noA cWrongMode) := rfl

@[simp] theorem genTaken_busyDraining (c : Nat) (d : Dev) : genTaken c (d, noA cBusyDraining) = (d, noA cBusyDraining) := rfl

section
variable {c : Nat} {d : Dev}

theorem resetBody_eq (c : Nat) (d : Dev) :
    resetBody c d =
      if projSt d c = stFree then (d, noA cWrongMode)
      else if projSt d c = stDraining then genTaken c (enableBody c d)
      else if carSt d c = stEnabled || projSt d c = stRestoring then
        genTaken c ((disableCar c d).setB (Reg.carState c) 3, pendA [])
      else genTaken c (enableAsk c (bumpGen c (staleActs c (cancelEnable c d)))) := rfl

theorem resetBody_free (hs : projSt d c = stFree) : resetBody c d = (d, noA cWrongMode) :=
  if_pos hs

theorem resetBody_draining (hs : projSt d c = stDraining) : resetBody c d = genTaken c (enableBody c d) := by
  rw [resetBody_eq, if_neg (by rw [hs]; decide), if_pos hs]

section
variable (hs : projSt d c = stDraining)
include hs

theorem resetBody_destroyWaits (hw : destroyWaits d c = true) : resetBody c d = (d, noA cWrongMode) := by
  rw [resetBody_draining hs, enableBody_destroyWaits hs hw, genTaken_wrongMode]

variable (hw : destroyWaits d c = false)
include hw

theorem resetBody_busy (he : enablePending d c = true) : resetBody c d = (d, noA cBusyDraining) := by
  rw [resetBody_draining hs, enableBody_busy hs hw he, genTaken_busyDraining]

theorem resetBody_waits (he : enablePending d c = false) {d' : Dev} (hd : d.setB (Reg.carState c) 3 = d') :
    resetBody c d = (d', pendA [d'.fldR (Reg.carGen c) 0 16]) := by
  rw [resetBody_draining hs, enableBody_waits hs hw he, genTaken_pending, hd]

end

variable (hf : projSt d c ≠ stFree) (hd : projSt d c ≠ stDraining)
include hf hd

theorem resetBody_runs (hs : carSt d c = stEnabled ∨ projSt d c = stRestoring) {d' : Dev}
    (hd' : (disableCar c d).setB (Reg.carState c) 3 = d') : resetBody c d = (d', pendA [d'.fldR (Reg.carGen c) 0 16]) := by
  rw [resetBody_eq, if_neg hf, if_neg hd, if_pos (by simpa using hs), genTaken_pending, hd']

section
variable (he : carSt d c ≠ stEnabled) (hr : projSt d c ≠ stRestoring) {d' : Dev}
  (hd' : bumpGen c (staleActs c (cancelEnable c d)) = d')
include he hr hd'

theorem resetBody_rests : resetBody c d = genTaken c (enableAsk c d') := by
  rw [resetBody_eq, if_neg hf, if_neg hd, if_neg (by simp [he, hr]), hd']

theorem resetBody_nextLeg (ht : ttbState d' c ≠ 1) {e : Dev} (hl : { d' with cmd := { d'.cmd with legEn := d'.cmd.legEn ++ [c] } } = e) :
    resetBody c d = (e, okGen c e) := by
  rw [resetBody_rests hf hd he hr hd', enableAsk_nextLeg ht, genTaken_ok, hl]

theorem resetBody_planned (ht : ttbState d' c = 1) {e : Dev} (hp : modCar c (fun k => { k with enablePlan := true }) d' = e) :
    resetBody c d = (e, pendA [e.fldR (Reg.carGen c) 0 16]) := by
  rw [resetBody_rests hf hd he hr hd', enableAsk_planned ht, genTaken_pending, hp]

end

end

/-- Settles O34, opcode by opcode: each clause is a case of the opcode's own part, on an entry that Phiash takes. -/
theorem carriageLife : Obligations.CarriageLife := by
  intro h img s d p c st gen
  refine ⟨?create, ?destroy, ?enable, ?disable, ?reset⟩
  case create =>
    intro ht
    refine ⟨fun n d1 d2 hn hp hi => ⟨?_, ?_⟩, fun n hn => ⟨?_, ?_⟩, ?_⟩
    · exact fun ha => act_takes_of_body ht (createBody_taken hn hp hi ha rfl)
    · exact fun ha => act_takes_of_body ht (createBody_notAdmitted hn hp hi ha)
    · exact fun hp => act_takes_of_body ht (createBody_noPool hn hp)
    · exact fun hp hi => act_takes_of_body ht (createBody_notPlaced hn hp hi)
    · exact fun hn => act_takes_of_body ht (createBody_noNumber hn)
  case destroy =>
    intro ht
    exact ⟨fun hf he hr hd => act_takes_of_body ht (destroyBody_gone hf he hr hd),
      fun hs => act_takes_of_body ht (destroyBody_draining hs),
      fun hs => act_takes_of_body ht (destroyBody_denied hs),
      fun hs => act_takes_of_body ht (destroyBody_free hs)⟩
  case enable =>
    intro ht
    refine ⟨?_, ?_, ?_, ?_, ?_, ?_⟩
    · exact fun hs => act_takes_of_body ht (enableBody_enabled hs)
    · exact fun hs hw he => act_takes_of_body ht (enableBody_waits hs hw he)
    · exact fun hs hw he => act_takes_of_body ht (enableBody_busy hs hw he)
    · exact fun hs => act_takes_of_body ht (hs.elim (fun ⟨hd, hw⟩ => enableBody_destroyWaits hd hw) enableBody_otherState)
    · exact fun hs hn => act_takes_of_body ht ((enableBody_asks hs).trans (enableAsk_nextLeg hn))
    · exact fun hs hp => act_takes_of_body ht ((enableBody_asks hs).trans (enableAsk_planned hp))
  case disable =>
    intro ht
    exact ⟨fun hs => act_takes_of_body ht (disableBody_runs hs),
      fun hs => act_takes_of_body ht (disableBody_draining hs),
      fun hf he hr hd => act_takes_of_body ht (disableBody_rests hf he hr hd rfl),
      fun hs => act_takes_of_body ht (disableBody_free hs)⟩
  case reset =>
    intro ht
    refine ⟨fun hs => act_takes_of_body ht (resetBody_free hs), fun hs => ⟨?_, ?_, ?_⟩, ?_, fun hf hd he hr => ⟨?_, ?_⟩⟩
    · exact fun hw => act_takes_of_body ht (resetBody_destroyWaits hs hw)
    · exact fun hw he => act_takes_of_body ht (resetBody_busy hs hw he)
    · exact fun hw he => act_takes_of_body ht (resetBody_waits hs hw he rfl)
    · exact fun hf hd hs => act_takes_of_body ht (resetBody_runs hf hd hs rfl)
    · exact fun hn => act_takes_of_body ht (resetBody_nextLeg hf hd he hr rfl hn rfl)
    · exact fun hp => act_takes_of_body ht (resetBody_planned hf hd he hr rfl hp rfl)

end Sys2Proof.Machine
end

section
/-! SUPPORT and PROOF. What holds of every step: the queue alone is consumed, a held reset stops what is outside the reset logic, and the
invariant of DRAM (16 R464, R471; 18 R534). -/

namespace Sys2Proof.Machine

/-- What every outcome shape keeps, each command keeps: the shapes are a commit of a device, a hold with DRAM gone, and the state itself. -/
theorem exec_keeps {P : State → State → Prop} (c : Instr) (s : State) (commits : ∀ d, P s (s.commit d))
    (holds : ∀ d : Dev, P s { s with dev := { d with dramW := [] }, mem := [] }) (stays : P s s) :
    ∃ t, exec c s = .next t ∧ P s t := by
  rcases exec_nextOf c s with ⟨d, hd⟩ | ⟨d, hd⟩ | hs
  · exact ⟨_, hd, commits d⟩
  · exact ⟨_, hd, holds d⟩
  · exact ⟨_, hs, stays⟩

theorem State.commit_self {s : State} (hw : s.dev.dramW = []) : s.commit s.dev = s := by
  obtain ⟨dev, mem, pending⟩ := s
  cases dev
  cases hw
  rfl

theorem State.up_eq_false {s : State} (h : s.dev.rst.held ≠ none) : s.dev.up = false := by
  rwa [Dev.up, Option.isNone_eq_false_iff, Option.isSome_iff_ne_none]

theorem State.commit_inv {s : State} (h : s.Inv) (d : Dev) : (s.commit d).Inv :=
  ⟨commit_wf s d h.1, State.commit_dramW s d⟩

/-- A device without DRAM content: nothing is listed, so the canonical form holds. -/
theorem State.inv_of_memGone (d : Dev) (pending : List Instr) : State.Inv ⟨{ d with dramW := [] }, [], pending⟩ :=
  ⟨rfl, rfl⟩

theorem exec_inv {s t : State} {c : Instr} (h : s.Inv) (ht : exec c s = .next t) : t.Inv := by
  obtain ⟨u, hu, hi⟩ := exec_keeps (P := fun _ t => t.Inv) c s (State.commit_inv h) (fun d => State.inv_of_memGone d s.pending) h
  cases hu.symm.trans ht
  exact hi

/-- The queue is no part of the invariant. -/
theorem State.inv_pending {s : State} (h : s.Inv) (rest : List Instr) : State.Inv { s with pending := rest } := h

/-- Settles O4: a step is `exec` of the front command, or nothing, and every shape that `exec` answers keeps the invariant. -/
theorem stepKeepsInvariant : Obligations.StepKeepsInvariant := by
  intro s t hs ht
  unfold step at ht
  split at ht
  next =>
    cases ht
    exact hs
  next c rest _ => exact exec_inv (State.inv_pending hs rest) ht

/-- Settles O2: no shape that a command answers is a fault or a refusal, and none touches the queue. -/
theorem everyCommandCompletes : Obligations.EveryCommandCompletes := fun c s =>
  exec_keeps (P := fun s t => t.pending = s.pending) c s (fun d => State.commit_pending s d) (fun _ => rfl) rfl

/-- Settles O3: a command outside the reset logic goes through `State.act`, which a held reset makes a commit of the device as it is. -/
theorem heldResetStopsCommands : Obligations.HeldResetStopsCommands := by
  intro c s hheld hw hc
  obtain ⟨f, hf⟩ := exec_act c s hc
  rw [hf, State.act_held s f (State.up_eq_false hheld), State.commit_self hw]

/-- Settles O1, by the two cases of the queue. -/
theorem stepRunsFrontCommand : Obligations.StepRunsFrontCommand :=
  ⟨fun s c rest h => by rw [step, h], fun s h => by rw [step, h]⟩

/-- Settles O5: at reset no byte of DRAM is listed and no store is pending. -/
theorem resetMeetsInvariant : Obligations.ResetMeetsInvariant :=
  State.inv_of_memGone Dev.reset []

end Sys2Proof.Machine
end

section
/-! SUPPORT and PROOF. Entries that are not taken, or that are taken and refused (13 R396, R402, R404, R405; 18 R544): what every opcode
shares. -/

namespace Sys2Proof.Machine

/-- The device where an entry comes to nothing but a refusal: not taken, turned away by the bridge, stalled, or answered by power failure
or one of R402's checks; none where the opcode's own part runs. -/
def entryRefused (c : CmdSpec) (h : Cmd) (d : Dev) : Option Dev :=
  if !cmdReady h d then some d
  else if sesTransport d h.session = 1 && outRefused d then some (raise 347 none h.session 0 (d.bump Reg.hbrObRefused))
  else if !repSpace d h.session then some (sesStall h.session d)
  else
    if (cmdAdvance h.session d).bitR Reg.glbStatus 5 then some (cmdReply c.op h (noA cFault) (cmdAdvance h.session d))
    else (cmdCheck c h (cmdAdvance h.session d)).map (fun a => cmdReply c.op h a (cmdAdvance h.session d))

/-! Its cases, in the order in which Phiash finds them. -/

section
variable {c : CmdSpec} {h : Cmd} {d : Dev}

theorem entryRefused_notTaken (hr : cmdReady h d = false) : entryRefused c h d = some d := by
  simp only [entryRefused, hr, Bool.not_false, if_true]

variable (hr : cmdReady h d = true)
include hr

theorem entryRefused_outbound (ho : sesTransport d h.session = 1 ∧ outRefused d = true) :
    entryRefused c h d = some (raise 347 none h.session 0 (d.bump Reg.hbrObRefused)) := by
  simp [entryRefused, hr, ho]

variable (ho : ¬ (sesTransport d h.session = 1 ∧ outRefused d = true))
include ho

theorem entryRefused_noSpace (hs : repSpace d h.session = false) : entryRefused c h d = some (sesStall h.session d) := by
  simp [entryRefused, hr, ho, hs]

variable (hs : repSpace d h.session = true)
include hs

theorem entryRefused_powerFails (hp : (cmdAdvance h.session d).bitR Reg.glbStatus 5 = true) :
    entryRefused c h d = some (cmdReply c.op h (noA cFault) (cmdAdvance h.session d)) := by
  simp [entryRefused, hr, ho, hs, hp]

theorem entryRefused_check (hp : (cmdAdvance h.session d).bitR Reg.glbStatus 5 = false) {a : Ans}
    (hc : cmdCheck c h (cmdAdvance h.session d) = some a) :
    entryRefused c h d = some (cmdReply c.op h a (cmdAdvance h.session d)) := by
  simp [entryRefused, hr, ho, hs, hp, hc]

end

/-- Every refusal of R402 has a status of its own. -/
theorem cmdCheck_not_ok {c : CmdSpec} {h : Cmd} {d : Dev} {a : Ans} (hc : cmdCheck c h d = some a) : a.st ≠ cOk := by
  simp only [cmdCheck] at hc
  repeat' split at hc
  all_goals cases hc
  all_goals exact of_decide_eq_false rfl

/-- An entry that is refused: its opcode's own part does not run, and the answer is not OK. -/
theorem runCmd_refused {c : CmdSpec} {h : Cmd} {d e : Dev} (body : List Nat → Dev → Dev × Ans) (hr : entryRefused c h d = some e) :
    ∃ r, runCmd c body h d = (e, r) ∧ ∀ a, r = some a → a.st ≠ cOk := by
  unfold entryRefused at hr
  simp only [runCmd]
  split at hr
  next h1 =>
    cases hr
    exact ⟨none, if_pos h1, nofun⟩
  next h1 =>
    rw [if_neg h1]
    split at hr
    next h2 =>
      cases hr
      exact ⟨none, if_pos h2, nofun⟩
    next h2 =>
      rw [if_neg h2]
      split at hr
      next h3 =>
        cases hr
        exact ⟨none, if_pos h3, nofun⟩
      next h3 =>
        rw [if_neg h3]
        split at hr
        next h4 =>
          cases hr
          exact ⟨some (noA cFault), by rw [if_pos h4], by rintro a ⟨⟩; decide⟩
        next h4 =>
          obtain ⟨a, ha, rfl⟩ := Option.map_eq_some_iff.mp hr
          exact ⟨some a, by rw [if_neg h4, ha], by rintro b ⟨⟩; exact cmdCheck_not_ok ha⟩

/-! So the rows of the opcodes, of each of their shapes. -/

section
variable {c : CmdSpec} {h : Cmd} {d e : Dev} (hr : entryRefused c h d = some e)
include hr

theorem runC_refused (body : List Nat → Dev → Dev × Ans) : runC c body h d = e := by
  obtain ⟨r, he, -⟩ := runCmd_refused body hr
  rw [runC, he]

theorem runThen_refused (body : List Nat → Dev → Dev × Ans) (after : List Nat → Dev → Dev) : runThen c body after h d = e := by
  obtain ⟨r, he, hn⟩ := runCmd_refused body hr
  simp only [runThen, he]
  split
  next a => exact if_neg (hn a rfl)
  next => rfl

end

theorem hello_refused {h : Cmd} {d e : Dev} (hr : entryRefused (spec0 0 [0xFFFF, mAll]) h d = some e) : hello h d = e := by
  obtain ⟨r, he, hn⟩ := runCmd_refused (helloBody h.session) hr
  simp only [hello, he]
  split
  next a => exact if_neg (hn a rfl)
  next => rfl

theorem bye_refused {h : Cmd} {d e : Dev} (hr : entryRefused (spec0 1 []) h d = some e) : bye h d = e := by
  obtain ⟨r, he, hn⟩ := runCmd_refused (fun _ d => (d, if sesNonfinal d h.session = 0 then okA [] else noA cNotReady)) hr
  simp only [bye, he]
  split
  next a => exact if_neg (hn a rfl)
  next => rfl

theorem evrRestart_refused {h : Cmd} {d e : Dev} (hr : entryRefused (spec0 0x504 []) h d = some e) : evrRestart h d = e := by
  unfold entryRefused at hr
  simp only [evrRestart]
  split at hr
  next h1 => cases hr; exact if_pos h1
  next h1 =>
    rw [if_neg h1]
    split at hr
    next h2 => cases hr; exact if_pos h2
    next h2 =>
      rw [if_neg h2]
      split at hr
      next h3 => cases hr; exact if_pos h3
      next h3 =>
        rw [if_neg h3]
        split at hr
        next h4 => cases hr; exact if_pos h4
        next h4 =>
          obtain ⟨a, ha, rfl⟩ := Option.map_eq_some_iff.mp hr
          rw [if_neg h4, ha]

theorem next_commit {s : State} {d e : Dev} (h : d = e) : (.next (s.commit d) : Outcome) = .next (s.commit e) := by
  rw [h]

theorem State.act_of_eq {s : State} (hup : s.dev.up = true) {f : Dev → Dev} {e : Dev} (hf : f s.dev = e) :
    s.act f = .next (s.commit e) := by
  rw [State.act_up s f hup, hf]

/-- An opcode's row on an entry that is refused. -/
theorem exec_refused {i : Instr} {c : CmdSpec} {h : Cmd} {s : State} (hi : cmdRow i = some (c, h)) (hup : s.dev.up = true) {e : Dev}
    (hr : entryRefused c h s.dev = some e) : exec i s = .next (s.commit e) := by
  cases i
  case cmdHello => cases hi; exact State.act_of_eq hup (hello_refused hr)
  case cmdBye => cases hi; exact State.act_of_eq hup (bye_refused hr)
  case cmdEvrRestart => cases hi; exact State.act_of_eq hup (evrRestart_refused hr)
  case cmdLifecycle | cmdModuleReset | cmdRecoveryCommit =>
    cases hi
    exact State.act_of_eq hup (runThen_refused hr _ _)
  all_goals
    cases hi
  all_goals exact State.act_of_eq hup (runC_refused hr _)

/-! An entry whose version or opcode is not valid. -/

theorem exec_badOpcode_up {s : State} (hup : s.dev.up = true) {op : Nat} (hop : op < 65536) (h : Cmd) :
    exec (.badOpcode op h) s = .next (s.commit (badOpcode op h s.dev)) :=
  State.act_onlyIf hup (decide_eq_true hop) (badOpcode op h)

section
variable {op : Nat} {h : Cmd} {d : Dev}

theorem badOpcode_notTaken (hv : (h.version = sesProto d h.session ∧ catalogue.contains op = true) ∨ cmdReady h d = false) :
    badOpcode op h d = d :=
  if_pos (by simpa using hv)

variable (hv : ¬ (h.version = sesProto d h.session ∧ catalogue.contains op = true)) (hr : cmdReady h d = true)
include hv hr

/-- One that is taken is answered like an entry of a catalogued opcode that is refused, with the first status that applies. -/
theorem badOpcode_taken :
    badOpcode op h d =
      if sesTransport d h.session = 1 ∧ outRefused d = true then raise 347 none h.session 0 (d.bump Reg.hbrObRefused)
      else if repSpace d h.session = false then sesStall h.session d
      else cmdReply op h (noA (if (cmdAdvance h.session d).bitR Reg.glbStatus 5 then cFault
        else if h.version ≠ sesProto (cmdAdvance h.session d) h.session then cBadVersion else cBadOpcode)) (cmdAdvance h.session d) := by
  rw [badOpcode, if_neg (by simpa [hr] using hv)]
  simp only [Bool.and_eq_true, decide_eq_true_eq, Bool.not_eq_true']

theorem badOpcode_outbound (ho : sesTransport d h.session = 1 ∧ outRefused d = true) :
    badOpcode op h d = raise 347 none h.session 0 (d.bump Reg.hbrObRefused) := by
  rw [badOpcode_taken hv hr, if_pos ho]

variable (ho : ¬ (sesTransport d h.session = 1 ∧ outRefused d = true))
include ho

theorem badOpcode_noSpace (hs : repSpace d h.session = false) : badOpcode op h d = sesStall h.session d := by
  rw [badOpcode_taken hv hr, if_neg ho, if_pos hs]

variable (hs : repSpace d h.session = true) {e : Dev} (he : cmdAdvance h.session d = e)
include hs he

theorem badOpcode_powerFails (hp : e.bitR Reg.glbStatus 5 = true) : badOpcode op h d = cmdReply op h (noA cFault) e := by
  rw [badOpcode_taken hv hr, if_neg ho, if_neg (by simp [hs]), he, if_pos hp]

variable (hp : e.bitR Reg.glbStatus 5 = false)
include hp

theorem badOpcode_version (hn : h.version ≠ sesProto e h.session) : badOpcode op h d = cmdReply op h (noA cBadVersion) e := by
  rw [badOpcode_taken hv hr, if_neg ho, if_neg (by simp [hs]), he, if_neg (by simp [hp]), if_pos hn]

theorem badOpcode_opcode (hn : h.version = sesProto e h.session) : badOpcode op h d = cmdReply op h (noA cBadOpcode) e := by
  rw [badOpcode_taken hv hr, if_neg ho, if_neg (by simp [hs]), he, if_neg (by simp [hp]), if_neg (by simp [hn])]

end

/-! R402's checks, here those of CARRIAGE_QUERY. -/

theorem badP_eq {k : Nat} : badP k = ⟨cBadParam, [k * 256]⟩ := by
  simp [badP, refA]

/-- CARRIAGE_QUERY as the catalogue has it. -/
def carriageQuery : CmdSpec := ⟨0x109, true, [0xFFFF], [], noRange⟩

section
variable {h : Cmd} {d : Dev} (hv : h.version = sesProto d h.session) (hf : h.flags < 2) (hz : h.resv = 0) (hc : h.carriage < 512)
include hv hf hz hc

/-- An entry whose header is in order: its words are checked, then its family, then the generation that it names. -/
theorem cmdCheck_carriageQuery :
    cmdCheck carriageQuery h d =
      match paramBad carriageQuery (sesTransport d h.session) (cmdP h d) with
      | some k => some (badP k)
      | none =>
        if !sesFamily d h.session 1 then some (noA cDenied)
        else if fld (entW (cmdP h d) 0) 0 16 ≠ 0 ∧ fld (entW (cmdP h d) 0) 0 16 ≠ d.fldR (Reg.carGen h.carriage) 0 16 then
          some ⟨cStaleGen, [d.fldR (Reg.carGen h.carriage) 0 16]⟩
        else if leased d h.session h.carriage 0x109 then some (noA cLocked)
        else if !modeTakes d 0x109 then some (noA cWrongMode)
        else none := by
  have h4 : ¬ 4 ≤ h.flags := by omega
  have h1 : bitOf h.flags 1 = false := by simp [bitOf]; omega
  have h5 : ¬ 512 ≤ h.carriage := by omega
  simp only [cmdCheck]
  rw [if_neg (not_not_intro hv), if_neg (by simp [h4, h1, hz]), if_neg (by simp [h5]), if_neg (by simp [carriageQuery])]
  split
  next k hk => rw [← cmdP] at hk; rw [hk]
  next hk =>
    rw [← cmdP] at hk; rw [hk]
    simp [carriageQuery, cmdP]

end

/-- Settles O32: a refusal is one of `entryRefused`, whose cases follow R396 to R404, and a bad opcode is answered alike. -/
theorem refusedEntries : Obligations.RefusedEntries := by
  refine ⟨?rows, ?bad, ?checks⟩
  case rows =>
    intro i c h s hi hup d refused
    refine ⟨?_, ?_, ?_, ?_, ?_⟩
    · exact fun hr => exec_refused hi hup (entryRefused_notTaken hr)
    · exact fun hr ho => exec_refused hi hup (entryRefused_outbound hr ho)
    · exact fun hr ho hs => exec_refused hi hup (entryRefused_noSpace hr ho hs)
    · exact fun hr ho hs hp => exec_refused hi hup (entryRefused_powerFails hr ho hs hp)
    · exact fun a hr ho hs hp hc => exec_refused hi hup (entryRefused_check hr ho hs hp hc)
  case bad =>
    intro op h s hup hop d refused valid
    have hd : cmdAdvance h.session s.dev = d := rfl
    rw [exec_badOpcode_up hup hop h]
    refine ⟨fun hv => by rw [badOpcode_notTaken hv], fun hv hr => ⟨?_, ?_, fun ho hs => ⟨?_, ?_, ?_⟩⟩⟩
    · exact fun ho => by rw [badOpcode_outbound hv hr ho]
    · exact fun ho hs => by rw [badOpcode_noSpace hv hr ho hs]
    · exact fun hp => by rw [badOpcode_powerFails hv hr ho hs hd hp]
    · exact fun hp hn => by rw [badOpcode_version hv hr ho hs hd hp hn]
    · exact fun hp hn => by rw [badOpcode_opcode hv hr ho hs hd hp hn]
  case checks =>
    intro h d hv hf hz hc
    have hq := cmdCheck_carriageQuery hv hf hz hc
    refine ⟨fun k hk => ?_, fun hk hm h0 hg => ?_⟩
    · exact hq.trans (by rw [carriageQuery, hk]; exact congrArg some badP_eq)
    · exact hq.trans (by rw [carriageQuery, hk]; exact (if_neg (by simp [hm])).trans (if_pos ⟨h0, hg⟩))

end Sys2Proof.Machine
end

section
/-! SUPPORT and PROOF. Sessions (13 R390, R391, R396, R397, R400, R411): HELLO, BYE and the replies of state, doorbells, ring registers and
management datagrams. -/

namespace Sys2Proof.Machine

/-! The session family's opcodes on an entry that Phiash takes; `d` is the device past the entry. -/

section
variable {h : Cmd} {s : State} {d : Dev} (hd : cmdAdvance h.session s.dev = d)
include hd

section
variable (ht : takes (spec0 0 [0xFFFF, mAll]) h s.dev = true)
include ht

/-- HELLO: its reply, and past an answer OK the protocol and the indices. -/
theorem hello_takes {d' : Dev} {a : Ans} (hb : helloBody h.session (cmdP h s.dev) d = (d', a)) :
    hello h s.dev =
      if a.st = cOk then
        setProd h.session 0 (((cmdReply 0 h a d').wn (Reg.cmdSCons h.session) 0).setF (Reg.cmdSState h.session) 0 4 (fld (entW a.ds 0) 0 8))
      else cmdReply 0 h a d' := by
  subst hd
  simp only [hello, runCmd_takes _ ht, hb, spec0_op]

variable {v : Nat} (hv : min (fld (entW (cmdP h s.dev) 0) 8 8) (protoMax d) = v)
include hv

theorem hello_agreed (ho : sesOut d h.session = 0) (hl : fld (entW (cmdP h s.dev) 0) 0 8 ≤ v) (h0 : v ≠ 0) :
    hello h s.dev = setProd h.session 0 (((cmdReply 0 h (okA [v + protoMax d * 256, d.free.1 % 2 ^ 32, d.rn Reg.eenKcatVer,
      d.rn Reg.hleIsaVer]) d.free.2).wn (Reg.cmdSCons h.session) 0).setF (Reg.cmdSState h.session) 0 4 (fld (v + protoMax d * 256) 0 8)) := by
  have hb : helloBody h.session (cmdP h s.dev) d =
      (d.free.2, okA [v + protoMax d * 256, d.free.1 % 2 ^ 32, d.rn Reg.eenKcatVer, d.rn Reg.hleIsaVer]) := by
    rw [helloBody, hv, if_neg (not_not_intro ho), if_neg (by simp [h0, hl])]
  exact (hello_takes hd ht hb).trans (if_pos rfl)

theorem hello_noCommonProtocol (ho : sesOut d h.session = 0) (hl : v < fld (entW (cmdP h s.dev) 0) 0 8 ∨ v = 0) :
    hello h s.dev = cmdReply 0 h ⟨cBadVersion, [protoMax d * 256]⟩ d := by
  have hb : helloBody h.session (cmdP h s.dev) d = (d, ⟨cBadVersion, [protoMax d * 256]⟩) := by
    rw [helloBody, hv, if_neg (not_not_intro ho), if_pos (by simpa using hl)]
  exact (hello_takes hd ht hb).trans (if_neg (by change cBadVersion ≠ cOk; decide))

omit hv

theorem hello_others (ho : sesOut d h.session ≠ 0) : hello h s.dev = cmdReply 0 h (noA cNotReady) d := by
  have hb : helloBody h.session (cmdP h s.dev) d = (d, noA cNotReady) := if_pos ho
  exact (hello_takes hd ht hb).trans (if_neg (by decide))

end

section
variable (ht : takes (spec0 1 []) h s.dev = true)
include ht

theorem bye_final (hn : sesNonfinal d h.session = 0) : bye h s.dev = sesClear h.session (cmdReply 1 h (okA []) d) := by
  subst hd
  simp only [bye, runCmd_takes _ ht, hn, if_true, spec0_op]
  exact if_pos rfl

theorem bye_nonfinal (hn : sesNonfinal d h.session ≠ 0) : bye h s.dev = cmdReply 1 h (noA cNotReady) d := by
  subst hd
  simp only [bye, runCmd_takes _ ht, hn, if_false, spec0_op]
  exact if_neg (by decide)

end

end

/-! Doorbells and the ring registers. -/

section
variable {s : State} (hup : s.dev.up = true) {n : Nat} (hn : n < 64)
include hup hn

theorem exec_cmdDoorbell_up {prod : Nat} (hp : prod < 65536) :
    exec (.cmdDoorbell n prod) s = .next (s.commit (cmdDoorbell n prod s.dev)) :=
  State.act_onlyIf hup (by simp [hn, hp]) (cmdDoorbell n prod)

theorem exec_sessionRingCfgWrite_up {r : Nat} (hr : r ≤ 4) (v : Word) :
    exec (.sessionRingCfgWrite n r v) s = .next (s.commit (ringWrite n r v.toNat s.dev)) :=
  State.act_onlyIf hup (by simp [hn, hr]) (ringWrite n r v.toNat)

theorem exec_sessionReset_up (v : Word) : exec (.sessionReset n v) s = .next (s.commit (sesReset n v.toNat s.dev)) :=
  State.act_onlyIf hup (decide_eq_true hn) (sesReset n v.toNat)

theorem exec_replyConsumerWrite_up (v : Word) :
    exec (.replyConsumerWrite n v) s = .next (s.commit (sesResume n (s.dev.wn (Reg.cmdSRcons n) (v.toNat % 65536)))) :=
  State.act_onlyIf hup (decide_eq_true hn) (writeRcons n v.toNat)

theorem exec_mgmtDatagram_up {count : Nat} {seg : List Nat} (hc : count ≤ 16) (hs : seg.length ≤ 1024) (src seq ofs : Nat)
    (tag zero bad : Bool) :
    exec (.mgmtDatagram ⟨src, n⟩ count seq ofs seg tag zero bad) s =
      .next (s.commit (mgmtDatagram src n count seq ofs seg tag zero bad s.dev)) :=
  State.act_onlyIf hup (by simp [hn, hc, hs]) (mgmtDatagram src n count seq ofs seg tag zero bad)

end

section
variable {n prod : Nat} {d : Dev}

theorem cmdDoorbell_taken (ho : sesOpen d n = true) (hp : prod < sesSize d n) :
    cmdDoorbell n prod d =
      sesResume n (ringTo n prod { d with cmd := { d.cmd with faulted := d.cmd.faulted.filter (fun x => x != n) } }) := by
  rw [cmdDoorbell, if_neg (by simp [ho, hp])]

theorem cmdDoorbell_counted (h : sesOpen d n = false ∨ sesSize d n ≤ prod) : cmdDoorbell n prod d = d.bump (Reg.cmdSErr n) :=
  if_pos (by simpa using h)

end

/-- Both ring sizes of a CMD_S_RING_CFG word are 2^4 to 2^12 (R391). -/
def ringSizesOk (v : Nat) : Prop := 4 ≤ fld v 0 4 ∧ fld v 0 4 ≤ 12 ∧ 4 ≤ fld v 8 4 ∧ fld v 8 4 ≤ 12

theorem ringSizesOk_iff {v : Nat} :
    ringSizesOk v ↔ (fld v 0 4 < 4 || 12 < fld v 0 4 || fld v 8 4 < 4 || 12 < fld v 8 4) = false := by
  simp [ringSizesOk, and_assoc]

/-- The device whose session's ring sizes are taken, its indices within them. -/
def ringSized (n v : Nat) (d : Dev) : Dev :=
  let d := d.wn (Reg.cmdSRingCfg n) (fld v 0 4 + fld v 8 4 * 256)
  let d := setProd n (sesProd d n % sesSize d n) (d.wn (Reg.cmdSCons n) (sesCons d n % sesSize d n))
  d.wn (Reg.cmdSRprod n) (d.fldR (Reg.cmdSRprod n) 0 16 % repSize d n + b2n (d.bitR (Reg.cmdSRprod n) 16) * 65536)

section
variable {n v : Nat} {d : Dev}

/-- The four bases of an idle session's rings. -/
theorem ringWrite_base (hb : sesBusy d n = false) :
    ringWrite n 0 v d = d.wn (Reg.cmdSCringLo n) v ∧ ringWrite n 1 v d = d.wn (Reg.cmdSCringHi n) v ∧
    ringWrite n 2 v d = d.wn (Reg.cmdSRringLo n) v ∧ ringWrite n 3 v d = d.wn (Reg.cmdSRringHi n) v := by
  refine ⟨?_, ?_, ?_, ?_⟩ <;> simp [ringWrite, hb]

theorem ringWrite_base_busy (hb : sesBusy d n = true) {r : Nat} (hr : r < 4) : ringWrite n r v d = d.emit (.infoEvent 391) := by
  have h4 : (r == 4) = false := beq_false_of_ne (by omega)
  simp only [ringWrite, h4, hb, Bool.false_and, Bool.false_eq_true, if_false, if_true]

theorem ringWrite_sizes (hv : ringSizesOk v) :
    ringWrite n 4 v d = if sesBusy d n then d.emit (.infoEvent 391) else ringSized n v d := by
  simp only [ringWrite, ringSizesOk_iff.mp hv, beq_self_eq_true, Bool.and_false, Bool.false_eq_true, if_false]
  rfl

theorem ringWrite_sizesBad (hv : ¬ ringSizesOk v) : ringWrite n 4 v d = d := by
  rw [ringSizesOk_iff, Bool.not_eq_false] at hv
  simp only [ringWrite, hv, beq_self_eq_true, Bool.and_self, if_true]

theorem sesReset_sizes (hv : ringSizesOk v) :
    sesReset n v d = if sesBusy d n then d.emit (.infoEvent 391) else sesClear n (ringWrite n 4 v d) := by
  simp only [sesReset, ringSizesOk_iff.mp hv, Bool.false_eq_true, if_false]

theorem sesReset_sizesBad (hv : ¬ ringSizesOk v) : sesReset n v d = d := by
  rw [ringSizesOk_iff, Bool.not_eq_false] at hv
  exact if_pos hv

end

/-! Management datagrams: whether one authenticates, with the device after its key's use; then the session decides. -/

/-- What authenticates a datagram: in Recovery a slot's tag, or no tag where there is no slot; elsewhere the session's own slot. -/
def mgmtAuth (n : Nat) (tag zero bad : Bool) (d : Dev) : Bool × Dev :=
  let key := slotUse (d.fldR (Reg.cmdSCfg n) 16 8) fnSession [2] .livery bad d
  if d.mode = modeRecovery then (if (recoverySlot d).isSome then tag else zero, d) else (key.1 && tag, key.2)

/-- The device with a datagram's sequence number, sender and segment kept. -/
def segmentKept (src n seq ofs : Nat) (seg : List Nat) (d : Dev) : Dev :=
  stageBytes n ofs seg { d with cmd := { d.cmd with seqs := tset 0 d.cmd.seqs n seq, froms := tset 0 d.cmd.froms n src } }

section
variable {src n count seq ofs : Nat} {seg : List Nat} {tag zero bad : Bool} {d : Dev}

theorem mgmtDatagram_eq {auth : Bool × Dev} (ha : mgmtAuth n tag zero bad d = auth) {e : Dev}
    (he : segmentKept src n seq ofs seg auth.2 = e) :
    mgmtDatagram src n count seq ofs seg tag zero bad d =
      if !auth.1 || sesTransport auth.2 n ≠ 2 || !sesOpen auth.2 n || seq ≤ tget 0 auth.2.cmd.seqs n then
        raise 90 none n 0 (auth.2.bump (Reg.cmdSErr n))
      else if sesSize e n ≤ sesOut e n + count then e.bump (Reg.cmdSErr n)
      else sesResume n (ringTo n ((sesProd e n + count) % sesSize e n) e) := by
  subst ha he
  have hauth : mgmtAuth n tag zero bad d =
      if d.mode = modeRecovery then
        match recoverySlot d with
        | some _ => (tag, d)
        | none => (zero, d)
      else
        let r := slotUse (d.fldR (Reg.cmdSCfg n) 16 8) fnSession [2] .livery bad d
        (r.1 && tag, r.2) := by
    unfold mgmtAuth
    cases recoverySlot d <;> rfl
  rw [hauth]
  rfl

variable {auth : Bool × Dev} (ha : mgmtAuth n tag zero bad d = auth)
include ha

theorem mgmtDatagram_discarded
    (h : auth.1 = false ∨ sesTransport auth.2 n ≠ 2 ∨ sesOpen auth.2 n = false ∨ seq ≤ tget 0 auth.2.cmd.seqs n) :
    mgmtDatagram src n count seq ofs seg tag zero bad d = raise 90 none n 0 (auth.2.bump (Reg.cmdSErr n)) := by
  rw [mgmtDatagram_eq ha rfl, if_pos (by simpa [or_assoc] using h)]

variable (h1 : auth.1 = true) (h2 : sesTransport auth.2 n = 2) (h3 : sesOpen auth.2 n = true) (h4 : tget 0 auth.2.cmd.seqs n < seq)
  {e : Dev} (he : segmentKept src n seq ofs seg auth.2 = e)
include h1 h2 h3 h4 he

theorem mgmtDatagram_full (hs : sesSize e n ≤ sesOut e n + count) :
    mgmtDatagram src n count seq ofs seg tag zero bad d = e.bump (Reg.cmdSErr n) := by
  rw [mgmtDatagram_eq ha he, if_neg (by simp [h1, h2, h3, h4]), if_pos hs]

theorem mgmtDatagram_taken (hs : sesOut e n + count < sesSize e n) :
    mgmtDatagram src n count seq ofs seg tag zero bad d = sesResume n (ringTo n ((sesProd e n + count) % sesSize e n) e) := by
  rw [mgmtDatagram_eq ha he, if_neg (by simp [h1, h2, h3, h4]), if_neg (by omega)]

end

/-- Settles O31: the opcodes on an entry that Phiash takes, then each row by its session's state. -/
theorem sessionsAndRings : Obligations.SessionsAndRings := by
  refine ⟨?opcodes, ?rings, ?datagrams⟩
  case opcodes =>
    intro h s d p
    have hd : cmdAdvance h.session s.dev = d := rfl
    refine ⟨fun ht => ?hello, fun ht => ⟨?_, ?_⟩, fun ht => act_takes_of_body ht rfl, fun ht => act_takes_of_body ht rfl⟩
    case hello =>
      exact ⟨fun ho hl h0 => State.act_of_eq (takes_up ht) (hello_agreed hd ht rfl ho hl h0),
        fun ho => State.act_of_eq (takes_up ht) (hello_others hd ht ho),
        fun ho hl => State.act_of_eq (takes_up ht) (hello_noCommonProtocol hd ht rfl ho hl)⟩
    · exact fun hn => State.act_of_eq (takes_up ht) (bye_final hd ht hn)
    · exact fun hn => State.act_of_eq (takes_up ht) (bye_nonfinal hd ht hn)
  case rings =>
    intro s n prod v hup hn
    refine ⟨fun hp ho hs => ?_, fun hp h => ?_, fun hb => ?_, fun hb r hr => ?_, ⟨fun hv => ?_, fun hv hb => ?_, fun hv hb => ?_⟩,
      exec_replyConsumerWrite_up hup hn v⟩
    · rw [exec_cmdDoorbell_up hup hn hp, cmdDoorbell_taken ho hs]
    · rw [exec_cmdDoorbell_up hup hn hp, cmdDoorbell_counted h]
    · obtain ⟨h0, h1, h2, h3⟩ := ringWrite_base (v := v.toNat) hb
      have hw (r : Nat) (hr : r ≤ 4) := exec_sessionRingCfgWrite_up hup hn hr v
      exact ⟨by rw [hw 0 (by decide), h0], by rw [hw 1 (by decide), h1], by rw [hw 2 (by decide), h2], by rw [hw 3 (by decide), h3]⟩
    · rw [exec_sessionRingCfgWrite_up hup hn (by omega), ringWrite_base_busy hb hr]
    all_goals rw [exec_sessionRingCfgWrite_up hup hn (by decide), exec_sessionReset_up hup hn]
    · rw [ringWrite_sizesBad hv, sesReset_sizesBad hv]
      exact ⟨rfl, rfl⟩
    · rw [sesReset_sizes hv, ringWrite_sizes hv, if_pos hb, if_pos hb]
      exact ⟨rfl, rfl⟩
    · rw [sesReset_sizes hv, ringWrite_sizes hv, if_neg (by simp [hb]), if_neg (by simp [hb])]
      exact ⟨rfl, rfl⟩
  case datagrams =>
    intro s src n count seq ofs seg tag zero bad hup hn hc hs key auth d e
    have hx := exec_mgmtDatagram_up hup hn hc hs src seq ofs tag zero bad
    exact ⟨fun h => hx.trans (next_commit (mgmtDatagram_discarded (auth := auth) rfl h)),
      fun h1 h2 h3 h4 => ⟨fun hf => hx.trans (next_commit (mgmtDatagram_full (auth := auth) rfl h1 h2 h3 h4 (e := e) rfl hf)),
        fun hf => hx.trans (next_commit (mgmtDatagram_taken (auth := auth) rfl h1 h2 h3 h4 (e := e) rfl hf))⟩⟩

end Sys2Proof.Machine
end

section
/-! SUPPORT and PROOF. The recorders' opcodes, the end of a rendering and the event recorder's restart (13 R416; 14 R423, R430, R433, R440;
15 R460). -/

namespace Sys2Proof.Machine

/-! The own parts of the opcodes whose answer depends on the recorder. -/

section
variable {h : Cmd} {s : State} {d : Dev} (hd : cmdAdvance h.session s.dev = d) {p : List Nat} (hp : cmdP h s.dev = p)
include hd hp

section
variable (ht : takes ⟨0x500, false, [0xF, mAll, 0xFF], [1], noRange⟩ h s.dev = true) {data : List Word} {w : List Nat}
  (hw : takePad 0 96 (data.map (fun x => x.toNat)) = w)
include ht hw

theorem exec_cmdRecArm_armed (hr : recReason d (entW p 0) w = 0) :
    exec (.cmdRecArm h data) s = .next (s.commit (cmdReply 0x500 h (okA []) (recArm (entW p 0) w d))) := by
  subst hd hp hw
  exact act_takes_of_body ht (if_pos hr)

theorem exec_cmdRecArm_refused (hr : recReason d (entW p 0) w ≠ 0) :
    exec (.cmdRecArm h data) s = .next (s.commit (cmdReply 0x500 h (refA cBadParam (recReason d (entW p 0) w) 1 0) d)) := by
  subst hd hp hw
  exact act_takes_of_body ht (if_neg hr)

end

section
variable (ht : takes (spec0 0x502 [0xF]) h s.dev = true)
include ht

theorem exec_cmdRecForce_armed (hr : recState d (entW p 0) = rArmed) :
    exec (.cmdRecForce h) s = .next (s.commit (cmdReply 0x502 h
      (okA [tickCodeOf ((recdr d (entW p 0)).next.getD (d.sau.declared.getD d.tim.absLeg) * 16)])
      (setRecdr (entW p 0) { recdr d (entW p 0) with force := true } d))) := by
  subst hd hp
  exact act_takes_of_body ht (if_pos hr)

theorem exec_cmdRecForce_notArmed (hr : recState d (entW p 0) ≠ rArmed) :
    exec (.cmdRecForce h) s = .next (s.commit (cmdReply 0x502 h (noA cNotReady) d)) := by
  subst hd hp
  exact act_takes_of_body ht (if_neg hr)

end

section
variable (ht : takes ⟨0x503, false, [0xF, mAll, mAll, 0xFF, mAll], [2], noRange⟩ h s.dev = true)
include ht

theorem exec_cmdRecRender_held {q : Nat × Nat} (hq : (recdr d (entW p 0)).held.find? (fun q => q.2 == entW p 1) = some q) :
    exec (.cmdRecRender h) s = .next (s.commit (cmdReply 0x503 h (pendA [])
      { d with drc := { d.drc with rend := tput d.drc.rend d.cmd.nextJob (h.session, addrP p 2, entW p 4, entW p 0, q.1) } })) := by
  subst hd hp
  exact act_takes_of_body ht (by simp only [hq])

theorem exec_cmdRecRender_notHeld (hq : (recdr d (entW p 0)).held.find? (fun q => q.2 == entW p 1) = none) :
    exec (.cmdRecRender h) s = .next (s.commit (cmdReply 0x503 h (badP 1) d)) := by
  subst hd hp
  exact act_takes_of_body ht (by simp only [hq])

end

end

/-! The end of a rendering: the job's record, parts and output. -/

theorem renderDone_none {job : Nat} {cfgs : List (List Nat)} {m : List Host.Cell} {d : Dev} (hj : tfind d.drc.rend job = none) :
    renderDone job cfgs m d = d := by
  rw [renderDone, hj]

/-- The parts of a record rendered, in the order of their rates. -/
def renderParts (cfgs : List (List Nat)) (m : List Host.Cell) (r q : Nat) (d : Dev) : List (List Nat) :=
  ((recRates d (recdr d r).desc).zip (takePad [] 64 cfgs)).map (fun x => renderPart m d r q x.1 x.2)

/-- The device with a rendering's output written where the session's transport has it. -/
def renderWritten (ses a : Nat) (o : List Nat) (d : Dev) : Dev :=
  if sesTransport d ses = 3 then storeBytes a o d
  else if sesTransport d ses = 2 then stageBytes ses a o d else d.emit (.note 440 (a :: o))

section
variable {job ses a len r q : Nat} {cfgs : List (List Nat)} {m : List Host.Cell} {d : Dev}
  (hj : tfind d.drc.rend job = some (ses, a, len, r, q)) {o : List Nat × Bool} (ho : fitParts len (renderParts cfgs m r q d) = o)
  {e : Dev} (he : renderWritten ses a o.1 { d with drc := { d.drc with rend := tdel d.drc.rend job } } = e)
include hj ho he

theorem renderDone_some :
    renderDone job cfgs m d = if o.2 then finishJob job cOk [o.1.length] e else finishJob job cNoResource [] e := by
  subst ho he
  rw [renderDone, hj]
  rfl

theorem renderDone_fits (hf : o.2 = true) : renderDone job cfgs m d = finishJob job cOk [o.1.length] e := by
  rw [renderDone_some hj ho he, if_pos hf]

theorem renderDone_overflows (hf : o.2 = false) : renderDone job cfgs m d = finishJob job cNoResource [] e := by
  rw [renderDone_some hj ho he, if_neg (by simp [hf])]

end

/-- EVR_RESTART on an entry that Phiash takes: the session waits, and the restart is due. -/
theorem evrRestart_takes {h : Cmd} {d e : Dev} (ht : takes (spec0 0x504 []) h d = true) (he : cmdAdvance h.session d = e) :
    evrRestart h d =
      { e with cmd := { e.cmd with wait := tput e.cmd.wait h.session (if sesProto e h.session = 1 then h.tag % 65536 else h.tag) },
               sup := { e.sup with restart := true } } := by
  subst he
  simp only [takes, Bool.and_eq_true, Bool.not_eq_true', Option.isNone_iff_eq_none] at ht
  obtain ⟨⟨⟨⟨⟨_, hr⟩, ho⟩, hs⟩, hp⟩, hc⟩ := ht
  have ho' : ¬ (sesTransport d h.session = 1 && outRefused d) = true := by simpa using ho
  simp only [evrRestart, hr, hs, hp, hc, if_neg ho', Bool.not_true, Bool.false_eq_true, if_false]

/-- Settles O33, opcode by opcode, and the end of a rendering by its job and its fit. -/
theorem recorderCommands : Obligations.RecorderCommands := by
  intro h data s d p r w
  have hd : cmdAdvance h.session s.dev = d := rfl
  have hp : cmdP h s.dev = p := rfl
  refine ⟨fun ht => ⟨?_, ?_⟩, fun ht => act_takes_of_body ht rfl, fun ht => ⟨?_, ?_⟩, fun ht => ⟨?_, ?_⟩, ?render,
    fun ht => State.act_of_eq (takes_up ht) (evrRestart_takes ht hd)⟩
  · exact fun hr => exec_cmdRecArm_armed hd hp ht rfl hr
  · exact fun hr => exec_cmdRecArm_refused hd hp ht rfl hr
  · exact fun hr => exec_cmdRecForce_armed hd hp ht hr
  · exact fun hr => exec_cmdRecForce_notArmed hd hp ht hr
  · exact fun q hq => exec_cmdRecRender_held hd hp ht hq
  · exact fun hq => exec_cmdRecRender_notHeld hd hp ht hq
  case render =>
    intro job cfg more hup
    have hx (e : Dev) (he : renderDone job (cfg :: more) s.mem s.dev = e) : exec (.renderDone job cfg more) s = .next (s.commit e) :=
      State.act_of_eq hup he
    exact ⟨fun hj => hx _ (renderDone_none hj), fun ses a len n q hj =>
      ⟨fun hf => hx _ (renderDone_fits hj rfl rfl hf), fun hf => hx _ (renderDone_overflows hj rfl rfl hf)⟩⟩

end Sys2Proof.Machine
end

section
/-! SUPPORT and PROOF. The diagnostic opcodes (13 R421; 03 R93; 08 R263): what acts in Maintenance alone, and reads of registers. -/

namespace Sys2Proof.Machine

section
variable {f : List Nat → Dev → Dev} {p : List Nat} {d : Dev}

theorem inMaint_maintenance (hm : d.mode = modeMaintenance) : inMaint f p d = (f p d, okA []) :=
  if_pos hm

theorem inMaint_otherMode (hm : d.mode ≠ modeMaintenance) : inMaint f p d = (d, noA cWrongMode) :=
  if_neg hm

end

theorem reservedRead_eq (off : Nat) (d : Dev) : reservedRead off d = if rowAt d off = none then raise 48 none off 0 d else d := by
  simp only [reservedRead, Option.isNone_iff_eq_none]

/-- Settles O59, opcode by opcode: each clause is a case of the opcode's own part, on an entry that Phiash takes. -/
theorem diagnosticCommands : Obligations.DiagnosticCommands := by
  intro h s d p
  refine ⟨fun ht => ?read, fun ht => ⟨?_, ?_⟩, fun ht => ⟨?_, ?_⟩, fun ht => act_takes_of_body ht rfl, fun ht => ⟨?_, ?_⟩⟩
  case read =>
    intro offs d1
    have hreads : offs.foldl (fun d o => reservedRead o d) d = d1 := by simp only [reservedRead_eq, d1]
    exact act_takes_of_body ht (congrArg (·, _) hreads)
  · exact fun hm => act_takes_of_body ht (inMaint_maintenance hm)
  · exact fun hm => act_takes_of_body ht (inMaint_otherMode hm)
  · exact fun hm => act_takes_of_body ht (inMaint_maintenance hm)
  · exact fun hm => act_takes_of_body ht (inMaint_otherMode hm)
  · exact fun hm => act_takes_of_body ht (inMaint_maintenance hm)
  · exact fun hm => act_takes_of_body ht (inMaint_otherMode hm)

end Sys2Proof.Machine
end

section
/-! SUPPORT and PROOF. The causes that supervision follows (15 R446; 17 R529; 19 R574, R583). -/

namespace Sys2Proof.Machine

theorem follow_present (n d0 : Nat) (d : Dev) : follow n true d0 d = setCond n d0 d := if_pos rfl

theorem follow_absent (n d0 : Nat) (d : Dev) : follow n false d0 d = clearCond n d := if_neg Bool.false_ne_true

theorem exec_lockstepMismatch_up {s : State} (hup : s.dev.up = true) {pair : Nat} (hp : pair < 2) :
    exec (.lockstepMismatch pair) s =
      .next (s.commit (if s.dev.bitR Reg.tgtDbgStatus 3 then s.dev else raise (50 + pair) none pair 0 s.dev)) :=
  State.act_onlyIf hup (decide_eq_true hp) _

/-! A temperature threshold has a hysteresis of 3 degrees. -/

section
variable {n : Nat} {thr t : Int} {d : Dev}

theorem tempCond_reached (h : thr ≤ t) : tempCond n thr t d = setCond n t.toNat d := if_pos h

theorem tempCond_between (h1 : thr - 3 < t) (h2 : t < thr) : tempCond n thr t d = d := by
  rw [tempCond, if_neg (by omega), if_neg (by omega)]

theorem tempCond_left (h : t ≤ thr - 3) : tempCond n thr t d = clearCond n d := by
  rw [tempCond, if_neg (by omega), if_pos h]

end

/-- The die's grade: a part of the extended grade has its thresholds 10 degrees higher. -/
theorem exec_dieTempThreshold_up {s : State} (hup : s.dev.up = true) {g : Int} (hg : (if s.dev.bitR Reg.glbId 16 = true then 10 else 0) = g)
    (t : Int) : exec (.dieTempThreshold t) s = .next (s.commit (tempCond 409 (115 + g) t (tempCond 408 (105 + g) t s.dev))) := by
  subst hg
  exact State.act_up s (dieTemp t) hup

/-- Settles O56, row by row; the temperature by the two thresholds of the grade and the hysteresis of each. -/
theorem supervisedCauses : Obligations.SupervisedCauses := by
  intro s pair t hup d g
  have hrail (warn oper : Bool) : exec (.railWindow warn oper) s = .next (s.commit (follow 411 oper 0 (follow 410 warn 0 d))) :=
    State.act_up s (fun d => follow 411 oper 0 (follow 410 warn 0 d)) hup
  have htemp := exec_dieTempThreshold_up hup (g := g) rfl t
  refine ⟨State.act_up s (fun d => setCond 1 0 (d.clrB Reg.clkStatus 1)) hup, fun hp => ⟨fun hh => ?_, fun hh => ?_⟩, ?_, ?_, ?_, ?_, ?_, ?_, ?_, ?_, ?_, ?_, ?_⟩
  · rw [exec_lockstepMismatch_up hup hp, if_neg (Bool.eq_false_iff.mp hh)]
  · rw [exec_lockstepMismatch_up hup hp, if_pos hh]
  · exact State.act_of_eq hup (follow_present 55 0 d)
  · exact State.act_of_eq hup (follow_absent 55 0 d)
  · rw [hrail, follow_present, follow_present]
  · rw [hrail, follow_absent, follow_present]
  · rw [hrail, follow_present, follow_absent]
  · rw [hrail, follow_absent, follow_absent]
  · exact fun h => by rw [htemp, tempCond_reached (n := 408) (by omega), tempCond_reached (n := 409) h]
  · exact fun h1 h2 => by rw [htemp, tempCond_reached (n := 408) (by omega), tempCond_between (n := 409) (by omega) h2]
  · exact fun h1 h2 => by rw [htemp, tempCond_reached (n := 408) h1, tempCond_left (n := 409) (by omega)]
  · exact fun h1 h2 => by rw [htemp, tempCond_between (n := 408) (by omega) h2, tempCond_left (n := 409) (by omega)]
  · exact fun h => by rw [htemp, tempCond_left (n := 408) (by omega), tempCond_left (n := 409) (by omega)]

end Sys2Proof.Machine
end

section
/-! SUPPORT and PROOF. The disturbance recorder's own events (14 R423 to R430, R433 to R439; 02 R62). -/

namespace Sys2Proof.Machine

/-! The rows on a device that runs. -/

section
variable {s : State} (hup : s.dev.up = true)
include hup

theorem exec_recorderLegTake_up {r : Nat} (hr : r < 16) (short : Bool) :
    exec (.recorderLegTake r short) s = .next (s.commit (recTake r short s.mem s.dev)) :=
  State.act_onlyIf hup (decide_eq_true hr) (recTake r short s.mem)

theorem exec_trigInEdge_up {b : Nat} (hb : b < 8) (level : Bool) (tap : Int) :
    exec (.trigInEdge b level tap) s = .next (s.commit (trigEdge b level tap s.dev)) :=
  State.act_onlyIf hup (decide_eq_true hb) (trigEdge b level tap)

theorem exec_itTimeout_up {k : Nat} (hk : k < 4) : exec (.itTimeout k) s = .next (s.commit (itTimeout k s.dev)) :=
  State.act_onlyIf hup (decide_eq_true hk) (itTimeout k)

theorem exec_recordSlotFree_up {r : Nat} (hr : r < 16) (v : Word) :
    exec (.recordSlotFree r v) s = .next (s.commit (recFree r v.toNat s.dev)) :=
  State.act_onlyIf hup (decide_eq_true hr) (recFree r v.toNat)

end

/-! A recorder takes a leg: `leg` is its next, and `rs` the reports that the leg brings. -/

/-- The reports of a leg; one that the ring took before brings a forced trigger alone (log 44). -/
def legReports (d : Dev) (r leg : Nat) : List Report :=
  if leg < (recdr d r).seen then (if (recdr d r).force then [(gN leg, 8, false)] else []) else reports d (recdr d r) leg

/-- A FULL recorder counts what a leg reports as missed. -/
def legMissed (m : List Host.Cell) (r leg : Nat) (d : Dev) : Dev :=
  completeUpTo r leg false (recRms m r leg (keepTerms r leg
    (setRecdr r { recdr d r with missed := min 0xFFFF ((recdr d r).missed + (legReports d r leg).length) }
      (d.bumpBy (Reg.drcRMissed r) (legReports d r leg).length))))

/-- An ARMED or TRIGGERED recorder writes a leg's block and takes its reports. -/
def legWritten (m : List Host.Cell) (r leg : Nat) (gap : Bool) (d : Dev) : Dev :=
  completeUpTo r leg false (recRms m r leg (keepTerms r leg ((legReports d r leg).foldl (fun d p => takeReport m r leg p d)
    (writeBlock r leg gap (if gap then raise 331 none r leg (d.bump Reg.drcGapCnt) else d)))))

section
variable {r : Nat} {short : Bool} {m : List Host.Cell} {d : Dev}

theorem recTake_undeclared (h : d.sau.declared = none) : recTake r short m d = d := by
  simp only [recTake, h]

theorem recTake_idle (h : recState d r = rIdle) : recTake r short m d = d := by
  unfold recTake
  split
  next => rfl
  next => exact if_pos (by simp [h])

variable {top leg : Nat} (hd : d.sau.declared = some top) (hl : (recdr d r).next.getD top = leg)
include hd hl

theorem recTake_notDeclaredYet (h : top < leg) : recTake r short m d = d := by
  simp only [recTake, hd, hl]
  exact if_pos (by simp [h])

variable (hle : leg ≤ top)
include hle

theorem recTake_full (h : recState d r = rFull) : recTake r short m d = legMissed m r leg d := by
  have hidle : ¬ (recState d r = rIdle || top < leg) = true := by simp [h, hle, rFull, rIdle]
  simp only [recTake, hd, hl]
  rw [if_neg hidle, if_pos h]
  rfl

section
variable (hi : recState d r ≠ rIdle) (hf : recState d r ≠ rFull) {e : Dev}
  (he : legWritten m r leg (short || decide (leg + 48 < d.tim.absLeg)) d = e)
include hi hf he

theorem recTake_written :
    recTake r short m d =
      match (recdr e r).trig with
      | some t => if t.last ≤ leg then recEnds r leg t e else e
      | none => e := by
  have hidle : ¬ (recState d r = rIdle || top < leg) = true := by simp [hi, hle]
  subst he
  simp only [recTake, hd, hl]
  rw [if_neg hidle, if_neg hf]
  rfl

theorem recTake_noTrigger (ht : (recdr e r).trig = none) : recTake r short m d = e := by
  rw [recTake_written hd hl hle hi hf he, ht]

theorem recTake_goesOn {t : RTrig} (ht : (recdr e r).trig = some t) (hlast : leg < t.last) : recTake r short m d = e := by
  rw [recTake_written hd hl hle hi hf he, ht]
  exact if_neg (by omega)

theorem recTake_ends {t : RTrig} (ht : (recdr e r).trig = some t) (hlast : t.last ≤ leg) :
    recTake r short m d = recEnds r leg t e := by
  rw [recTake_written hd hl hle hi hf he, ht]
  exact if_pos hlast

end

end

/-! Edges, interval timers and freed slots. -/

/-- The four interval timers, in their order; of any function, so that no use unfolds what a timer does. -/
theorem foldl_four {α : Type} (f : α → Nat → α) (a : α) : [0, 1, 2, 3].foldl f a = f (f (f (f a 0) 1) 2) 3 := rfl

/-- What a recorder's terms keep of an edge: each that names the ball and the edge's direction. -/
def edgeTerms (b : Nat) (level : Bool) (t : Int) (q : Nat) (d : Dev) : List (Nat × Int) :=
  (rdTerms.filter (fun i => rtKind (rdTerm (recdr d q).desc i) == 4 && fld (rdTerm (recdr d q).desc i) 8 3 == b &&
    bitOf (rtEdge (rdTerm (recdr d q).desc i)) (if level then 0 else 1))).map (fun i => (i, t))

/-- An edge as a recorder that is not idle keeps it. -/
def edgeToTerms (b : Nat) (level : Bool) (t : Int) (d : Dev) (q : Nat) : Dev :=
  if recState d q = rIdle then d
  else if edgeTerms b level t q d = [] then d
  else setRecdr q { recdr d q with edges := (recdr d q).edges ++ edgeTerms b level t q d } d

theorem edgeToTerms_eq (b : Nat) (level : Bool) (t : Int) (d : Dev) (q : Nat) :
    edgeToTerms b level t d q =
      if recState d q = rIdle ∨ edgeTerms b level t q d = [] then d
      else setRecdr q { recdr d q with edges := (recdr d q).edges ++ edgeTerms b level t q d } d := by
  by_cases h : recState d q = rIdle
  · rw [edgeToTerms, if_pos h, if_pos (.inl h)]
  · simp only [edgeToTerms, h, false_or, if_false]

section
variable {b : Nat} {level : Bool} {tap : Int} {d : Dev}

theorem trigEdge_ballDisabled (h : d.bitR (Reg.drcTrigCfg b) 8 = false) : trigEdge b level tap d = d :=
  if_pos (by simp [h])

theorem trigEdge_ballEnabled (h : d.bitR (Reg.drcTrigCfg b) 8 = true) {t : Int}
    (ht : (d.tim.absTick : Int) * 320000 + tap - raDiv (sx 32 (d.rn (Reg.drcTrigLat b)) * 24576) 1000000 = t) {e : Dev}
    (he : (List.range 16).foldl (edgeToTerms b level t)
      ((d.wn (Reg.drcTrigLastTc b) (tickCodeOf (t / 320000).toNat)).wn (Reg.drcTrigLastSub b)
        ((t % 320000).toNat + b2n level * 2 ^ 31)) = e) :
    trigEdge b level tap d = itEdge 3 b level t (itEdge 2 b level t (itEdge 1 b level t (itEdge 0 b level t e))) := by
  subst he ht
  rw [trigEdge, if_neg (by simp [h])]
  exact foldl_four ..

end

section
variable {k : Nat} {d : Dev}

theorem itTimeout_notRunning (h : itState d k ≠ 2) : itTimeout k d = d := by
  exact if_pos (by simp [h])

theorem itTimeout_notDue (h : d.tim.absLeg < (itGet d k).2.2 + d.fldR (Reg.drcItCfg k) 16 16) : itTimeout k d = d :=
  if_pos (by simp [h])

theorem itTimeout_due (h : itState d k = 2) (ht : (itGet d k).2.2 + d.fldR (Reg.drcItCfg k) 16 16 ≤ d.tim.absLeg) :
    itTimeout k d = raise 333 none k 0 (itResult 0 false (itGet d k).1.isNone false true k d) :=
  if_neg (by simp [h, ht])

end

theorem recFree_slot {r v : Nat} {d : Dev} (h : bitOf v 31 = false) :
    recFree r v d = setRecdr r { recdr d r with freeNext := fld v 0 8 :: (recdr d r).freeNext } d := by
  simp only [recFree, h, Bool.false_eq_true, if_false]

theorem recFree_all {r v : Nat} {d : Dev} (h : bitOf v 31 = true) :
    recFree r v d = setRecdr r { recdr d r with freeNext := 256 :: (recdr d r).freeNext } d := by
  simp only [recFree, h, if_true]

/-- Settles O55, row by row: a leg by the recorder's state, an edge by its ball, a timer by its state and its time. -/
theorem recorderEvents : Obligations.RecorderEvents := by
  intro s r b k n level short tap v hup d
  refine ⟨fun hr => ?leg, fun hb => ?edge, fun hk => ?timer, fun hr => ?free, fun hn => State.act_onlyIf hup (decide_eq_true hn)
    (fun d => { d with drc := { d.drc with gpio := tput d.drc.gpio n (level, d.tc) } })⟩
  case leg =>
    have hx := exec_recorderLegTake_up hup hr short
    refine ⟨fun h => hx.trans (next_commit (recTake_idle h)), fun h => hx.trans (next_commit (recTake_undeclared h)),
      fun top hd => ⟨fun hl => ?_, fun hle hf => ?_, fun hle hi hf => ⟨fun ht => ?_, fun t ht hlast => ?_, fun t ht hlast => ?_⟩⟩⟩
    · exact hx.trans (next_commit (recTake_notDeclaredYet hd rfl hl))
    · exact hx.trans (next_commit (recTake_full hd rfl hle hf))
    · exact hx.trans (next_commit (recTake_noTrigger hd rfl hle hi hf rfl ht))
    · exact hx.trans (next_commit (recTake_goesOn hd rfl hle hi hf rfl ht hlast))
    · exact hx.trans (next_commit (recTake_ends hd rfl hle hi hf rfl ht hlast))
  case edge =>
    have hx := exec_trigInEdge_up hup hb level tap
    refine ⟨fun h => hx.trans (next_commit (trigEdge_ballDisabled h)), fun h => ?_⟩
    intro t d1 d2
    have hd2 : (List.range 16).foldl (edgeToTerms b level t) d1 = d2 := by
      rw [show edgeToTerms b level t = _ from funext₂ (edgeToTerms_eq b level t)]
      rfl
    exact hx.trans (next_commit (trigEdge_ballEnabled h rfl hd2))
  case timer =>
    have hx := exec_itTimeout_up hup hk
    exact ⟨State.act_onlyIf hup (decide_eq_true hk) (itArm k), State.act_onlyIf hup (decide_eq_true hk) (itCancel k),
      fun h => hx.trans (next_commit (itTimeout_notRunning h)), fun h => hx.trans (next_commit (itTimeout_notDue h)),
      fun h ht => hx.trans (next_commit (itTimeout_due h ht))⟩
  case free =>
    have hx := exec_recordSlotFree_up hup hr v
    exact ⟨fun h => hx.trans (next_commit (recFree_slot h)), fun h => hx.trans (next_commit (recFree_all h))⟩

end Sys2Proof.Machine
end

section
/-! SUPPORT and PROOF. Fields and bits of a register after a write, and from them the latches of sources (15 R443, R447, R451 to R453):
what a raise writes stands outside the status registers, or sets LATCHED in one of them. -/

namespace Sys2Proof.Machine

/-! A word with a field set: the field reads the value, and every other bit as before. -/

theorem putFld_eq (w lo n v : Nat) : putFld w lo n v = 2 ^ lo * (2 ^ n * (w / 2 ^ lo / 2 ^ n) + v % 2 ^ n) + w % 2 ^ lo := by
  have hw : w = 2 ^ lo * (2 ^ n * (w / 2 ^ lo / 2 ^ n) + fld w lo n) + w % 2 ^ lo := by
    rw [fld, Nat.div_add_mod, Nat.div_add_mod]
  have hs : w - fld w lo n * 2 ^ lo = 2 ^ lo * (2 ^ n * (w / 2 ^ lo / 2 ^ n)) + w % 2 ^ lo := by
    rw [Nat.mul_add] at hw
    rw [Nat.mul_comm (fld w lo n)]
    omega
  rw [putFld, hs, Nat.mul_add (2 ^ lo), Nat.mul_comm (v % 2 ^ n)]
  omega

theorem testBit_putFld (w lo n v i : Nat) :
    (putFld w lo n v).testBit i = if lo ≤ i ∧ i < lo + n then v.testBit (i - lo) else w.testBit i := by
  rw [putFld_eq, Nat.testBit_two_pow_mul_add _ (Nat.mod_lt _ (Nat.two_pow_pos lo))]
  by_cases hl : i < lo
  · rw [if_pos hl, if_neg (by omega), Nat.testBit_mod_two_pow]
    simp [hl]
  · rw [if_neg hl, Nat.testBit_two_pow_mul_add _ (Nat.mod_lt _ (Nat.two_pow_pos n))]
    by_cases hn : i - lo < n
    · rw [if_pos hn, if_pos (by omega), Nat.testBit_mod_two_pow]
      simp [hn]
    · rw [if_neg hn, if_neg (by omega), Nat.testBit_div_two_pow, Nat.testBit_div_two_pow]
      congr 1
      omega

theorem fld_putFld_same (w lo n v : Nat) : fld (putFld w lo n v) lo n = v % 2 ^ n := by
  rw [fld, putFld_eq, Nat.mul_add_div (Nat.two_pow_pos lo), Nat.div_eq_of_lt (Nat.mod_lt _ (Nat.two_pow_pos lo)), Nat.add_zero,
    Nat.mul_add_mod, Nat.mod_mod]

/-! So the fields and bits of a register. -/

section
variable {d : Dev} {off lo n v i j : Nat} {b : Bool}

theorem Dev.bitR_eq_testBit (d : Dev) (off i : Nat) : d.bitR off i = (d.rn off).testBit i := bitOf_eq_testBit _ _

theorem Dev.bitR_setF (d : Dev) (off lo n v i : Nat) :
    (d.setF off lo n v).bitR off i = (decide (i < 32) && if lo ≤ i ∧ i < lo + n then v.testBit (i - lo) else d.bitR off i) := by
  rw [Dev.bitR_eq_testBit, Dev.setF, Dev.rn_wn_same, Nat.testBit_mod_two_pow, testBit_putFld, Dev.bitR_eq_testBit]

theorem Dev.bitR_setF_outside (h : i < lo ∨ lo + n ≤ i) : (d.setF off lo n v).bitR off i = d.bitR off i := by
  have hi : 32 ≤ i → d.bitR off i = false := fun hi => by
    rw [Dev.bitR_eq_testBit]
    exact Nat.testBit_lt_two_pow (Nat.lt_of_lt_of_le (d.rn_lt off) (Nat.pow_le_pow_right (by decide) hi))
  rw [Dev.bitR_setF, if_neg (by omega)]
  by_cases h32 : i < 32
  · simp [h32]
  · simp [h32, hi (by omega)]

theorem Dev.fldR_setF_same (h : lo + n ≤ 32) : (d.setF off lo n v).fldR off lo n = v % 2 ^ n := by
  have hlt : putFld (d.rn off) lo n v < 2 ^ 32 := by
    refine Nat.lt_pow_two_of_testBit _ fun i hi => ?_
    rw [testBit_putFld, if_neg (by omega)]
    exact Nat.testBit_lt_two_pow (Nat.lt_of_lt_of_le (d.rn_lt off) (Nat.pow_le_pow_right (by decide) hi))
  rw [Dev.fldR, Dev.setF, Dev.rn_wn_same, Nat.mod_eq_of_lt hlt, fld_putFld_same]

theorem Dev.bitR_setB_same (h : i < 32) : (d.setB off i).bitR off i = true := by
  simp [Dev.setB, Dev.putB, Dev.bitR_setF, h, b2n]

theorem Dev.bitR_clrB_same (d : Dev) (off i : Nat) : (d.clrB off i).bitR off i = false := by
  simp [Dev.clrB, Dev.putB, Dev.bitR_setF, b2n]

theorem Dev.bitR_putB_other (h : j ≠ i) : (d.putB off i b).bitR off j = d.bitR off j :=
  Dev.bitR_setF_outside (by omega)

theorem Dev.rd_wn_other (h : i ≠ off) : (d.wn off v).rd i = d.rd i := Dev.rd_wr_other _ _ _ _ h

theorem Dev.bitR_of_rd {d e : Dev} (h : e.rd off = d.rd off) (i : Nat) : e.bitR off i = d.bitR off i := by
  rw [Dev.bitR, Dev.rn, h]
  rfl

theorem Dev.fldR_of_rd {d e : Dev} (h : e.rd off = d.rd off) (lo n : Nat) : e.fldR off lo n = d.fldR off lo n := by
  rw [Dev.fldR, Dev.rn, h]
  rfl

end

/-! What keeps a latch. -/

/-- A source latched before is latched after. -/
structure LatchKept (k : Nat) (d e : Dev) : Prop where
  stays : d.bitR (Reg.supSrcStatus k) 1 = true → e.bitR (Reg.supSrcStatus k) 1 = true

/-- A register outside the sources' status registers (15 R462): every other one that a raise writes. -/
def OutsideStatus (off : Nat) : Prop := off < 0x41000 ∨ 0x42000 ≤ off

theorem OutsideStatus.ne {off k : Nat} (h : OutsideStatus off) (hk : k < 416) : Reg.supSrcStatus k ≠ off := by
  unfold OutsideStatus at h
  unfold Reg.supSrcStatus
  omega

theorem LatchKept.refl (k : Nat) (d : Dev) : LatchKept k d d := ⟨id⟩

theorem LatchKept.trans {k : Nat} {a b c : Dev} (h : LatchKept k a b) (g : LatchKept k b c) : LatchKept k a c := ⟨g.stays ∘ h.stays⟩

theorem LatchKept.of_rd {k : Nat} {d e : Dev} (h : e.rd (Reg.supSrcStatus k) = d.rd (Reg.supSrcStatus k)) : LatchKept k d e :=
  ⟨(Dev.bitR_of_rd h 1).trans⟩

/-- What leaves every register as it was keeps each latch. -/
theorem LatchKept.of_regs {k : Nat} {d e : Dev} (h : e.regs = d.regs) : LatchKept k d e :=
  .of_rd (congrArg (rfRead · _) h)

theorem LatchKept.ite {k : Nat} {d e f : Dev} {b : Prop} [Decidable b] (h : LatchKept k d e) (g : LatchKept k d f) :
    LatchKept k d (if b then e else f) := by
  split
  · exact h
  · exact g

theorem LatchKept.foldl {k : Nat} {α : Type} {f : Dev → α → Dev} {l : List α} (h : ∀ a ∈ l, ∀ d, LatchKept k d (f d a)) (d : Dev) :
    LatchKept k d (l.foldl f d) := by
  induction l generalizing d with
  | nil => exact .refl k d
  | cons a l ih =>
    exact (h a (List.mem_cons_self ..) d).trans (ih (fun b hb => h b (List.mem_cons_of_mem _ hb)) _)

theorem LatchKept.emit (k : Nat) (d : Dev) (o : Out) : LatchKept k d (d.emit o) := .of_regs rfl
theorem LatchKept.sup (k : Nat) (d : Dev) (x : Sup) : LatchKept k d { d with sup := x } := .of_regs rfl

theorem Dev.storeWords_regs (a : Nat) (ws : List Word) (d : Dev) : (d.storeWords a ws).regs = d.regs := by
  induction ws generalizing a d with
  | nil => rfl
  | cons w ws ih => exact ih (a + 4) _

/-- LATCHED of the same source or another one set. -/
theorem LatchKept.setB_status (k : Nat) (d : Dev) (n i : Nat) : LatchKept k d (d.setB (Reg.supSrcStatus n) i) := by
  refine ⟨fun hd => ?_⟩
  by_cases hn : Reg.supSrcStatus k = Reg.supSrcStatus n
  · rw [hn] at hd ⊢
    by_cases hi : 1 = i
    · subst hi
      exact Dev.bitR_setB_same (by decide)
    · exact (Dev.bitR_putB_other hi).trans hd
  · exact (Dev.bitR_of_rd (Dev.rd_wn_other hn) 1).trans hd

/-- OCCUR of the same source or another one written. -/
theorem LatchKept.setF_status (k : Nat) (d : Dev) (n v : Nat) : LatchKept k d (d.setF (Reg.supSrcStatus n) 16 16 v) := by
  refine ⟨fun hd => ?_⟩
  by_cases hn : Reg.supSrcStatus k = Reg.supSrcStatus n
  · rw [hn] at hd ⊢
    exact (Dev.bitR_setF_outside (by decide)).trans hd
  · exact (Dev.bitR_of_rd (Dev.rd_wn_other hn) 1).trans hd

theorem histRegs_outside (u : Nat) {j : Nat} (hj : j < 9) : OutsideStatus (histRegs u j).1 ∧ OutsideStatus (histRegs u j).2 := by
  unfold histRegs OutsideStatus
  repeat' split
  all_goals
    simp only [Reg.clkHistTc, Reg.clkHistCause, Reg.sbxHistTc, Reg.sbxHistCause, Reg.tgtHistTc, Reg.tgtHistCause, Reg.pubHistTc,
      Reg.pubHistCause, Reg.brcHistTc, Reg.brcHistCause, Reg.stlHistTc, Reg.stlHistCause]
    omega

theorem tgtHistAddr_outside {j : Nat} : OutsideStatus (Reg.tgtHistAddr j) := .inr (by unfold Reg.tgtHistAddr; omega)
theorem supUCnt_outside {u : Nat} : OutsideStatus (Reg.supUCnt u) := .inr (by unfold Reg.supUCnt; omega)
theorem supUFirst_outside {u : Nat} : OutsideStatus (Reg.supUFirst u) := .inr (by unfold Reg.supUFirst; omega)
theorem supUFirstTc_outside {u : Nat} : OutsideStatus (Reg.supUFirstTc u) := .inr (by unfold Reg.supUFirstTc; omega)

/-- What a chain of conditions answers, it answers at one of its places. -/
theorem of_ite_some {α : Type} {p : Prop} [Decidable p] {a r : α} {rest : Option α} {P : α → Prop}
    (h : (if p then some a else rest) = some r) (ha : P a) (hr : rest = some r → P r) : P r := by
  split at h
  · cases h
    exact ha
  · exact hr h

/-- An event register is outside the supervision block's own. -/
theorem evtReg_outsideBlock {n r : Nat} (h : evtReg n = some r) : r < 0x40000 ∨ 0x42000 ≤ r := by
  simp only [evtReg] at h
  by_cases hn : n = 327
  · rw [if_pos hn] at h
    cases h
  rw [if_neg hn] at h
  iterate 20
    refine of_ite_some (P := fun r => r < 0x40000 ∨ 0x42000 ≤ r) h ?_ fun h => ?_
    · simp only [Reg.clkEvt, Reg.timEvt, Reg.rstEvt, Reg.glbEvt, Reg.sbxEvt, Reg.tgtEvt, Reg.cmdEvt, Reg.ethEvt, Reg.swcEvt,
        Reg.sauEvt, Reg.fchEvt, Reg.eenEvt, Reg.hleEvt, Reg.ttbEvt, Reg.pubEvt, Reg.brcEvt, Reg.stlEvt, Reg.drcEvt, Reg.hbrEvt,
        Reg.memCEvt, Reg.rprEvt]
      repeat' split
      all_goals omega
  cases h

theorem evtReg_outside {n r : Nat} (h : evtReg n = some r) : OutsideStatus r :=
  (evtReg_outsideBlock h).imp_left (fun hr => by omega)

theorem evtReg_ne_supClrResult {n r : Nat} (h : evtReg n = some r) : r ≠ Reg.supClrResult := by
  have hb := evtReg_outsideBlock h
  unfold Reg.supClrResult
  omega

section
variable {k : Nat} (hk : k < 416)
include hk

theorem LatchKept.wr {off : Nat} (h : OutsideStatus off) (d : Dev) (v : Word) : LatchKept k d (d.wr off v) :=
  .of_rd (Dev.rd_wr_other _ _ _ _ (h.ne hk))

theorem LatchKept.wn {off : Nat} (h : OutsideStatus off) (d : Dev) (v : Nat) : LatchKept k d (d.wn off v) := .wr hk h ..
theorem LatchKept.setF {off : Nat} (h : OutsideStatus off) (d : Dev) (lo n v : Nat) : LatchKept k d (d.setF off lo n v) := .wn hk h ..
theorem LatchKept.setB {off : Nat} (h : OutsideStatus off) (d : Dev) (i : Nat) : LatchKept k d (d.setB off i) := .setF hk h ..
theorem LatchKept.bump {off : Nat} (h : OutsideStatus off) (d : Dev) : LatchKept k d (d.bump off) := .wn hk h ..

/-! The parts of a raise, in the order of their definitions. -/

theorem histMove_latchKept (u : Nat) {j : Nat} (hj : j < 8) (d : Dev) : LatchKept k d (histMove u j d) := by
  have hb := histRegs_outside u (j := j + 1) (by omega)
  exact .ite (((LatchKept.wr hk hb.1 ..).trans (.wr hk hb.2 ..)).trans (.wr hk tgtHistAddr_outside ..))
    ((LatchKept.wr hk hb.1 ..).trans (.wr hk hb.2 ..))

theorem histPut_latchKept (u : Nat) {p : Nat} (hp : p < 9) (c a : Nat) (d : Dev) : LatchKept k d (histPut u p c a d) := by
  unfold histPut
  extract_lets d1 d2 d3
  have hr := histRegs_outside u hp
  have h1 : LatchKept k d d1 := .ite (.setB hk supUFirst_outside ..) (.refl k d)
  have h2 : LatchKept k d1 d2 := .foldl (fun j hj d => histMove_latchKept hk u (by simp at hj; omega) d) _
  have h3 : LatchKept k d2 d3 := (LatchKept.wn hk hr.1 ..).trans (.wn hk hr.2 ..)
  exact .ite h1 (.ite (((h1.trans h2).trans h3).trans (.wn hk tgtHistAddr_outside ..)) ((h1.trans h2).trans h3))

theorem firstFault_latchKept (n : Nat) (d : Dev) : LatchKept k d (firstFault n d) :=
  .ite (.ite ((LatchKept.setF hk supUFirst_outside ..).trans (.setB hk supUFirst_outside ..)) (.setB hk supUFirst_outside ..))
    ((LatchKept.wn hk supUFirst_outside ..).trans (.wn hk supUFirstTc_outside ..))

end

theorem histPos_lt (u bit : Nat) (d : Dev) : histPos u bit d < 9 := by
  have h := (List.takeWhile_sublist (p := fun k =>
    d.rn (histRegs u k).1 == d.tc && fld (d.rn (histRegs u k).2) 0 4 != 0 && decide (bit < fld (d.rn (histRegs u k).2) 28 4))
    (l := List.range 8)).length_le
  rw [List.length_range] at h
  exact Nat.lt_succ_of_le h

/-! Latching a source: its event bit, then its status, then what records it. -/

/-- The device with a source's event bit and its status set. -/
def statusLatched (n : Nat) (d : Dev) : Dev :=
  let d := match evtReg n with
    | some r => d.setB r (evtBit n)
    | none => d
  (d.setB (Reg.supSrcStatus n) 0).setB (Reg.supSrcStatus n) 1

/-- What latching a source does past its status: occurrences, its unit's count, and its unit's first fault or history. -/
def latchRecorded (n h addr : Nat) (d : Dev) : Dev :=
  let d := d.setF (Reg.supSrcStatus n) 16 16 (min 0xFFFF (d.fldR (Reg.supSrcStatus n) 16 16 + 1))
  let d := { d with sup := { d.sup with occTick := if isCondition n then d.sup.occTick else n :: d.sup.occTick } }
  let d := d.bump (Reg.supUCnt (unitOf n))
  if privileged (unitOf n) then
    if n = 327 then d
    else histPut (unitOf n) (histPos (unitOf n) (srcBit n) d) (histCause n + h + srcBit n * 2 ^ 28) addr d
  else firstFault n d

theorem latchSource_eq (n h addr : Nat) (d : Dev) : latchSource n h addr d = latchRecorded n h addr (statusLatched n d) := rfl

theorem statusLatched_latched (n : Nat) (d : Dev) : (statusLatched n d).bitR (Reg.supSrcStatus n) 1 = true :=
  Dev.bitR_setB_same (by decide)

section
variable {k : Nat} (hk : k < 416)
include hk

theorem statusLatched_latchKept (n : Nat) (d : Dev) : LatchKept k d (statusLatched n d) := by
  unfold statusLatched
  extract_lets d1
  have h1 : LatchKept k d d1 := by
    simp only [d1]
    split
    next r hr => exact .setB hk (evtReg_outside hr) ..
    next => exact .refl k d
  exact (h1.trans (.setB_status ..)).trans (.setB_status ..)

theorem latchRecorded_latchKept (n h a : Nat) (d : Dev) : LatchKept k d (latchRecorded n h a d) := by
  unfold latchRecorded
  extract_lets d1 x d2 d3
  have h1 : LatchKept k d d1 := .setF_status ..
  have h2 : LatchKept k d1 d2 := .sup ..
  have h3 : LatchKept k d d3 := (h1.trans h2).trans (.bump hk supUCnt_outside _)
  exact .ite (.ite h3 (h3.trans (histPut_latchKept hk _ (histPos_lt ..) ..))) (h3.trans (firstFault_latchKept hk ..))

/-! The event recorder, messages and the Module-fatal reaction write other registers. -/

theorem evRepeat_latchKept (p : Nat) (r : EvRec) (d : Dev) : LatchKept k d (evRepeat p r d) :=
  .ite (.sup ..) ((LatchKept.sup ..).trans (.bump hk (.inr (by decide)) _))

theorem evAppend_latchKept (p a b c e : Nat) (d : Dev) : LatchKept k d (evAppend p a b c e d) :=
  (LatchKept.sup ..).trans (.setF hk (.inr (by decide)) ..)

theorem evLog_latchKept (a b c e : Nat) (d : Dev) : LatchKept k d (evLog a b c e d).1 := by
  have hl (d : Dev) : LatchKept k d (d.bump Reg.evrLost) := .bump hk (.inr (by decide)) d
  unfold evLog
  split
  · exact hl d
  · extract_lets p
    split
    · split
      · exact evRepeat_latchKept hk ..
      · split
        · exact hl d
        · exact evAppend_latchKept hk ..
    · split
      · exact hl d
      · exact evAppend_latchKept hk ..

theorem msgWrite_latchKept (t a : Nat) (v : Word) (d : Dev) : LatchKept k d (msgWrite t a v d).1 := by
  unfold msgWrite
  split
  · exact .refl k d
  · simp only []
    split
    · exact (LatchKept.sup ..).trans (.bump hk (.inr (by decide)) _)
    · split
      · exact (LatchKept.sup ..).trans (.of_regs (Dev.storeWords_regs ..))
      · exact (LatchKept.sup ..).trans (.ite (.of_regs rfl) (.emit ..))

theorem moduleFatal_latchKept (n : Nat) (d : Dev) : LatchKept k d (moduleFatal n d) := by
  have hs : OutsideStatus Reg.supMfSource := .inl (by decide)
  have ht : OutsideStatus Reg.supMfTc := .inl (by decide)
  exact (LatchKept.ite (.ite (.setF hk hs ..) (.refl k d)) ((LatchKept.wn hk hs ..).trans (.wn hk ht ..))).trans
    (.of_regs rfl)

/-- What a raise does past latching its source keeps every latch, given that the raises it causes in turn do. -/
theorem raiseF_past_latch {f : Nat} (ih : ∀ n car d0 d1 h a d, LatchKept k d (raiseF f n car d0 d1 h a d)) (n : Nat) (car : Option Nat)
    (d0 d1 h a : Nat) (d : Dev) : LatchKept k (latchSource n h a d) (raiseF (f + 1) n car d0 d1 h a d) := by
  unfold raiseF
  extract_lets d1 cls cfg en r d2 d3 irq d4 d5 src d6
  have hev : OutsideStatus Reg.evrStatus := .inr (by decide)
  have h2 : LatchKept k d1 d2 := .ite (.ite (((evLog_latchKept hk ..).trans (.setB hk hev ..)).trans (ih ..)) (evLog_latchKept hk ..))
    (.refl ..)
  have h3 : LatchKept k d2 d3 := .ite (.emit ..) (.refl ..)
  have hi (t : Nat) (e : Dev) : LatchKept k e (irq t e) :=
    .ite (((msgWrite_latchKept hk ..).trans (ih ..)).trans (ih ..)) (msgWrite_latchKept hk ..)
  have h4 : LatchKept k d3 d4 := .ite (hi ..) (.refl ..)
  have h5 : LatchKept k d4 d5 := .ite (hi ..) (.refl ..)
  have hcar (e : Dev) (m : Nat) : LatchKept k e (match m, car with
    | 2, some c => { e with sup := { e.sup with fatalDis := e.sup.fatalDis ++ [(c, e.tim.absTick)] } }
    | _, _ => e) := by
    split
    · exact .sup ..
    · exact .refl ..
  have h6 : LatchKept k d5 d6 := hcar d5 cls
  exact ((((h2.trans h3).trans h4).trans h5).trans h6).trans (.ite (moduleFatal_latchKept hk ..) (.refl ..))

theorem raiseF_latchKept (f n : Nat) (car : Option Nat) (d0 d1 h a : Nat) (d : Dev) : LatchKept k d (raiseF f n car d0 d1 h a d) := by
  induction f generalizing n car d0 d1 h a d with
  | zero => exact .refl k d
  | succ f ih =>
    have hl : LatchKept k d (latchSource n h a d) := by
      rw [latchSource_eq]
      exact (statusLatched_latchKept hk n d).trans (latchRecorded_latchKept hk n h a _)
    exact hl.trans (raiseF_past_latch hk ih ..)

theorem raise_latchKept (n : Nat) (car : Option Nat) (d0 d1 : Nat) (d : Dev) : LatchKept k d (raise n car d0 d1 d) :=
  .ite (raiseF_latchKept hk ..) (.refl k d)

end

/-- Every source has a status register: none stands past 415 (R446). -/
theorem srcExists_lt {n : Nat} (h : srcExists n = true) : n < 416 := by
  by_contra hn
  have hu : unitOf n = 31 := by
    simp only [unitOf]
    rw [if_neg, if_neg, if_neg, if_neg, if_neg, if_neg] <;> omega
  have hb : srcBit n = n - 408 := by
    rw [srcBit, hu]
    rfl
  have hl : [condD, condM, condD, condM][n - 408]? = none := List.getElem?_eq_none (by simp; omega)
  rw [srcExists, srcKind, hu, hb, unitSources, nth, hl] at h
  cases h

/-- A source that is raised is latched: by itself, and every reaction keeps it. -/
theorem raise_latches {n : Nat} (h : srcExists n = true) (car : Option Nat) (d0 d1 : Nat) (d : Dev) :
    (raise n car d0 d1 d).bitR (Reg.supSrcStatus n) 1 = true := by
  have hn := srcExists_lt h
  rw [raise, raiseH, if_pos h]
  refine (raiseF_past_latch hn (raiseF_latchKept hn 3) ..).stays ?_
  rw [latchSource_eq]
  exact (latchRecorded_latchKept hn ..).stays (statusLatched_latched n d)

/-! A source's clear. -/

theorem exec_sourceClear_up {s : State} (hup : s.dev.up = true) {n : Nat} (hn : n < 416) :
    exec (.sourceClear n) s = .next (s.commit (sourceClear n s.dev)) :=
  State.act_onlyIf hup (decide_eq_true hn) (sourceClear n)

/-- A clear that names no source, within the status registers or past them. -/
theorem exec_sourceClear_noSource {s : State} (hup : s.dev.up = true) {n : Nat} (h : srcExists n = false) :
    exec (.sourceClear n) s = .next (s.commit s.dev) := by
  refine State.act_of_eq hup ?_
  have hc : sourceClear n s.dev = s.dev := if_pos (by simp [h])
  rw [onlyIf, hc, ite_self]

theorem sourceClear_refused {n : Nat} {d : Dev} (h : srcExists n = true) (hp : srcPresent d n = true) :
    sourceClear n d = (d.wn Reg.supClrResult (n + 2 ^ 17)).bump Reg.supClrRefused := by
  rw [sourceClear, if_neg (by simp [h]), if_pos hp]
  rfl

/-- The device with a source's event bit cleared. -/
def eventCleared (n : Nat) (d : Dev) : Dev :=
  match evtReg n with
  | some r => d.clrB r (evtBit n)
  | none => d

/-- The device with a source unlatched and its occurrences 0. -/
def statusCleared (n : Nat) (d : Dev) : Dev := (d.clrB (Reg.supSrcStatus n) 1).setF (Reg.supSrcStatus n) 16 16 0

theorem sourceClear_cleared {n : Nat} {d : Dev} (h : srcExists n = true) (hp : srcPresent d n = false) :
    sourceClear n d = (statusCleared n (eventCleared n d)).wn Reg.supClrResult (n + 2 ^ 16) := by
  rw [sourceClear, if_neg (by simp [h]), if_neg (by simp [hp])]
  rfl

theorem eventCleared_rd_other {n r : Nat} {d : Dev} (h : evtReg n ≠ some r) : (eventCleared n d).rd r = d.rd r := by
  unfold eventCleared
  split
  next r' hr => exact Dev.rd_wn_other (fun e => h (e ▸ hr))
  next => rfl

theorem eventCleared_event {n r : Nat} {d : Dev} (h : evtReg n = some r) : eventCleared n d = d.clrB r (evtBit n) := by
  rw [eventCleared, h]

theorem eventCleared_dramW (n : Nat) (d : Dev) : (eventCleared n d).dramW = d.dramW := by
  unfold eventCleared
  split <;> rfl

theorem statusCleared_rd_other {n r : Nat} {d : Dev} (h : r ≠ Reg.supSrcStatus n) : (statusCleared n d).rd r = d.rd r :=
  (Dev.rd_wn_other h).trans (Dev.rd_wn_other h)

theorem statusCleared_dramW (n : Nat) (d : Dev) : (statusCleared n d).dramW = d.dramW := rfl

theorem statusCleared_latched (n : Nat) (d : Dev) : (statusCleared n d).bitR (Reg.supSrcStatus n) 1 = false :=
  (Dev.bitR_setF_outside (by decide)).trans (Dev.bitR_clrB_same ..)

theorem statusCleared_occur (n : Nat) (d : Dev) : (statusCleared n d).fldR (Reg.supSrcStatus n) 16 16 = 0 :=
  Dev.fldR_setF_same (by decide)

theorem supClrResult_outside : OutsideStatus Reg.supClrResult := .inl (by decide)

theorem State.commit_mem_eq (s : State) (d : Dev) : (s.commit d).mem = memWriteWords s.mem d.dramW := rfl

@[simp] theorem State.commit_bitR (s : State) (d : Dev) (off i : Nat) : (s.commit d).dev.bitR off i = d.bitR off i := rfl

@[simp] theorem State.commit_fldR (s : State) (d : Dev) (off lo n : Nat) : (s.commit d).dev.fldR off lo n = d.fldR off lo n := rfl

/-! A unit's clear. -/

theorem exec_unitClear_up {s : State} (hup : s.dev.up = true) {u : Nat} (hu : u < 32) :
    exec (.unitClear u) s = .next (s.commit (unitClear u s.dev)) :=
  State.act_onlyIf hup (decide_eq_true hu) (unitClear u)

section
variable {u : Nat} {d : Dev}

theorem any_latched_iff :
    (sourcesOf u).any (latched d) = true ↔ ∃ n, n < 416 ∧ unitOf n = u ∧ d.bitR (Reg.supSrcStatus n) 1 = true := by
  simp [sourcesOf, latched]

theorem unitClear_refused (h : ∃ n, n < 416 ∧ unitOf n = u ∧ d.bitR (Reg.supSrcStatus n) 1 = true) :
    unitClear u d = (d.wn Reg.supClrResult (0x1FF + 2 ^ 17)).bump Reg.supClrRefused :=
  if_pos (any_latched_iff.mpr h)

theorem unitClear_cleared (h : ∀ n, n < 416 → unitOf n = u → d.bitR (Reg.supSrcStatus n) 1 = false) {d1 : Dev}
    (hd : (d.wn (Reg.supUFirst u) 0).wn (Reg.supUFirstTc u) 0 = d1) :
    unitClear u d = (if privileged u = true then histEmpty u d1 else d1).wn Reg.supClrResult (0x1FF + 2 ^ 16) := by
  subst hd
  have hn : ¬ (sourcesOf u).any (latched d) = true := by
    rw [any_latched_iff]
    rintro ⟨n, hn, hu, hl⟩
    exact Bool.false_ne_true ((h n hn hu).symm.trans hl)
  rw [unitClear, if_neg hn]

end

/-- Settles O57: a raise latches its source, and all else that it writes keeps each latch; a clear by the cause, the registers of a source
being apart; a unit's clear by its latches. -/
theorem sourceLatches : Obligations.SourceLatches := by
  refine ⟨fun n car d0 d1 d h => raise_latches h car d0 d1 d, fun k n car d0 d1 d hk => (raise_latchKept hk n car d0 d1 d).stays, ?_⟩
  intro s n u hup d
  refine ⟨fun h => exec_sourceClear_noSource hup h, fun h hp => ?refused, fun h hp => ?cleared, fun hu => ⟨?_, ?_⟩⟩
  case refused => rw [exec_sourceClear_up hup (srcExists_lt h), sourceClear_refused h hp]
  case cleared =>
    have hn := srcExists_lt h
    have hne : Reg.supSrcStatus n ≠ Reg.supClrResult := supClrResult_outside.ne hn
    refine ⟨_, (exec_sourceClear_up hup hn).trans (next_commit (sourceClear_cleared h hp)), ?_, ?_, ?_, ?_, ?_, ?_⟩
    · rw [State.commit_bitR, Dev.bitR_of_rd (Dev.rd_wn_other hne), statusCleared_latched]
    · rw [State.commit_fldR, Dev.fldR_of_rd (Dev.rd_wn_other hne), statusCleared_occur]
    · rw [State.commit_rn, Dev.rn_wn_same]
      omega
    · rw [State.commit_mem_eq, Dev.wn_dramW, statusCleared_dramW, eventCleared_dramW]
    · intro r hs hc he
      rw [State.commit_rd, Dev.rd_wn_other hc, statusCleared_rd_other hs, eventCleared_rd_other he]
    · intro r hr
      have hs : r ≠ Reg.supSrcStatus n := ((evtReg_outside hr).ne hn).symm
      have hrd : (sourceClear n d).rd r = (d.clrB r (evtBit n)).rd r := by
        rw [sourceClear_cleared h hp, Dev.rd_wn_other (evtReg_ne_supClrResult hr), statusCleared_rd_other hs, eventCleared_event hr]
      rw [← sourceClear_cleared h hp]
      refine ⟨?_, fun i hi => ?_⟩
      · rw [State.commit_bitR, Dev.bitR_of_rd hrd, Dev.bitR_clrB_same]
      · rw [State.commit_bitR, Dev.bitR_of_rd hrd]
        exact Dev.bitR_putB_other hi
  · exact fun hl => (exec_unitClear_up hup hu).trans (next_commit (unitClear_refused hl))
  · exact fun hl => (exec_unitClear_up hup hu).trans (next_commit (unitClear_cleared hl rfl))

end Sys2Proof.Machine
end

section
/-! SUPPORT and PROOF. Waybills (12 R355, R358, R361, R367, R368, R370, R371; 11 R345): one taken, one sent, and the line gone silent. -/

namespace Sys2Proof.Machine

/-! The rows on a device that runs. -/

section
variable {s : State} (hup : s.dev.up = true) {ch : Nat} (hch : ch < 2)
include hup hch

theorem exec_waybillRx_up (w : Waybill) : exec (.waybillRx ch w) s = .next (s.commit (waybillRx ch w s.dev)) :=
  State.act_onlyIf hup (decide_eq_true hch) (waybillRx ch w)

theorem exec_waybillTx_up : exec (.waybillTx ch) s = .next (s.commit (waybillTx ch s.dev)) :=
  State.act_onlyIf hup (decide_eq_true hch) (waybillTx ch)

theorem exec_waybillLoss_up : exec (.waybillLoss ch) s = .next (s.commit (waybillLoss ch s.dev)) :=
  State.act_onlyIf hup (decide_eq_true hch) (waybillLoss ch)

theorem exec_coldStartTimeout_up : exec (.coldStartTimeout ch) s = .next (s.commit (coldStart ch s.dev)) :=
  State.act_onlyIf hup (decide_eq_true hch) (coldStart ch)

theorem exec_backupWaybill_up (heard : Bool) : exec (.backupWaybill ch heard) s = .next (s.commit (backupWaybill ch heard s.dev)) :=
  State.act_onlyIf hup (decide_eq_true hch) (backupWaybill ch heard)

end

/-! Reception. -/

section
variable {ch : Nat} {w : Waybill} {d : Dev}

theorem waybillRx_off (h : stlOn d = false ∨ nState d ch = nOff) : waybillRx ch w d = d :=
  if_pos (by simpa using h)

variable (ho : stlOn d = true) (hs : nState d ch ≠ nOff)
include ho hs

theorem waybillRx_badCrc (hc : w.crcOk = false) : waybillRx ch w d = d.bump (Reg.stlNCrcErr ch) := by
  rw [waybillRx, if_neg (by simp [ho, hs]), if_pos (by simp [hc])]

variable (hc : w.crcOk = true)
include hc

theorem waybillRx_discarded (h : w.seat ≠ 0 ∨ wbAstray d ch w = true) : waybillRx ch w d = d := by
  rw [waybillRx, if_neg (by simp [ho, hs]), if_neg (by simp [hc]), if_pos (by simpa using h)]

/-- An accepted Waybill: first the claim of its sender, then the node's state, then the Waybill kept and shown. -/
theorem waybillRx_accepted (h0 : w.seat = 0) (ha : wbAstray d ch w = false) {d1 : Dev}
    (hd1 : (if w.active = true ∧ w.node ≤ 1 ∧ w.node ≠ selfNode d ∧ claimWins d w.node w.term = true then termLost roleResync d else d)
      = d1) {d2 : Dev}
    (hd2 : (if nState d1 ch = nSync ∧ wbState d1 ch w = nIntegrating then d1.bump (Reg.stlNReint ch) else d1) = d2) :
    waybillRx ch w d = chanSeen ch true (wbShow ch w (wbTake ch w (setNState ch (wbState d1 ch w) d2))) := by
  subst hd1 hd2
  rw [waybillRx, if_neg (by simp [ho, hs]), if_neg (by simp [hc]), if_neg (by simp [h0, ha])]
  simp only [Bool.and_eq_true, decide_eq_true_eq, ne_eq, and_assoc]

end

/-! The line gone silent. -/

section
variable {ch : Nat} {d : Dev}

theorem waybillLoss_lost (h : stlOn d = true ∧ 8 ≤ (stlN d ch).missed ∧ nIntegrating ≤ nState d ch) :
    waybillLoss ch d = masterUpd (chanSeen ch false (setNState ch nListen (setStlN ch { stlN d ch with
      master := false, backup := false, hand := none, takeFrom := none, since := d.tim.absTick } d))) := by
  obtain ⟨ho, hm, hs⟩ := h
  exact if_neg (by simp [ho, hm, hs])

theorem waybillLoss_heard (h : ¬ (stlOn d = true ∧ 8 ≤ (stlN d ch).missed ∧ nIntegrating ≤ nState d ch)) : waybillLoss ch d = d := by
  exact if_pos (by_contra fun hn => h (by simpa [and_assoc] using hn))

/-! Sending. -/

/-- The hand-over of a master whose leg has passed. -/
def handedOver (d : Dev) (ch : Nat) : Prop := ∃ k x, (stlN d ch).hand = some (k, x) ∧ k < d.tim.absLeg

/-- Why a node that is not COLD sends: it is master, claims seat 0 or takes it from this leg. -/
def waybillDue (d : Dev) (ch : Nat) : Prop :=
  (stlN d ch).master = true ∨ claimsSeat0 d ch = true ∨ ∃ k, (stlN d ch).takeFrom = some k ∧ k ≤ d.tim.absLeg

/-- Whether a master's hand-over has passed, as the row finds it. -/
def isHandedOver (d : Dev) (ch : Nat) : Bool :=
  match (stlN d ch).hand with
  | some (l, _) => decide (l < d.tim.absLeg)
  | none => false

/-- Whether a node sends, as the row finds it. -/
def isWaybillDue (d : Dev) (ch : Nat) : Bool :=
  (stlN d ch).master || nState d ch == nCold || claimsSeat0 d ch ||
    (match (stlN d ch).takeFrom with | some l => decide (l ≤ d.tim.absLeg) | none => false)

theorem isHandedOver_iff : isHandedOver d ch = true ↔ handedOver d ch := by
  unfold isHandedOver handedOver
  cases (stlN d ch).hand <;> simp [Prod.ext_iff]

theorem isWaybillDue_iff : isWaybillDue d ch = true ↔ nState d ch = nCold ∨ waybillDue d ch := by
  unfold isWaybillDue waybillDue
  cases (stlN d ch).takeFrom <;> simp <;> tauto

theorem waybillTx_eq (ch : Nat) (d : Dev) :
    waybillTx ch d =
      if !mayMaster d || (stlN d ch).txLeg = some d.tim.absLeg then d
      else if isHandedOver d ch then masterUpd (setStlN ch { stlN d ch with master := false, hand := none } d)
      else if !isWaybillDue d ch then d
      else masterUpd (sendWaybill ch false 0 (setStlN ch
        (if nState d ch = nCold then stlN d ch else { stlN d ch with master := true, takeFrom := none }) d)) := rfl

theorem waybillTx_mayNot (h : ¬ (mayMaster d = true ∧ (stlN d ch).txLeg ≠ some d.tim.absLeg)) : waybillTx ch d = d :=
  if_pos (by_contra fun hn => h (by simpa using hn))

section
variable (hm : mayMaster d = true ∧ (stlN d ch).txLeg ≠ some d.tim.absLeg)
include hm

theorem waybillTx_handedOver (hl : handedOver d ch) :
    waybillTx ch d = masterUpd (setStlN ch { stlN d ch with master := false, hand := none } d) := by
  rw [waybillTx_eq, if_neg (by simp [hm]), if_pos (isHandedOver_iff.mpr hl)]

variable (hl : ¬ handedOver d ch)
include hl

theorem waybillTx_cold (hc : nState d ch = nCold) :
    waybillTx ch d = masterUpd (sendWaybill ch false 0 (setStlN ch (stlN d ch) d)) := by
  have hdue := isWaybillDue_iff.mpr (.inl hc)
  rw [waybillTx_eq, if_neg (by simp [hm]), if_neg (mt isHandedOver_iff.mp hl), if_neg (by simp [hdue]), if_pos hc]

theorem waybillTx_due (hc : nState d ch ≠ nCold) (hw : waybillDue d ch) :
    waybillTx ch d = masterUpd (sendWaybill ch false 0 (setStlN ch { stlN d ch with master := true, takeFrom := none } d)) := by
  have hdue := isWaybillDue_iff.mpr (.inr hw)
  rw [waybillTx_eq, if_neg (by simp [hm]), if_neg (mt isHandedOver_iff.mp hl), if_neg (by simp [hdue]), if_neg hc]

theorem waybillTx_notDue (hc : nState d ch ≠ nCold) (hw : ¬ waybillDue d ch) : waybillTx ch d = d := by
  have hdue := mt isWaybillDue_iff.mp (not_or.mpr ⟨hc, hw⟩)
  rw [waybillTx_eq, if_neg (by simp [hm]), if_neg (mt isHandedOver_iff.mp hl), if_pos (by simpa using hdue)]

end

/-! The first Waybill of a silent line. -/

/-- When a node starts a line on its own: in LISTEN since 32 ticks, or 64 on the second channel's node (R370). -/
def coldStartDue (d : Dev) (ch : Nat) : Prop :=
  mayMaster d = true ∧ d.bitR Reg.stlCtrl 2 = true ∧ nState d ch = nListen ∧
    (stlN d ch).since + (if selfNode d = 0 then 32 else 64) ≤ d.tim.absLeg * 16

theorem coldStart_due (h : coldStartDue d ch) : coldStart ch d = sendWaybill ch false 0 (raise 317 none ch 0 (setNState ch nCold d)) := by
  obtain ⟨hm, hb, hs, ht⟩ := h
  exact if_neg (by simp [hm, hb, hs, ht])

theorem coldStart_notDue (h : ¬ coldStartDue d ch) : coldStart ch d = d :=
  if_pos (by_contra fun hn => h (by simpa [and_assoc, coldStartDue] using hn))

/-- When a backup position may send: the master was not heard, and the node is paired, in SYNC and has not sent (R371). -/
def backupFree (d : Dev) (ch : Nat) (heard : Bool) : Prop :=
  mayMaster d = true ∧ d.bitR Reg.stlCtrl 3 = true ∧ nState d ch = nSync ∧ heard = false ∧ (stlN d ch).missed ≠ 0 ∧
    (stlN d ch).lastLeg ≠ d.tim.absLeg ∧ (brcRole d = roleActive ∨ brcRole d = roleStandby) ∧ (stlN d ch).txLeg ≠ some d.tim.absLeg

section
variable {heard : Bool}

theorem backupWaybill_noLast (h : (stlN d ch).last = none) : backupWaybill ch heard d = d := by
  simp only [backupWaybill, h]

variable {l : Waybill} (hl : (stlN d ch).last = some l)
include hl

theorem backupWaybill_noPosition (hp : backupPos l.backup (selfNode d) = none) : backupWaybill ch heard d = d := by
  simp only [backupWaybill, hl, hp]

theorem backupWaybill_notFree (hf : ¬ backupFree d ch heard) : backupWaybill ch heard d = d := by
  simp only [backupWaybill, hl]
  split
  next => rfl
  next => exact if_pos (by_contra fun hn => hf (by simpa [and_assoc, backupFree, or_iff_not_imp_left] using hn))

theorem backupWaybill_free {k : Nat} (hp : backupPos l.backup (selfNode d) = some k) (hf : backupFree d ch heard) :
    backupWaybill ch heard d =
      masterUpd (sendWaybill ch true (k * 2560) (setStlN ch { stlN d ch with master := true, backup := true } d)) := by
  obtain ⟨hm, hb, hs, hh, h0, hleg, hr, ht⟩ := hf
  simp only [backupWaybill, hl, hp]
  exact if_neg (by simp [hm, hb, hs, hh, h0, hleg, ht]; tauto)

end

end

/-- Settles O39, row by row: reception by the Waybill's checks, sending by the node's part in its line, and each first Waybill by its
conditions. -/
theorem waybills : Obligations.Waybills := by
  intro s ch w heard hup hch d n leg
  refine ⟨?off, fun ho hs => ⟨?_, ?_, ?accepted⟩, ⟨?_, ?_⟩, ?send, ⟨?_, ?_⟩, ?backup⟩
  case off => exact fun h => (exec_waybillRx_up hup hch w).trans (next_commit (waybillRx_off h))
  · exact fun hc => (exec_waybillRx_up hup hch w).trans (next_commit (waybillRx_badCrc ho hs hc))
  · exact fun hc h => (exec_waybillRx_up hup hch w).trans (next_commit (waybillRx_discarded ho hs hc h))
  case accepted =>
    exact fun hc h0 ha => (exec_waybillRx_up hup hch w).trans (next_commit (waybillRx_accepted ho hs hc h0 ha rfl rfl))
  · exact fun h => (exec_waybillLoss_up hup hch).trans (next_commit (waybillLoss_lost h))
  · exact fun h => (exec_waybillLoss_up hup hch).trans (next_commit (waybillLoss_heard h))
  case send =>
    have hx := exec_waybillTx_up hup hch
    exact ⟨fun h => hx.trans (next_commit (waybillTx_mayNot h)), fun hm hl => hx.trans (next_commit (waybillTx_handedOver hm hl)),
      fun hm hl hc => ⟨fun hw => hx.trans (next_commit (waybillTx_due hm hl hc hw)),
        fun hw => hx.trans (next_commit (waybillTx_notDue hm hl hc hw))⟩,
      fun hm hl hc => hx.trans (next_commit (waybillTx_cold hm hl hc))⟩
  · exact fun h => (exec_coldStartTimeout_up hup hch).trans (next_commit (coldStart_due h))
  · exact fun h => (exec_coldStartTimeout_up hup hch).trans (next_commit (coldStart_notDue h))
  case backup =>
    have hx := exec_backupWaybill_up hup hch heard
    exact ⟨fun l k hl hp hf => hx.trans (next_commit (backupWaybill_free hl hp hf)),
      fun l hl h => hx.trans (next_commit (h.elim (backupWaybill_noPosition hl) (backupWaybill_notFree hl))),
      fun h => hx.trans (next_commit (backupWaybill_noLast h))⟩

end Sys2Proof.Machine
end

section
/-! SUPPORT and PROOF. Seats and status frames (09 R282; 12 R352, R355, R358, R366, R372, R375, R376, R382): what a node sends and keeps, and
the claims that a master takes. -/

namespace Sys2Proof.Machine

/-! The rows on a device that runs. -/

section
variable {s : State} (hup : s.dev.up = true) {ch : Nat} (hch : ch < 2)
include hup hch

theorem exec_seatTx_up {seat prio : Nat} (hs : seat < 48) (hp : prio < 256) (payload : List Nat) :
    exec (.seatTx ch seat prio payload) s = .next (s.commit (seatTx ch seat prio payload s.dev)) :=
  State.act_onlyIf hup (by simp [hch, hs, hp]) (seatTx ch seat prio payload)

theorem exec_seatFrameRx_up (f : SeatFrame) : exec (.seatFrameRx ch f) s = .next (s.commit (seatRx ch f s.dev)) :=
  State.act_onlyIf hup (decide_eq_true hch) (seatRx ch f)

theorem exec_statusFrameTx_up : exec (.statusFrameTx ch) s = .next (s.commit (statusTx ch s.dev)) :=
  State.act_onlyIf hup (decide_eq_true hch) (statusTx ch)

theorem exec_statusFrameRx_up (g : StatusFrame) : exec (.statusFrameRx ch g) s = .next (s.commit (statusRx ch g s.dev)) :=
  State.act_onlyIf hup (decide_eq_true hch) (statusRx ch g)

end

theorem exec_claimProcess_up {s : State} (hup : s.dev.up = true) : exec .claimProcess s = .next (s.commit (claimProcess s.dev)) :=
  State.act_up s claimProcess hup

/-! A seat sent. -/

/-- What lets a node send in the seat of an entry: it is in SYNC, its loop is within its limit, it owns the seat and speaks the version. -/
def seatMay (d : Dev) (ch e : Nat) : Prop :=
  stlOn d = true ∧ nState d ch = nSync ∧ loopOk d ch = true ∧ ownsSeat d e = true ∧ stlVersion d ≤ stlVmaxOwn d

/-- The header of a seat's frame with a payload of `len` octets (R358). -/
def seatHdr (d : Dev) (ch seat prio e len : Nat) : List Nat :=
  [3, stlVersion d, selfNode d, seat, busPos d ch % 240, if seKind e = 1 then prio else 0, len, busPos d ch / 240,
    d.rn Reg.brcTerm, b2n (d.mode == modeMaintenance) + 2 * b2n (brcRole d == roleActive)]

/-- The device that notes the trip seat just sent. -/
def tripNoted (seat : Nat) (d : Dev) : Dev :=
  if d.stl.tripSent.contains seat then d else { d with stl := { d.stl with tripSent := seat :: d.stl.tripSent } }

theorem tripNoted_eq (seat : Nat) (d : Dev) :
    (if !d.stl.tripSent.contains seat then { d with stl := { d.stl with tripSent := seat :: d.stl.tripSent } } else d) =
      tripNoted seat d := by
  unfold tripNoted
  cases d.stl.tripSent.contains seat <;> rfl

section
variable {ch seat prio : Nat} {payload : List Nat} {d : Dev}

theorem seatTx_noEntry (he : seatEntry d ch seat = none) : seatTx ch seat prio payload d = d := by
  simp only [seatTx, he]

variable {e : Nat} (he : seatEntry d ch seat = some e)
include he

theorem seatTx_mayNot (hm : ¬ seatMay d ch e) : seatTx ch seat prio payload d = d := by
  simp only [seatTx, he]
  refine if_pos (by_contra fun hn => hm ?_)
  simp only [Bool.or_eq_true, not_or, Bool.not_eq_true', Bool.not_eq_false, decide_eq_true_eq, not_not, not_lt] at hn
  obtain ⟨⟨⟨⟨⟨ho, hs⟩, hl⟩, hw⟩, hv⟩, -⟩ := hn
  exact ⟨ho, hs, hl, hw, hv⟩

theorem seatTx_noTrip (ht : isTripSeat d seat = true) (hx : tripTx d = false) : seatTx ch seat prio payload d = d := by
  simp only [seatTx, he]
  exact if_pos (by simp [ht, hx])

variable (hm : seatMay d ch e)
include hm

theorem seatTx_payload (ht : isTripSeat d seat = false) :
    seatTx ch seat prio payload d = d.emit (.stl ch seat (seatHdr d ch seat prio e payload.length ++ payload)) := by
  obtain ⟨ho, hs, hl, hw, hv⟩ := hm
  simp only [seatTx, he, ht]
  rw [if_neg (by simp [ho, hs, hl, hw, hv])]
  rfl

theorem seatTx_trip (ht : isTripSeat d seat = true) (hx : tripTx d = true) :
    seatTx ch seat prio payload d = tripNoted seat (d.emit (.stl ch seat (seatHdr d ch seat prio e 2048 ++ tripPayload d seat))) := by
  obtain ⟨ho, hs, hl, hw, hv⟩ := hm
  simp only [seatTx, he, ht, if_true, Bool.true_and]
  rw [if_neg (by simp [ho, hs, hl, hw, hv, hx])]
  exact tripNoted_eq ..

end

/-! A seat received. -/

/-- Whether a seat's frame is one of this leg, of a version that the node speaks (R355, R358). -/
def seatFits (d : Dev) (ch : Nat) (f : SeatFrame) : Prop :=
  f.version ≤ stlVmaxOwn d ∧ f.seat ≠ 0 ∧ f.seat ≤ 47 ∧ f.route * 240 + f.leg = busPos d ch

/-- The device that acknowledges a seat on a channel. -/
def seatAcked (ch seat : Nat) (d : Dev) : Dev :=
  setStlN ch { stlN d ch with acks := seat :: (stlN d ch).acks.filter (fun s => s != seat) } d

/-- The device that keeps a seat's first copy. -/
def seatKept (f : SeatFrame) (d : Dev) : Dev :=
  { d with stl := { d.stl with rx := tput d.stl.rx f.seat f.payload, got := f.seat :: d.stl.got,
                               fresh := f.seat :: d.stl.fresh.filter (fun s => s != f.seat) } }

section
variable {ch : Nat} {f : SeatFrame} {d : Dev}

theorem seatRx_off (h : stlOn d = false ∨ nState d ch < nIntegrating) : seatRx ch f d = d :=
  if_pos (by simpa using h)

variable (ho : stlOn d = true) (hs : nIntegrating ≤ nState d ch)
include ho hs

theorem seatRx_badCrc (hc : f.crcOk = false) : seatRx ch f d = d.bump (Reg.stlNCrcErr ch) := by
  rw [seatRx, if_neg (by simp [ho, hs]), if_pos (by simp [hc])]

variable (hc : f.crcOk = true)
include hc

theorem seatRx_noFit (hf : ¬ seatFits d ch f) : seatRx ch f d = d := by
  rw [seatRx, if_neg (by simp [ho, hs]), if_neg (by simp [hc])]
  exact if_pos (by_contra fun hn => hf (by simpa [and_assoc, seatFits] using hn))

variable (hf : seatFits d ch f) {d1 : Dev} (h1 : seatAcked ch f.seat d = d1)
include hf h1

theorem seatRx_fits :
    seatRx ch f d =
      if d1.stl.got.contains f.seat then d1
      else
        match seatEntry (seatKept f d1) ch f.seat with
        | some e => if seKind e = 1 then (seatKept f d1).emit (.note 373 (f.node :: f.prio :: f.payload)) else seatKept f d1
        | none => seatKept f d1 := by
  obtain ⟨hv, h0, h47, hp⟩ := hf
  subst h1
  rw [seatRx, if_neg (by simp [ho, hs]), if_neg (by simp [hc]), if_neg (by simp [hv, h0, h47, hp])]
  rfl

theorem seatRx_secondCopy (hg : d1.stl.got.contains f.seat = true) : seatRx ch f d = d1 := by
  rw [seatRx_fits ho hs hc hf h1, if_pos hg]

variable (hg : d1.stl.got.contains f.seat = false)
include hg

theorem seatRx_noEntry (he : seatEntry (seatKept f d1) ch f.seat = none) : seatRx ch f d = seatKept f d1 := by
  rw [seatRx_fits ho hs hc hf h1, if_neg (Bool.eq_false_iff.mp hg), he]

theorem seatRx_entry {e : Nat} (he : seatEntry (seatKept f d1) ch f.seat = some e) :
    seatRx ch f d = if seKind e = 1 then (seatKept f d1).emit (.note 373 (f.node :: f.prio :: f.payload)) else seatKept f d1 := by
  rw [seatRx_fits ho hs hc hf h1, if_neg (Bool.eq_false_iff.mp hg), he]

end

/-! Status frames. -/

section
variable {ch : Nat} {d : Dev}

theorem statusTx_sync (ho : stlOn d = true) (hs : nState d ch = nSync) :
    statusTx ch d = d.emit (.stl ch 48 [4, selfNode d, nSync + 8 * b2n (loopOk d ch) + 16 * brcRole d + 128 * b2n (asksMaster d ch),
      stlVmaxOwn d, 0, 0, 0, ackBits (stlN d ch), d.rn Reg.brcTerm]) := by
  rw [statusTx, if_neg (by simp [ho, hs])]

theorem statusTx_notSync (h : stlOn d = false ∨ nState d ch ≠ nSync) : statusTx ch d = d :=
  if_pos (by simpa using h)

variable {g : StatusFrame}

theorem statusRx_off (h : stlOn d = false ∨ nState d ch < nIntegrating) : statusRx ch g d = d :=
  if_pos (by simpa using h)

/-- The loop's length as a node's own echo shows it. -/
def loopTaken (ch : Nat) (g : StatusFrame) (d : Dev) : Dev :=
  if g.node = selfNode d then
    (d.wn (Reg.stlNLoop ch) (wrapN 32 ((d.rn (Reg.stlNLoop ch) : Int) + g.arrival * 1000))).putB (Reg.stlNStatus ch) 3
      (g.arrival.natAbs ≤ 20)
  else d

/-- What a status frame records: version, presence, acknowledgements and a claim not yet waiting. -/
def statusNoted (g : StatusFrame) (d : Dev) : Dev :=
  { d with stl := { d.stl with
    vmax := tput d.stl.vmax g.node (g.vmax, d.tim.absRoute), heard := tput d.stl.heard g.node d.tim.absLeg,
    acked := d.stl.acked ++ g.acks.map (fun s => (s, g.node)),
    claimQ := if g.claimOp = 0 ∨ d.stl.claimQ.contains (g.claimOp, g.node, g.claimIdx) = true then d.stl.claimQ
      else d.stl.claimQ ++ [(g.claimOp, g.node, g.claimIdx)] } }

/-- Whether another node asks the master, who has handed over to none yet, for seat 0. -/
def asksForSeat0 (g : StatusFrame) (d : Dev) (ch : Nat) : Prop :=
  g.masterReq = true ∧ (stlN d ch).master = true ∧ g.node ≠ selfNode d ∧ (stlN d ch).hand = none

variable (ho : stlOn d = true) (hs : nIntegrating ≤ nState d ch)
include ho hs

theorem statusRx_badCrc (hc : g.crcOk = false) : statusRx ch g d = d.bump (Reg.stlNCrcErr ch) := by
  rw [statusRx, if_neg (by simp [ho, hs]), if_pos (by simp [hc])]

variable (hc : g.crcOk = true) {e : Dev} (he : statusNoted g (loopTaken ch g d) = e)
include hc he

theorem statusRx_taken :
    statusRx ch g d =
      if g.masterReq && (stlN e ch).master && g.node ≠ selfNode e && (stlN e ch).hand.isNone then
        setStlN ch { stlN e ch with hand := some (e.tim.absLeg + 1, g.node) } e
      else e := by
  subst he
  rw [statusRx, if_neg (by simp [ho, hs]), if_neg (by simp [hc])]
  simp only [statusNoted, Bool.or_eq_true, decide_eq_true_eq]
  rfl

theorem statusRx_asks (ha : asksForSeat0 g e ch) :
    statusRx ch g d = setStlN ch { stlN e ch with hand := some (e.tim.absLeg + 1, g.node) } e := by
  obtain ⟨h1, h2, h3, h4⟩ := ha
  rw [statusRx_taken ho hs hc he, if_pos (by simp [h1, h2, h3, h4])]

theorem statusRx_asksNot (ha : ¬ asksForSeat0 g e ch) : statusRx ch g d = e := by
  rw [statusRx_taken ho hs hc he, if_neg fun hn => ha (by simpa [asksForSeat0, and_assoc] using hn)]

end

/-! Claims. -/

/-- The device whose claims are all taken from the queue. -/
def claimsDrawn (d : Dev) : Dev := { d with stl := { d.stl with claimQ := [] } }

/-- The master of protocol 2 decides on claims (R376). -/
def rulesClaims (d : Dev) : Prop := ((stlN d 0).master = true ∨ (stlN d 1).master = true) ∧ stlVersion d = 2

/-- The last leg before a switch of tables: claims are for the next one. -/
abbrev lastBeforeSwitch (d : Dev) : Prop :=
  d.tim.absLeg % 240 = 239 ∧ d.bitR Reg.stlTblCtrl 0 = true ∧ (d.tim.absRoute + 1) % 2 ^ 20 = d.fldR Reg.stlTblCtrl 8 20

/-- The device with the releases of a queue taken, in their order. -/
def releasesTaken (q : List (Nat × Nat × Nat)) (d : Dev) : Dev :=
  (q.filter (fun x => x.1 == 2)).foldl (fun d x => claimRelease x.2.1 x.2.2 d) d

/-- The device with the seats of nodes absent for 8 legs released; `d` says who was heard. -/
def absentReleased (d : Dev) : Dev :=
  (tkeys d.stl.owners).foldl (fun e i =>
    if (ownerNext e i != 31 && tget 0 d.stl.heard (ownerNext e i) + 8 ≤ d.tim.absLeg) = true then claimRelease (ownerNext e i) i e
    else e) d

/-- The device with the claims of a queue taken, in ascending node, against a table. -/
def claimsTaken (q : List (Nat × Nat × Nat)) (t : List Nat) (d : Dev) : Dev :=
  (isort (fun a b : Nat × Nat × Nat => a.2.1 ≤ b.2.1) (q.filter (fun x => x.1 == 1))).foldl (fun d x => claimTake t x.2.1 x.2.2 d) d

section
variable {d e : Dev} (he : claimsDrawn d = e)
include he

theorem claimProcess_eq :
    claimProcess d =
      if !((stlN e 0).master || (stlN e 1).master) || stlVersion e ≠ 2 then e
      else claimsTaken d.stl.claimQ
        (if e.tim.absLeg % 240 == 239 && e.bitR Reg.stlTblCtrl 0 && (e.tim.absRoute + 1) % 2 ^ 20 == e.fldR Reg.stlTblCtrl 8 20 then
          nextTable e else ownTable e)
        (absentReleased (releasesTaken d.stl.claimQ e)) := by
  subst he
  rfl

theorem claimProcess_dropped (h : ¬ rulesClaims e) : claimProcess d = e := by
  rw [claimProcess_eq he]
  exact if_pos (by_contra fun hn => h (by simpa [rulesClaims, or_iff_not_imp_left] using hn))

theorem claimProcess_ruled (h : rulesClaims e) :
    claimProcess d = claimsTaken d.stl.claimQ (if lastBeforeSwitch e then nextTable e else ownTable e)
      (absentReleased (releasesTaken d.stl.claimQ e)) := by
  obtain ⟨hm, hv⟩ := h
  have hm' : ((stlN e 0).master || (stlN e 1).master) = true := Bool.or_eq_true_iff.mpr hm
  rw [claimProcess_eq he, hm', hv, if_neg (by decide)]
  simp only [Bool.and_eq_true, beq_iff_eq, and_assoc]

end

/-- Settles O40, row by row. -/
theorem seatsAndStatus : Obligations.SeatsAndStatus := by
  intro s ch seat prio payload f g hup hch d n
  refine ⟨fun hs hp => ?tx, ?off, fun ho hs => ?rx, ?_, ?_, fun ho hs => ?status, ?claims⟩
  case tx =>
    have hx := exec_seatTx_up hup hch hs hp payload
    exact ⟨fun he => hx.trans (next_commit (seatTx_noEntry he)), fun e he =>
      ⟨fun hm => hx.trans (next_commit (seatTx_mayNot he hm)), fun hm ht => hx.trans (next_commit (seatTx_payload he hm ht)),
        fun ht ht' => hx.trans (next_commit (seatTx_noTrip he ht ht')), fun hm ht ht' => hx.trans (next_commit (seatTx_trip he hm ht ht'))⟩⟩
  case off =>
    exact fun h => ⟨(exec_seatFrameRx_up hup hch f).trans (next_commit (seatRx_off h)),
      (exec_statusFrameRx_up hup hch g).trans (next_commit (statusRx_off h))⟩
  case rx =>
    have hx := exec_seatFrameRx_up hup hch f
    exact ⟨fun hc => hx.trans (next_commit (seatRx_badCrc ho hs hc)), fun hc hf => hx.trans (next_commit (seatRx_noFit ho hs hc hf)),
      fun hc hf => ⟨fun hg => hx.trans (next_commit (seatRx_secondCopy ho hs hc hf rfl hg)), fun hg =>
        ⟨fun he => hx.trans (next_commit (seatRx_noEntry ho hs hc hf rfl hg he)),
          fun e he => hx.trans (next_commit (seatRx_entry ho hs hc hf rfl hg he))⟩⟩⟩
  · exact fun ho hs => (exec_statusFrameTx_up hup hch).trans (next_commit (statusTx_sync ho hs))
  · exact fun h => (exec_statusFrameTx_up hup hch).trans (next_commit (statusTx_notSync h))
  case status =>
    have hx := exec_statusFrameRx_up hup hch g
    exact ⟨fun hc => hx.trans (next_commit (statusRx_badCrc ho hs hc)), fun hc =>
      ⟨fun ha => hx.trans (next_commit (statusRx_asks ho hs hc rfl ha)), fun ha => hx.trans (next_commit (statusRx_asksNot ho hs hc rfl ha))⟩⟩
  case claims =>
    have hx := exec_claimProcess_up hup
    refine ⟨fun h => hx.trans (next_commit (claimProcess_dropped rfl h)), fun h => hx.trans (next_commit (claimProcess_ruled rfl h))⟩

end Sys2Proof.Machine
end

section
/-! SUPPORT and PROOF. The Guard (12 R365, R369, R370, R373, R378 to R381; 19 R581): what a port's frame meets, by the Guard's state and the
part that the frame is of. -/

namespace Sys2Proof.Machine

/-! The rows on a device that runs. -/

section
variable {s : State} (hup : s.dev.up = true)
include hup

theorem exec_guardColdEntry_up : exec .guardColdEntry s = .next (s.commit (guardCold s.dev)) := State.act_up s guardCold hup

variable {p : Nat} (hp : p < 30)
include hp

theorem exec_guardFrame_up (slot : Nat) (off : Int) (inTime : Bool) (part : GuardPart) (rivals : List (Nat × GuardPart)) :
    exec (.guardFrame p slot off inTime part rivals) s = .next (s.commit (guardFrame p slot off inTime part rivals s.dev)) :=
  State.act_onlyIf hup (decide_eq_true hp) (guardFrame p slot off inTime part rivals)

theorem exec_guardPortUp_up :
    exec (.guardPortUp p) s =
      .next (s.commit (if portSt s.dev p = 0 then s.dev.setF (Reg.stlGPstat p) 0 2 1 else s.dev)) :=
  State.act_onlyIf hup (decide_eq_true hp) (fun d => if portSt d p = 0 then d.setF (Reg.stlGPstat p) 0 2 1 else d)

theorem exec_guardPortDown_up : exec (.guardPortDown p) s = .next (s.commit (s.dev.setF (Reg.stlGPstat p) 0 2 0)) :=
  State.act_onlyIf hup (decide_eq_true hp) (fun d => d.setF (Reg.stlGPstat p) 0 2 0)

theorem exec_guardReadmit_up : exec (.guardReadmit p) s = .next (s.commit (askReadmit p s.dev)) :=
  State.act_onlyIf hup (decide_eq_true hp) (askReadmit p)

theorem exec_guardNodeReset_up :
    exec (.guardNodeReset p) s =
      .next (s.commit (if orderRefused s.dev p then s.dev.emit (.infoEvent 381) else askOrder p s.dev)) :=
  State.act_onlyIf hup (decide_eq_true hp) (fun d => if orderRefused d p then d.emit (.infoEvent 381) else askOrder p d)

end

/-! A port that takes part: UP and enabled, of a Guard that is not OFF. -/

/-- A port is UP and enabled. -/
def portOn (d : Dev) (p : Nat) : Prop := portSt d p = 1 ∧ d.bitR (Reg.stlGPcfg p) 0 = true

section
variable {p slot : Nat} {off : Int} {inTime : Bool} {rivals : List (Nat × GuardPart)} {d : Dev}

theorem guardFrame_off (part : GuardPart) (h : ¬ portOn d p ∨ gState d = gOff) : guardFrame p slot off inTime part rivals d = d := by
  refine if_pos (by_contra fun hn => ?_)
  simp only [Bool.or_eq_true, not_or, decide_eq_true_eq, Bool.not_eq_true', Bool.not_eq_false, not_not] at hn
  obtain ⟨⟨hg, hs⟩, hb⟩ := hn
  exact h.elim (· ⟨hs, hb⟩) hg

variable (ho : portOn d p) (hg : gState d ≠ gOff)
include ho hg

theorem guardFrame_waybill (w : Waybill) :
    guardFrame p slot off inTime (.waybill w) rivals d = guardWaybill p slot off inTime w rivals d :=
  if_neg (by simp [ho.1, ho.2, hg])

theorem guardFrame_data (f : SeatFrame) :
    guardFrame p slot off inTime (.data f) rivals d = guardData p slot off inTime f rivals d :=
  if_neg (by simp [ho.1, ho.2, hg])

theorem guardFrame_status (g : StatusFrame) :
    guardFrame p slot off inTime (.status g) rivals d = guardStatus p slot off inTime g d :=
  if_neg (by simp [ho.1, ho.2, hg])

theorem guardFrame_babble :
    guardFrame p slot off inTime .babble rivals d = if gState d = gRun then guardViol p 1 d else d :=
  if_neg (by simp [ho.1, ho.2, hg])

end

theorem gRun_ne_gOff : gRun ≠ gOff := by decide
theorem gCold_ne_gOff : gCold ≠ gOff := by decide
theorem gRun_ne_gCold : gRun ≠ gCold := by decide
theorem gCold_ne_gRun : gCold ≠ gRun := by decide

/-! A Waybill at a port. -/

/-- The Waybills among the rivals of a frame. -/
def rivalWaybills (rivals : List (Nat × GuardPart)) : List (Nat × Waybill) :=
  rivals.filterMap (fun r => match r.2 with | .waybill x => some (r.1, x) | _ => none)

/-- The lowest cause for which a Waybill is a violation (R379). -/
def waybillCause (p slot : Nat) (off : Int) (inTime : Bool) (w : Waybill) (d : Dev) : Option Nat :=
  let cls := seat0Class d p w
  let own := match cls with | some c => c.1 == 2 | none => false
  firstCause [(slot ≠ 0 || (cls.isNone && 1 < p), 1), (!inTime, 2), (w.node != p, 3),
    (w.seat != 0 || (!own && w.leg != guardLeg d), 4), (!own && 40 < off.natAbs, 5), (cls.isNone, 7)]

/-- Whether a rival's Waybill stands above one of class `c` at port `p`. -/
def waybillBeaten (p : Nat) (rivals : List (Nat × GuardPart)) (c : Nat × Nat) (d : Dev) : Bool :=
  (rivalWaybills rivals).any (fun r => match seat0Class d r.1 r.2 with
    | some k => stands (k.1, k.2, r.1) (c.1, c.2, p)
    | none => false)

section
variable {p slot : Nat} {off : Int} {inTime : Bool} {w : Waybill} {rivals : List (Nat × GuardPart)} {d : Dev}

theorem guardWaybill_notCold (hg : gState d ≠ gCold) :
    guardWaybill p slot off inTime w rivals d =
      match waybillCause p slot off inTime w d with
      | some c => guardViol p c d
      | none =>
        match seat0Class d p w with
        | none => d
        | some c => if d.stl.guard.fwdLeg = d.tim.absLeg || waybillBeaten p rivals c d then d else guardForward w d :=
  if_neg hg

theorem guardWaybill_violation (hg : gState d ≠ gCold) {c : Nat} (hc : waybillCause p slot off inTime w d = some c) :
    guardWaybill p slot off inTime w rivals d = guardViol p c d := by
  rw [guardWaybill_notCold hg, hc]

section
variable (hg : gState d ≠ gCold) (hc : waybillCause p slot off inTime w d = none) {c : Nat × Nat} (hk : seat0Class d p w = some c)
include hg hc hk

theorem guardWaybill_beaten (hb : d.stl.guard.fwdLeg = d.tim.absLeg ∨ waybillBeaten p rivals c d = true) :
    guardWaybill p slot off inTime w rivals d = d := by
  rw [guardWaybill_notCold hg, hc, hk]
  exact if_pos (by simpa using hb)

theorem guardWaybill_forwarded (hb : ¬ (d.stl.guard.fwdLeg = d.tim.absLeg ∨ waybillBeaten p rivals c d = true)) :
    guardWaybill p slot off inTime w rivals d = guardForward w d := by
  rw [guardWaybill_notCold hg, hc, hk]
  exact if_neg (by simpa using hb)

end

/-- In COLD the lowest port of COLD_PORTS that sends in time is the line's source. -/
def coldFirst (p : Nat) (inTime : Bool) (rivals : List (Nat × GuardPart)) (d : Dev) : Prop :=
  bitOf (d.rn Reg.stlColdPorts) p = true ∧ inTime = true ∧
    ∀ r ∈ rivalWaybills rivals, r.1 < p → bitOf (d.rn Reg.stlColdPorts) r.1 = false

theorem guardWaybill_cold (hg : gState d = gCold) :
    guardWaybill p slot off inTime w rivals d =
      if bitOf (d.rn Reg.stlColdPorts) p && inTime &&
          !(rivalWaybills rivals).any (fun r => r.1 < p && bitOf (d.rn Reg.stlColdPorts) r.1) then guardForward w d
      else d :=
  if_pos hg

theorem coldFirst_iff :
    (bitOf (d.rn Reg.stlColdPorts) p && inTime &&
      !(rivalWaybills rivals).any (fun r => r.1 < p && bitOf (d.rn Reg.stlColdPorts) r.1)) = true ↔ coldFirst p inTime rivals d := by
  simp [coldFirst, and_assoc]

theorem guardWaybill_coldFirst (hg : gState d = gCold) (hf : coldFirst p inTime rivals d) :
    guardWaybill p slot off inTime w rivals d = guardForward w d := by
  rw [guardWaybill_cold hg, if_pos (coldFirst_iff.mpr hf)]

theorem guardWaybill_coldOther (hg : gState d = gCold) (hf : ¬ coldFirst p inTime rivals d) :
    guardWaybill p slot off inTime w rivals d = d := by
  rw [guardWaybill_cold hg, if_neg (mt coldFirst_iff.mp hf)]

end

/-! A data frame at a port: the table's entry of the seat, the causes before the role's, and then the role. -/

/-- One more cause after all the others. -/
theorem firstCause_snoc (l : List (Bool × Nat)) (b : Bool) (c : Nat) :
    firstCause (l ++ [(b, c)]) = (firstCause l).or (if b then some c else none) := by
  induction l with
  | nil => rfl
  | cons x l ih =>
    obtain ⟨y, k⟩ := x
    cases y
    · simpa [firstCause] using ih
    · simp [firstCause]

/-- Whether a seat's entry lets a port send in it (R378). -/
abbrev seatOpen (d : Dev) (p e : Nat) : Prop :=
  seKind e = 1 ∨ (seKind e = 0 ∧ seOwner e = p) ∨ (seKind e = 2 ∧ seOwner e = p ∧ stlVersion d = 2)

/-- The lowest cause before the role's for which a data frame is a violation (R379). -/
def dataCause (p slot : Nat) (off : Int) (inTime : Bool) (f : SeatFrame) (e : Nat) (d : Dev) : Option Nat :=
  firstCause [(decide (¬ seatOpen d p e), 1), (!inTime, 2), (f.node != p, 3), (f.seat != slot || f.leg != guardLeg d, 4),
    (40 < off.natAbs, 5), (seKind e == 1 && f.prio < d.fldR (Reg.stlGPcfg p) 8 8, 6)]

/-- Whether a module's port said a role that sends no seat of its own, as the row finds it. -/
def isRoleRefused (d : Dev) (p e : Nat) : Bool :=
  p ≤ 1 && seKind e == 0 && (match roleSaid d p with | some r => r != roleActive && r != roleStandby | none => false)

/-- A module's port said a role that sends no seat of its own (R365). -/
def roleRefused (d : Dev) (p e : Nat) : Prop :=
  p ≤ 1 ∧ seKind e = 0 ∧ ∃ r, roleSaid d p = some r ∧ r ≠ roleActive ∧ r ≠ roleStandby

theorem isRoleRefused_iff {d : Dev} {p e : Nat} : isRoleRefused d p e = true ↔ roleRefused d p e := by
  unfold isRoleRefused roleRefused
  cases roleSaid d p <;> simp [and_assoc]

/-- Whether a rival's bench frame goes before one, as the row finds it. -/
def isDataBeaten (d : Dev) (e : Nat) (f : SeatFrame) (rivals : List (Nat × GuardPart)) : Bool :=
  let beats (r : Nat × GuardPart) : Bool := match r.2 with
    | .data g => d.fldR (Reg.stlGPcfg r.1) 8 8 ≤ g.prio && (g.prio < f.prio || (g.prio == f.prio && g.node < f.node))
    | _ => false
  seKind e = 1 && rivals.any beats

/-- A rival's bench frame goes before one (R382). -/
def dataBeaten (d : Dev) (e : Nat) (f : SeatFrame) (rivals : List (Nat × GuardPart)) : Prop :=
  seKind e = 1 ∧ ∃ q h, (q, GuardPart.data h) ∈ rivals ∧ d.fldR (Reg.stlGPcfg q) 8 8 ≤ h.prio ∧
    (h.prio < f.prio ∨ (h.prio = f.prio ∧ h.node < f.node))

theorem isDataBeaten_iff {d : Dev} {e : Nat} {f : SeatFrame} {rivals : List (Nat × GuardPart)} :
    isDataBeaten d e f rivals = true ↔ dataBeaten d e f rivals := by
  simp only [isDataBeaten, dataBeaten, Bool.and_eq_true, decide_eq_true_eq, List.any_eq_true]
  refine and_congr_right fun _ => ⟨?_, ?_⟩
  · rintro ⟨⟨q, part⟩, hr, hb⟩
    cases part with
    | data h => exact ⟨q, h, hr, by simpa using hb⟩
    | waybill | status | babble => cases hb
  · rintro ⟨q, h, hr, hb⟩
    exact ⟨(q, .data h), hr, by simpa using hb⟩

section
variable {p slot : Nat} {off : Int} {inTime : Bool} {f : SeatFrame} {rivals : List (Nat × GuardPart)} {d : Dev}

theorem guardData_notRun (hg : gState d ≠ gRun) : guardData p slot off inTime f rivals d = d := if_pos hg

variable (hg : gState d = gRun)
include hg

theorem guardData_noEntry (he : d.stl.guard.table.find? (fun e => seApplies e (guardLeg d) slot (selfNode d)) = none) :
    guardData p slot off inTime f rivals d = guardViol p 1 d := by
  rw [guardData, if_neg (not_not_intro hg)]
  simp only [he]
  rfl

variable {e : Nat} (he : d.stl.guard.table.find? (fun e => seApplies e (guardLeg d) slot (selfNode d)) = some e)
include he

theorem guardData_entry :
    guardData p slot off inTime f rivals d =
      match (dataCause p slot off inTime f e d).or (if isRoleRefused d p e then some 7 else none) with
      | some c => guardViol p c d
      | none => if isDataBeaten d e f rivals then d else d.emit (.stl (selfNode d) slot (fwdSeat f)) := by
  have hopen : decide (¬ seatOpen d p e) =
      !((seKind e == 1) || (seKind e == 0 && seOwner e == p) || (seKind e == 2 && seOwner e == p && stlVersion d == 2)) := by
    rw [decide_not]
    simp only [seatOpen, Bool.decide_or, Bool.decide_and, beq_eq_decide, Bool.or_assoc, Bool.and_assoc]
  rw [dataCause, ← firstCause_snoc, hopen, guardData, if_neg (not_not_intro hg)]
  simp only [he]
  rfl

theorem guardData_violation {c : Nat} (hc : dataCause p slot off inTime f e d = some c) :
    guardData p slot off inTime f rivals d = guardViol p c d := by
  rw [guardData_entry hg he, hc]
  rfl

variable (hc : dataCause p slot off inTime f e d = none)
include hc

theorem guardData_role (hr : roleRefused d p e) : guardData p slot off inTime f rivals d = guardViol p 7 d := by
  rw [guardData_entry hg he, hc, isRoleRefused_iff.mpr hr]
  rfl

variable (hr : ¬ roleRefused d p e)
include hr

theorem guardData_taken :
    guardData p slot off inTime f rivals d =
      if isDataBeaten d e f rivals then d else d.emit (.stl (selfNode d) slot (fwdSeat f)) := by
  rw [guardData_entry hg he, hc, Bool.eq_false_iff.mpr (mt isRoleRefused_iff.mp hr)]
  rfl

theorem guardData_beaten (hb : dataBeaten d e f rivals) : guardData p slot off inTime f rivals d = d := by
  rw [guardData_taken hg he hc hr, if_pos (isDataBeaten_iff.mpr hb)]

theorem guardData_forwarded (hb : ¬ dataBeaten d e f rivals) :
    guardData p slot off inTime f rivals d = d.emit (.stl (selfNode d) slot (fwdSeat f)) := by
  rw [guardData_taken hg he hc hr, if_neg (mt isDataBeaten_iff.mp hb)]

end

/-! A status frame at a port. -/

/-- The lowest cause for which a status frame is a violation (R379). -/
def statusCause (p slot : Nat) (off : Int) (inTime : Bool) (g : StatusFrame) : Option Nat :=
  firstCause [(slot != 48 + p, 1), (!inTime, 2), (g.node != p, 3), (100 < off.natAbs, 5)]

/-- What a port's status frame shows: its version, state and loop, and the role that it says. -/
def statusSaid (p : Nat) (g : StatusFrame) (d : Dev) : Dev :=
  let d := ((d.setF (Reg.stlGPstat p) 8 4 g.vmax).setF (Reg.stlGPstat p) 12 3 g.state).putB (Reg.stlGPstat p) 15 g.loopOk
  modGuard (fun x => { x with roles := tput x.roles p (d.tim.absLeg, g.role) }) d

section
variable {p slot : Nat} {off : Int} {inTime : Bool} {g : StatusFrame} {d : Dev}

theorem guardStatus_notRun (hg : gState d ≠ gRun) : guardStatus p slot off inTime g d = d := if_pos hg

variable (hg : gState d = gRun)
include hg

theorem guardStatus_violation {c : Nat} (hc : statusCause p slot off inTime g = some c) :
    guardStatus p slot off inTime g d = guardViol p c d := by
  rw [guardStatus, if_neg (not_not_intro hg), ← statusCause, hc]

theorem guardStatus_forwarded (hc : statusCause p slot off inTime g = none) {e : Dev} (he : statusSaid p g d = e) :
    guardStatus p slot off inTime g d = e.emit (.stl (selfNode e) (48 + p) (fwdStatus g (clampMag 127 off))) := by
  subst he
  rw [guardStatus, if_neg (not_not_intro hg), ← statusCause, hc]
  rfl

end

/-! The Guard's own events. -/

/-- The Guard in RUN has forwarded no Waybill for 8 legs (R369). -/
def guardDark (d : Dev) : Prop := gState d = gRun ∧ d.stl.guard.fwdLeg + 8 ≤ d.tim.absLeg

/-- A port's last status frame said ACTIVE: it is a module's, and takes no order (R381). -/
def portActive (d : Dev) (p : Nat) : Prop := p ≤ 1 ∧ ∃ l, tfind d.stl.guard.roles p = some (l, roleActive)

section
variable {p : Nat} {d : Dev}

theorem guardCold_dark (h : guardDark d) :
    guardCold d = modGuard (fun g => { g with fwd := none }) (d.setF Reg.stlStatus 0 2 gCold) :=
  if_neg (by simp [h.1, h.2])

theorem guardCold_notDark (h : ¬ guardDark d) : guardCold d = d :=
  if_pos (by_contra fun hn => h (by simpa [guardDark] using hn))

theorem orderRefused_iff : orderRefused d p = true ↔ portActive d p := by
  unfold orderRefused portActive
  cases tfind d.stl.guard.roles p <;> simp [Prod.ext_iff]

end

/-- Settles O41: a frame by the Guard's state and its part, and the Guard's own events row by row. -/
theorem guardForwards : Obligations.GuardForwards := by
  intro s p slot off inTime f g w part rivals hup hp d on wbs
  have hx (part : GuardPart) := exec_guardFrame_up hup hp slot off inTime part rivals
  refine ⟨fun h => (hx part).trans (next_commit (guardFrame_off part h)), fun ho hg => ?run, fun ho hg => ?cold, ⟨?_, ?_⟩, ?_, ?_,
    exec_guardPortDown_up hup hp, exec_guardReadmit_up hup hp, ⟨?_, ?_⟩⟩
  case run =>
    have hoff : gState d ≠ gOff := hg ▸ gRun_ne_gOff
    have hcold : gState d ≠ gCold := hg ▸ gRun_ne_gCold
    have hw := (hx (.waybill w)).trans (next_commit (guardFrame_waybill ho hoff w))
    have hf := (hx (.data f)).trans (next_commit (guardFrame_data ho hoff f))
    have hs := (hx (.status g)).trans (next_commit (guardFrame_status ho hoff g))
    refine ⟨(hx .babble).trans (next_commit ((guardFrame_babble ho hoff).trans (if_pos hg))), ⟨?_, fun c hc hk => ⟨?_, ?_⟩⟩,
      fun e he => ⟨?_, ?_, fun hc hr => ⟨?_, ?_⟩⟩, ?_, ⟨?_, ?_⟩⟩
    · exact fun c hc => hw.trans (next_commit (guardWaybill_violation hcold hc))
    · exact fun hb => hw.trans (next_commit (guardWaybill_beaten hcold hc hk hb))
    · exact fun hb => hw.trans (next_commit (guardWaybill_forwarded hcold hc hk hb))
    · exact fun c hc => hf.trans (next_commit (guardData_violation hg he hc))
    · exact fun hc hr => hf.trans (next_commit (guardData_role hg he hc hr))
    · exact fun hb => hf.trans (next_commit (guardData_beaten hg he hc hr hb))
    · exact fun hb => hf.trans (next_commit (guardData_forwarded hg he hc hr hb))
    · exact fun he => hf.trans (next_commit (guardData_noEntry hg he))
    · exact fun c hc => hs.trans (next_commit (guardStatus_violation hg hc))
    · exact fun hc => hs.trans (next_commit (guardStatus_forwarded hg hc rfl))
  case cold =>
    have hoff : gState d ≠ gOff := hg ▸ gCold_ne_gOff
    have hrun : gState d ≠ gRun := hg ▸ gCold_ne_gRun
    have hw := (hx (.waybill w)).trans (next_commit (guardFrame_waybill ho hoff w))
    refine ⟨?_, ?_, ?_, ?_, ?_⟩
    · exact fun h => hw.trans (next_commit (guardWaybill_coldFirst hg h))
    · exact fun h => hw.trans (next_commit (guardWaybill_coldOther hg h))
    · exact (hx .babble).trans (next_commit ((guardFrame_babble ho hoff).trans (if_neg hrun)))
    · exact (hx (.data f)).trans (next_commit ((guardFrame_data ho hoff f).trans (guardData_notRun hrun)))
    · exact (hx (.status g)).trans (next_commit ((guardFrame_status ho hoff g).trans (guardStatus_notRun hrun)))
  · exact fun h => (exec_guardColdEntry_up hup).trans (next_commit (guardCold_dark h))
  · exact fun h => (exec_guardColdEntry_up hup).trans (next_commit (guardCold_notDark h))
  · exact fun h => (exec_guardPortUp_up hup hp).trans (next_commit (if_pos h))
  · exact fun h => (exec_guardPortUp_up hup hp).trans (next_commit (if_neg h))
  · exact fun h => (exec_guardNodeReset_up hup hp).trans (next_commit (if_pos (orderRefused_iff.mpr h)))
  · exact fun h => (exec_guardNodeReset_up hup hp).trans (next_commit (if_neg (mt orderRefused_iff.mp h)))

end Sys2Proof.Machine
end

section
/-! SUPPORT and PROOF. Tables of the Stageline (09 R284; 12 R363, R371, R380, R381, R383, R386, R387; 13 R419): entries written, switches asked
for, sync events, the opcodes that load a bank, and the port commands. -/

namespace Sys2Proof.Machine

/-! The rows on a device that runs. -/

section
variable {s : State} (hup : s.dev.up = true)
include hup

theorem exec_stlTableEntryWrite_up {b i : Nat} (hb : b < 2) (hi : i < 488) (v : Word) :
    exec (.stlTableEntryWrite b i v) s = .next (s.commit
      (if b = stlBank s.dev then s.dev.emit (.infoEvent 387) else s.dev.wr (Reg.stlTblEntry b i) v)) :=
  State.act_onlyIf hup (by simp [hb, hi]) (fun d => if b = stlBank d then d.emit (.infoEvent 387) else d.wr (Reg.stlTblEntry b i) v)

theorem exec_stlTableSwapRequest_up {r : Nat} (hr : r < 2 ^ 20) :
    exec (.stlTableSwapRequest r) s = .next (s.commit (tblAsk r s.dev).1) :=
  State.act_onlyIf hup (decide_eq_true hr) (fun d => (tblAsk r d).1)

theorem exec_imapSwapRequest_up : exec .imapSwapRequest s = .next (s.commit (s.dev.setB Reg.stlImapCtrl 0)) :=
  State.act_up s (fun d => d.setB Reg.stlImapCtrl 0) hup

end

/-- The row's own test of a sync event (R386). -/
def isSyncDue (k : Nat) (d : Dev) : Bool :=
  let w := d.rn (Reg.stlSyncCfg k)
  bitOf w 31 && (fld w 0 8 == 255 || fld w 0 8 == d.tim.absLeg % 240)

theorem isSyncDue_iff {k : Nat} {d : Dev} :
    isSyncDue k d = true ↔ bitOf (d.rn (Reg.stlSyncCfg k)) 31 = true ∧
      (fld (d.rn (Reg.stlSyncCfg k)) 0 8 = 255 ∨ fld (d.rn (Reg.stlSyncCfg k)) 0 8 = d.tim.absLeg % 240) := by
  simp [isSyncDue]

theorem exec_syncEvent_up {s : State} (hup : s.dev.up = true) {k : Nat} (hk : k < 16) :
    exec (.syncEvent k) s = .next (s.commit
      (if isSyncDue k s.dev = true then raise 327 none k 0 (s.dev.setB Reg.stlSyncEvt k) else s.dev)) :=
  State.act_onlyIf hup (decide_eq_true hk) (fun d => if isSyncDue k d = true then raise 327 none k 0 (d.setB Reg.stlSyncEvt k) else d)

/-! A switch to a table, asked for (R363). -/

section
variable {d : Dev} {t : List Nat} {r : Nat}

theorem tblAskOf_announced (h : (tblReason d t r).1 = 0) :
    tblAskOf t r d =
      ((((d.wn Reg.stlTblStatus 0).setF Reg.stlTblCtrl 8 20 r).setB Reg.stlTblCtrl 0).setB Reg.stlStatus 31, tblReason d t r) :=
  if_neg (not_not_intro h)

theorem tblAskOf_refused (h : (tblReason d t r).1 ≠ 0) :
    tblAskOf t r d =
      ((d.wn Reg.stlTblStatus (1 + (tblReason d t r).1 * 16 + (tblReason d t r).2 * 65536)).emit (.infoEvent 363), tblReason d t r) :=
  if_pos h

end

/-! STL_TABLE's own part: the bank that it loads, and the answer of the switch. -/

section
variable {data : List Word} {p : List Nat} {d : Dev}

/-- The entries that STL_TABLE names. -/
def namedTable (data : List Word) (p : List Nat) : List Nat := takePad 0 (entW p 3) (data.map (fun w => w.toNat))

/-- The device with the table named in the bank that is not in force. -/
def tableLoaded (data : List Word) (p : List Nat) (d : Dev) : Dev :=
  let d0 := writeRegs (Reg.stlTblEntry (1 - stlBank d)) 0 ((namedTable data p).take 488) d
  if entW p 3 ≤ 488 then d0.setF Reg.stlTblCount 0 9 (entW p 3) else d0

theorem stlTableBody_eq :
    stlTableBody data p d =
      let r := tblAskOf (namedTable data p) (entW p 0) (tableLoaded data p d)
      if r.2.1 ≠ 0 then (r.1, refA cBadParam r.2.1 (if r.2.1 = 4 then 3 else 0xFF) r.2.2) else (r.1, okA []) := rfl

theorem stlTableBody_announced (h : (tblReason (tableLoaded data p d) (namedTable data p) (entW p 0)).1 = 0) :
    stlTableBody data p d =
      (((((tableLoaded data p d).wn Reg.stlTblStatus 0).setF Reg.stlTblCtrl 8 20 (entW p 0)).setB Reg.stlTblCtrl 0).setB Reg.stlStatus 31,
        okA []) := by
  rw [stlTableBody_eq, tblAskOf_announced h]
  exact if_neg (not_not_intro h)

theorem stlTableBody_refused (h : (tblReason (tableLoaded data p d) (namedTable data p) (entW p 0)).1 ≠ 0) :
    stlTableBody data p d =
      let x := tblReason (tableLoaded data p d) (namedTable data p) (entW p 0)
      (((tableLoaded data p d).wn Reg.stlTblStatus (1 + x.1 * 16 + x.2 * 65536)).emit (.infoEvent 363),
        refA cBadParam x.1 (if x.1 = 4 then 3 else 0xFF) x.2) := by
  rw [stlTableBody_eq, tblAskOf_refused h]
  exact if_pos h

end

/-! A command on a port of a Guard: what it does here, and the partner's share of it (R419). -/

section
variable {f : Nat → Dev → Dev × Ans} {kind : Nat} {p : List Nat} {d : Dev}

/-- What a port command does on this module's own channel. -/
def portHere (f : Nat → Dev → Dev × Ans) (p : List Nat) (d : Dev) : Dev × Ans :=
  if bitOf (entW p 1) (selfNode d) = true then f (entW p 0) d else (d, okA [])

theorem portCmd_own (h : bitOf (entW p 1) (1 - selfNode d) = false) : portCmd f kind p d = portHere f p d :=
  if_neg (Bool.eq_false_iff.mp h)

theorem portCmd_partner (h : bitOf (entW p 1) (1 - selfNode d) = true) (hp : paired (portHere f p d).1 = true) :
    portCmd f kind p d = ((portHere f p d).1.braceMsg 14 [kind, entW p 0], (portHere f p d).2) :=
  (if_pos h).trans (if_pos hp)

theorem portCmd_noPartner (h : bitOf (entW p 1) (1 - selfNode d) = true) (hp : paired (portHere f p d).1 = false) :
    portCmd f kind p d =
      ((portHere f p d).1, if (portHere f p d).2.st = cOk then noA cNotReady else (portHere f p d).2) :=
  (if_pos h).trans (if_neg (Bool.eq_false_iff.mp hp))

end

/-- STL_READMIT on this module's own channel asks the Guard to take the port back. -/
theorem portHere_readmit (p : List Nat) (d : Dev) :
    portHere (fun q d => (askReadmit q d, okA [])) p d =
      (if bitOf (entW p 1) (selfNode d) = true then askReadmit (entW p 0) d else d, okA []) := by
  unfold portHere
  split <;> rfl

section
variable {p : List Nat} {d : Dev}

/-- STL_NODE_RESET of a port that takes no order is denied here (R381). -/
theorem portHere_orderDenied (h : bitOf (entW p 1) (selfNode d) = true ∧ orderRefused d (entW p 0) = true) :
    portHere nodeResetBody p d = (d, noA cDenied) :=
  (if_pos h.1).trans (if_pos h.2)

theorem portHere_orderTaken (h : ¬ (bitOf (entW p 1) (selfNode d) = true ∧ orderRefused d (entW p 0) = true)) :
    portHere nodeResetBody p d =
      (if bitOf (entW p 1) (selfNode d) = true ∧ orderRefused d (entW p 0) = false then askOrder (entW p 0) d else d, okA []) := by
  by_cases hb : bitOf (entW p 1) (selfNode d) = true
  · have ho : orderRefused d (entW p 0) = false := by simpa [hb] using h
    rw [if_pos ⟨hb, ho⟩]
    exact (if_pos hb).trans (if_neg (Bool.eq_false_iff.mp ho))
  · rw [if_neg (fun hn => hb hn.1)]
    exact if_neg hb

/-- The answer where the partner's channel is asked for and there is no partner: a refusal on this module's own channel comes first. -/
theorem noPartner_answer (refused : Prop) [Decidable refused] :
    (if (if refused then noA cDenied else okA []).st = cOk then noA cNotReady else if refused then noA cDenied else okA []) =
      if refused then noA cDenied else noA cNotReady := by
  by_cases h : refused
  · simp only [if_pos h]
    exact if_neg (by decide)
  · simp only [if_neg h]
    exact if_pos rfl

/-- What STL_NODE_RESET does and answers here, both ways. -/
theorem portHere_order :
    portHere nodeResetBody p d =
      (if bitOf (entW p 1) (selfNode d) = true ∧ orderRefused d (entW p 0) = false then askOrder (entW p 0) d else d,
       if bitOf (entW p 1) (selfNode d) = true ∧ orderRefused d (entW p 0) = true then noA cDenied else okA []) := by
  by_cases h : bitOf (entW p 1) (selfNode d) = true ∧ orderRefused d (entW p 0) = true
  · rw [portHere_orderDenied h, if_pos h, if_neg (by simp [h.2])]
  · rw [portHere_orderTaken h, if_neg h]

end

/-- Settles O42: entries, switches and sync events row by row, and each opcode by its own part. -/
theorem stagelineTables : Obligations.StagelineTables := by
  intro h data s b i k r v
  refine ⟨fun hup => ⟨?_, ?_, ?_, ?_, exec_imapSwapRequest_up hup, fun hk => ⟨?_, ?_⟩⟩, fun ht => ⟨?_, ?_⟩, fun ht => ⟨?_, ?_⟩,
    fun ht => ⟨?_, ?_⟩, fun ht => act_takes_of_body ht rfl, fun ht => ?readmit, fun ht => ?order⟩
  · exact fun hb hi he => (exec_stlTableEntryWrite_up hup hb hi v).trans (next_commit (if_pos he))
  · exact fun hb hi he => (exec_stlTableEntryWrite_up hup hb hi v).trans (next_commit (if_neg he))
  · exact fun hr h0 => (exec_stlTableSwapRequest_up hup hr).trans (next_commit (by rw [tblAsk, tblAskOf_announced h0]))
  · exact fun hr h0 => (exec_stlTableSwapRequest_up hup hr).trans (next_commit (by rw [tblAsk, tblAskOf_refused h0]))
  · exact fun hdue => (exec_syncEvent_up hup hk).trans (next_commit (if_pos (isSyncDue_iff.mpr hdue)))
  · exact fun hdue => (exec_syncEvent_up hup hk).trans (next_commit (if_neg (mt isSyncDue_iff.mp hdue)))
  · exact fun h0 => act_takes_of_body ht (if_neg (not_not_intro h0))
  · exact fun h0 => act_takes_of_body ht (if_pos h0)
  · exact fun h0 => act_takes_of_body ht (stlTableBody_announced h0)
  · exact fun h0 => act_takes_of_body ht (stlTableBody_refused h0)
  · exact fun h0 => act_takes_of_body ht (if_neg (not_not_intro h0))
  · exact fun h0 => act_takes_of_body ht (if_pos h0)
  case readmit =>
    have hr := portHere_readmit (cmdP h s.dev) (cmdAdvance h.session s.dev)
    refine ⟨fun ho => ?_, fun ho hp => ?_, fun ho hp => ?_⟩
    · exact act_takes_of_body ht ((portCmd_own ho).trans hr)
    · exact act_takes_of_body ht ((portCmd_partner ho (by rwa [hr])).trans (by rw [hr]))
    · exact act_takes_of_body ht ((portCmd_noPartner ho (by rwa [hr])).trans (by rw [hr]; exact congrArg _ (if_pos rfl)))
  case order =>
    have hr := portHere_order (p := cmdP h s.dev) (d := cmdAdvance h.session s.dev)
    refine ⟨fun ho => ?_, fun ho hp => ?_, fun ho hp => ?_⟩
    · exact act_takes_of_body ht ((portCmd_own ho).trans hr)
    · exact act_takes_of_body ht ((portCmd_partner ho (by rwa [hr])).trans (by rw [hr]))
    · refine act_takes_of_body ht ((portCmd_noPartner ho (by rwa [hr])).trans ?_)
      rw [hr]
      exact congrArg (Prod.mk _) (noPartner_answer _)

end Sys2Proof.Machine
end

section
/-! SUPPORT and PROOF. The Brace's links (11 R321, R323, R324; 18 R554, R555): training, lanes retired and replaced, links and partners lost. -/

namespace Sys2Proof.Machine

/-! The rows on a device that runs. -/

section
variable {s : State} (hup : s.dev.up = true) {l : Nat} (hl : l < 2)
include hup

theorem exec_partnerLost_up : exec .partnerLost s = .next (s.commit (partnerLost s.dev)) :=
  State.act_up s partnerLost hup

theorem exec_orphanTimeout_up : exec .orphanTimeout s = .next (s.commit (orphanTimeout s.dev)) :=
  State.act_up s orphanTimeout hup

include hl

theorem exec_braceLinkTraining_up (v : Nat) : exec (.braceLinkTraining l v) s = .next (s.commit (linkTraining l v s.dev)) :=
  State.act_onlyIf hup (decide_eq_true hl) (linkTraining l v)

theorem exec_braceLaneRetire_up {lane : Nat} (hk : lane < 5) (errs : Nat) (lost : Bool) :
    exec (.braceLaneRetire l lane errs lost) s = .next (s.commit (laneRetire l lane errs lost s.dev)) :=
  State.act_onlyIf hup (by simp [hl, hk]) (laneRetire l lane errs lost)

theorem exec_braceRetrainDone_up : exec (.braceRetrainDone l) s = .next (s.commit (retrainDone l s.dev)) :=
  State.act_onlyIf hup (decide_eq_true hl) (retrainDone l)

theorem exec_braceLinkDown_up : exec (.braceLinkDown l) s = .next (s.commit (linkGone l s.dev)) :=
  State.act_onlyIf hup (decide_eq_true hl) (linkGone l)

end

/-! A link trains (R321). -/

section
variable {l v : Nat} {d : Dev}

theorem linkTraining_off (h : brcOn d = false) : linkTraining l v d = d :=
  if_pos (by simp [h])

variable (h : brcOn d = true)
include h

theorem linkTraining_same
    (hv : v / 65536 = ((setLink l true d).setF (Reg.brcLStatus l) 1 3 (5 - (tget [] d.brc.lanes l).length)).rn Reg.brcVersion / 65536) :
    linkTraining l v d =
      let d1 := (setLink l true d).setF (Reg.brcLStatus l) 1 3 (5 - (tget [] d.brc.lanes l).length)
      orphanReturn { d1 with brc := { d1.brc with badVer := false } } :=
  (if_neg (by simp [h])).trans (if_pos hv)

theorem linkTraining_other
    (hv : v / 65536 ≠ ((setLink l true d).setF (Reg.brcLStatus l) 1 3 (5 - (tget [] d.brc.lanes l).length)).rn Reg.brcVersion / 65536) :
    linkTraining l v d =
      let d1 := (setLink l true d).setF (Reg.brcLStatus l) 1 3 (5 - (tget [] d.brc.lanes l).length)
      raise 307 none l v ({ d1 with brc := { d1.brc with badVer := true } }.clrB Reg.brcStatus 3) :=
  (if_neg (by simp [h])).trans (if_neg hv)

end

/-! A lane is retired (R323; 18 R554, R555). -/

section
variable {l lane errs : Nat} {lost : Bool} {d : Dev}

/-- The lane goes: it is still in use, and over its limit or without block lock. -/
abbrev laneBad (l lane errs : Nat) (lost : Bool) (d : Dev) : Prop :=
  (tget [] d.brc.lanes l).contains lane = false ∧ (lost = true ∨ d.fldR (Reg.brcLErrLim l) 0 16 < errs)

/-- The device that has taken a lane out of use and logged it, before the spare's turn. -/
def laneRetired (l lane : Nat) (d : Dev) : Dev :=
  retiredEvent 4 (l * 5 + lane) (raise 299 none l lane
    ({ d with brc := { d.brc with lanes := tput d.brc.lanes l (lane :: tget [] d.brc.lanes l) } }.setF (Reg.brcLStatus l) 1 3
      (4 - (tget [] d.brc.lanes l).length)))

/-- What follows for the spare, where the lane goes. -/
def spareTurn (l lane left : Nat) (d : Dev) : Dev :=
  if spareLane d l = lane then d.setF (Reg.brcLLanemap l) 12 3 7
  else if spareLane d l ≠ 7 && (tfind d.brc.retrain l).isNone then { d with brc := { d.brc with retrain := tput d.brc.retrain l lane } }
  else if left < 2 then linkGone l (raise 395 none 4 l d) else raise 395 none 4 l d

theorem laneBad_iff :
    laneBad l lane errs lost d ↔
      ((tget [] d.brc.lanes l).contains lane || !(lost || d.fldR (Reg.brcLErrLim l) 0 16 < errs)) = false := by
  simp only [laneBad, Bool.or_eq_false_iff, Bool.not_eq_false', Bool.or_eq_true, decide_eq_true_eq]

theorem laneRetire_kept (h : ¬ laneBad l lane errs lost (d.bumpBy (Reg.brcLErr l) errs)) :
    laneRetire l lane errs lost d = d.bumpBy (Reg.brcLErr l) errs :=
  if_pos (Bool.of_not_eq_false (mt laneBad_iff.mpr h))

theorem laneRetire_gone (h : laneBad l lane errs lost (d.bumpBy (Reg.brcLErr l) errs)) :
    laneRetire l lane errs lost d =
      let d2 := d.bumpBy (Reg.brcLErr l) errs
      spareTurn l lane (4 - (tget [] d2.brc.lanes l).length) (laneRetired l lane d2) :=
  if_neg (Bool.eq_false_iff.mp (laneBad_iff.mp h))

end

section
variable {l lane left : Nat} {d : Dev}

theorem spareTurn_itself (h : spareLane d l = lane) : spareTurn l lane left d = d.setF (Reg.brcLLanemap l) 12 3 7 :=
  if_pos h

variable (h : spareLane d l ≠ lane)
include h

theorem spareTurn_retrains (hs : spareLane d l ≠ 7 ∧ tfind d.brc.retrain l = none) :
    spareTurn l lane left d = { d with brc := { d.brc with retrain := tput d.brc.retrain l lane } } :=
  (if_neg h).trans (if_pos (by simp [hs]))

theorem spareTurn_noSpare (hs : ¬ (spareLane d l ≠ 7 ∧ tfind d.brc.retrain l = none)) :
    spareTurn l lane left d = if left < 2 then linkGone l (raise 395 none 4 l d) else raise 395 none 4 l d :=
  (if_neg h).trans (if_neg (by simpa using hs))

end

/-! Retraining, and links that go down. -/

section
variable {l lane : Nat} {d : Dev}

theorem retrainDone_idle (h : tfind d.brc.retrain l = none ∨ d.bitR (Reg.brcLStatus l) 5 = false) : retrainDone l d = d := by
  unfold retrainDone
  split
  · rfl
  · next hl => exact if_pos (by simpa [hl] using h)

/-- The device whose spare carries the data of the lane retired. -/
def spareCarries (l lane : Nat) (d : Dev) : Dev :=
  let d2 := [0, 1, 2, 3].foldl (fun x i => if fld (d.rn (Reg.brcLLanemap l)) (3 * i) 3 = lane then
    x.setF (Reg.brcLLanemap l) (3 * i) 3 (spareLane d l) else x) d
  let d3 := { d2 with brc := { d2.brc with retrain := tdel d2.brc.retrain l } }.setF (Reg.brcLLanemap l) 12 3 7
  ((setLink l true d3).clrB (Reg.brcLStatus l) 5).setB (Reg.brcLStatus l) 4

theorem retrainDone_done (h : tfind d.brc.retrain l = some lane) (hb : d.bitR (Reg.brcLStatus l) 5 = true) :
    retrainDone l d =
      let d4 := spareCarries l lane d
      orphanReturn (spareLow 4 (raise 393 none 4 (l * 5 + lane) (d4.wn (Reg.rprKSpares 4) (d4.rn (Reg.rprKSpares 4) - 1)))) := by
  simp only [retrainDone, h, hb, Bool.not_true, Bool.false_eq_true, if_false]
  rfl

theorem linkGone_up (h : brcLinkUp d l = true) : linkGone l d = raise 298 none l 0 (setLink l false d) :=
  if_pos h

theorem linkGone_down (h : brcLinkUp d l = false) : linkGone l d = d :=
  if_neg (Bool.eq_false_iff.mp h)

end

/-! The partner lost, and ORPHAN (R324). -/

section
variable {d : Dev} {t : Nat}

/-- The device that has lost its partner. -/
def partnerGone (d : Dev) : Dev :=
  let d2 := raise 297 none 0 0 (d.clrB Reg.brcStatus 3)
  { d2 with brc := { d2.brc with lastMsg := none } }

theorem partnerLost_heard (h : d.brc.lastMsg = none ∨ brcOn d = false ∨ (∃ t, d.brc.lastMsg = some t ∧ d.tim.absTick < t + 32)) :
    partnerLost d = d := by
  unfold partnerLost
  split
  · rfl
  · next ht =>
    refine if_pos ?_
    rcases h with h | h | ⟨u, hu, hlt⟩
    · simp [ht] at h
    · simp [h]
    · obtain rfl : _ = u := Option.some.inj (ht.symm.trans hu)
      simp [hlt]

theorem partnerLost_silent (h : d.brc.lastMsg = some t) (ho : brcOn d = true) (hl : t + 32 ≤ d.tim.absTick) :
    partnerLost d =
      let d3 := partnerGone d
      if brcRole d3 = roleStandby then { d3 with brc := { d3.brc with orphanAt := some d3.tim.absTick } }.setB Reg.brcStatus 9 else d3 := by
  have hn : ¬ d.tim.absTick < t + 32 := Nat.not_lt.mpr hl
  simp only [partnerLost, h, ho, hn, Bool.not_true, Bool.false_or, decide_false, Bool.false_eq_true, if_false]
  rfl

/-- ORPHAN's time is over. -/
def orphanEnds (d : Dev) : Prop :=
  ∃ t, d.brc.orphanAt = some t ∧ orphan d = true ∧ t + d.fldR Reg.brcLtnTimeout 0 10 + 32 ≤ d.tim.absTick

theorem orphanTimeout_ends (h : orphanEnds d) : orphanTimeout d = enterResync d := by
  obtain ⟨t, ht, ho, hl⟩ := h
  simp only [orphanTimeout, ht, ho, hl, decide_true, Bool.and_true, if_true]

theorem orphanTimeout_runs (h : ¬ orphanEnds d) : orphanTimeout d = d := by
  unfold orphanTimeout
  split
  · next t ht => exact if_neg (fun hc => h ⟨t, ht, by simpa using hc⟩)
  · rfl

end

/-- Settles O43, row by row: each clause is a case of the row's own operation. -/
theorem braceLinks : Obligations.BraceLinks := by
  intro s l v lane errs lost hup hl d d1 d2
  have ht := exec_braceLinkTraining_up hup hl v
  have hr := exec_braceRetrainDone_up hup hl
  refine ⟨fun ho hv => ht.trans (next_commit (linkTraining_same ho hv)), fun ho hv => ht.trans (next_commit (linkTraining_other ho hv)),
    fun ho => ht.trans (next_commit (linkTraining_off ho)), ?lanes, fun h hb => hr.trans (next_commit (retrainDone_done h hb)),
    fun h => hr.trans (next_commit (retrainDone_idle h)),
    fun h => (exec_braceLinkDown_up hup hl).trans (next_commit (linkGone_up h)),
    fun h => (exec_braceLinkDown_up hup hl).trans (next_commit (linkGone_down h)), fun t h ho htick => ⟨?_, ?_⟩,
    fun h => (exec_partnerLost_up hup).trans (next_commit (partnerLost_heard h)), ⟨?_, ?_⟩⟩
  case lanes =>
    intro d2 gone d3 bad spare hk
    have hx := exec_braceLaneRetire_up hup hl hk errs lost
    have hgone (hb : bad) := hx.trans (next_commit (laneRetire_gone hb))
    refine ⟨fun hb => hx.trans (next_commit (laneRetire_kept hb)), fun hb hs => ?_, fun hb hs hf => ?_, fun hb hs hf => ?_⟩
    · exact (hgone hb).trans (next_commit (spareTurn_itself hs))
    · exact (hgone hb).trans (next_commit (spareTurn_retrains hs hf))
    · exact (hgone hb).trans (next_commit (spareTurn_noSpare hs hf))
  · exact fun hn => (exec_partnerLost_up hup).trans (next_commit ((partnerLost_silent h ho htick).trans (if_neg hn)))
  · exact fun hs => (exec_partnerLost_up hup).trans (next_commit ((partnerLost_silent h ho htick).trans (if_pos hs)))
  · exact fun h => (exec_orphanTimeout_up hup).trans (next_commit (orphanTimeout_ends h))
  · exact fun h => (exec_orphanTimeout_up hup).trans (next_commit (orphanTimeout_runs h))

end Sys2Proof.Machine
end

section
/-! SUPPORT and PROOF. Brace messages (11 R322, R326, R328, R330 to R340, R342, R346, R347, R349; 09 R280): what stops a message, and what one
that is heard does by its kind. -/

namespace Sys2Proof.Machine

/-! A message's row. -/

theorem act_heard {h : BrcHdr} {s : State} (f : Dev → Dev) (hh : heard h s.dev = true) :
    s.act (brcTake h f) = .next (s.commit (f (afterHdr h s.dev))) :=
  State.act_of_eq (heard_up hh) (brcTake_heard f hh)

/-- The row of a message is what its content does, taken as a message. -/
theorem exec_brcRow {m : Instr} {h : BrcHdr} {s : State} (hm : brcRow m = some h) (hup : s.dev.up = true) :
    ∃ f, exec m s = .next (s.commit (brcTake h f s.dev)) := by
  unfold brcRow at hm
  split at hm
  case h_8 k st =>
    obtain rfl := Option.some.inj hm
    exact ⟨statusMsg k s.dev.brc.peer st, State.act_up s (fun d => brcTake k (statusMsg k d.brc.peer st) d) hup⟩
  case h_10 k c img =>
    split at hm
    · next hc =>
      obtain rfl := Option.some.inj hm
      exact ⟨imageRx c img, State.act_onlyIf hup (decide_eq_true hc) (brcTake k (imageRx c img))⟩
    · cases hm
  case h_13 => cases hm
  all_goals
    obtain rfl := Option.some.inj hm
    exact ⟨_, State.act_up s (brcTake _ _) hup⟩

/-! The messages of a leg at the shadow, and elsewhere. -/

section
variable {d : Dev}

section
variable (h : isShadow d = false)
include h

theorem mirrorCells_elsewhere (cells : List MirrorCell) : mirrorCells cells d = d :=
  if_pos (by simp [h])

theorem declRecord_elsewhere (leg n : Nat) (models : List ModelRec) : declRecord leg n models d = d :=
  if_pos (by simp [h])

theorem pubMirrorRx_elsewhere (leg : Nat) (entries : List PubMirror) : pubMirrorRx leg entries d = d :=
  if_pos (by simp [h])

theorem digestRx_elsewhere (leg : Nat) (digests : List Nat) : digestRx leg digests d = d := by
  unfold digestRx
  split
  · rfl
  · exact if_pos (by simp [h])

theorem journalRx_elsewhere (e : JEntry) : journalRx e d = d :=
  if_pos (by simp [h])

theorem unmirroredLeg_elsewhere : unmirroredLeg d = d :=
  if_pos (by simp [h])

end

variable (h : isShadow d = true)
include h

theorem mirrorCells_shadow (cells : List MirrorCell) : mirrorCells cells d = mirrorTry (cells.foldl (fun d c => mirrorCell c d) d) :=
  if_neg (by simp [h])

theorem declRecord_shadow (leg n : Nat) (models : List ModelRec) :
    declRecord leg n models d =
      mirrorTry { d with brc := { d.brc with decl := some (leg, n), models := models.foldl (fun t m => tput t m.entry m) [] } } :=
  if_neg (by simp [h])

theorem pubMirrorRx_handed {leg : Nat} (entries : List PubMirror) (hl : d.brc.handed = some leg) :
    pubMirrorRx leg entries d = adoptMirror entries d :=
  (if_neg (by simp [h])).trans (if_pos hl)

theorem pubMirrorRx_waits {leg : Nat} (entries : List PubMirror) (hl : d.brc.handed ≠ some leg) :
    pubMirrorRx leg entries d = { d with brc := { d.brc with mirror := some (leg, entries) } } :=
  (if_neg (by simp [h])).trans (if_neg hl)

theorem journalRx_shadow (e : JEntry) :
    journalRx e d = match e with
      | .cmd op h data map img => journalCmd op h data map img d
      | .words kind i w => journalWords kind i w d :=
  if_neg (by simp [h])

/-! Digests (R336). -/

section
variable {leg : Nat} {digests mine : List Nat}

omit h in
theorem digestRx_otherLeg (ho : (∀ mine, d.brc.own ≠ some (leg, mine)) ∨ orphan d = true) : digestRx leg digests d = d := by
  unfold digestRx
  split
  · rfl
  · next l mine hm =>
    refine if_pos ?_
    rcases ho with ho | ho
    · have hl : l ≠ leg := fun hl => ho mine (hl ▸ hm)
      simp [hl]
    · simp [ho]

variable (hm : d.brc.own = some (leg, mine)) (ho : orphan d = false)
include hm ho

theorem digestRx_same (hd : firstDiff 0 mine (takePad 0 512 digests) = none) :
    digestRx leg digests d = { d with brc := { d.brc with okLegs := d.brc.okLegs + 1 } }.bump Reg.brcMatchRun := by
  simp only [digestRx, hm, hd, h, ho, Bool.not_true, ne_eq, not_true_eq_false, decide_false, Bool.or_self, Bool.false_eq_true, if_false]

theorem digestRx_differs {k : Nat} (hd : firstDiff 0 mine (takePad 0 512 digests) = some k) :
    digestRx leg digests d =
      let d1 := raise 300 none k leg (((d.wn Reg.brcMismatchInfo (k + leg % 65536 * 65536)).bump Reg.brcMismatchCnt).wn Reg.brcMatchRun 0)
      if brcRole d1 = roleStandby then proofLost d1 else { d1 with brc := { d1.brc with okLegs := 0 } } := by
  simp only [digestRx, hm, hd, h, ho, Bool.not_true, ne_eq, not_true_eq_false, decide_false, Bool.or_self, Bool.false_eq_true, if_false]

end

/-! A leg that is not mirrored in time (R324, R332). -/

/-- The device that has declared leg `k` from its own frames. -/
def declaredAlone (k : Nat) (d : Dev) : Dev :=
  let mine := d.brc.check.filter (fun p => p.2.leg == k)
  let kept := d.sau.store.filter (fun p => p.2.leg != k)
  let own := lateMerge (d.sau.store.filter (fun p => p.2.leg == k)) (mine.foldl (fun t p => tput t p.1 p.2) kept)
  let d1 := { d with sau := { d.sau with store := own } }
  raise 301 none k 0 ((shadowDeclare k d1).bump Reg.brcUnmirroredCnt)

theorem unmirroredLeg_shadow {k : Nat} (hk : nextDeclare d = some k) :
    unmirroredLeg d =
      let d2 := declaredAlone k d
      if orphan d2 = true then d2 else if brcRole d2 = roleStandby then proofLost d2 else { d2 with brc := { d2.brc with okLegs := 0 } } := by
  unfold unmirroredLeg
  rw [if_neg (by simp [h]), hk]
  rfl

end

theorem unmirroredLeg_none {d : Dev} (h : isShadow d = false ∨ nextDeclare d = none) : unmirroredLeg d = d := by
  rcases h with h | h
  · exact unmirroredLeg_elsewhere h
  · simp only [unmirroredLeg, h, ite_self]

/-! Images of a transfer (R338, R339). -/

/-- A module in RESYNC with a transfer running. -/
abbrev transferRuns (d : Dev) : Prop := brcRole d = roleResync ∧ d.bitR Reg.brcXferStatus 29 = true

theorem transferOff_iff {d : Dev} : (brcRole d ≠ roleResync || !d.bitR Reg.brcXferStatus 29) = false ↔ transferRuns d := by
  simp [transferRuns]

section
variable {d : Dev}

theorem confRx_ignored {conf : ConfImage} (h : ¬ transferRuns d) : confRx conf d = d :=
  if_pos (Bool.of_not_eq_false (mt transferOff_iff.mp h))

theorem confRx_taken {conf : ConfImage} (h : transferRuns d) :
    confRx conf d = { d with brc := { d.brc with conf := some conf } }.setF Reg.brcXferStatus 16 10 conf.cars.length :=
  if_neg (Bool.eq_false_iff.mp (transferOff_iff.mpr h))

variable {c : Nat} {img : CarImage}

theorem imageRx_ignored (h : ¬ transferRuns d ∨ tfind d.cars c = none) : imageRx c img d = d := by
  refine if_pos ?_
  rcases h with h | h
  · rw [Bool.of_not_eq_false (mt transferOff_iff.mp h), Bool.true_or]
  · rw [h, Option.isNone_none, Bool.or_true]

/-- The use of the key slot of the transfer, with what it answers. -/
def imageSlotUse (c : Nat) (img : CarImage) (d : Dev) : Bool × Dev :=
  slotUse (d.fldR Reg.brcXferSlot 0 8) fnImage [3] (.carriage c) false
    (if img.slotBad = true then slotGoesBad (d.fldR Reg.brcXferSlot 0 8) d else d)

/-- A whole image that verifies and fits. -/
abbrev imageGood (c : Nat) (img : CarImage) (d : Dev) : Prop :=
  (imageSlotUse c img d).1 = true ∧ img.tagOk = true ∧ img.slot = d.fldR Reg.brcXferSlot 0 8 ∧ imageFits (imageSlotUse c img d).2 c img = true

/-- What an image that is good does, past the use of the slot. -/
def imageTaken (c : Nat) (img : CarImage) (d : Dev) : Dev :=
  let d1 := restoreNow c 0 (d.tim.absRoute + 1) { img with partner := true } d
  let d2 := { d1 with brc := { d1.brc with imgGen := tput d1.brc.imgGen c img.gen } }
  let k := d2.fldR Reg.brcXferStatus 0 10 + b2n (tfind d.brc.imgGen c).isNone
  let d3 := d2.setF Reg.brcXferStatus 0 10 k
  if d3.fldR Reg.brcXferStatus 16 10 ≤ k then transferEnds cOk [k] { d3 with brc := { d3.brc with xferDone := true } } else d3

variable (hx : transferRuns d) (hc : tfind d.cars c ≠ none)
include hx hc

theorem imageRx_runs :
    imageRx c img d =
      let a := imageSlotUse c img d
      if !a.1 || !img.tagOk || img.slot ≠ d.fldR Reg.brcXferSlot 0 8 || !imageFits a.2 c img then
        transferEnds cDenied [] ((a.2.setB Reg.brcXferStatus 30).emit (.infoEvent 339))
      else imageTaken c img a.2 := by
  have hon : (brcRole d ≠ roleResync || !d.bitR Reg.brcXferStatus 29 || (tfind d.cars c).isNone) = false := by
    rw [transferOff_iff.mpr hx, Bool.false_or, Option.isNone_eq_false_iff, Option.isSome_iff_ne_none]
    exact hc
  simp only [imageTaken, ← Option.not_isSome]
  exact if_neg (Bool.eq_false_iff.mp hon)

theorem imageRx_bad (hg : ¬ imageGood c img d) :
    imageRx c img d =
      transferEnds cDenied [] (((imageSlotUse c img d).2.setB Reg.brcXferStatus 30).emit (.infoEvent 339)) := by
  rw [imageRx_runs hx hc]
  exact if_pos (by_contra fun hn => hg (by simpa [imageGood, and_assoc] using hn))

theorem imageRx_good (hg : imageGood c img d) : imageRx c img d = imageTaken c img (imageSlotUse c img d).2 := by
  rw [imageRx_runs hx hc]
  obtain ⟨ha, ht, hs, hf⟩ := hg
  exact if_neg (by simp [ha, ht, hs, hf])

end

/-! Forwarded requests (R346, R347, R349; 13 R419). -/

section
variable {d : Dev} {b cause : Nat}

theorem forwarded_agree_standby (h : brcRole d = roleStandby) : forwarded (.agree b cause) d = switchAgreed b cause d :=
  if_pos h

theorem forwarded_agree_resync (h : brcRole d = roleResync) : forwarded (.agree b cause) d = raise 305 none cause 0 d :=
  (if_neg (by rw [h]; decide)).trans (if_pos h)

theorem forwarded_agree_other (hs : brcRole d ≠ roleStandby) (hr : brcRole d ≠ roleResync) : forwarded (.agree b cause) d = d :=
  (if_neg hs).trans (if_neg hr)

variable {len w p : Nat} {ret : Bool}

theorem forwarded_proof_standby (h : brcRole d = roleStandby) :
    forwarded (.proof b len ret) d =
      switchAgreed (b * 240) 5 { d with brc := { d.brc with proof := some ⟨b, len, ret, false, false, 0, 0⟩ } } :=
  if_pos h

theorem forwarded_proof_other (h : brcRole d ≠ roleStandby) : forwarded (.proof b len ret) d = d :=
  if_neg h

theorem forwarded_nodeReset_taken (hp : p < 30) (h : orderRefused d p = false) : forwarded (.nodeReset p) d = askOrder p d :=
  if_pos (by simp [hp, h])

theorem forwarded_nodeReset_refused (h : orderRefused d p = true) : forwarded (.nodeReset p) d = d :=
  if_neg (by simp [h])

theorem proofResult_mine (h : ∃ p, d.brc.proof = some p ∧ p.begun = true ∧ p.mine = true) : proofResult w d = proofOver w d := by
  obtain ⟨p, hp, hb, hm⟩ := h
  simp only [proofResult, hp, hb, hm, Bool.and_self, if_true]

theorem proofResult_notMine (h : ∀ p, d.brc.proof = some p → p.begun = true → p.mine = false) : proofResult w d = d := by
  unfold proofResult
  split
  · next p hp =>
    refine if_neg (fun hc => ?_)
    obtain ⟨hb, hm⟩ := (Bool.and_eq_true _ _).mp hc
    exact Bool.false_ne_true ((h p hp hb).symm.trans hm)
  · rfl

end

/-- Settles O44: what stops any message, a leg that is not mirrored, and each kind of message that is heard by its own case. -/
theorem braceMessages : Obligations.BraceMessages := by
  intro s h cells leg n c models items entries seats digests e st img conf r
  refine ⟨fun m hm hup => ?row, fun hup k hs hk => ?alone, fun hup hn => State.act_of_eq hup (unmirroredLeg_none hn), fun hh => ?heard⟩
  case row =>
    obtain ⟨f, hf⟩ := exec_brcRow (s := s) hm hup
    refine ⟨fun ho => hf.trans (next_commit (brcTake_off f ho)), fun h1 h2 h3 => ?_⟩
    obtain ⟨hcrc, hdup, hclash, hver⟩ := brcTake_cases f h1 h2 h3
    exact ⟨fun a => hf.trans (next_commit (hcrc a)), fun a b => hf.trans (next_commit (hdup a b)),
      fun a b c => hf.trans (next_commit (hclash a b c)), fun a b c d => hf.trans (next_commit (hver a b c d))⟩
  case alone =>
    have hx : exec .unmirroredLeg s = _ := State.act_of_eq hup (unmirroredLeg_shadow hs hk)
    refine ⟨fun ho => ?_, fun ho hr => ?_, fun ho hr => ?_⟩
    · exact hx.trans (next_commit (if_pos ho))
    · exact hx.trans (next_commit ((if_neg (Bool.eq_false_iff.mp ho)).trans (if_pos hr)))
    · exact hx.trans (next_commit ((if_neg (Bool.eq_false_iff.mp ho)).trans (if_neg hr)))
  case heard =>
    intro d
    have hcells : exec (.mirrorCells h cells) s = _ := act_heard (mirrorCells cells) hh
    have hdecl : exec (.declarationRecord h leg n models) s = _ := act_heard (declRecord leg n models) hh
    have hp2 : exec (.p2CompletionList h items) s = _ := act_heard (fun d => if isShadow d then
      { d with brc := { d.brc with p2 := d.brc.p2 ++ items.filter (fun i => !d.brc.p2.contains i) } } else d) hh
    have hpub : exec (.publicationMirror h leg entries) s = _ := act_heard (pubMirrorRx leg entries) hh
    have htrip : exec (.tripSeatImages h seats) s = _ := act_heard (fun d => if isShadow d then
      { d with brc := { d.brc with trips := seats.foldl (fun t p => tput t p.1 p.2) d.brc.trips } } else d) hh
    have hdig : exec (.digestTable h leg digests) s = _ := act_heard (digestRx leg digests) hh
    have hjour (e : JEntry) : exec (.configJournal h e) s = _ := act_heard (journalRx e) hh
    have hconf : exec (.configurationImage h conf) s = _ := act_heard (confRx conf) hh
    have hfwd (r : FwdReq) : exec (.forwardedRequest h r) s = _ := act_heard (forwarded r) hh
    refine ⟨act_heard (takeTrigger 1) hh, ?status, fun hs => ⟨?_, ?_, ?_, ?_, ?_, ?_, ?_⟩,
      fun hs => ⟨?_, ?_, ?_, ?_, ?_, ?_, fun mine hm ho => ⟨?_, ?_⟩, ?_, ?_, ?_⟩, ⟨?_, ?_, fun hc => ?image⟩,
      ?_, ?_, ?_, ?_, ?_, hfwd .switchCmd, hfwd .transfer, fun p hp => ⟨?_, ?_, ?_⟩, ?_, ?_, hfwd r⟩
    case status => exact State.act_of_eq (f := fun d => brcTake h (statusMsg h d.brc.peer st) d) (heard_up hh) (brcTake_heard _ hh)
    · exact hcells.trans (next_commit (mirrorCells_elsewhere hs cells))
    · exact hdecl.trans (next_commit (declRecord_elsewhere hs leg n models))
    · exact hp2.trans (next_commit (if_neg (Bool.eq_false_iff.mp hs)))
    · exact hpub.trans (next_commit (pubMirrorRx_elsewhere hs leg entries))
    · exact htrip.trans (next_commit (if_neg (Bool.eq_false_iff.mp hs)))
    · exact hdig.trans (next_commit (digestRx_elsewhere hs leg digests))
    · exact (hjour e).trans (next_commit (journalRx_elsewhere hs e))
    · exact hcells.trans (next_commit (mirrorCells_shadow hs cells))
    · exact hdecl.trans (next_commit (declRecord_shadow hs leg n models))
    · exact hp2.trans (next_commit (if_pos hs))
    · exact fun hl => hpub.trans (next_commit (pubMirrorRx_handed hs entries hl))
    · exact fun hl => hpub.trans (next_commit (pubMirrorRx_waits hs entries hl))
    · exact htrip.trans (next_commit (if_pos hs))
    · exact fun hd => hdig.trans (next_commit (digestRx_same hs hm ho hd))
    · exact fun k hd => hdig.trans (next_commit (digestRx_differs hs hm ho hd))
    · exact fun ho => hdig.trans (next_commit (digestRx_otherLeg ho))
    · rintro kind i w rfl
      exact (hjour _).trans (next_commit (journalRx_shadow hs _))
    · rintro op x data map im rfl
      exact (hjour _).trans (next_commit (journalRx_shadow hs _))
    · exact fun hx => hconf.trans (next_commit (confRx_ignored hx))
    · exact fun hx => hconf.trans (next_commit (confRx_taken hx))
    case image =>
      intro slot a good d1 d2 k d3
      have himg : exec (.carriageImageArrival h c img) s = _ :=
        (State.act_onlyIf (heard_up hh) (decide_eq_true hc) (brcTake h (imageRx c img))).trans (next_commit (brcTake_heard (imageRx c img) hh))
      refine ⟨fun hx => ?_, fun hx hf hg => ?_, fun hx hf hg => ?_⟩
      · exact himg.trans (next_commit (imageRx_ignored hx))
      · exact himg.trans (next_commit (imageRx_bad hx hf hg))
      · exact himg.trans (next_commit (imageRx_good hx hf hg))
    · exact fun b cause hr => (hfwd _).trans (next_commit (forwarded_agree_standby hr))
    · exact fun b cause hr => (hfwd _).trans (next_commit (forwarded_agree_resync hr))
    · exact fun b cause hs hr => (hfwd _).trans (next_commit (forwarded_agree_other hs hr))
    · exact fun b len ret hr => (hfwd _).trans (next_commit (forwarded_proof_standby hr))
    · exact fun b len ret hr => (hfwd _).trans (next_commit (forwarded_proof_other hr))
    · exact (hfwd _).trans (next_commit (if_pos hp))
    · exact fun ho => (hfwd _).trans (next_commit (forwarded_nodeReset_taken hp ho))
    · exact fun ho => (hfwd _).trans (next_commit (forwarded_nodeReset_refused ho))
    · exact fun w hp => (hfwd _).trans (next_commit (proofResult_mine hp))
    · exact fun w hp => (hfwd _).trans (next_commit (proofResult_notMine hp))

end Sys2Proof.Machine
end

section
/-! SUPPORT and PROOF. Switch-over of a Brace pair (11 R326 to R328, R338, R340, R342 to R349; 13 R418): triggers, fences, planned switch-overs,
the end of RESYNC, proofs, and the Brace opcodes. -/

namespace Sys2Proof.Machine

/-! Triggers: the partner's Lantern, and the wait for a partner (R327, R343). -/

section
variable {d : Dev}

/-- The partner's Lantern has not moved for its time. -/
def lanternDue (d : Dev) : Prop := d.brc.ltnRun = true ∧ d.brc.ltn + d.fldR Reg.brcLtnTimeout 0 10 ≤ d.tim.absTick

theorem lanternDue_iff :
    lanternDue d ↔ (!d.brc.ltnRun || d.tim.absTick < d.brc.ltn + d.fldR Reg.brcLtnTimeout 0 10) = false := by
  simp [lanternDue]

theorem lanternTimeout_due (h : lanternDue d) :
    lanternTimeout d = takeTrigger 2 ({ d with brc := { d.brc with ltnRun := false } }.clrB Reg.brcStatus 6) :=
  if_neg (Bool.eq_false_iff.mp (lanternDue_iff.mp h))

theorem lanternTimeout_notDue (h : ¬ lanternDue d) : lanternTimeout d = d :=
  if_pos (Bool.of_not_eq_false (mt lanternDue_iff.mpr h))

/-- The wait for a partner is over. -/
def pairWaitDue (d : Dev) : Prop :=
  ∃ r, d.brc.waitFrom = some r ∧ roleOpen d = true ∧ r + d.fldR Reg.brcPairWait 0 11 ≤ d.tim.absRoute ∧ paired d = false

theorem pairWaitOver_due (h : pairWaitDue d) : pairWaitOver d = becomeActive d := by
  obtain ⟨r, hr, ho, hw, hp⟩ := h
  simp only [pairWaitOver, hr, ho, hw, hp, decide_true, Bool.not_false, Bool.and_self, if_true]

theorem pairWaitOver_notDue (h : ¬ pairWaitDue d) : pairWaitOver d = d := by
  unfold pairWaitOver
  split
  · next r hr => exact if_neg (fun hc => h ⟨r, hr, by simpa [and_assoc] using hc⟩)
  · rfl

/-! Fences (R326, R328, R344). -/

theorem fenceNow_fenced (n : Nat) (h : isFenced d = true) : fenceNow n d = d := if_pos h

theorem fenceNow_acts (n : Nat) (h : isFenced d = false) :
    fenceNow n d =
      (List.range 11).foldl (fun d p => flushQueue p 7 (flushQueue p 6 d)) (raise 306 none n 0 (d.setB Reg.glbStatus 4)) :=
  if_neg (Bool.eq_false_iff.mp h)

theorem fenceRow_unfenced {n : Nat} (h : d.sup.fence = some n) (hr : brcRole d ≠ roleFenced) :
    fenceRow d = setBrcRole roleFenced (fenceNow n d) := by
  simp only [fenceRow, h, if_neg hr]

theorem fenceRow_again {n : Nat} (h : d.sup.fence = some n) (hr : brcRole d = roleFenced) : fenceRow d = fenceNow n d := by
  simp only [fenceRow, h, if_pos hr]

section
variable (h : d.sup.fence = none)
include h

theorem fenceRow_due {t r : Nat} (hd : d.brc.fenceDue = some (t, r)) (ht : t < d.tim.absTick) :
    fenceRow d =
      let d1 := fenceNow 6 { d with brc := { d.brc with fenceDue := none } }
      if r = roleResync then enterResync d1 else setBrcRole r d1 := by
  simp only [fenceRow, h, hd, if_neg (Nat.not_le.mpr ht)]

theorem fenceRow_early {t r : Nat} (hd : d.brc.fenceDue = some (t, r)) (ht : d.tim.absTick ≤ t) : fenceRow d = d := by
  simp only [fenceRow, h, hd, if_pos ht]

theorem fenceRow_none (hd : d.brc.fenceDue = none) : fenceRow d = d := by
  simp only [fenceRow, h, hd]

end

/-! A trigger taken in an earlier tick (R345, R347). -/

section
variable {cause t : Nat} (h : d.brc.trig = some (cause, t))
include h

theorem takeoverRow_early (ht : d.tim.absTick ≤ t) : takeoverRow d = d := by
  simp only [takeoverRow, h, if_pos ht]

variable (ht : t < d.tim.absTick)
include ht

theorem takeoverRow_standby (hr : brcRole d = roleStandby) : takeoverRow d = takeover cause t d := by
  simp only [takeoverRow, h, if_neg (Nat.not_le.mpr ht), if_pos hr]

theorem takeoverRow_otherRole (hr : brcRole d ≠ roleStandby) :
    takeoverRow d = raise 305 none cause 0 { d with brc := { d.brc with trig := none } } := by
  simp only [takeoverRow, h, if_neg (Nat.not_le.mpr ht), if_neg hr]

end

theorem takeoverRow_none (h : d.brc.trig = none) : takeoverRow d = d := by
  simp only [takeoverRow, h]

/-! A planned switch-over (R346). -/

theorem plannedSwitch_none (h : d.brc.switchAt = none) : plannedSwitch d = d := by
  simp only [plannedSwitch, h]

/-- The tick at which a switch-over at leg `b` acts: past the hand-off of the leg before it. -/
def switchTick (b : Nat) (d : Dev) : Nat := (b - 1) * 16 + holdFor d (b - 1) + 4

/-- The device whose switch-over comes: a proof begins with cause 5, and the commands that asked for it end. -/
def switchComes (b cause : Nat) (d : Dev) : Dev :=
  let d1 := { d with brc := { d.brc with switchAt := none } }
  let d2 := if cause = 5 then proofBegins d1 else d1
  (d2.cmd.jobs.filter (fun j => j.op == 0x702)).foldl (fun d j => finishJob j.ident cOk [tickCodeOf (b * 16)] d) d2

/-- The ACTIVE steps down at tick `t`. -/
def stepsDown (b cause t : Nat) (d : Dev) : Dev :=
  let d4 := (d.wn Reg.brcSwitchTc (tickCodeOf t)).setF Reg.brcSwitchCause 0 3 cause
  let d5 := { d4 with brc := { d4.brc with grace := if d4.tim.absTick / 16 = b then some b else none } }
  setSrc 2 (raise 304 none cause 0 (setBrcRole roleStandby (fenceNow cause d5)))

section
variable {b cause : Nat} (h : d.brc.switchAt = some (b, cause))
include h

theorem plannedSwitch_early (ht : d.tim.absTick < switchTick b d) : plannedSwitch d = d := by
  simp only [plannedSwitch, h]
  exact if_pos ht

theorem plannedSwitch_acts (ht : switchTick b d ≤ d.tim.absTick) :
    plannedSwitch d =
      let d3 := switchComes b cause d
      if brcRole d3 = roleActive then stepsDown b cause (switchTick b d) d3 else takeTrigger cause d3 := by
  simp only [plannedSwitch, h]
  exact if_neg (Nat.not_lt.mpr ht)

end

/-! The end of RESYNC (R340). -/

section
variable {same : Bool}

theorem resyncComplete_otherRole (h : brcRole d ≠ roleResync) : resyncComplete same d = d := if_pos h

variable (h : brcRole d = roleResync)
include h

theorem resyncComplete_fails (hc : resyncReady d = false ∨ same = false) :
    resyncComplete same d = { d with brc := { d.brc with okLegs := 0 } } :=
  (if_neg (not_not_intro h)).trans (if_pos (by simpa using hc))

variable (hr : resyncReady d = true) (hs : same = true)
include hr hs

theorem resyncComplete_waits (hl : d.brc.okLegs < 2) : resyncComplete same d = d :=
  (if_neg (not_not_intro h)).trans ((if_neg (by simp [hr, hs])).trans (if_pos hl))

theorem resyncComplete_ends (hl : 2 ≤ d.brc.okLegs) : resyncComplete same d = raise 303 none 0 0 (setBrcRole roleStandby d) :=
  (if_neg (not_not_intro h)).trans ((if_neg (by simp [hr, hs])).trans (if_neg (Nat.not_lt.mpr hl)))

end

/-! The end of a proof (R348, R349). -/

section
variable {p : Proof} {seen : Nat}

/-- What a proof is judged by: the failed checks of the state, and those that the command reports. -/
def judgedCauses (p : Proof) (seen : Nat) (d : Dev) : Nat := proofCauses p d ||| seen

/-- The module judges: it became active with a proof that has begun, and a check failed or its routes are over. -/
abbrev proofJudges (p : Proof) (seen : Nat) (d : Dev) : Prop :=
  p.begun = true ∧ p.mine = false ∧ brcRole d = roleActive ∧ (judgedCauses p seen d ≠ 0 ∨ d.fldR Reg.brcProofStatus 16 11 = 0)

/-- The device that has judged, told its partner and ended the proof; `pass` as the row computes it. -/
def proofToldAs (pass : Bool) (causes : Nat) (d : Dev) : Dev :=
  let w := (if pass then 2 else 4) + causes * 16 + d.fldR Reg.brcProofStatus 16 11 * 65536
  let d1 := if pass then { d with brc := { d.brc with proven := true } }.clrB Reg.brcStatus 7 else d
  proofOver w (d1.braceMsg 12 [w])

/-- The same with no cause for a pass. -/
def proofTold (causes : Nat) (d : Dev) : Dev :=
  let w := (if causes = 0 then 2 else 4) + causes * 16 + d.fldR Reg.brcProofStatus 16 11 * 65536
  let d1 := if causes = 0 then { d with brc := { d.brc with proven := true } }.clrB Reg.brcStatus 7 else d
  proofOver w (d1.braceMsg 12 [w])

theorem proofToldAs_eq (causes : Nat) (d : Dev) : proofToldAs (causes == 0) causes d = proofTold causes d := by
  simp only [proofToldAs, proofTold, beq_iff_eq]

theorem proofEnds_none (h : d.brc.proof = none) : proofEnds seen d = d := by
  simp only [proofEnds, h]

variable (h : d.brc.proof = some p)
include h

omit h in
theorem proofJudges_iff :
    proofJudges p seen d ↔ (!p.begun || p.mine || brcRole d ≠ roleActive ||
      (judgedCauses p seen d = 0 && d.fldR Reg.brcProofStatus 16 11 ≠ 0)) = false := by
  simp only [proofJudges, Bool.or_eq_false_iff, Bool.not_eq_false', Bool.and_eq_false_iff, decide_eq_false_iff_not, not_not, and_assoc, ne_eq]

theorem proofEnds_runs (hj : ¬ proofJudges p seen d) : proofEnds seen d = d := by
  simp only [proofEnds, h]
  exact if_pos (Bool.of_not_eq_false (mt (proofJudges_iff).mpr hj))

theorem proofEnds_judges (hj : proofJudges p seen d) :
    proofEnds seen d =
      let d2 := proofTold (judgedCauses p seen d) d
      if judgedCauses p seen d = 0 ∧ p.ret = false then d2
      else switchAgreed (agreedLeg d2) 5 (d2.braceMsg 11 [agreedLeg d2, 5]) := by
  have hoff := Bool.eq_false_iff.mp (proofJudges_iff.mp hj)
  have hrow : proofEnds seen d =
      let d2 := proofToldAs (judgedCauses p seen d == 0) (judgedCauses p seen d) d
      if (judgedCauses p seen d == 0 && !p.ret) = true then d2
      else switchAgreed (agreedLeg d2) 5 (d2.braceMsg 11 [agreedLeg d2, 5]) := by
    unfold proofEnds
    rw [h]
    exact if_neg hoff
  rw [hrow, proofToldAs_eq]
  simp only [beq_iff_eq, Bool.and_eq_true, Bool.not_eq_true']

end

end

/-! The Brace opcodes (13 R418). -/

section
variable {d : Dev}

theorem resyncBody_can (h : isShadow d = true ∧ paired d = true ∧ peerIn d roleActive = true) :
    resyncBody d = (askTransfer (if brcRole d = roleStandby then raise 302 none 0 0 (setBrcRole roleResync d) else d), pendA []) :=
  if_neg (by simp [h])

theorem resyncBody_cannot (h : ¬ (isShadow d = true ∧ paired d = true ∧ peerIn d roleActive = true)) :
    resyncBody d = (d, noA cNotReady) :=
  if_pos (by_contra fun hn => h (by simpa [and_assoc] using hn))

/-- BRACE_SWITCH at the active of a pair, and at its standby. -/
abbrev switchFirst (d : Dev) : Prop := brcRole d = roleActive ∧ paired d = true ∧ peerIn d roleStandby = true
abbrev switchSecond (d : Dev) : Prop := brcRole d = roleStandby ∧ paired d = true ∧ peerIn d roleActive = true

theorem switchBody_first (h : switchFirst d) :
    switchBody d = (switchAgreed (agreedLeg d) 3 (d.braceMsg 11 [agreedLeg d, 3]), pendA [tickCodeOf (agreedLeg d * 16)]) :=
  (if_pos h.1).trans (if_neg (by simp [h.2]))

theorem switchBody_second (h : switchSecond d) :
    switchBody d = (d.braceMsg 13 [0x702], pendA [tickCodeOf (agreedLeg d * 16)]) :=
  (if_neg (by rw [h.1]; decide)).trans (if_pos (by simp [h]))

theorem switchBody_neither (h1 : ¬ switchFirst d) (h2 : ¬ switchSecond d) : switchBody d = (d, noA cNotReady) := by
  by_cases hr : brcRole d = roleActive
  · exact (if_pos hr).trans (if_pos (by_contra fun hn => h1 ⟨hr, by simpa using hn⟩))
  · exact (if_neg hr).trans (if_neg (fun hc => h2 (by simpa [and_assoc] using hc)))

/-- Both modules of the pair are in Maintenance, as BRACE_PROOF asks. -/
abbrev proofMaint (d : Dev) : Prop := d.mode = modeMaintenance ∧ ∃ q, d.brc.peer = some q ∧ q.st.maint = true

/-- The partner's part of that, as the row finds it. -/
def peerInMaint (d : Dev) : Bool := match d.brc.peer with | some q => q.st.maint | none => false

theorem peerInMaint_iff : peerInMaint d = true ↔ ∃ q, d.brc.peer = some q ∧ q.st.maint = true := by
  unfold peerInMaint
  cases d.brc.peer <;> simp

theorem notMaint_iff : (d.mode ≠ modeMaintenance || !peerInMaint d) = false ↔ proofMaint d := by
  simp only [Bool.or_eq_false_iff, decide_eq_false_iff_not, ne_eq, not_not, Bool.not_eq_false', peerInMaint_iff]

theorem notPair_iff : (brcRole d ≠ roleActive || !paired d || !peerIn d roleStandby) = false ↔ switchFirst d := by
  simp only [Bool.or_eq_false_iff, decide_eq_false_iff_not, ne_eq, not_not, Bool.not_eq_false', and_assoc]

section
variable {p : List Nat}

theorem proofBody_wrongMode (h : ¬ proofMaint d) : proofBody p d = (d, noA cWrongMode) :=
  if_pos (Bool.of_not_eq_false (mt notMaint_iff.mp h))

variable (h : proofMaint d)
include h

theorem proofBody_notPair (hp : ¬ switchFirst d) : proofBody p d = (d, noA cNotReady) :=
  (if_neg (Bool.eq_false_iff.mp (notMaint_iff.mpr h))).trans (if_pos (Bool.of_not_eq_false (mt notPair_iff.mp hp)))

variable (hp : switchFirst d)
include hp

theorem proofBody_notAhead
    (ha : ¬ (d.tim.absRoute + 2 ≤ routeAhead d (entW p 0) ∧ routeAhead d (entW p 0) < d.tim.absRoute + 2 ^ 19)) :
    proofBody p d = (d, badP 0) := by
  refine (if_neg (Bool.eq_false_iff.mp (notMaint_iff.mpr h))).trans ((if_neg (Bool.eq_false_iff.mp (notPair_iff.mpr hp))).trans (if_pos ?_))
  rw [Bool.or_eq_true, decide_eq_true_eq, decide_eq_true_eq]
  omega

theorem proofBody_planned
    (ha : d.tim.absRoute + 2 ≤ routeAhead d (entW p 0) ∧ routeAhead d (entW p 0) < d.tim.absRoute + 2 ^ 19) :
    proofBody p d =
      let b := routeAhead d (entW p 0)
      (switchAgreed (b * 240) 5 ({ d with brc := { d.brc with proof := some ⟨b, entW p 1, bitOf (entW p 2) 0, true, false, 0, 0⟩ } }.braceMsg 11
        [b * 240, 5, b, entW p 1, entW p 2]), pendA []) := by
  refine (if_neg (Bool.eq_false_iff.mp (notMaint_iff.mpr h))).trans ((if_neg (Bool.eq_false_iff.mp (notPair_iff.mpr hp))).trans (if_neg ?_))
  rw [Bool.or_eq_true, decide_eq_true_eq, decide_eq_true_eq]
  omega

end

end

/-- Settles O45: the rows of the switch-over by their cases, what a fence and the end of a proof do, and each opcode by its own part. -/
theorem braceSwitchOver : Obligations.BraceSwitchOver := by
  intro s h same
  refine ⟨fun hup => ?rows, fun ht => act_takes_of_body ht rfl, fun ht => ⟨?_, ?_⟩, fun ht => ⟨?_, ?_, ?_⟩, fun ht => ⟨?_, ?_, ?_, ?_⟩⟩
  case rows =>
    intro d
    have hltn {e : Dev} (he : lanternTimeout d = e) : exec .lanternTimeout s = .next (s.commit e) := State.act_of_eq hup he
    have hwait {e : Dev} (he : pairWaitOver d = e) : exec .pairWaitExpiry s = .next (s.commit e) := State.act_of_eq hup he
    have hfence {e : Dev} (he : fenceRow d = e) : exec .fence s = .next (s.commit e) := State.act_of_eq hup he
    have htake {e : Dev} (he : takeoverRow d = e) : exec .takeover s = .next (s.commit e) := State.act_of_eq hup he
    have hplan {e : Dev} (he : plannedSwitch d = e) : exec .plannedSwitch s = .next (s.commit e) := State.act_of_eq hup he
    have hsync {e : Dev} (he : resyncComplete same d = e) : exec (.resyncComplete same) s = .next (s.commit e) := State.act_of_eq hup he
    have hproof {seen : Nat} (hs : seen < 32) {e : Dev} (he : proofEnds seen d = e) : exec (.proofExchangeEnd seen) s = .next (s.commit e) :=
      (State.act_onlyIf hup (decide_eq_true hs) (proofEnds seen)).trans (next_commit he)
    refine ⟨State.act_up s lanternEdge hup, ⟨fun h => hltn (lanternTimeout_due h), fun h => hltn (lanternTimeout_notDue h)⟩,
      ⟨fun h => hwait (pairWaitOver_due h), fun h => hwait (pairWaitOver_notDue h)⟩,
      fun n h hr => hfence (fenceRow_unfenced h hr), fun n h hr => hfence (fenceRow_again h hr),
      fun h => ⟨fun t r hd ht => hfence (fenceRow_due h hd ht), fun t r hd ht => hfence (fenceRow_early h hd ht),
        fun hd => hfence (fenceRow_none h hd)⟩,
      fun n => ⟨fenceNow_fenced n, fenceNow_acts n⟩,
      fun cause t h => ⟨fun ht hr => htake (takeoverRow_standby h ht hr), fun ht hr => htake (takeoverRow_otherRole h ht hr),
        fun ht => htake (takeoverRow_early h ht)⟩,
      fun h => htake (takeoverRow_none h), fun h => hplan (plannedSwitch_none h),
      fun b cause h => ⟨fun ht => hplan (plannedSwitch_early h ht), fun ht => ⟨fun hr => ?_, fun hr => ?_⟩⟩,
      fun h => hsync (resyncComplete_otherRole h), fun h hc => hsync (resyncComplete_fails h hc),
      fun h hr hs => ⟨fun hl => hsync (resyncComplete_waits h hr hs hl), fun hl => hsync (resyncComplete_ends h hr hs hl)⟩,
      fun seen hs h => hproof hs (proofEnds_none h),
      fun p seen hs h => ⟨fun hj => hproof hs (proofEnds_runs h hj), fun hj => ⟨fun hc hr => ?_, fun hc => ?_⟩⟩, fun w => rfl⟩
    · exact hplan ((plannedSwitch_acts h ht).trans (if_pos hr))
    · exact hplan ((plannedSwitch_acts h ht).trans (if_neg hr))
    · exact hproof hs ((proofEnds_judges h hj).trans (if_pos ⟨hc, hr⟩))
    · refine hproof hs ((proofEnds_judges h hj).trans (if_neg (fun hn => ?_)))
      rcases hc with hc | hc
      · exact hc hn.1
      · exact Bool.false_ne_true (hn.2.symm.trans hc)
  · exact fun hc => act_takes_of_body ht (resyncBody_can hc)
  · exact fun hc => act_takes_of_body ht (resyncBody_cannot hc)
  · exact fun hc => act_takes_of_body ht (switchBody_first hc)
  · exact fun hc => act_takes_of_body ht (switchBody_second hc)
  · exact fun h1 h2 => act_takes_of_body ht (switchBody_neither h1 h2)
  · exact fun hm => act_takes_of_body ht (proofBody_wrongMode hm)
  · exact fun hm hp => act_takes_of_body ht (proofBody_notPair hm hp)
  · exact fun hm hp ha => act_takes_of_body ht (proofBody_notAhead hm hp ha)
  · exact fun hm hp ha => act_takes_of_body ht (proofBody_planned hm hp ha)

end Sys2Proof.Machine
end

section
/-! SUPPORT and PROOF. Resets (16 R464 to R470, R473, R477, R478, R489, R490, R495; 12 R381): what asks for one, which acts, what holds, and the
two timers. -/

namespace Sys2Proof.Machine

/-! Asking for a reset (R465 to R468). -/

section
variable {level cause flags : Nat} {d : Dev}

theorem askReset_held (h : d.rst.held ≠ none) : askReset level cause flags d = resetAbsorbed d :=
  if_pos (Option.isSome_iff_ne_none.mpr h)

section
variable (h : d.rst.held = none)
include h

theorem askReset_free (hp : d.rst.pend = none) : askReset level cause flags d = placeReset level cause flags d := by
  simp [askReset, h, hp]

variable {r : ResetReq} (hp : d.rst.pend = some r)
include hp

/-- The reset asked for goes before the one that waits: of a higher level, or of a lower cause in its tick. -/
abbrev resetAbove (level cause : Nat) (r : ResetReq) (d : Dev) : Prop :=
  level < r.level ∨ (r.tick = d.tim.absTick ∧ level = r.level ∧ cause < r.cause)

theorem askReset_pending :
    askReset level cause flags d =
      if resetAbove level cause r d then placeReset level cause flags d
      else if r.tick = d.tim.absTick then d else resetAbsorbed d := by
  simp [askReset, h, hp, resetAbove, and_assoc]

theorem askReset_above (ha : resetAbove level cause r d) : askReset level cause flags d = placeReset level cause flags d :=
  (askReset_pending h hp).trans (if_pos ha)

theorem askReset_sameTick (ha : ¬ resetAbove level cause r d) (ht : r.tick = d.tim.absTick) : askReset level cause flags d = d :=
  (askReset_pending h hp).trans ((if_neg ha).trans (if_pos ht))

theorem askReset_later (ha : ¬ resetAbove level cause r d) (ht : r.tick ≠ d.tim.absTick) :
    askReset level cause flags d = resetAbsorbed d :=
  (askReset_pending h hp).trans ((if_neg ha).trans (if_neg ht))

end

theorem placeReset_plain (h : level ≠ 1 ∨ brcRole d ≠ roleActive) :
    placeReset level cause flags d =
      { d with rst := { d.rst with pend := some ⟨level, cause, flags, d.tim.absTick, d.tc⟩ } } := by
  have hf : (level == 1 && brcRole d == roleActive) = false := by
    rw [Bool.and_eq_false_iff, beq_eq_false_iff_ne, beq_eq_false_iff_ne]
    exact h
  simp only [placeReset, hf, b2n, Bool.false_eq_true, if_false, Nat.zero_mul, Nat.add_zero]

/-- The device that has sent FAIL and fenced, before its system reset. -/
def failFenced (d : Dev) : Dev := setBrcRole roleFenced (fenceNow 0 (d.braceMsg 9 []))

theorem placeReset_fences (h : level = 1) (hr : brcRole d = roleActive) :
    placeReset level cause flags d =
      let d1 := failFenced d
      { d1 with rst := { d1.rst with pend := some ⟨1, cause, flags + 0x200, d1.tim.absTick, d1.tc⟩ } } := by
  subst h
  have hf : (1 == 1 && brcRole d == roleActive) = true := by simp [hr]
  simp only [placeReset, hf, b2n, if_true, Nat.one_mul, failFenced]

end

/-! RESET_IN_N (R469, R490). -/

section
variable {ns : Nat} {s : State}

/-- What RESET_IN_N does once it is taken: it ends Parked, or asks for a system reset. -/
def resetInTaken (d : Dev) : Dev :=
  if d.rst.park then ({ d with rst := { d.rst with park := false } }.wn Reg.rstCause (2 + 16)).wn Reg.rstCauseTc d.tc else askReset 1 2 0 d

/-- The row's own choice: the pulse is taken by its length, or by the free value. -/
def resetInEffect (ns : Nat) (d : Dev) : Dev :=
  let d' := if 100 ≤ ns && ns < 1000 then d.free.2 else d
  if !(1000 ≤ ns || (100 ≤ ns && d.free.1 % 2 == 1)) then d' else resetInTaken d'

theorem exec_resetIn (ns : Nat) (s : State) : exec (.resetIn ns) s = .next (s.commit (resetInEffect ns s.dev)) := rfl

variable {d : Dev}

theorem resetInEffect_short (h : ns < 100) : resetInEffect ns d = d := by
  simp [resetInEffect, show ¬ 100 ≤ ns by omega, show ¬ 1000 ≤ ns by omega]

theorem resetInEffect_long (h : 1000 ≤ ns) : resetInEffect ns d = resetInTaken d := by
  simp [resetInEffect, h, show ¬ ns < 1000 by omega]

section
variable (h1 : 100 ≤ ns) (h2 : ns < 1000)
include h1 h2

theorem resetInEffect_ignored (hf : d.free.1 % 2 = 0) : resetInEffect ns d = d.free.2 := by
  simp [resetInEffect, h1, h2, show ¬ 1000 ≤ ns by omega, hf]

theorem resetInEffect_chosen (hf : d.free.1 % 2 = 1) : resetInEffect ns d = resetInTaken d.free.2 := by
  simp [resetInEffect, h1, h2, show ¬ 1000 ≤ ns by omega, hf]

end

end

/-! Resets that act: power-on, system and core. -/

section
variable {s : State}

theorem exec_powerOnReset_holds (h : s.dev.rst.held ≠ some 0) :
    exec .powerOnReset s = .next { s with dev := { porHold s.dev with dramW := [] }, mem := [] } :=
  if_neg h

theorem exec_powerOnReset_absorbed (h : s.dev.rst.held = some 0) : exec .powerOnReset s = .next (s.commit (resetAbsorbed s.dev)) :=
  if_pos h

theorem execSystemReset_due {r : ResetReq} (h : sysDue s.dev = some r) :
    execSystemReset s = .next { s with dev := { sysHold r s.dev with dramW := [] }, mem := [] } := by
  simp only [execSystemReset, h, State.hold]

theorem execSystemReset_none (h : sysDue s.dev = none) : execSystemReset s = .next s := by
  simp only [execSystemReset, h]

/-- The core reset that waits, as its row takes it. -/
def coreResetDue (d : Dev) : Dev :=
  match d.rst.pend with | some r => if r.level = 2 then coreReset r d else d | none => d

theorem exec_coreReset_up (hup : s.dev.up = true) : exec .coreReset s = .next (s.commit (coreResetDue s.dev)) :=
  State.act_up s coreResetDue hup

variable {d : Dev}

theorem coreResetDue_core {r : ResetReq} (h : d.rst.pend = some r) (hl : r.level = 2) : coreResetDue d = coreReset r d := by
  simp only [coreResetDue, h, if_pos hl]

theorem coreResetDue_other {r : ResetReq} (h : d.rst.pend = some r) (hl : r.level ≠ 2) : coreResetDue d = d := by
  simp only [coreResetDue, h, if_neg hl]

theorem coreResetDue_none (h : d.rst.pend = none) : coreResetDue d = d := by
  simp only [coreResetDue, h]

end

/-! The watchdog and the start timer (R477, R478). -/

section
variable {d : Dev}

/-- Half the watchdog's time is over and no warning given; and all of it; and the start timer's. -/
abbrev wdtHalf (d : Dev) : Prop := wdtRuns d = true ∧ d.rst.warned = false ∧ wdtTimeout d * 768 ≤ d.rst.wdtTicks * 20
abbrev wdtFull (d : Dev) : Prop := wdtRuns d = true ∧ wdtTimeout d * 768 ≤ d.rst.wdtTicks * 10
abbrev startDue (d : Dev) : Prop := startRuns d = true ∧ 2304000 ≤ d.rst.startTicks

theorem wdtWarn_half (h : wdtHalf d) : wdtWarn d = raise 33 none 0 0 { d with rst := { d.rst with warned := true } } :=
  if_pos (by simpa [and_assoc] using h)

theorem wdtWarn_notHalf (h : ¬ wdtHalf d) : wdtWarn d = d :=
  if_neg (fun hc => h (by simpa [and_assoc] using hc))

theorem wdtExpiry_full (h : wdtFull d) : wdtExpiry d = askReset 2 3 0 { d with rst := { d.rst with wdtTicks := 0, warned := false } } :=
  if_pos (by simpa using h)

theorem wdtExpiry_notFull (h : ¬ wdtFull d) : wdtExpiry d = d :=
  if_neg (fun hc => h (by simpa using hc))

theorem startTimeout_notDue (h : ¬ startDue d) : startTimeout d = d :=
  if_neg (fun hc => h (by simpa using hc))

theorem startTimeout_due (h : startDue d) :
    startTimeout d = if d.up then askReset 1 3 0x40 d else if d.rst.pend.isNone then placeReset 1 3 0x40 d else d :=
  if_pos (by simpa using h)

end

theorem exec_startTimeout (s : State) : exec .startTimeout s = .next (s.commit (startTimeout s.dev)) := rfl

/-- Settles O46: each clause is a case of the row's own operation; which of two resets acts is `askReset`'s. -/
theorem resets : Obligations.Resets := by
  intro s ns v d wake
  have hin := exec_resetIn ns s
  have hst := exec_startTimeout s
  refine ⟨exec_powerOnReset_holds, exec_powerOnReset_absorbed, fun r h => execSystemReset_due h, fun h => execSystemReset_none h,
    fun h => hin.trans (next_commit (resetInEffect_short h)),
    fun h hp => hin.trans (next_commit ((resetInEffect_long h).trans (if_neg (Bool.eq_false_iff.mp hp)))),
    fun h hp => hin.trans (next_commit ((resetInEffect_long h).trans (if_pos hp))),
    fun h1 h2 => ⟨fun hf => hin.trans (next_commit (resetInEffect_ignored h1 h2 hf)),
      fun hf => hin.trans (next_commit (resetInEffect_chosen h1 h2 hf))⟩,
    ⟨fun h => hst.trans (next_commit (startTimeout_notDue h)), fun h hu => ?_, fun h hu hp => ?_, fun h hu hp => ?_⟩,
    fun level cause flags => ⟨askReset_held, askReset_free, fun r h hp => ⟨askReset_above h hp, askReset_sameTick h hp, askReset_later h hp⟩,
      placeReset_plain, placeReset_fences⟩,
    fun hup => ?running⟩
  · exact hst.trans (next_commit ((startTimeout_due h).trans (if_pos hu)))
  · exact hst.trans (next_commit ((startTimeout_due h).trans ((if_neg (Bool.eq_false_iff.mp hu)).trans
      (if_pos (Option.isNone_iff_eq_none.mpr hp)))))
  · exact hst.trans (next_commit ((startTimeout_due h).trans ((if_neg (Bool.eq_false_iff.mp hu)).trans
      (if_neg (mt Option.isNone_iff_eq_none.mp hp)))))
  case running =>
    have hcore := exec_coreReset_up hup
    have hkick : exec (.watchdogKick v) s = .next (s.commit (wdtKick v.toNat d)) := State.act_up s (wdtKick v.toNat) hup
    have hwarn : exec .watchdogWarn s = .next (s.commit (wdtWarn d)) := State.act_up s wdtWarn hup
    have hexp : exec .watchdogExpiry s = .next (s.commit (wdtExpiry d)) := State.act_up s wdtExpiry hup
    exact ⟨fun r h hl => hcore.trans (next_commit (coreResetDue_core h hl)), fun r h hl => hcore.trans (next_commit (coreResetDue_other h hl)),
      fun h => hcore.trans (next_commit (coreResetDue_none h)),
      State.act_up s (askReset 2 4 0) hup, State.act_up s (askReset 1 4 0) hup, State.act_up s (askReset 1 4 0x80) hup,
      State.act_up s (askReset 1 5 0) hup,
      fun h => hkick.trans (next_commit (if_pos h)), fun h => hkick.trans (next_commit (if_neg (Bool.eq_false_iff.mp h))),
      ⟨fun h => hwarn.trans (next_commit (wdtWarn_half h)), fun h => hwarn.trans (next_commit (wdtWarn_notHalf h))⟩,
      ⟨fun h => hexp.trans (next_commit (wdtExpiry_full h)), fun h => hexp.trans (next_commit (wdtExpiry_notFull h))⟩⟩

end Sys2Proof.Machine
end

section
/-! SUPPORT and PROOF. Release and power (16 R471 to R474, R480 to R482, R490, R499; 03 R96; 17 R523; 18 R542): how a release ends, the Livery,
power failure and wake frames. -/

namespace Sys2Proof.Machine

/-! A release (R471). -/

theorem exec_resetRelease (r : Release) (s : State) : exec (.resetRelease r) s = .next (s.commit (release r s.dev)) := rfl

section
variable {r : Release} {d : Dev}

theorem release_waits
    (h : d.up = true ∨ d.rst.park = true ∨ d.rst.partway = true ∨ d.rst.pfailPin = true ∨ d.rst.refLost = true) : release r d = d :=
  if_pos (by simpa [or_assoc] using h)

/-- The device past steps 1 and 2 of its release: clocks, time and keys. -/
def relStarted (r : Release) (d : Dev) : Dev := relKeys r (relTime r (relClocks r { d with sbx := { d.sbx with bkNew := false } }))

/-- The count of failed starts that the release reports. -/
def relFailed (r : Release) (d : Dev) : Nat := if r.cellOk then d.fldR Reg.rstFailCnt 0 3 else 0

theorem release_begins (hu : d.up = false) (hk : d.rst.park = false) (hw : d.rst.partway = false) (hf : d.rst.pfailPin = false)
    (hl : d.rst.refLost = false) :
    release r d =
      let c := relCount r (relStarted r d)
      if c.1 then relRecovery r d.sbx.bkNew (relFailed r d) c.2 else relBoot r d.sbx.bkNew (relFailed r d) c.2 :=
  if_neg (by simp [hu, hk, hw, hf, hl])

/-- The device with its Guard in COLD, at step 4. -/
def relGuarded (d : Dev) : Dev :=
  [0, 1].foldl (fun x ch => setStlN ch { StlNode.empty with since := x.tim.absTick } x) (d.setF Reg.stlStatus 0 2 gCold)

section
variable {bk : Bool} {n : Nat}

theorem relBoot_untrained (h : memTrained r = false) :
    relBoot r bk n d =
      let d4 := relGuarded d
      { d4 with rst := { d4.rst with partway := true }, sbx := { d4.sbx with bkNew := bk } } :=
  if_pos (by simp [h])

/-- The copy that the boot ROM tries and finds, with the memory trained. -/
def relTried (r : Release) (d : Dev) : Nat × Dev := relImage r (relMem r (relGuarded d))

/-- The device in Boot, with boot code's repairs. -/
def relBooted (r : Release) (bk : Bool) (n : Nat) (d : Dev) : Dev :=
  bootRepairs (relDone r bk n (showBoot r (relTried r d).1 ((relTried r d).2.setF Reg.glbMode 0 3 modeBoot)))

variable (h : memTrained r = true)
include h

theorem relBoot_noImage (hi : (relTried r d).1 = 2) :
    relBoot r bk n d = raise 76 none 0 0 (relRecovery r bk n (relTried r d).2) :=
  (if_neg (by simp [h])).trans (if_pos hi)

theorem relBoot_image (hi : (relTried r d).1 ≠ 2) :
    relBoot r bk n d = if imgOk (relBooted r bk n d) r.imgA then relBooted r bk n d else raise 76 none 0 0 (relBooted r bk n d) :=
  (if_neg (by simp [h])).trans (if_neg hi)

end

end

/-! Power failure (R482). -/

theorem exec_powerFail (s : State) : exec .powerFail s = .next (s.commit (powerFail s.dev)) := rfl

section
variable {d : Dev}

/-- The device whose PFAIL_N is asserted. -/
abbrev pinLow (d : Dev) : Dev := { d with rst := { d.rst with pfailPin := true } }

theorem powerFail_held (h : d.up = false) : powerFail d = pinLow d :=
  if_pos (by rw [show (pinLow d).up = d.up from rfl, h]; rfl)

section
variable (h : d.up = true)
include h

theorem powerFail_again (hp : (pinLow d).bitR Reg.glbStatus 5 = true) : powerFail d = setCond 32 0 (logInput 1 0 0 0 0 (pinLow d)) :=
  (if_neg (by rw [show (pinLow d).up = d.up from rfl, h]; decide)).trans (if_pos hp)

theorem powerFail_first (hp : (pinLow d).bitR Reg.glbStatus 5 = false) :
    powerFail d = setCond 32 0 (logInput 1 0 0 0 0
      ({ pinLow d with rst := { (pinLow d).rst with pfailLeg := some (pinLow d).tim.absLeg } }.setB Reg.glbStatus 5)) :=
  (if_neg (by rw [show (pinLow d).up = d.up from rfl, h]; decide)).trans (if_neg (Bool.eq_false_iff.mp hp))

end

section
variable {l : Nat} (h : d.rst.pfailLeg = some l)
include h

theorem pfailAck_drives (ha : d.rst.acked = false) (hl : l < d.tim.absLeg) :
    pfailAck d = { d with rst := { d.rst with acked := true } }.emit (.ball "PFAIL_ACK" (activeLevel d 10)) := by
  simp only [pfailAck, h]
  exact if_neg (by simp [ha, Nat.not_le.mpr hl])

theorem pfailAck_waits (ha : d.rst.acked = true ∨ d.tim.absLeg ≤ l) : pfailAck d = d := by
  simp only [pfailAck, h]
  exact if_pos (by simpa using ha)

end

theorem pfailAck_none (h : d.rst.pfailLeg = none) : pfailAck d = d := by
  simp only [pfailAck, h]

/-! The Livery (R472 to R474). -/

theorem liveryUp_already (h : d.mode = modeRecovery ∨ d.bitR Reg.glbStatus 1 = true) : liveryUp d = d :=
  if_pos (by simpa using h)

/-- The Livery, back after a core reset. -/
def liveryBack (d : Dev) : Dev :=
  raise 35 none 0 0 { d.setB Reg.glbStatus 1 with rst := { (d.setB Reg.glbStatus 1).rst with coreGone := false } }

/-- A transfer that a core reset ended is asked for anew. -/
abbrev transferAgain (d : Dev) : Prop :=
  brcRole d = roleResync ∧ d.bitR Reg.brcCtrl 2 = true ∧ paired d = true ∧ peerIn d roleActive = true

section
variable (hm : d.mode ≠ modeRecovery) (hb : d.bitR Reg.glbStatus 1 = false)
include hm hb

theorem liveryUp_start (h : (d.setB Reg.glbStatus 1).rst.coreGone = false) : liveryUp d = d.setB Reg.glbStatus 1 :=
  (if_neg (by simp [hm, hb])).trans (if_pos (by rw [h]; rfl))

variable (h : (d.setB Reg.glbStatus 1).rst.coreGone = true)
include h

theorem liveryUp_core :
    liveryUp d =
      if brcRole (liveryBack d) = roleResync && (liveryBack d).bitR Reg.brcCtrl 2 && paired (liveryBack d) &&
        peerIn (liveryBack d) roleActive then askTransfer (liveryBack d) else liveryBack d :=
  (if_neg (by simp [hm, hb])).trans (if_neg (by rw [h]; decide))

theorem liveryUp_again (ha : transferAgain (liveryBack d)) : liveryUp d = askTransfer (liveryBack d) :=
  (liveryUp_core hm hb h).trans (if_pos (by simpa [and_assoc] using ha))

theorem liveryUp_back (ha : ¬ transferAgain (liveryBack d)) : liveryUp d = liveryBack d :=
  (liveryUp_core hm hb h).trans (if_neg (fun hc => ha (by simpa [and_assoc] using hc)))

end

/-! Wake frames of Parked (R490; 03 R96). -/

/-- What a frame does at the wake detectors. -/
def wakeEffect (p : Nat) (f : Frame) (d : Dev) : Dev :=
  if !d.rst.park || wakeHits d p f = [] then d
  else (wakeHits d p f).foldl (fun x b => x.setB Reg.swcWakeStatus b) { d with rst := { d.rst with park := false } }

theorem exec_wakeFrame (p : Nat) (f : Frame) (s : State) : exec (.wakeFrame p f) s = .next (s.commit (wakeEffect p f s.dev)) := rfl

variable {p : Nat} {f : Frame}

theorem wakeEffect_hit (hk : d.rst.park = true) (hh : wakeHits d p f ≠ []) :
    wakeEffect p f d =
      (wakeHits d p f).foldl (fun x b => x.setB Reg.swcWakeStatus b) { d with rst := { d.rst with park := false } } :=
  if_neg (by simp [hk, hh])

theorem wakeEffect_none (h : d.rst.park = false ∨ wakeHits d p f = []) : wakeEffect p f d = d :=
  if_pos (by simpa using h)

end

/-- Settles O47: a release step by step, and the other rows by their cases. -/
theorem releaseAndPower : Obligations.ReleaseAndPower := by
  intro s r p f d
  have hrel := exec_resetRelease r s
  refine ⟨fun h => hrel.trans (next_commit (release_waits h)), fun hu hk hw hf hl => ?begins, rfl, ⟨?_, ?_, ?_⟩, fun hup => ?running, ?_, ?_⟩
  case begins =>
    intro bk n d3
    have hb := hrel.trans (next_commit (release_begins hu hk hw hf hl))
    refine ⟨fun hc => hb.trans (next_commit (if_pos hc)), fun hc => ?_⟩
    have hboot := hb.trans (next_commit (if_neg (Bool.eq_false_iff.mp hc)))
    refine ⟨fun hm => hboot.trans (next_commit (relBoot_untrained hm)), fun hm => ⟨fun hi => ?_, fun hi => ⟨fun ha => ?_, fun ha => ?_⟩⟩⟩
    · exact hboot.trans (next_commit (relBoot_noImage hm hi))
    · exact hboot.trans (next_commit ((relBoot_image hm hi).trans (if_pos ha)))
    · exact hboot.trans (next_commit ((relBoot_image hm hi).trans (if_neg (Bool.eq_false_iff.mp ha))))
  · exact fun h => (exec_powerFail s).trans (next_commit (powerFail_held h))
  · exact fun h hp => (exec_powerFail s).trans (next_commit (powerFail_again h hp))
  · exact fun h hp => (exec_powerFail s).trans (next_commit (powerFail_first h hp))
  case running =>
    have hack : exec .pfailAck s = .next (s.commit (pfailAck d)) := State.act_up s pfailAck hup
    have hliv : exec .liveryUp s = .next (s.commit (liveryUp d)) := State.act_up s liveryUp hup
    exact ⟨fun l h ha hl => hack.trans (next_commit (pfailAck_drives h ha hl)), fun l h ha => hack.trans (next_commit (pfailAck_waits h ha)),
      fun h => hack.trans (next_commit (pfailAck_none h)), fun h => hliv.trans (next_commit (liveryUp_already h)),
      fun hm hb => ⟨fun h => hliv.trans (next_commit (liveryUp_start hm hb h)), fun h =>
        ⟨fun ha => hliv.trans (next_commit (liveryUp_again hm hb h ha)), fun ha => hliv.trans (next_commit (liveryUp_back hm hb h ha))⟩⟩⟩
  · exact fun hk hh => (exec_wakeFrame p f s).trans (next_commit (wakeEffect_hit hk hh))
  · exact fun h => (exec_wakeFrame p f s).trans (next_commit (wakeEffect_none h))

end Sys2Proof.Machine
end

section
/-! SUPPORT and PROOF. Modes, contacts and Recovery (16 R472, R481, R483 to R489, R495, R496; 13 R409, R420): the mode register, the contact
sources, and the opcodes on the mode, the resets and the image. -/

namespace Sys2Proof.Machine

/-! The rows on a device that runs. -/

section
variable {s : State} (hup : s.dev.up = true)
include hup

theorem exec_modeRequest_up (v : Word) : exec (.modeRequest v) s = .next (s.commit (modeRequest v.toNat s.dev)) :=
  State.act_up s (modeRequest v.toNat) hup

theorem exec_cdrvSelWrite_up {b : Nat} (hb : b < 8) (v : Word) : exec (.cdrvSelWrite b v) s = .next (s.commit (cdrvSel b v.toNat s.dev)) :=
  State.act_onlyIf hup (decide_eq_true hb) (cdrvSel b v.toNat)

end

section
variable {d : Dev} {v : Nat}

theorem modeRequest_commission (hm : fld v 0 3 = modeCommission) (hb : (d.wn Reg.glbModeReq (fld v 0 3)).mode = modeBoot) :
    modeRequest v d = ((d.wn Reg.glbModeReq (fld v 0 3)).setB Reg.glbStatus 0).atRoute (.mode modeCommission) :=
  if_pos (by simp only [hm] at hb ⊢; simp [hb])

theorem modeRequest_standby (hm : fld v 0 3 = modeStandby) (hb : (d.wn Reg.glbModeReq (fld v 0 3)).mode = modeCommission) :
    modeRequest v d = (d.wn Reg.glbModeReq (fld v 0 3)).atRoute (.mode modeStandby) :=
  (if_neg (by rw [hm]; simp [modeStandby, modeCommission])).trans (if_pos (by simp only [hm] at hb ⊢; simp [hb]))

theorem modeRequest_refused (h1 : ¬ (fld v 0 3 = modeCommission ∧ (d.wn Reg.glbModeReq (fld v 0 3)).mode = modeBoot))
    (h2 : ¬ (fld v 0 3 = modeStandby ∧ (d.wn Reg.glbModeReq (fld v 0 3)).mode = modeCommission)) :
    modeRequest v d = raise 41 none (fld v 0 3) 0 (d.wn Reg.glbModeReq (fld v 0 3)) :=
  (if_neg (fun hc => h1 (by simpa using hc))).trans (if_neg (fun hc => h2 (by simpa using hc)))

end

/-! The contact sources (R496). -/

section
variable {d : Dev} {b v : Nat}

/-- The contacts' sources may be written. -/
abbrev cdrvOpen (d : Dev) : Prop := d.mode = modeMaintenance ∨ d.mode = modeBoot

/-- A source of a carriage that is FREE or of class P2. -/
abbrev cdrvBarred (v : Nat) (d : Dev) : Prop :=
  fld (v % 2 ^ 22) 0 2 = 2 ∧ (carSt d (fld (v % 2 ^ 22) 2 9) = stFree ∨ carCls d (fld (v % 2 ^ 22) 2 9) = 2)

theorem cdrvSel_closed (h : ¬ cdrvOpen d) : cdrvSel b v d = raise 49 none 0 0 d :=
  if_neg (mt Or.symm h)

section
variable (h : cdrvOpen d)
include h

theorem cdrvSel_ignored (hs : fld (v % 2 ^ 22) 0 2 = 3) : cdrvSel b v d = d :=
  (if_pos h.symm).trans (if_pos hs)

theorem cdrvSel_barred (hb : cdrvBarred v d) : cdrvSel b v d = d.emit (.infoEvent 496) :=
  (if_pos h.symm).trans ((if_neg (by rw [hb.1]; decide)).trans (if_pos (by simpa [cdrvBarred] using hb)))

theorem cdrvSel_driven (hs : fld (v % 2 ^ 22) 0 2 ≠ 3) (hb : ¬ cdrvBarred v d) :
    cdrvSel b v d = driveContact b (d.wn (Reg.glbCdrvSel b) (v % 2 ^ 22)) :=
  (if_pos h.symm).trans ((if_neg hs).trans (if_neg (fun hc => hb (by simpa [cdrvBarred] using hc))))

end

end

/-! MODE_SET (R485, R489). -/

section
variable {d : Dev} {p : List Nat}

section
variable (h : entW p 0 = 1)
include h

theorem modeSetBody_maintenance (hm : projMode d = modeStandby ∨ projMode d = modeActive) :
    modeSetBody p d = (d.atRoute (.mode modeMaintenance), okA []) := by
  simp only [modeSetBody, h]
  exact if_pos (by simpa using hm)

theorem modeSetBody_notInService (h1 : projMode d ≠ modeStandby) (h2 : projMode d ≠ modeActive) :
    modeSetBody p d = (d, noA cWrongMode) := by
  simp only [modeSetBody, h]
  exact if_neg (by simp [h1, h2])

end

section
variable (h : entW p 0 = 0)
include h

theorem modeSetBody_notMaintenance (hm : projMode d ≠ modeMaintenance) : modeSetBody p d = (d, noA cWrongMode) := by
  simp only [modeSetBody, h]
  exact if_pos hm

variable (hm : projMode d = modeMaintenance)
include hm

theorem modeSetBody_held (hh : anyHold d = true) : modeSetBody p d = (d, noA cDenied) := by
  simp only [modeSetBody, h]
  exact (if_neg (not_not_intro hm)).trans (if_pos hh)

theorem modeSetBody_back (hh : anyHold d = false) : modeSetBody p d = (d.atRoute (.mode 0), okA []) := by
  simp only [modeSetBody, h]
  exact (if_neg (not_not_intro hm)).trans (if_neg (Bool.eq_false_iff.mp hh))

end

/-- The base mode that Parked is asked from. -/
def parkBase (d : Dev) : Nat :=
  if projMode d = modeMaintenance then (if d.mode = modeMaintenance then d.fldR Reg.glbMode 4 3 else d.mode) else projMode d

/-- The module may be parked. -/
abbrev parkMay (d : Dev) : Prop :=
  projMode d = modeMaintenance ∧ parkBase d = modeStandby ∧ brcRole d ≠ roleActive ∧ anyRuns d = false

theorem modeSetBody_parks (h : 2 ≤ entW p 0) :
    modeSetBody p d =
      if projMode d ≠ modeMaintenance || parkBase d ≠ modeStandby || brcRole d = roleActive || anyRuns d then (d, noA cWrongMode)
      else (d.atRoute (.mode modeParked), okA []) := by
  obtain ⟨n, hn⟩ := Nat.exists_eq_add_of_le' h
  simp only [modeSetBody, hn]
  rfl

theorem noPark_iff :
    (projMode d ≠ modeMaintenance || parkBase d ≠ modeStandby || brcRole d = roleActive || anyRuns d) = false ↔ parkMay d := by
  simp only [parkMay, Bool.or_eq_false_iff, decide_eq_false_iff_not, ne_eq, not_not, and_assoc]

theorem modeSetBody_parked (h : 2 ≤ entW p 0) (hp : parkMay d) : modeSetBody p d = (d.atRoute (.mode modeParked), okA []) :=
  (modeSetBody_parks h).trans (if_neg (Bool.eq_false_iff.mp (noPark_iff.mpr hp)))

theorem modeSetBody_notParked (h : 2 ≤ entW p 0) (hp : ¬ parkMay d) : modeSetBody p d = (d, noA cWrongMode) :=
  (modeSetBody_parks h).trans (if_pos (Bool.of_not_eq_false (mt noPark_iff.mp hp)))

end

/-! Opcodes with a reset after their reply. -/

section
variable {c : CmdSpec} {h : Cmd} {s : State} {body : List Nat → Dev → Dev × Ans} {after : List Nat → Dev → Dev} {d : Dev} {a : Ans}

theorem act_runThen_accepted (ht : takes c h s.dev = true) (hb : body (cmdP h s.dev) (cmdAdvance h.session s.dev) = (d, a))
    (ha : a.st = cOk) : s.act (runThen c body after h) = .next (s.commit (after (cmdP h s.dev) (cmdReply c.op h a d))) :=
  State.act_of_eq (takes_up ht) (by rw [runThen_takes body after ht, hb]; exact if_pos ha)

theorem act_runThen_refused (ht : takes c h s.dev = true) (hb : body (cmdP h s.dev) (cmdAdvance h.session s.dev) = (d, a))
    (ha : a.st ≠ cOk) : s.act (runThen c body after h) = .next (s.commit (cmdReply c.op h a d)) :=
  State.act_of_eq (takes_up ht) (by rw [runThen_takes body after ht, hb]; exact if_neg ha)

end

/-! MODULE_RESET, and Recovery's image (R481). -/

section
variable {d : Dev} {p : List Nat}

/-- A mode in which MODULE_RESET acts. -/
abbrev resetMay (d : Dev) : Prop := d.mode = modeRecovery ∨ d.mode = modeCommission ∨ d.mode = modeMaintenance

theorem moduleResetBody_may (h : resetMay d) : moduleResetBody d = (d, okA []) :=
  if_pos (by simpa using h)

theorem moduleResetBody_mayNot (h : ¬ resetMay d) : moduleResetBody d = (d, noA cWrongMode) :=
  if_neg (by simpa using h)

section
variable {fits : Bool} {data : List Nat}

theorem recoveryWriteBody_otherMode (h : d.mode ≠ modeRecovery) : recoveryWriteBody fits data p d = (d, noA cWrongMode) :=
  if_pos h

variable (h : d.mode = modeRecovery)
include h

theorem recoveryWriteBody_fits (hf : fits = true) :
    recoveryWriteBody fits data p d =
      ({ d with rst := { d.rst with
          flash := tset [] d.rst.flash 2 (stageFlash (entW p 0) (takePad 0 (entW p 1) data) (flashArea d 2)) } }, okA []) :=
  (if_neg (not_not_intro h)).trans (if_neg (by simp [hf]))

theorem recoveryWriteBody_tooLong (hf : fits = false) : recoveryWriteBody fits data p d = (d, badP 0) :=
  (if_neg (not_not_intro h)).trans (if_pos (by simp [hf]))

end

variable {img : Option Nat}

theorem recoveryCommitBody_good (hl : lifeCycle d ≠ 4) (hi : imgOk d img = true) :
    recoveryCommitBody img p d =
      let t := (flashArea d 2).filter (fun x => x.1 < entW p 0)
      ({ d with rst := { d.rst with flash := tset [] d.rst.flash (if d.rst.bootImg = 0 then 1 else 0) t } }.setF Reg.rstFailCnt 0 3 0, okA []) :=
  if_neg (by simp [hl, hi])

theorem recoveryCommitBody_denied (h : lifeCycle d = 4 ∨ imgOk d img = false) : recoveryCommitBody img p d = (d, noA cDenied) :=
  if_pos (by simpa using h)

end

/-- Settles O48: the two registers by their cases, and each opcode by its own part. -/
theorem modesAndRecovery : Obligations.ModesAndRecovery := by
  intro s h b v fits data img
  refine ⟨fun hup => ?registers, fun ht => ?mode, fun ht => ⟨?_, ?_⟩, fun ht => ⟨?_, ?_, ?_⟩, fun ht => ⟨?_, ?_⟩⟩
  case registers =>
    intro m d
    have hreq := exec_modeRequest_up hup v
    refine ⟨fun hm hb => hreq.trans (next_commit (modeRequest_commission hm hb)),
      fun hm hb => hreq.trans (next_commit (modeRequest_standby hm hb)),
      fun h1 h2 => hreq.trans (next_commit (modeRequest_refused h1 h2)), fun hb => ?_⟩
    have hsel := exec_cdrvSelWrite_up hup hb v
    exact ⟨fun ho hs => hsel.trans (next_commit (cdrvSel_ignored ho hs)), fun ho hr => hsel.trans (next_commit (cdrvSel_barred ho hr)),
      fun ho hs hr => hsel.trans (next_commit (cdrvSel_driven ho hs hr)), fun ho => hsel.trans (next_commit (cdrvSel_closed ho))⟩
  case mode =>
    exact ⟨fun h1 hm => act_takes_of_body ht (modeSetBody_maintenance h1 hm),
      fun h1 hs ha => act_takes_of_body ht (modeSetBody_notInService h1 hs ha),
      fun h0 hm => act_takes_of_body ht (modeSetBody_notMaintenance h0 hm),
      fun h0 hm hh => act_takes_of_body ht (modeSetBody_held h0 hm hh),
      fun h0 hm hh => act_takes_of_body ht (modeSetBody_back h0 hm hh),
      fun h2 => ⟨fun hp => act_takes_of_body ht (modeSetBody_parked h2 hp), fun hp => act_takes_of_body ht (modeSetBody_notParked h2 hp)⟩⟩
  · exact fun hc => act_runThen_accepted ht (moduleResetBody_may hc) rfl
  · exact fun hc => act_runThen_refused ht (moduleResetBody_mayNot hc) (by decide)
  · exact fun hm => act_takes_of_body ht (recoveryWriteBody_otherMode hm)
  · exact fun hm hf => act_takes_of_body ht (recoveryWriteBody_fits hm hf)
  · exact fun hm hf => act_takes_of_body ht (recoveryWriteBody_tooLong hm hf)
  · exact fun hl hi => act_runThen_accepted ht (recoveryCommitBody_good hl hi) rfl
  · exact fun hd => act_runThen_refused ht (recoveryCommitBody_denied hd) (by decide)

end Sys2Proof.Machine
end

section
/-! SUPPORT and PROOF. Key commands (17 R498 to R506, R509, R515; 13 R417): an installation's checks in their order, its three ways, and what
destroys, reports and moves the life cycle. -/

namespace Sys2Proof.Machine

/-! The caller of a slot (R504), and an installation. -/

section
variable {h : Cmd} {d : Dev} {n : Nat}

/-- The caller may name the slot: it holds no key, or its attributes allow the caller. -/
abbrev slotMay (h : Cmd) (n : Nat) (d : Dev) : Prop := slotState d n = 0 ∨ callerOk d n (cmdWho d h) = true

/-- The device that has counted a refused use of a slot and raised its source. -/
def slotDenied (n : Nat) (d : Dev) : Dev := raiseH 73 none n 0 (n * 16) 0 (d.bump (Reg.sbxSRefused n))

theorem slotCaller_may (hm : slotMay h n d) : slotCaller n (cmdWho d h) d = (true, d) :=
  if_pos (by simpa using hm)

theorem slotCaller_mayNot (hm : ¬ slotMay h n d) : slotCaller n (cmdWho d h) d = (false, slotDenied n d) :=
  if_neg (by simpa using hm)

variable {a : Nat} {types : List Nat} {k : Dev → Dev × Ans}

theorem keyInstall_locked (hl : slotLocked d n = true) : keyInstall h n a types k d = (d, noA cLocked) :=
  if_pos hl

section
variable (hl : slotLocked d n = false)
include hl

theorem keyInstall_denied (hm : ¬ slotMay h n d) : keyInstall h n a types k d = (slotDenied n d, noA cDenied) := by
  unfold keyInstall
  rw [if_neg (Bool.eq_false_iff.mp hl), slotCaller_mayNot hm]
  rfl

variable (hm : slotMay h n d)
include hm

theorem keyInstall_type (ht : fld a 0 4 ∉ types) : keyInstall h n a types k d = (d, noA cDenied) := by
  unfold keyInstall
  rw [if_neg (Bool.eq_false_iff.mp hl), slotCaller_may hm]
  exact if_pos (by simpa using ht)

theorem keyInstall_may (ht : fld a 0 4 ∈ types) : keyInstall h n a types k d = k d := by
  unfold keyInstall
  rw [if_neg (Bool.eq_false_iff.mp hl), slotCaller_may hm]
  exact if_neg (by simpa using ht)

end

end

/-! The three ways a key comes (R506, R515). -/

section
variable {d : Dev} {p : List Nat} {h : Cmd}

theorem keyGenerateBody_mismatch (ht : entW p 2 ≠ fld (entW p 1) 0 4) : keyGenerateBody h p d = (d, badP 2) := if_pos ht

/-- What KEY_GENERATE does in a slot that it may take. -/
def keyDrawn (p : List Nat) (d : Dev) : Dev × Ans :=
  if !trngReady d then (d, noA cNotReady) else (slotInstall (entW p 0) (entW p 1) d.free.1 d.free.2, okA [])

theorem keyGenerateBody_match (ht : entW p 2 = fld (entW p 1) 0 4) :
    keyGenerateBody h p d = keyInstall h (entW p 0) (entW p 1) [1, 2, 3, 4] (keyDrawn p) d :=
  if_neg (not_not_intro ht)

theorem keyDrawn_notReady (hr : trngReady d = false) : keyDrawn p d = (d, noA cNotReady) := if_pos (by simp [hr])

theorem keyDrawn_ready (hr : trngReady d = true) :
    keyDrawn p d = (slotInstall (entW p 0) (entW p 1) d.free.1 d.free.2, okA []) :=
  if_neg (by simp [hr])

variable {tagOk slotBad : Bool} {key : Nat} {ctx : List Nat}

/-- The use of the slot that an opcode names as its source, after its own tag is checked. -/
def sourceUse (fn : Nat) (types : List Nat) (slotBad : Bool) (h : Cmd) (p : List Nat) (d : Dev) : Bool × Dev :=
  let src := if slotBad = true then slotGoesBad (entW p 1) d else d
  slotAskU (entW p 1) fn types (cmdWho src h).world (cmdWho src h) src

/-- What KEY_UNWRAP does in a slot that it may take. -/
def keyUnwrapped (h : Cmd) (tagOk slotBad : Bool) (key : Nat) (p : List Nat) (d : Dev) : Dev × Ans :=
  let a := sourceUse fnWrap [1] slotBad h p d
  if !a.1 || !tagOk then (a.2, noA cDenied) else (slotInstall (entW p 0) (entW p 5) key a.2, okA [])

theorem keyUnwrapBody_eq :
    keyUnwrapBody h tagOk slotBad key p d =
      keyInstall h (entW p 0) (entW p 5) [1, 2, 3, 4, 5] (keyUnwrapped h tagOk slotBad key p) d := rfl

theorem keyUnwrapped_good (ha : (sourceUse fnWrap [1] slotBad h p d).1 = true) (ht : tagOk = true) :
    keyUnwrapped h tagOk slotBad key p d =
      (slotInstall (entW p 0) (entW p 5) key (sourceUse fnWrap [1] slotBad h p d).2, okA []) :=
  if_neg (by simp [ha, ht])

theorem keyUnwrapped_bad (ha : (sourceUse fnWrap [1] slotBad h p d).1 = false ∨ tagOk = false) :
    keyUnwrapped h tagOk slotBad key p d = ((sourceUse fnWrap [1] slotBad h p d).2, noA cDenied) :=
  if_pos (by simpa using ha)

/-- What KEY_DERIVE does in a slot that it may take. -/
def keyDerived (h : Cmd) (ctx : List Nat) (slotBad : Bool) (p : List Nat) (d : Dev) : Dev × Ans :=
  let a := sourceUse fnDerive [3] slotBad h p d
  if !a.1 then (a.2, noA cDenied)
  else (slotInstall (entW p 0) (entW p 5) (Config.kdf (tget 0 a.2.sbx.keys (entW p 1)) (takePad 0 (entW p 4) ctx)
    (if fld (entW p 5) 0 4 = 3 then 384 else 256)) a.2, okA [])

theorem keyDeriveBody_eq :
    keyDeriveBody h ctx slotBad p d = keyInstall h (entW p 0) (entW p 5) [1, 2, 3] (keyDerived h ctx slotBad p) d := rfl

theorem keyDerived_denied (ha : (sourceUse fnDerive [3] slotBad h p d).1 = false) :
    keyDerived h ctx slotBad p d = ((sourceUse fnDerive [3] slotBad h p d).2, noA cDenied) :=
  if_pos (by simp [ha])

theorem keyDerived_good (ha : (sourceUse fnDerive [3] slotBad h p d).1 = true) :
    keyDerived h ctx slotBad p d =
      let a := sourceUse fnDerive [3] slotBad h p d
      (slotInstall (entW p 0) (entW p 5) (Config.kdf (tget 0 a.2.sbx.keys (entW p 1)) (takePad 0 (entW p 4) ctx)
        (if fld (entW p 5) 0 4 = 3 then 384 else 256)) a.2, okA []) :=
  if_neg (by simp [ha])

/-! Destruction and reports. -/

/-- LOCK keeps the slot; a BAD one it does not. -/
abbrev destroyLocked (d : Dev) (n : Nat) : Prop := slotLocked d n = true ∧ slotState d n ≠ 2

theorem keyDestroyBody_locked (hl : destroyLocked d (entW p 0)) : keyDestroyBody h p d = (d, noA cLocked) :=
  if_pos (by simpa using hl)

section
variable (hl : ¬ destroyLocked d (entW p 0))
include hl

theorem keyDestroyBody_may (hm : slotMay h (entW p 0) d) : keyDestroyBody h p d = (slotEmpty (entW p 0) d, okA []) := by
  unfold keyDestroyBody
  rw [if_neg (by simpa using hl), slotCaller_may hm]
  rfl

theorem keyDestroyBody_mayNot (hm : ¬ slotMay h (entW p 0) d) :
    keyDestroyBody h p d = (slotDenied (entW p 0) d, noA cDenied) := by
  unfold keyDestroyBody
  rw [if_neg (by simpa using hl), slotCaller_mayNot hm]
  rfl

end

theorem keyInfoBody_may (hm : slotMay h (entW p 0) d) :
    keyInfoBody h p d = (d, okA [slotAttr d (entW p 0), slotState d (entW p 0)]) := by
  unfold keyInfoBody
  rw [slotCaller_may hm]
  rfl

theorem keyInfoBody_mayNot (hm : ¬ slotMay h (entW p 0) d) : keyInfoBody h p d = (slotDenied (entW p 0) d, noA cDenied) := by
  unfold keyInfoBody
  rw [slotCaller_mayNot hm]
  rfl

/-! The life cycle (R498, R499). -/

/-- The device in the new state of the life cycle, with its debug session ended. -/
def lcMoved (n : Nat) (d : Dev) : Dev := raiseH 75 none n 0 0 0 (debugEnd (d.setF Reg.sbxLc 0 3 n))

theorem lifeCycleBody_denied (hp : lcPermits d (entW p 0) = false) : lifeCycleBody p d = (d, noA cDenied) :=
  if_pos (by simp [hp])

section
variable (hp : lcPermits d (entW p 0) = true)
include hp

theorem lifeCycleBody_keeps (h3 : entW p 0 ≠ 3) (h4 : entW p 0 ≠ 4) :
    lifeCycleBody p d = (lcMoved (entW p 0) d, okA [entW p 0]) :=
  (if_neg (by simp [hp])).trans (congrArg (·, okA [entW p 0]) (if_neg (by simp [h3, h4])))

theorem lifeCycleBody_zeroes (hn : entW p 0 = 3 ∨ entW p 0 = 4) :
    lifeCycleBody p d = (tlogClear (slotsZero (rootZero (lcMoved (entW p 0) d))), okA [entW p 0]) :=
  (if_neg (by simp [hp])).trans (congrArg (·, okA [entW p 0]) (if_pos (by simpa using hn)))

end

end

/-- Settles O49: each opcode by its own part, an installation by its checks in their order. -/
theorem keyCommands : Obligations.KeyCommands := by
  intro h tagOk slotBad key ctx s d p n may refused src
  refine ⟨fun ht => ?generate, fun ht => ?unwrap, fun ht => ?derive, fun ht => ⟨?_, ?_, ?_⟩, fun ht => ⟨?_, ?_⟩, fun ht => ⟨?_, ?_, ?_⟩⟩
  case generate =>
    refine ⟨fun hm => act_takes_of_body ht (keyGenerateBody_mismatch hm), fun hm hl => ?_, fun hm hl hy => ?_, fun hm hl hy ho => ?_,
      fun hm hl hy ho => ⟨fun hr => ?_, fun hr => ?_⟩⟩
    all_goals have hg := keyGenerateBody_match (h := h) (d := d) hm
    · exact act_takes_of_body ht (hg.trans (keyInstall_locked hl))
    · exact act_takes_of_body ht (hg.trans (keyInstall_denied hl hy))
    · exact act_takes_of_body ht (hg.trans (keyInstall_type hl hy ho))
    · exact act_takes_of_body ht (hg.trans ((keyInstall_may hl hy ho).trans (keyDrawn_notReady hr)))
    · exact act_takes_of_body ht (hg.trans ((keyInstall_may hl hy ho).trans (keyDrawn_ready hr)))
  case unwrap =>
    have hg := keyUnwrapBody_eq (d := d) (p := p) (h := h) (tagOk := tagOk) (slotBad := slotBad) (key := key)
    refine ⟨fun hl => ?_, fun hl hy => ?_, fun hl hy ho => ?_, fun hl hy ho => ⟨fun ha hk => ?_, fun hk => ?_⟩⟩
    · exact act_takes_of_body ht (hg.trans (keyInstall_locked hl))
    · exact act_takes_of_body ht (hg.trans (keyInstall_denied hl hy))
    · exact act_takes_of_body ht (hg.trans (keyInstall_type hl hy ho))
    · exact act_takes_of_body ht (hg.trans ((keyInstall_may hl hy ho).trans (keyUnwrapped_good ha hk)))
    · exact act_takes_of_body ht (hg.trans ((keyInstall_may hl hy ho).trans (keyUnwrapped_bad hk)))
  case derive =>
    have hg := keyDeriveBody_eq (d := d) (p := p) (h := h) (ctx := ctx) (slotBad := slotBad)
    refine ⟨fun hl => ?_, fun hl hy => ?_, fun hl hy ho => ?_, fun hl hy ho => ⟨fun ha => ?_, fun ha => ?_⟩⟩
    · exact act_takes_of_body ht (hg.trans (keyInstall_locked hl))
    · exact act_takes_of_body ht (hg.trans (keyInstall_denied hl hy))
    · exact act_takes_of_body ht (hg.trans (keyInstall_type hl hy ho))
    · exact act_takes_of_body ht (hg.trans ((keyInstall_may hl hy ho).trans (keyDerived_denied ha)))
    · exact act_takes_of_body ht (hg.trans ((keyInstall_may hl hy ho).trans (keyDerived_good ha)))
  · exact fun hl => act_takes_of_body ht (keyDestroyBody_locked hl)
  · exact fun hl hm => act_takes_of_body ht (keyDestroyBody_may hl hm)
  · exact fun hl hm => act_takes_of_body ht (keyDestroyBody_mayNot hl hm)
  · exact fun hm => act_takes_of_body ht (keyInfoBody_may hm)
  · exact fun hm => act_takes_of_body ht (keyInfoBody_mayNot hm)
  · exact fun hp => act_runThen_refused ht (lifeCycleBody_denied hp) (by decide)
  · exact fun hp h3 h4 => (act_runThen_accepted ht (lifeCycleBody_keeps hp h3 h4) rfl).trans
      (next_commit (if_neg (fun hc => ((Bool.or_eq_true _ _).mp hc).elim (fun h => h3 (of_decide_eq_true h)) (fun h => h4 (of_decide_eq_true h)))))
  · exact fun hp hn => (act_runThen_accepted ht (lifeCycleBody_zeroes hp hn) rfl).trans
      (next_commit (if_pos ((Bool.or_eq_true _ _).mpr (hn.imp decide_eq_true decide_eq_true))))

end Sys2Proof.Machine
end

section
/-! SUPPORT and PROOF. Tamper, locked sequences and random numbers (17 R510 to R516, R525, R526, R532; 19 R568): what an alarm does on either
supply, what arms a target and what disarms it, and the TRNG's start. -/

namespace Sys2Proof.Machine

/-! Alarms (R512, R513). -/

section
variable {sensor sec frac : Nat} {d : Dev}

/-- An alarm acts on main power, and on the cell. -/
abbrev alarmLive (sensor : Nat) (d : Dev) : Prop := d.sbx.backup = false ∧ sensorOn d sensor = true
abbrev alarmDark (sensor : Nat) (d : Dev) : Prop := d.sbx.backup = true ∧ sensor ≠ 3 ∧ sensorOn d sensor = true

theorem alarmLive_iff : alarmLive sensor d ↔ (d.sbx.backup || !sensorOn d sensor) = false := by
  simp [alarmLive]

theorem alarmDark_iff : alarmDark sensor d ↔ (!d.sbx.backup || sensor = 3 || !sensorOn d sensor) = false := by
  simp [alarmDark, and_assoc]

/-- The device without its keys, with the sensor shown. -/
def alarmZeroed (sensor : Nat) (d : Dev) : Dev := ((slotsZero (rootZero d)).setB Reg.sbxTamperStatus sensor).setB Reg.sbxStatus 4

theorem tamperAlarm_live (h : alarmLive sensor d) :
    tamperAlarm sensor sec frac d =
      askReset 1 7 0 (debugEnd (tlogPut sensor sec frac false
        (if d.up then raiseH (64 + sensor) none sensor 0 (sensor * 16) 0 (logInput 2 sensor 0 0 0 (alarmZeroed sensor d))
         else alarmZeroed sensor d))) :=
  if_neg (Bool.eq_false_iff.mp (alarmLive_iff.mp h))

theorem tamperAlarm_off (h : ¬ alarmLive sensor d) : tamperAlarm sensor sec frac d = d :=
  if_pos (Bool.of_not_eq_false (mt alarmLive_iff.mpr h))

theorem tamperBackup_dark (h : alarmDark sensor d) :
    tamperBackup sensor sec frac d =
      let d1 := tlogPut sensor sec frac true (rootZero d)
      { d1 with sbx := { d1.sbx with bkNew := true } } :=
  if_neg (Bool.eq_false_iff.mp (alarmDark_iff.mp h))

theorem tamperBackup_off (h : ¬ alarmDark sensor d) : tamperBackup sensor sec frac d = d :=
  if_pos (Bool.of_not_eq_false (mt alarmDark_iff.mpr h))

end

theorem exec_tamperAlarm (sensor sec frac : Nat) (s : State) :
    exec (.tamperAlarm sensor sec frac) s = .next (s.commit (tamperAlarm sensor sec frac s.dev)) := rfl

theorem exec_tamperAlarmBackup (sensor sec frac : Nat) (s : State) :
    exec (.tamperAlarmBackup sensor sec frac) s = .next (s.commit (tamperBackup sensor sec frac s.dev)) := rfl

/-! Locked sequences (R525). -/

section
variable {d : Dev} {m v : Nat}

/-- The device with no sequence armed. -/
def unarmed (d : Dev) : Dev := { d with sbx := { d.sbx with armed := none } }

/-- A sequence is armed by master `m`; it is, for target `t`, and has not lapsed. -/
abbrev armedBy (m : Nat) (d : Dev) : Prop := ∃ t k, d.sbx.armed = some (m, t, k)
abbrev armedOpen (m t : Nat) (d : Dev) : Prop := ∃ k, d.sbx.armed = some (m, t, k) ∧ d.tim.absTick ≤ k + 1

theorem disarm_mine (h : armedBy m d) : disarm m d = unarmed d := by
  obtain ⟨t, k, h⟩ := h
  simp only [disarm, h, if_true, unarmed]

theorem disarm_other (h : ¬ armedBy m d) : disarm m d = d := by
  unfold disarm
  split
  · next x t k hx =>
    have hm : x ≠ m := fun hm => h ⟨t, k, hm ▸ hx⟩
    exact if_neg hm
  · rfl

theorem armedFor_iff {t : Nat} : armedFor d m t = true ↔ armedOpen m t d := by
  unfold armedFor armedOpen
  split
  · next x u k hx =>
    simp only [Bool.and_eq_true, beq_iff_eq, decide_eq_true_eq]
    constructor
    · rintro ⟨⟨rfl, rfl⟩, hk⟩
      exact ⟨k, hx, hk⟩
    · rintro ⟨j, hj, hk⟩
      obtain ⟨rfl, rfl, rfl⟩ : x = m ∧ u = t ∧ k = j := by simpa [hx] using hj
      exact ⟨⟨rfl, rfl⟩, hk⟩
  · next hx => simp [hx]

/-- A key of a locked sequence. -/
abbrev unlockKey (v : Nat) : Prop := v = 0xC0DE0024 ∨ v = 0xC0DE0028

theorem unlockWrite_eq :
    unlockWrite m v d =
      if unlockKey v then { disarm m d with sbx := { (disarm m d).sbx with armed := some (m, v - 0xC0DE0000, (disarm m d).tim.absTick) } }
      else disarm m d := by
  simp only [unlockWrite, Bool.or_eq_true, decide_eq_true_eq]
  rfl

theorem disarm_tim (m : Nat) (d : Dev) : (disarm m d).tim = d.tim := by
  by_cases h : armedBy m d
  · rw [disarm_mine h]; rfl
  · rw [disarm_other h]

/-- What a write arms does not depend on what was armed before it. -/
theorem arm_disarm (x : Option (Nat × Nat × Nat)) :
    { disarm m d with sbx := { (disarm m d).sbx with armed := x } } = { d with sbx := { d.sbx with armed := x } } := by
  by_cases h : armedBy m d
  · rw [disarm_mine h]; rfl
  · rw [disarm_other h]

theorem unlockWrite_arms (h : unlockKey v) :
    unlockWrite m v d = { d with sbx := { d.sbx with armed := some (m, v - 0xC0DE0000, d.tim.absTick) } } := by
  rw [unlockWrite_eq, if_pos h, arm_disarm, disarm_tim]

theorem unlockWrite_other (h : ¬ unlockKey v) : unlockWrite m v d = disarm m d := by
  rw [unlockWrite_eq, if_neg h]

section
variable {t : Nat} {ok : Bool} {f : Dev → Dev}

theorem lockedWrite_open (ha : armedOpen m t d) (ho : ok = true) : lockedWrite m t ok f d = f (unarmed d) := by
  obtain ⟨k, hk, hl⟩ := ha
  rw [← disarm_mine ⟨t, k, hk⟩]
  exact if_pos (by rw [armedFor_iff.mpr ⟨k, hk, hl⟩, ho]; rfl)

theorem lockedWrite_shut (h : ¬ (armedOpen m t d ∧ ok = true)) : lockedWrite m t ok f d = disarm m d :=
  if_neg (fun hc => h (((Bool.and_eq_true _ _).mp hc).imp_left armedFor_iff.mp))

/-- A master that has armed nothing finds the target locked. -/
theorem not_armedOpen (h : ¬ armedBy m d) : ¬ (armedOpen m t d ∧ ok = true) :=
  fun ⟨⟨k, hk, _⟩, _⟩ => h ⟨t, k, hk⟩

end

end

/-! The TRNG (R510, R516, R526). -/

section
variable {d : Dev}

theorem trngPass_idle (h : d.bitR Reg.sbxTrngStatus 1 = false) : trngPass d = d := if_pos (by simp [h])

/-- The device whose TRNG gives output, with its challenge. -/
def trngPassed (d : Dev) : Dev := firstChallenge (((d.setF Reg.sbxTrngStatus 0 3 1).setF Reg.sbxTrngStatus 8 8 128).setB Reg.glbStatus 2)

/-- A module in Boot without a root. -/
abbrev rootless (d : Dev) : Prop := d.sbx.root = 0 ∧ d.mode = modeBoot

section
variable (h : d.bitR Reg.sbxTrngStatus 1 = true)
include h

theorem trngPass_passes :
    trngPass d =
      let d1 := trngPassed d
      if d1.sbx.root = 0 && d1.mode = modeBoot then
        raiseH 69 none 0 0 0 0 (((slotsZero { d1.free.2 with sbx := { d1.free.2.sbx with root := d1.free.1 + 1 } }).setB Reg.sbxStatus 0).setB
          Reg.sbxStatus 1)
      else d1 :=
  if_neg (by simp [h])

theorem trngPass_rooted (hb : ¬ rootless (trngPassed d)) : trngPass d = trngPassed d :=
  (trngPass_passes h).trans (if_neg (fun hc => hb (by simpa using hc)))

theorem trngPass_newRoot (hb : rootless (trngPassed d)) :
    trngPass d =
      let d1 := trngPassed d
      raiseH 69 none 0 0 0 0 (((slotsZero { d1.free.2 with sbx := { d1.free.2.sbx with root := d1.free.1 + 1 } }).setB Reg.sbxStatus 0).setB
        Reg.sbxStatus 1) :=
  (trngPass_passes h).trans (if_pos (by simpa using hb))

end

/-- 200 ms of start-up have passed. -/
abbrev trngOverdue (d : Dev) : Prop := d.bitR Reg.sbxTrngStatus 1 = true ∧ 153600 ≤ d.sbx.trngTicks * 10

theorem trngSlow_overdue (h : trngOverdue d) : trngSlow d = trngStart (raise 72 none 0 0 d) := if_pos (by simpa using h)

theorem trngSlow_inTime (h : ¬ trngOverdue d) : trngSlow d = d := if_neg (fun hc => h (by simpa using hc))

theorem trngFail_service (h : trngReady d = true) :
    trngFail d = raise 71 none 0 0 (trngStart (((d.clrB Reg.sbxTrngStatus 0).setB Reg.sbxTrngStatus 2).clrB Reg.glbStatus 2)) :=
  if_neg (by simp [h])

theorem trngFail_start (h : trngReady d = false) : trngFail d = d := if_pos (by simp [h])

end

/-- Settles O50: alarms by supply and sensor, each locked write by what is armed, and the TRNG's rows. -/
theorem tamperAndRandom : Obligations.TamperAndRandom := by
  intro s sensor sec frac who v b d m
  have halarm := exec_tamperAlarm sensor sec frac s
  have hbackup := exec_tamperAlarmBackup sensor sec frac s
  refine ⟨⟨fun h hu => ?_, fun h hu => ?_, fun h => halarm.trans (next_commit (tamperAlarm_off h))⟩,
    ⟨fun h => hbackup.trans (next_commit (tamperBackup_dark h)), fun h => hbackup.trans (next_commit (tamperBackup_off h))⟩,
    rfl, rfl, rfl, fun hup => ?running⟩
  · exact halarm.trans (next_commit ((tamperAlarm_live h).trans (by rw [if_pos hu]; rfl)))
  · exact halarm.trans (next_commit ((tamperAlarm_live h).trans (by rw [if_neg (Bool.eq_false_iff.mp hu)]; rfl)))
  case running =>
    intro off mine open' key
    have hunlock : exec (.unlockWrite who v) s = .next (s.commit (unlockWrite m v.toNat d)) := State.act_up s (unlockWrite m v.toNat) hup
    have hzero : exec (.slotZero who v) s = .next (s.commit (lockedWrite m 0x24 (v.toNat == 0x5A) slotsZero d)) :=
      State.act_up s (zeroWrite m v.toNat) hup
    have hlog : exec (.tamperLogClear who v) s = .next (s.commit (lockedWrite m 0x28 (v.toNat == 1) tlogClear d)) :=
      State.act_up s (tlogWrite m v.toNat) hup
    have hpass : exec .trngReady s = .next (s.commit (trngPass d)) := State.act_up s trngPass hup
    have hslow : exec .trngStartupTimeout s = .next (s.commit (trngSlow d)) := State.act_up s trngSlow hup
    have hfail : exec .trngTestFail s = .next (s.commit (trngFail d)) := State.act_up s trngFail hup
    refine ⟨fun hk => hunlock.trans (next_commit (unlockWrite_arms hk)),
      fun hk hm => hunlock.trans (next_commit ((unlockWrite_other hk).trans (disarm_mine hm))),
      fun hk hm => hunlock.trans (next_commit ((unlockWrite_other hk).trans (disarm_other hm))),
      State.act_up s unarmed hup,
      fun ho hv => hzero.trans (next_commit (lockedWrite_open ho (beq_iff_eq.mpr hv))),
      fun hn hm => hzero.trans (next_commit ((lockedWrite_shut (fun hc => hn (hc.imp_right beq_iff_eq.mp))).trans (disarm_mine hm))),
      fun hm => hzero.trans (next_commit ((lockedWrite_shut (not_armedOpen hm)).trans (disarm_other hm))),
      fun ho hv => hlog.trans (next_commit (lockedWrite_open ho (beq_iff_eq.mpr hv))),
      fun hn hm => hlog.trans (next_commit ((lockedWrite_shut (fun hc => hn (hc.imp_right beq_iff_eq.mp))).trans (disarm_mine hm))),
      fun hm => hlog.trans (next_commit ((lockedWrite_shut (not_armedOpen hm)).trans (disarm_other hm))),
      fun h => hpass.trans (next_commit (trngPass_idle h)),
      fun h => ⟨fun hb => hpass.trans (next_commit (trngPass_rooted h hb)), fun hb => hpass.trans (next_commit (trngPass_newRoot h hb))⟩,
      ⟨fun h => hslow.trans (next_commit (trngSlow_overdue h)), fun h => hslow.trans (next_commit (trngSlow_inTime h))⟩,
      fun h => hfail.trans (next_commit (trngFail_service h)), fun h => hfail.trans (next_commit (trngFail_start h))⟩

end Sys2Proof.Machine
end

section
/-! SUPPORT and PROOF. Debug access (17 R497, R520, R525 to R529, R532): authentication, halts, resumes, reset requests, EXTEST, and debug reads. -/

namespace Sys2Proof.Machine

/-! Authentication and the session (R526). -/

section
variable {d : Dev} {level : Nat} {sig : Bool}

/-- The device after a response: a new challenge where the TRNG gives output. -/
def challenged (d : Dev) : Dev := if trngReady d = true then debugChallenge d else d

theorem debugAuth_granted (hs : sig = true) (h1 : 1 ≤ level) (hm : level ≤ debugMax d) :
    debugAuth level sig d = raise 84 none level 0 ((challenged d).setF Reg.tgtDbgStatus 0 3 (level + 4)) :=
  if_pos (by simp [hs, h1, hm])

theorem debugAuth_refused (h : sig = false ∨ level = 0 ∨ debugMax d < level) :
    debugAuth level sig d = raiseH 83 none level 0 144 0 (challenged d) := by
  refine if_neg (fun hc => ?_)
  simp only [Bool.and_eq_true, decide_eq_true_eq] at hc
  obtain ⟨⟨hs, h1⟩, hm⟩ := hc
  rcases h with h | h | h
  · exact Bool.false_ne_true (h.symm.trans hs)
  · omega
  · omega

/-! Halts and resumes (R529). -/

theorem debugHalt_refused (t : HaltTarget) (h : d.mode ≠ modeMaintenance ∨ debugLevel d < 2) : debugHalt t d = debugRefused d :=
  if_pos (by simpa using h)

section
variable (hm : d.mode = modeMaintenance) (hl : 2 ≤ debugLevel d)
include hm hl

theorem debugHalt_mgmt : debugHalt .mgmt d = lockAbort (fun m => m ≤ 1) ((debugTaken d).setB Reg.tgtDbgStatus 3) :=
  if_neg (by simp [hm, Nat.not_lt.mpr hl])

/-- The device that shows the carriage halted. -/
def carHalted (c : Nat) (d : Dev) : Dev := ((debugTaken d).setB Reg.tgtDbgStatus 4).setF Reg.tgtDbgStatus 8 9 c

theorem debugHalt_carriage (c : Nat) :
    debugHalt (.carriage c) d =
      let car := carHalted c d
      if carSt car c = stFree then car else setHcar c { hcar car c with modeReq := some hHold } car :=
  if_neg (by simp [hm, Nat.not_lt.mpr hl])

theorem debugHalt_other (k : Nat) :
    debugHalt (.other k) d =
      let yes := debugTaken d
      lockAbort (fun m => m == k) { yes with sbx := { yes.sbx with halted := k :: yes.sbx.halted.filter (fun x => x != k) } } :=
  if_neg (by simp [hm, Nat.not_lt.mpr hl])

end

/-! Reset requests and EXTEST (R528, R529). -/

/-- A debug reset request acts: level 2, in a mode without service. -/
abbrev debugResetMay (d : Dev) : Prop :=
  2 ≤ debugLevel d ∧ (d.mode = modeRecovery ∨ d.mode = modeCommission ∨ d.mode = modeMaintenance)

theorem debugReset_may (sys : Bool) (h : debugResetMay d) : debugReset sys d = askReset (if sys then 1 else 2) 6 0 (debugTaken d) :=
  if_pos (by simpa using h)

theorem debugReset_mayNot (sys : Bool) (h : ¬ debugResetMay d) : debugReset sys d = debugRefused d :=
  if_neg (fun hc => h (by simpa using hc))

section
variable {levels : List Nat}

theorem extest_refused (h : d.mode ≠ modeRecovery ∨ debugLevel d ≠ 3) : extest levels d = debugRefused d := by
  refine if_neg (fun hc => ?_)
  simp only [Bool.and_eq_true, decide_eq_true_eq] at hc
  exact h.elim (· hc.1) (· hc.2)

theorem extest_drives (hm : d.mode = modeRecovery) (hl : debugLevel d = 3) :
    extest levels d =
      (List.range 12).foldl (fun e k => e.emit (.ball (fieldBall k)
        (if 2 ≤ k && k < 10 then (k - 2) * 2 + nth 0 levels k % 2 else nth 0 levels k % 2))) (debugTaken d) :=
  if_pos (by simp [hm, hl])

end

end

/-! Debug reads (R497, R527). -/

/-- What a debug read answers; `mem` is DRAM. -/
def debugReadOf (mem : List Host.Cell) (addr : Nat) (d : Dev) : Dev :=
  if debugReg addr && lifeCycle d ≤ 3 then d.emit (.readData (w32 (readReg d (addr - 0xF0000000))))
  else if debugLevel d < 1 then d
  else match denial d ⟨9, .livery⟩ false addr with
    | some n => (denied n ⟨9, .livery⟩ false addr d).emit (.readData 0)
    | none => match ctlOff addr with
      | some o => (reservedRead o d).emit (.readData (w32 (readReg d o)))
      | none => d.emit (.readData (if inDram addr then w32 (memWord mem addr) else 0))

theorem exec_debugRead (addr : Nat) (s : State) : exec (.debugRead addr) s = .next (s.commit (debugReadOf s.mem addr s.dev)) := by
  have h : execDebugRead addr s = .next (s.commit (debugReadOf s.mem addr s.dev)) := by
    unfold execDebugRead State.actR debugReadOf
    rfl
  exact h

section
variable {mem : List Host.Cell} {addr : Nat} {d : Dev}

/-- The registers of TGT_DBG, which a debug read finds before authentication in the life cycles up to 3. -/
abbrev debugSeen (addr : Nat) (d : Dev) : Prop := debugReg addr = true ∧ lifeCycle d ≤ 3

theorem debugReadOf_seen (h : debugSeen addr d) :
    debugReadOf mem addr d = d.emit (.readData (w32 (readReg d (addr - 0xF0000000)))) :=
  if_pos (by simpa using h)

variable (h : ¬ debugSeen addr d)
include h

theorem debugReadOf_closed (hl : debugLevel d = 0) : debugReadOf mem addr d = d :=
  (if_neg (fun hc => h (by simpa using hc))).trans (if_pos (by omega))

variable (hl : 1 ≤ debugLevel d)
include hl

theorem debugReadOf_open :
    debugReadOf mem addr d = match denial d ⟨9, .livery⟩ false addr with
      | some n => (denied n ⟨9, .livery⟩ false addr d).emit (.readData 0)
      | none => match ctlOff addr with
        | some o => (reservedRead o d).emit (.readData (w32 (readReg d o)))
        | none => d.emit (.readData (if inDram addr then w32 (memWord mem addr) else 0)) := by
  unfold debugReadOf
  rw [if_neg (fun hc => h (by simpa using hc)), if_neg (by omega)]

theorem debugReadOf_denied {n : Nat} (hd : denial d ⟨9, .livery⟩ false addr = some n) :
    debugReadOf mem addr d = (denied n ⟨9, .livery⟩ false addr d).emit (.readData 0) := by
  rw [debugReadOf_open h hl, hd]

theorem debugReadOf_register {o : Nat} (hd : denial d ⟨9, .livery⟩ false addr = none) (ho : ctlOff addr = some o) :
    debugReadOf mem addr d = (reservedRead o d).emit (.readData (w32 (readReg d o))) := by
  rw [debugReadOf_open h hl, hd, ho]

theorem debugReadOf_dram (hd : denial d ⟨9, .livery⟩ false addr = none) (ho : ctlOff addr = none) :
    debugReadOf mem addr d = d.emit (.readData (if inDram addr then w32 (memWord mem addr) else 0)) := by
  rw [debugReadOf_open h hl, hd, ho]

end

/-- Settles O51: each request by level and mode, and a read by what it may see. -/
theorem debugAccess : Obligations.DebugAccess := by
  intro s level addr k c sig sys levels d no yes
  refine ⟨fun hup => ?requests, fun h => ?_, fun h hl => ?_, fun h hl => ⟨fun n hd => ?_, fun o hd ho => ?_, fun hd ho => ?_⟩⟩
  case requests =>
    have hhalt (t : HaltTarget) : exec (.debugHalt t) s = .next (s.commit (debugHalt t d)) := State.act_up s (debugHalt t) hup
    have hres (t : HaltTarget) : exec (.debugResume t) s = .next (s.commit (debugResume t d)) := State.act_up s (debugResume t) hup
    have hend : exec .debugSessionClose s = .next (s.commit (debugEnd d)) := State.act_up s debugEnd hup
    have hreset : exec (.debugResetRequest sys) s = .next (s.commit (debugReset sys d)) := State.act_up s (debugReset sys) hup
    have hext : exec (.extest levels) s = .next (s.commit (extest levels d)) := State.act_up s (extest levels) hup
    refine ⟨fun hlv => ?auth, fun t ht => (hhalt t).trans (next_commit (debugHalt_refused t ht)), fun hm hl => ⟨?_, fun hf => ?_, fun hf => ?_, ?_⟩,
      hres .mgmt, fun hc => (hres _).trans (next_commit (if_pos hc)), fun hc => (hres _).trans (next_commit (if_neg hc)), hres (.other k),
      fun h => hend.trans (next_commit (if_pos h)), fun h => hend.trans (next_commit (if_neg (Bool.eq_false_iff.mp h))),
      ⟨fun h => hreset.trans (next_commit (debugReset_may sys h)), fun h => hreset.trans (next_commit (debugReset_mayNot sys h))⟩,
      fun h => hext.trans (next_commit (extest_refused h)), fun hm hl => hext.trans (next_commit (extest_drives hm hl))⟩
    case auth =>
      have hauth : exec (.debugAuth level sig) s = .next (s.commit (debugAuth level sig d)) :=
        State.act_onlyIf hup (decide_eq_true hlv) (debugAuth level sig)
      exact ⟨fun hs h1 hm => hauth.trans (next_commit (debugAuth_granted hs h1 hm)), fun h => hauth.trans (next_commit (debugAuth_refused h))⟩
    · exact (hhalt _).trans (next_commit (debugHalt_mgmt hm hl))
    · exact (hhalt _).trans (next_commit ((debugHalt_carriage hm hl c).trans (if_pos hf)))
    · exact (hhalt _).trans (next_commit ((debugHalt_carriage hm hl c).trans (if_neg hf)))
    · exact (hhalt _).trans (next_commit (debugHalt_other hm hl k))
  · exact (exec_debugRead addr s).trans (next_commit (debugReadOf_seen h))
  · exact (exec_debugRead addr s).trans (next_commit (debugReadOf_closed h hl))
  · exact (exec_debugRead addr s).trans (next_commit (debugReadOf_denied h hl hd))
  · exact (exec_debugRead addr s).trans (next_commit (debugReadOf_register h hl hd ho))
  · exact (exec_debugRead addr s).trans (next_commit (debugReadOf_dram h hl hd ho))

end Sys2Proof.Machine
end

section
/-! SUPPORT and PROOF. The host bridge (18 R535 to R541): its reset, the link, the outbound side, the inbound queue, and BAR2. -/

namespace Sys2Proof.Machine

/-! The link (R535, R536). -/

section
variable {d : Dev} {rate lanes : Nat}

/-- A rate and a width that the link may train at, with the reference in range. -/
abbrev linkFits (rate lanes : Nat) (d : Dev) : Prop :=
  1 ≤ rate ∧ rate ≤ 5 ∧ 1 ≤ lanes ∧ lanes ≤ 8 ∧ d.bitR Reg.clkStatus 3 = true

/-- What the row of a link that trains does. -/
def linkTrains (rate lanes : Nat) (d : Dev) : Dev := onlyIf (1 ≤ rate && rate ≤ 5 && 1 ≤ lanes && lanes ≤ 8) (pcieUp rate lanes) d

theorem linkTrains_fit (h : linkFits rate lanes d) :
    linkTrains rate lanes d =
      raise 345 none rate lanes (clearCond 344 (d.setF Reg.hbrStatus 0 8 (1 + rate * 2 + lanes * 16))) := by
  obtain ⟨h1, h2, h3, h4, hc⟩ := h
  exact (if_pos (by simp [h1, h2, h3, h4])).trans (if_neg (by simp [hc]))

theorem linkTrains_unfit (h : ¬ linkFits rate lanes d) : linkTrains rate lanes d = d := by
  unfold linkTrains onlyIf
  split
  · next hr =>
    have hc : ¬ d.bitR Reg.clkStatus 3 = true := fun hc => h (by simpa [linkFits, hc, and_assoc] using hr)
    exact if_pos (by simp [hc])
  · rfl

theorem pcieConfig_linked {bme d3 : Bool} (h : d.bitR Reg.hbrStatus 0 = true) :
    pcieConfig bme d3 d = (d.putB Reg.hbrStatus 8 bme).putB Reg.hbrStatus 9 d3 := if_pos h

theorem pcieConfig_down {bme d3 : Bool} (h : d.bitR Reg.hbrStatus 0 = false) : pcieConfig bme d3 d = d :=
  if_neg (Bool.eq_false_iff.mp h)

end

/-! The inbound queue (R538, R540). -/

section
variable {d : Dev} {off v : Nat} {m : List Host.Cell}

/-- The device with one more write in its inbound queue. -/
def inQueued (off v : Nat) (d : Dev) : Dev := ibDepth { d with hbr := { d.hbr with inq := d.hbr.inq ++ [(off, v)] } }

section
variable (h : d.hbr.inq.length < 64)
include h

theorem inWrite_waits : inWrite off v true m d = inQueued off v d := by
  have hl : ¬ 64 ≤ d.hbr.inq.length := Nat.not_le.mpr h
  unfold inWrite
  rw [if_neg (by simp [hl]), if_neg hl]
  rfl

theorem inWrite_drains : inWrite off v false m d = drainIn m (inQueued off v d) := by
  have hl : ¬ 64 ≤ d.hbr.inq.length := Nat.not_le.mpr h
  unfold inWrite
  rw [if_neg (by simp), if_neg hl]
  rfl

end

section
variable (h : 64 ≤ d.hbr.inq.length)
include h

theorem inWrite_full_waits : inWrite off v true m d = d := if_pos (by simp [h])

theorem inWrite_full_drains : inWrite off v false m d = drainIn m (inQueued off v (drainIn m d)) := by
  unfold inWrite
  rw [if_neg (by simp), if_pos h]
  rfl

end

end

section
variable {s : State} (hup : s.dev.up = true) {off : Nat} (ho : off < 0x4000000)
include hup ho

theorem exec_inboundWrite_up (v : Word) (blocked : Bool) :
    exec (.inboundWrite off v blocked) s = .next (s.commit (inWrite off v.toNat blocked s.mem s.dev)) :=
  State.act_onlyIf hup (decide_eq_true ho) (inWrite off v.toNat blocked s.mem)

theorem exec_inboundRead_up :
    exec (.inboundRead off) s = .next (s.commit (gatedRead (hostWho (drainIn s.mem s.dev)) off (drainIn s.mem s.dev))) :=
  State.act_onlyIf hup (decide_eq_true ho) (fun d => gatedRead (hostWho (drainIn s.mem d)) off (drainIn s.mem d))

end

/-! BAR2 (R539). -/

section
variable {d : Dev} {off len w : Nat} {data : Option (List Nat)} {m : List Host.Cell}

/-- The pages that an access spans lie in no one window. -/
abbrev barNoWindow (off len : Nat) (d : Dev) : Prop :=
  barWin d (off / 4096) = none ∨ barWin d ((off + len - 1) / 4096) ≠ barWin d (off / 4096)

theorem barAccess_noWindow (h : barNoWindow off len d) : barAccess off len data m d = barUr d := by
  unfold barAccess
  split
  · next w w' hw hl =>
    have hne : w ≠ w' := by
      rintro rfl
      simp [barNoWindow, hw, hl] at h
    exact if_pos (by simp [hne])
  · rfl

/-- The device address of an access through window `w`. -/
def barAddr (w off : Nat) (d : Dev) : Nat := d.fldR (Reg.hbrWTarget w) 0 28 * 4096 + off - d.fldR (Reg.hbrWBase w) 0 28 * 4096

/-- The device an access meets past the host's locked sequence, which a write disarms. -/
def barMet (data : Option (List Nat)) (d : Dev) : Dev := if data.isSome then disarm 8 d else d

/-- What the Tollgate says of the first and the last byte. -/
def barDenial (who : Who) (wr : Bool) (a len : Nat) (d : Dev) : Option Nat :=
  match denial d who wr a with | some n => some n | none => denial d who wr (a + len - 1)

/-- What an access that the Tollgate permits does at device address `a`. -/
def barServed (w off len a : Nat) (data : Option (List Nat)) (m : List Host.Cell) (d : Dev) : Dev :=
  match ctlOff a with
  | some o => barCtl o len data m d
  | none =>
    if !inDram a || !inDram (a + len - 1) then d.emit (.pcie 1)
    else match data with
      | some bs => storeBytes a (bs.take len) d
      | none => prefetch w off len a (d.emit (.readBytes ((List.range len).map (fun i => (memRead m (a + i)).toNat))))

/-- What an access does in the window that it hits. -/
def barHit (who : Who) (w off len a : Nat) (data : Option (List Nat)) (m : List Host.Cell) (d : Dev) : Dev :=
  match barDenial who data.isSome a len d with
  | some n =>
    let d := denied n who data.isSome a d
    if data.isSome then d else d.emit (.readBytes (List.replicate len 0))
  | none => barServed w off len a data m d

section
variable (hw : barWin d (off / 4096) = some w) (hl : barWin d ((off + len - 1) / 4096) = some w)
include hw hl

theorem barAccess_notWritable (hd : data.isSome = true) (hc : d.bitR (Reg.hbrWCtrl w) 1 = false) : barAccess off len data m d = barUr d := by
  unfold barAccess
  rw [hw, hl]
  exact if_pos (by simp [hd, hc])

theorem barAccess_window (h : data.isSome = false ∨ d.bitR (Reg.hbrWCtrl w) 1 = true) :
    barAccess off len data m d = barHit (hostWho d) w off len (barAddr w off d) data m (barMet data d) := by
  unfold barAccess
  rw [hw, hl]
  refine (if_neg ?_).trans rfl
  rcases h with h | h <;> simp [h]

end

section
variable {who : Who} {a n : Nat}

theorem barDenial_some {wr : Bool} (h : denial d who wr a = some n ∨ (denial d who wr a = none ∧ denial d who wr (a + len - 1) = some n)) :
    barDenial who wr a len d = some n := by
  rcases h with h | ⟨h, hl⟩
  · simp only [barDenial, h]
  · simp only [barDenial, h, hl]

theorem barDenial_none {wr : Bool} (h : denial d who wr a = none ∧ denial d who wr (a + len - 1) = none) :
    barDenial who wr a len d = none := by
  simp only [barDenial, h]

theorem barHit_deniedWrite (hw : data.isSome = true) (h : barDenial who data.isSome a len d = some n) :
    barHit who w off len a data m d = denied n who true a d := by
  simp only [barHit, h]
  rw [hw]
  rfl

theorem barHit_deniedRead (hw : data.isSome = false) (h : barDenial who data.isSome a len d = some n) :
    barHit who w off len a data m d = (denied n who false a d).emit (.readBytes (List.replicate len 0)) := by
  simp only [barHit, h]
  rw [hw]
  rfl

theorem barHit_served (h : barDenial who data.isSome a len d = none) :
    barHit who w off len a data m d = barServed w off len a data m d := by
  simp only [barHit, h]

theorem barServed_register {o : Nat} (h : ctlOff a = some o) : barServed w off len a data m d = barCtl o len data m d := by
  simp only [barServed, h]

section
variable (h : ctlOff a = none)
include h

theorem barServed_nothing (hd : inDram a = false ∨ inDram (a + len - 1) = false) :
    barServed w off len a data m d = d.emit (.pcie 1) := by
  simp only [barServed, h]
  exact if_pos (by simpa using hd)

variable (h1 : inDram a = true) (h2 : inDram (a + len - 1) = true)
include h1 h2

theorem barServed_write {bs : List Nat} (hb : bs.length = len) : barServed w off len a (some bs) m d = storeBytes a bs d := by
  simp only [barServed, h, List.take_of_length_le hb.le]
  exact if_neg (by simp [h1, h2])

theorem barServed_read :
    barServed w off len a none m d =
      prefetch w off len a (d.emit (.readBytes ((List.range len).map (fun i => (memRead m (a + i)).toNat)))) := by
  simp only [barServed, h]
  exact if_neg (by simp [h1, h2])

end

end

/-- One aligned word of the control space is a register; anything else is as at a reserved offset. -/
theorem barCtl_reserved {o : Nat} (h : len ≠ 4 ∨ o % 4 ≠ 0) :
    barCtl o len none m d = (raise 48 none o 0 d).emit (.readBytes (List.replicate len 0)) ∧
      ∀ bs, barCtl o len (some bs) m d = raise 48 none o 1 d :=
  ⟨if_pos (by simpa using h), fun _ => if_pos (by simpa using h)⟩

theorem barCtl_word {o : Nat} (hl : len = 4) (ho : o % 4 = 0) :
    barCtl o len none m d = (readEffect o d).emit (.readData (w32 (readReg d o))) ∧
      ∀ bs, barCtl o len (some bs) m d = writeReg 8 o (bs.foldr (fun b a => b % 256 + 256 * a) 0) m d :=
  ⟨if_neg (by simp [hl, ho]), fun _ => if_neg (by simp [hl, ho])⟩

end

theorem exec_bar2Access_up {s : State} (hup : s.dev.up = true) {off len : Nat} {data : Option (List Nat)}
    (ho : off + len ≤ 2 ^ s.dev.fldR Reg.hbrBar2Size 0 6) (h1 : 1 ≤ len) (hd : ∀ l, data = some l → l.length = len) :
    exec (.bar2Access off len data) s = .next (s.commit (barAccess off len data s.mem s.dev)) := by
  have hall : data.all (fun l => l.length == len) = true := by
    cases data with
    | none => rfl
    | some l => simpa using hd l rfl
  refine State.act_of_eq (f := fun d => onlyIf (off + len ≤ 2 ^ d.fldR Reg.hbrBar2Size 0 6 && 1 ≤ len && data.all (fun l => l.length == len))
    (barAccess off len data s.mem) d) hup ?_
  exact if_pos (by rw [hall]; simp only [ho, h1, decide_true, Bool.and_self])

/-- Settles O52: the rows of the link and the outbound side, the inbound queue by its room, and BAR2 by window, Tollgate and address. -/
theorem bridgeRows : Obligations.BridgeRows := by
  intro s key n rate lanes off len bme d3 v bs data hup d
  have hlink : exec (.pcieLinkUp rate lanes) s = .next (s.commit (linkTrains rate lanes d)) := State.act_up s (linkTrains rate lanes) hup
  have hconf : exec (.pcieConfigWrite bme d3) s = .next (s.commit (pcieConfig bme d3 d)) := State.act_up s (pcieConfig bme d3) hup
  have hback : exec .outboundBackoff s = .next (s.commit (backOff d)) := State.act_up s backOff hup
  refine ⟨State.act_up s bridgeReset hup,
    ⟨fun h => hlink.trans (next_commit (linkTrains_fit h)), fun h => hlink.trans (next_commit (linkTrains_unfit h))⟩,
    fun h => hconf.trans (next_commit (pcieConfig_linked h)), fun h => hconf.trans (next_commit (pcieConfig_down h)),
    State.act_up s (fun d => { d with hbr := { d.hbr with pre := [] } }) hup, State.act_up s (outTake key (min n 16)) hup,
    fun h => hback.trans (next_commit (if_pos h)), fun h => hback.trans (next_commit (if_neg h)),
    State.act_up s (cplTimeout key (min n 16)) hup, fun ho => ?inbound, fun ho h1 hd => ?bar2,
    fun o => ⟨fun h => ?_, fun hl ho => ?_⟩⟩
  case inbound =>
    intro put
    have hw := exec_inboundWrite_up hup ho v
    exact ⟨fun h => ⟨(hw true).trans (next_commit (inWrite_waits h)), (hw false).trans (next_commit (inWrite_drains h))⟩,
      fun h => ⟨(hw true).trans (next_commit (inWrite_full_waits h)), (hw false).trans (next_commit (inWrite_full_drains h))⟩,
      fun e m => rfl, exec_inboundRead_up hup ho⟩
  case bar2 =>
    intro ur last
    have hx := exec_bar2Access_up hup ho h1 hd
    refine ⟨fun h => hx.trans (next_commit (barAccess_noWindow h)), fun w hw hl => ?_⟩
    intro a e wr open'
    refine ⟨fun hwr hc => hx.trans (next_commit (barAccess_notWritable hw hl hwr hc)), fun hok => ?_⟩
    have hin := hx.trans (next_commit (barAccess_window hw hl hok))
    refine ⟨fun k hk => ⟨fun hwr => ?_, fun hwr => ?_⟩, fun o hp hc => ?_, fun hp hc => ⟨fun hn => ?_, fun hd1 hd2 => ⟨?_, ?_⟩⟩⟩
    · exact hin.trans (next_commit (barHit_deniedWrite hwr (barDenial_some hk)))
    · exact hin.trans (next_commit (barHit_deniedRead hwr (barDenial_some hk)))
    · exact hin.trans (next_commit ((barHit_served (barDenial_none hp)).trans (barServed_register hc)))
    · exact hin.trans (next_commit ((barHit_served (barDenial_none hp)).trans (barServed_nothing hc hn)))
    · rintro rfl
      exact hin.trans (next_commit ((barHit_served (barDenial_none hp)).trans (barServed_write hc hd1 hd2 (hd bs rfl))))
    · rintro rfl
      exact hin.trans (next_commit ((barHit_served (barDenial_none hp)).trans (barServed_read hc hd1 hd2)))
  · exact ⟨(barCtl_reserved h).1, (barCtl_reserved h).2 bs⟩
  · exact ⟨(barCtl_word hl ho).1, (barCtl_word hl ho).2 bs⟩

end Sys2Proof.Machine
end

section
/-! SUPPORT and PROOF. Memory errors (18 R543 to R547, R552): scrub steps, uncorrectable reads, and row remaps with their copies. A place below
2^27 is its own field of the error registers, and its row's key is channel and place. -/

namespace Sys2Proof.Machine

/-! Errors of a row (R544 to R546). -/

section
variable {m loc addr : Nat} {d : Dev}

/-- The last error of a channel at its place; `k` is 1 for an uncorrectable one. -/
def errNoted (m loc addr k : Nat) (d : Dev) : Dev :=
  ((d.wn (Reg.memCErrLo m) addr).wn (Reg.memCErrHi m) (addr / 2 ^ 32 % 2 ^ 8)).wn (Reg.memCErrLoc m) (loc + k * 2 ^ 27)

/-- The row of a place, to be remapped unless it is or waits for it. -/
def rowAsked (m loc : Nat) (d : Dev) : Dev :=
  if (rmapOf d m loc).isSome = true ∨ m * 2 ^ 27 + loc ∈ d.memx.due then d
  else { d with memx := { d.memx with due := d.memx.due ++ [m * 2 ^ 27 + loc] } }

section
variable (h : loc < 2 ^ 27)
include h

theorem rowKey_eq : rowKey m loc = m * 2 ^ 27 + loc := by
  rw [rowKey, Nat.mod_eq_of_lt h]

theorem memErr_eq (ue : Bool) : memErr m loc addr ue d = errNoted m loc addr (b2n ue) d := by
  rw [memErr, Nat.mod_eq_of_lt h]
  rfl

theorem rowDue_eq : rowDue m loc d = rowAsked m loc d := by
  unfold rowDue rowAsked
  rw [rowKey_eq h, Nat.mod_eq_of_lt h]
  exact if_congr (by rw [Bool.or_eq_true, List.contains_iff_mem]) rfl rfl

theorem memUe_eq :
    memUe m loc addr d = rowAsked m loc (raise (361 + 8 * m) none loc 0 (errNoted m loc addr 1 (d.bump (Reg.memCUe m)))) := by
  rw [memUe, rowDue_eq h, memErr_eq h]
  rfl

/-- The device that has noted one more correctable error of the row, among those of 24 hours. -/
def ceCounted (m loc addr : Nat) (d : Dev) : Dev :=
  let d1 := raise (360 + 8 * m) none loc 0 (errNoted m loc addr 0 (d.bump (Reg.memCCe m)))
  let times := d1.tim.absTick :: ((tfind d1.memx.ce (m * 2 ^ 27 + loc)).getD []).filter (fun t => d1.tim.absTick < t + 24 * 3600 * 76800)
  let d2 := { d1 with memx := { d1.memx with ce := tput d1.memx.ce (m * 2 ^ 27 + loc) times } }
  if d2.fldR Reg.memCeRowLim 0 8 ≤ times.length then rowAsked m loc d2 else d2

theorem memCe_eq : memCe m loc addr d = ceCounted m loc addr d := by
  have hday : dayTicks = 24 * 3600 * 76800 := by decide
  simp only [memCe, rowDue_eq h, rowKey_eq h, memErr_eq h, hday]
  rfl

end

end

/-! A scrub step (R543, R544). -/

section
variable {m loc addr pct : Nat} {d : Dev}

/-- How far the pass has come, after a step. -/
def scrubShown (m pct : Nat) (d : Dev) : Dev :=
  if pct = 100 then raise (364 + 8 * m) none 0 0 (d.setF (Reg.memCScrubPos m) 0 7 0) else d.setF (Reg.memCScrubPos m) 0 7 pct

/-- What the step finds. -/
def scrubFound (m loc addr : Nat) (res : ScrubRes) (d : Dev) : Dev :=
  match res with
  | .clean => d
  | .corrected => memCe m loc addr d
  | .bad => memUe m loc addr d
  | .retryFail => raise (366 + 8 * m) none loc 0 d

theorem scrubStep_eq (res : ScrubRes) : scrubStep m loc addr res pct d = scrubShown m pct (scrubFound m loc addr res d) := by
  have hrow : scrubStep m loc addr res pct d =
      let e := (scrubFound m loc addr res d).setF (Reg.memCScrubPos m) 0 7 (if pct = 100 then 0 else pct)
      if pct = 100 then raise (364 + 8 * m) none 0 0 e else e := by cases res <;> rfl
  rw [hrow]
  by_cases hp : pct = 100
  · simp only [scrubShown, if_pos hp]
  · simp only [scrubShown, if_neg hp]

end

section
variable {s : State} (hup : s.dev.up = true) {m loc addr : Nat} (hm : m < 4) (hl : loc < 2 ^ 27)
include hup hm hl

theorem exec_scrubStep_up (ha : addr / 256 % 4 = m) (res : ScrubRes) {pct : Nat} (hp : pct ≤ 100) :
    exec (.scrubStep m loc addr res pct) s = .next (s.commit (scrubShown m pct (scrubFound m loc addr res s.dev))) :=
  (State.act_onlyIf hup (by simpa [hm, hp, chanOf, ha] using hl) (scrubStep m loc addr res pct)).trans (next_commit (scrubStep_eq res))

theorem exec_dramUeRead_up (ha : addr / 256 % 4 = m) (r : UeReader) :
    exec (.dramUeRead m loc addr r) s = .next (s.commit (ueReader r
      (rowAsked m loc (raise (361 + 8 * m) none loc 0 (errNoted m loc addr 1 (s.dev.bump (Reg.memCUe m))))))) :=
  (State.act_onlyIf hup (by simpa [hm, chanOf, ha] using hl) (fun d => ueReader r (memUe m loc addr d))).trans
    (next_commit (congrArg (ueReader r) (memUe_eq hl)))

theorem exec_rowRemap_up : exec (.rowRemap m loc) s = .next (s.commit (rowRemap m loc s.dev)) :=
  State.act_onlyIf hup (by simpa [hm] using hl) (rowRemap m loc)

end

/-! Remaps (R547, R552). -/

section
variable {m loc e : Nat} {d : Dev}

theorem rowRemap_idle (h : loc < 2 ^ 27) (hn : m * 2 ^ 27 + loc ∉ d.memx.due) : rowRemap m loc d = d := by
  unfold rowRemap
  rw [rowKey_eq h]
  exact if_pos (by simpa using hn)

/-- The device whose row is not due any more. -/
def rowTaken (m loc : Nat) (d : Dev) : Dev :=
  { d with memx := { d.memx with due := d.memx.due.filter (fun x => x != m * 2 ^ 27 + loc) } }

theorem rowRemap_due (h : loc < 2 ^ 27) (hn : m * 2 ^ 27 + loc ∈ d.memx.due) :
    rowRemap m loc d = match rmapFree (rowTaken m loc d) m with
      | none => setCond (363 + 8 * m) loc (rowTaken m loc d)
      | some _ => rmapPut m loc true (rowTaken m loc d) := by
  unfold rowRemap
  rw [rowKey_eq h]
  refine (if_neg ?_).trans rfl
  simpa using hn

theorem rowRemap_full (h : loc < 2 ^ 27) (hn : m * 2 ^ 27 + loc ∈ d.memx.due) (hf : rmapFree (rowTaken m loc d) m = none) :
    rowRemap m loc d = setCond (363 + 8 * m) loc (rowTaken m loc d) := by
  rw [rowRemap_due h hn, hf]

theorem rowRemap_placed (h : loc < 2 ^ 27) (hn : m * 2 ^ 27 + loc ∈ d.memx.due) (hf : rmapFree (rowTaken m loc d) m ≠ none) :
    rowRemap m loc d = rmapPut m loc true (rowTaken m loc d) := by
  obtain ⟨k, hk⟩ := Option.ne_none_iff_exists'.mp hf
  rw [rowRemap_due h hn, hk]

theorem remapDone_copied (h1 : d.bitR (Reg.memCRmap m e) 31 = true) (h2 : d.bitR (Reg.memCRmap m e) 30 = true) :
    remapDone m e d =
      repairLog [7, m, d.fldR (Reg.memCRmap m e) 0 27] (raise (362 + 8 * m) none (d.fldR (Reg.memCRmap m e) 0 27) 0
        ((d.clrB (Reg.memCRmap m e) 30).bump (Reg.rprKRetired 7))) :=
  if_pos (by rw [h1, h2]; rfl)

theorem remapDone_idle (h : d.bitR (Reg.memCRmap m e) 31 = false ∨ d.bitR (Reg.memCRmap m e) 30 = false) : remapDone m e d = d :=
  if_neg (fun hc => by
    obtain ⟨h1, h2⟩ := (Bool.and_eq_true _ _).mp hc
    exact h.elim (fun h => Bool.false_ne_true (h.symm.trans h1)) (fun h => Bool.false_ne_true (h.symm.trans h2)))

end

/-- Settles O53: a step by what it finds, a read by its reader, and a remap by its room and its copy. -/
theorem memoryErrors : Obligations.MemoryErrors := by
  intro s m loc addr pct e lane i c q k hup hm hl ha d now err due ue ce shown
  have hread (r : UeReader) := exec_dramUeRead_up hup hm hl ha r
  have hmap := exec_rowRemap_up hup hm hl
  refine ⟨fun hp => ?scrub, hread (.lane lane), hread (.kernel i), fun hc => (hread (.queue c q)).trans (next_commit (if_neg hc)),
    fun hc => (hread (.queue c q)).trans (next_commit (if_pos hc)), hread (.core k), hread .bridge, hread .livery, fun hn => ⟨?_, ?_⟩,
    fun hn => hmap.trans (next_commit (rowRemap_idle hl hn)), fun he => ?copy⟩
  case scrub =>
    have hx (res : ScrubRes) := exec_scrubStep_up hup hm hl ha res hp
    exact ⟨hx .clean, (hx .corrected).trans (next_commit (congrArg (scrubShown m pct) (memCe_eq hl))),
      (hx .bad).trans (next_commit (congrArg (scrubShown m pct) (memUe_eq hl))), hx .retryFail⟩
  · exact fun hf => hmap.trans (next_commit (rowRemap_full hl hn hf))
  · exact fun hf => hmap.trans (next_commit (rowRemap_placed hl hn hf))
  case copy =>
    have hx : exec (.remapCopyDone m e) s = .next (s.commit (remapDone m e d)) :=
      State.act_onlyIf hup (by simp [hm, he]) (remapDone m e)
    exact ⟨fun h1 h2 => hx.trans (next_commit (remapDone_copied h1 h2)), fun h => hx.trans (next_commit (remapDone_idle h))⟩

end Sys2Proof.Machine
end

section
/-! SUPPORT and PROOF. Repair (04 R134; 18 R548 to R552, R557; 13 R420): post-package repair, SRAM rows, the fuse records, units retired by
command, and a core's machine check. -/

namespace Sys2Proof.Machine

/-! DRAM_PPR and its end (R548). -/

section
variable {d : Dev} {p : List Nat}

/-- DRAM_PPR's conditions in their order: the mode, the rank, a resource of the bank group, and a place for the row meanwhile. -/
abbrev pprMode (d : Dev) : Prop := d.mode = modeMaintenance ∧ baseMode d = modeStandby
abbrev pprRank (p : List Nat) (d : Dev) : Prop := fld (entW p 0) 3 3 < ranksOf d (fld (entW p 0) 0 2)
abbrev pprSpare (p : List Nat) (d : Dev) : Prop := d.fldR (Reg.memCPpr (fld (entW p 0) 0 2) (pprGroup p)) 0 4 ≠ 0
abbrev pprPlace (p : List Nat) (d : Dev) : Prop :=
  rmapOf d (fld (entW p 0) 0 2) (pprLoc p) ≠ none ∨ rmapFree d (fld (entW p 0) 0 2) ≠ none

theorem pprMode_iff : (d.mode ≠ modeMaintenance || baseMode d ≠ modeStandby) = false ↔ pprMode d := by
  simp [pprMode]

theorem pprPlace_iff :
    ((rmapOf d (fld (entW p 0) 0 2) (pprLoc p)).isNone && (rmapFree d (fld (entW p 0) 0 2)).isNone) = false ↔ pprPlace p d := by
  rw [Bool.and_eq_false_iff, Option.isNone_eq_false_iff, Option.isNone_eq_false_iff, Option.isSome_iff_ne_none, Option.isSome_iff_ne_none]

/-- The device whose row is remapped for its repair, with the repair noted. -/
def pprNoted (p : List Nat) (d : Dev) : Dev :=
  let m := fld (entW p 0) 0 2
  let d1 := if rmapOf d m (pprLoc p) = none then rmapPut m (pprLoc p) true d else d
  { d1 with memx := { d1.memx with ppr := d1.memx.ppr ++ [(d1.cmd.nextJob, m, pprLoc p)] } }

theorem pprBody_otherMode (h : ¬ pprMode d) : pprBody p d = (d, noA cWrongMode) :=
  if_pos (Bool.of_not_eq_false (mt pprMode_iff.mp h))

section
variable (hm : pprMode d)
include hm

theorem pprBody_noRank (hr : ¬ pprRank p d) : pprBody p d = (d, badP 0) :=
  (if_neg (Bool.eq_false_iff.mp (pprMode_iff.mpr hm))).trans (if_pos (Nat.not_lt.mp hr))

variable (hr : pprRank p d)
include hr

theorem pprBody_noSpare (hs : ¬ pprSpare p d) : pprBody p d = (d, noA cSpareExhausted) :=
  (if_neg (Bool.eq_false_iff.mp (pprMode_iff.mpr hm))).trans ((if_neg (Nat.not_le.mpr hr)).trans (if_pos (not_not.mp hs)))

variable (hs : pprSpare p d)
include hs

theorem pprBody_noPlace (hp : ¬ pprPlace p d) : pprBody p d = (d, noA cNoResource) :=
  (if_neg (Bool.eq_false_iff.mp (pprMode_iff.mpr hm))).trans ((if_neg (Nat.not_le.mpr hr)).trans ((if_neg hs).trans
    (if_pos (Bool.of_not_eq_false (mt pprPlace_iff.mp hp)))))

theorem pprBody_begins (hp : pprPlace p d) :
    pprBody p d = (if brcRole (pprNoted p d) = roleStandby then enterResync (pprNoted p d) else pprNoted p d, pendA []) := by
  have hput : (if (rmapOf d (fld (entW p 0) 0 2) (pprLoc p)).isSome = true then d else rmapPut (fld (entW p 0) 0 2) (pprLoc p) true d) =
      if rmapOf d (fld (entW p 0) 0 2) (pprLoc p) = none then rmapPut (fld (entW p 0) 0 2) (pprLoc p) true d else d := by
    cases rmapOf d (fld (entW p 0) 0 2) (pprLoc p) <;> rfl
  simp only [pprNoted, ← hput]
  exact (if_neg (Bool.eq_false_iff.mp (pprMode_iff.mpr hm))).trans ((if_neg (Nat.not_le.mpr hr)).trans ((if_neg hs).trans
    (if_neg (Bool.eq_false_iff.mp (pprPlace_iff.mpr hp)))))

end

variable {ok : Bool} {left job m loc : Nat} {rest : List (Nat × Nat × Nat)}

theorem pprEnds_none (h : d.memx.ppr = []) : pprEnds ok left d = d := by
  simp only [pprEnds, h]

section
variable (h : d.memx.ppr = (job, m, loc) :: rest)
include h

/-- The device whose first repair is over. -/
def pprTaken (rest : List (Nat × Nat × Nat)) (d : Dev) : Dev := { d with memx := { d.memx with ppr := rest } }

theorem pprEnds_unmapped (hn : rmapOf (pprTaken rest d) m loc = none) :
    pprEnds ok left d = finishJob job cFault [] (pprTaken rest d) := by
  unfold pprEnds
  rw [h]
  dsimp only
  rw [show rmapOf { d with memx := { d.memx with ppr := rest } } m loc = none from hn]
  rfl

variable {k : Nat} (hk : rmapOf (pprTaken rest d) m loc = some k)
include hk

theorem pprEnds_failed : pprEnds false left d = finishJob job cFault [] (remapDone m k (pprTaken rest d)) := by
  unfold pprEnds
  rw [h]
  dsimp only
  rw [show rmapOf { d with memx := { d.memx with ppr := rest } } m loc = some k from hk]
  rfl

theorem pprEnds_repaired :
    pprEnds true left d =
      let d2 := remapDone m k (pprTaken rest d)
      let d3 := showPpr (showRemap ((d2.wn (Reg.memCRmap m k) 0).wn (Reg.memCPpr m (locGroup loc)) (left % 16)))
      finishJob job cOk [left % 16] (raise (365 + 8 * m) none loc 0 ((clearCond (363 + 8 * m) d3).bump (Reg.rprKRetired 6))) := by
  unfold pprEnds
  rw [h]
  dsimp only
  rw [show rmapOf { d with memx := { d.memx with ppr := rest } } m loc = some k from hk]
  rfl

end

end

/-! RETIRE_UNIT (13 R420). -/

section
variable {m : List Host.Cell} {d : Dev} {p : List Nat}

theorem retireBody_otherMode (h : d.mode ≠ modeMaintenance) : retireBody m p d = (d, noA cWrongMode) := if_pos h

/-- The answer of a retirement: the spares left of the kind. -/
def retireTold (k : Nat) (e : Dev) : Dev × Ans := (e, okA [e.rn (Reg.rprKSpares k)])

section
variable (h : d.mode = modeMaintenance)
include h

theorem retireBody_kind (h3 : entW p 0 ≠ 3) (h4 : entW p 0 ≠ 4) :
    retireBody m p d = retireTold (entW p 0)
      (retireUnit (entW p 0) (entW p 1) 4 (if entW p 0 = 1 && eRole d (entW p 1) != 3 then runsLost m (entW p 1) d else d)) :=
  (if_neg (not_not_intro h)).trans ((if_neg h3).trans (if_neg h4))

theorem retireBody_unit {k : Nat} (hk : entW p 0 = k) (h1 : k ≠ 1) (h3 : k ≠ 3) (h4 : k ≠ 4) :
    retireBody m p d = retireTold k (retireUnit k (entW p 1) 4 d) := by
  subst hk
  rw [retireBody_kind h h3 h4, if_neg (by simp [h1])]

theorem retireBody_engine (hk : entW p 0 = 1) :
    retireBody m p d = retireTold 1
      (retireUnit 1 (entW p 1) 4 (if eRole d (entW p 1) ≠ 3 then runsLost m (entW p 1) d else d)) := by
  rw [retireBody_kind h (by omega) (by omega), hk]
  congr 2
  exact if_congr (by simp) rfl rfl

section
variable (hk : entW p 0 = 3)
include hk

theorem retireBody_noCore (hc : coreRetire (bitOf (entW p 2) 1) (entW p 1) d = none) : retireBody m p d = (d, noA cSpareExhausted) := by
  refine (if_neg (not_not_intro h)).trans ((if_pos hk).trans ?_)
  rw [hc]

theorem retireBody_core {e : Dev} (hc : coreRetire (bitOf (entW p 2) 1) (entW p 1) d = some e) : retireBody m p d = retireTold 3 e := by
  refine (if_neg (not_not_intro h)).trans ((if_pos hk).trans ?_)
  rw [hc, hk]
  rfl

end

theorem retireBody_lane (hk : entW p 0 = 4) :
    retireBody m p d = retireTold 4 (laneRetire (fld (entW p 2) 0 1) (entW p 1) 0 true d) := by
  refine (if_neg (not_not_intro h)).trans ((if_neg (by omega)).trans ((if_pos hk).trans ?_))
  rw [hk]
  rfl

end

end

/-! SRAM rows (R549; 04 R134). -/

section
variable {d : Dev} {g row : Nat} {ue : Bool}

/-- The device whose sample store reads the error of its row; other groups hold none. -/
def rowStored (g row : Nat) (ue : Bool) (d : Dev) : Dev :=
  if g = 0 then
    { d with sau := { d.sau with ecc := tput d.sau.ecc (row % 2 ^ 18) (if ue = true ∨ tget 0 d.sau.ecc (row % 2 ^ 18) = 2 then 2 else 1) } }
  else d

theorem storeError_eq : (if g = 0 then storeError row ue d else d) = rowStored g row ue d := by
  unfold rowStored storeError
  simp only [Bool.or_eq_true, decide_eq_true_eq]

/-- The error of the row noted in its route. -/
def rowNoted (g row : Nat) (d : Dev) : Dev :=
  { d with rpr := { d.rpr with sramCe := tput d.rpr.sramCe (g * 2 ^ 24 + row) d.tim.absRoute } }

/-- A soft repair of the row comes: the error asks for it, it is on, and none is running. -/
abbrev rowSoft (g row : Nat) (ue : Bool) (d : Dev) : Prop :=
  (ue = true ∨ tfind (rowStored g row ue d).rpr.sramCe (g * 2 ^ 24 + row) = some (rowStored g row ue d).tim.absRoute) ∧
    (rowNoted g row (rowStored g row ue d)).bitR Reg.rprCtrl 1 = true ∧ (g, row) ∉ (rowNoted g row (rowStored g row ue d)).rpr.copies

theorem rowSoft_iff :
    (!(ue || tfind (rowStored g row ue d).rpr.sramCe (g * 2 ^ 24 + row) == some (rowStored g row ue d).tim.absRoute) ||
      !(rowNoted g row (rowStored g row ue d)).bitR Reg.rprCtrl 1 ||
      (rowNoted g row (rowStored g row ue d)).rpr.copies.contains (g, row)) = false ↔ rowSoft g row ue d := by
  rw [Bool.or_eq_false_iff, Bool.or_eq_false_iff, Bool.not_eq_false', Bool.not_eq_false', Bool.or_eq_true, beq_iff_eq, and_assoc,
    ← Bool.not_eq_true, List.contains_iff_mem]

theorem sramRow_eq :
    sramRow g row ue d =
      let d1 := rowNoted g row (rowStored g row ue d)
      if !(ue || tfind (rowStored g row ue d).rpr.sramCe (g * 2 ^ 24 + row) == some (rowStored g row ue d).tim.absRoute) ||
        !d1.bitR Reg.rprCtrl 1 || d1.rpr.copies.contains (g, row) then d1
      else if sramLeft d1 g = 0 then setCond 398 g d1
      else sramUse g { d1 with rpr := { d1.rpr with copies := d1.rpr.copies ++ [(g, row)] } } := by
  rw [← storeError_eq]
  rfl

theorem sramRow_noted (h : ¬ rowSoft g row ue d) : sramRow g row ue d = rowNoted g row (rowStored g row ue d) :=
  sramRow_eq.trans (if_pos (Bool.of_not_eq_false (mt rowSoft_iff.mp h)))

section
variable (h : rowSoft g row ue d)
include h

theorem sramRow_full (hs : sramLeft (rowNoted g row (rowStored g row ue d)) g = 0) :
    sramRow g row ue d = setCond 398 g (rowNoted g row (rowStored g row ue d)) :=
  sramRow_eq.trans ((if_neg (Bool.eq_false_iff.mp (rowSoft_iff.mpr h))).trans (if_pos hs))

theorem sramRow_spare (hs : sramLeft (rowNoted g row (rowStored g row ue d)) g ≠ 0) :
    sramRow g row ue d =
      let d1 := rowNoted g row (rowStored g row ue d)
      sramUse g { d1 with rpr := { d1.rpr with copies := d1.rpr.copies ++ [(g, row)] } } :=
  sramRow_eq.trans ((if_neg (Bool.eq_false_iff.mp (rowSoft_iff.mpr h))).trans (if_neg hs))

end

theorem sramDone_copied (h : (g, row) ∈ d.rpr.copies) :
    sramDone g row d =
      let d1 := { d with rpr := { d.rpr with copies := d.rpr.copies.filter (fun x => x != (g, row)) } }
      let d2 := if g = 0 ∧ tget 0 d1.sau.ecc (row % 2 ^ 18) = 1 then
        { d1 with sau := { d1.sau with ecc := tdel d1.sau.ecc (row % 2 ^ 18) } } else d1
      repairLog [5, g, row] (raise 397 none g row d2) :=
  if_neg (by simpa using h)

theorem sramDone_idle (h : (g, row) ∉ d.rpr.copies) : sramDone g row d = d :=
  if_pos (by simpa using h)

end

/-! The fuse records (R552). -/

section
variable {d : Dev} {v : Nat}

theorem fuseCommit_burns (hb : bitOf v 0 = true) (hm : d.mode = modeMaintenance) : fuseCommit v d = d.setB Reg.rprFuseStatus 0 :=
  (if_pos (Or.inr hm)).trans (if_pos (by simp [hb, hm]))

theorem fuseCommit_nothing (h : d.mode = modeBoot ∨ (d.mode = modeMaintenance ∧ bitOf v 0 = false)) : fuseCommit v d = d := by
  have hopen : d.mode = modeBoot ∨ d.mode = modeMaintenance := h.imp_right And.left
  refine (if_pos hopen).trans (if_neg ?_)
  rcases h with h | ⟨-, h⟩
  · rw [h]; simp [modeBoot, modeMaintenance]
  · simp [h]

theorem fuseCommit_refused (h1 : d.mode ≠ modeMaintenance) (h2 : d.mode ≠ modeBoot) : fuseCommit v d = raise 49 none 0 0 d :=
  if_neg (not_or.mpr ⟨h2, h1⟩)

theorem fuseDone_idle {ok : Bool} (h : d.bitR Reg.rprFuseStatus 0 = false) : fuseDone ok d = d := if_pos (by simp [h])

section
variable (h : d.bitR Reg.rprFuseStatus 0 = true)
include h

theorem fuseDone_failed : fuseDone false d = d.wn Reg.rprFuseStatus 2 :=
  (if_neg (by simp [h])).trans (if_pos rfl)

theorem fuseDone_burnt :
    fuseDone true d =
      let done := d.fldR Reg.rprLogCount 16 9
      let room := d.fldR Reg.rprFuseLeft 0 7
      let new := (d.rpr.log.drop done).take room
      let d1 := { d with rpr := { d.rpr with fused := d.rpr.fused ++ new } }.wn Reg.rprFuseStatus 0
      raise 400 none new.length 0 ((d1.setF Reg.rprLogCount 16 9 (done + new.length)).setF Reg.rprFuseLeft 0 7 (room - new.length)) :=
  (if_neg (by simp [h])).trans (if_neg (by decide))

end

end

/-- Settles O54: each opcode by its checks in their order, and each row by what is under repair. -/
theorem repairRows : Obligations.RepairRows := by
  intro h s g row left core v ok ue
  refine ⟨⟨fun ht => ⟨?_, ?_, ?_, ?_, ?_⟩, fun ht => ⟨?_, fun hm => ⟨?_, ?_, ?_, ?_, ?_, ?_⟩⟩, fun ht => act_takes_of_body ht rfl⟩,
    fun hup => ?rows⟩
  · exact fun hm => act_takes_of_body ht (pprBody_otherMode hm)
  · exact fun hm hr => act_takes_of_body ht (pprBody_noRank hm hr)
  · exact fun hm hr hs => act_takes_of_body ht (pprBody_noSpare hm hr hs)
  · exact fun hm hr hs hp => act_takes_of_body ht (pprBody_noPlace hm hr hs hp)
  · exact fun hm hr hs hp => act_takes_of_body ht (pprBody_begins hm hr hs hp)
  · exact fun hm => act_takes_of_body ht (retireBody_otherMode (m := s.mem) hm)
  · exact fun hk => act_takes_of_body ht (retireBody_unit (m := s.mem) hm hk (by decide) (by decide) (by decide))
  · exact fun hk => act_takes_of_body ht (retireBody_engine (m := s.mem) hm hk)
  · exact fun hk => act_takes_of_body ht (retireBody_unit (m := s.mem) hm hk (by decide) (by decide) (by decide))
  · exact fun hk hc => act_takes_of_body ht (retireBody_noCore (m := s.mem) hm hk hc)
  · exact fun e hk hc => act_takes_of_body ht (retireBody_core (m := s.mem) hm hk hc)
  · exact fun hk => act_takes_of_body ht (retireBody_lane (m := s.mem) hm hk)
  case rows =>
    intro d
    have hppr (ok : Bool) : exec (.pprComplete ok left) s = .next (s.commit (pprEnds ok left d)) := State.act_up s (pprEnds ok left) hup
    have hdone : exec (.sramRepairDone g row) s = .next (s.commit (sramDone g row d)) := State.act_up s (sramDone g row) hup
    have hfuse : exec (.fuseCommit v) s = .next (s.commit (fuseCommit v.toNat d)) := State.act_up s (fuseCommit v.toNat) hup
    have hburn (ok : Bool) : exec (.fuseCommitDone ok) s = .next (s.commit (fuseDone ok d)) := State.act_up s (fuseDone ok) hup
    refine ⟨fun h => (hppr ok).trans (next_commit (pprEnds_none h)), fun job m loc rest h => ⟨?_, fun k hk => ⟨?_, ?_⟩⟩, fun hg hr => ?sram,
      fun h => hdone.trans (next_commit (sramDone_copied h)), fun h => hdone.trans (next_commit (sramDone_idle h)),
      fun hb hm => hfuse.trans (next_commit (fuseCommit_burns hb hm)), fun h => hfuse.trans (next_commit (fuseCommit_nothing h)),
      fun h1 h2 => hfuse.trans (next_commit (fuseCommit_refused h1 h2)), fun h => (hburn ok).trans (next_commit (fuseDone_idle h)),
      fun h => ⟨(hburn false).trans (next_commit (fuseDone_failed h)), (hburn true).trans (next_commit (fuseDone_burnt h))⟩,
      State.act_up s (fun d => raise 401 none core 0 (d.emit (.note 557 [core]))) hup⟩
    · exact fun hn => (hppr ok).trans (next_commit (pprEnds_unmapped h hn))
    · exact (hppr false).trans (next_commit (pprEnds_failed h hk))
    · exact (hppr true).trans (next_commit (pprEnds_repaired h hk))
    case sram =>
      have hx : exec (.sramRowRepair g row ue) s = .next (s.commit (sramRow g row ue d)) :=
        State.act_onlyIf hup (by simpa [hg] using hr) (sramRow g row ue)
      intro bad d0 again d1 soft
      exact ⟨fun hn => hx.trans (next_commit (sramRow_noted hn)), fun hn hs => hx.trans (next_commit (sramRow_full hn hs)),
        fun hn hs => hx.trans (next_commit (sramRow_spare hn hs))⟩

end Sys2Proof.Machine
end
